-- ==== Sys2Proof/Word.lean ====
section
/-!
DEFINITION. Sys2Proof/Word.lean: the widths, the time base, and the small data types the commands of the
SW-7160 carry (levels, errors, values, handles, frames, records). Data only: every rule that computes is in
Sys2Proof/Machine/.
-/

namespace Sys2Proof

/-! ## Widths and time base (R5, R6, R252) -/

/-- One octet on LINE, on the air or in the store. -/
abbrev Byte := BitVec 8

/-- The 64-bit identity of a unit, an endpoint or a peer (R3, R341). -/
abbrev Eui := BitVec 64

/-- An AES-128 key of KEEPER (R73, R346). -/
abbrev Key := BitVec 128

/-- The model's time base: 1/4,096,000,000 s, on whose grid CCLK, WCLK and the sleep clock all fall (R252).
DESIGN CHOICE: the grid; the frequencies are the manual's. -/
abbrev Ticks := Nat

/-- One CCLK cycle, 7.8125 ns (R252). -/
abbrev cclkTicks : Ticks := 32
/-- One WCLK cycle, 1/262,144 s (R252). -/
abbrev wclkTicks : Ticks := 15625
/-- One sleep tick, 1/32,768 s (R252, R438). -/
abbrev sleepTicks : Ticks := 125000
/-- `n` microseconds. -/
abbrev us (n : Nat) : Ticks := n * 4096
/-- `n` milliseconds. -/
abbrev ms (n : Nat) : Ticks := n * 4096000
/-- `n` seconds. -/
abbrev secs (n : Nat) : Ticks := n * 4096000000

/-! ## The line -/

/-- The variant fitted at the factory (R1, R2). -/
inductive Variant where
  | e | n
  deriving DecidableEq, Repr

/-- The privilege levels, in rising order (R70). -/
inductive Level where
  | observer | operator | custodian
  deriving DecidableEq, Repr

/-- The error replies, in the order of their numbers (R522). -/
inductive Err where
  | syntaxErr | verb | object | range | check | long | priv | auth | state | chain | busy | unreach | handle
  | duty | trip | fault | order | format | hash | sign | version
  deriving DecidableEq, Repr

/-- Which of a pair: branch A or B, chain A or B, aerial A or B (R128, R175). -/
inductive Side where
  | a | b
  deriving DecidableEq, Repr

/-- The two radio bands (R183, R184). -/
inductive Band where
  | sub | g24
  deriving DecidableEq, Repr

/-- A local time as the part writes it: normal service or counter mode (R12, R13). -/
inductive Stamp where
  | t (seconds nanos : Nat)
  | c (counter : Nat)
  deriving DecidableEq, Repr

/-- A roster handle, `index:epoch` (R351). -/
structure Handle where
  index : Nat
  epoch : Nat
  deriving DecidableEq, Repr

/-- A handle as a line gives it: either number may carry a minus sign (R52). -/
structure HandleArg where
  index : Int
  epoch : Int
  deriving DecidableEq, Repr

/-- The bits of a PHR beside its length (R242, R243): mode switch, a 16-bit FCS, whitened data. -/
structure PhrBits where
  modeSwitch : Bool
  fcs16      : Bool
  whiten     : Bool
  deriving DecidableEq, Repr

/-- How a line names its unit and whether it carried a checksum (R51, R54, R60): `none` is a line without `@`,
`some n` is `@n`. -/
structure Hdr where
  addr : Option Nat
  cc   : Bool
  deriving DecidableEq, Repr

/-- The value of a parameter (R453, R516). `int` is a `uint`, `int` or `bool`, or an `enum` as its position in the
card's range. `text` is the value of a text card, as it was written and without enclosing quotes; for another card it
is a token that cannot be read as the card's type. -/
inductive PVal where
  | int (i : Int)
  | text (chars : List Byte)
  deriving DecidableEq, Repr

/-- The value argument of SET: a value or the word `default` (R517). -/
inductive PArg where
  | val (v : PVal)
  | dflt
  deriving DecidableEq, Repr

/-- The counter blocks of TALLY (R503). -/
inductive Block where
  | matcher | wur | rfe | time | sched | cc | lanes | mon | pg | store | keeper | line | chz | pmu | tally
  deriving DecidableEq, Repr

/-- The ports of TALLY BW (R512). -/
inductive Port where
  | line | storeRd | storeWr | airTx | airRx (lane : Fin 16)
  deriving DecidableEq, Repr

/-- The flight kinds (R321). -/
inductive FlightKind where
  | data | exchange | push | probe
  deriving DecidableEq, Repr

/-- The kinds of calibration a command names (R192). -/
inductive CalKind where
  | all | osc | iq | filter | dc
  deriving DecidableEq, Repr

/-- The band argument of `DO radio.cal` (R192). -/
inductive BandSel where
  | sub | g24 | both
  deriving DecidableEq, Repr

/-- The source of an I/Q capture (R248). -/
inductive CapSrc where
  | chan (p : Int)
  | chain (c : Side)
  deriving DecidableEq, Repr

/-- The kinds of schedule cell (R272, R273). -/
inductive CellKind where
  | empty | lane | tx | round | conv | capt
  deriving DecidableEq, Repr

/-- The arguments of `DO sched.cell` (R276), in line form: a key left out reads 0. -/
structure CellArgs where
  frame  : Int
  slot   : Int
  offset : Int
  kind   : CellKind
  ch     : Int
  hop    : Int
  rate   : Int
  lane   : Int
  arg    : Int
  handle : Option HandleArg
  n      : Int
  deriving DecidableEq, Repr

/-- The kinds of resource of the fault model, in the order of their audit objects (R495, R521). -/
inductive ResKind where
  | chan | bb | branch | lane | chain | block | peer
  deriving DecidableEq, Repr

/-- A resource as a command names it (R495): for a peer the number is the handle's 16 bits. -/
structure ResId where
  kind : ResKind
  num  : Nat
  deriving DecidableEq, Repr

/-- A resource as a line names it (R495): a kind and a number, which may carry a minus sign (R52), or a peer's handle. -/
inductive ResArg where
  | num (kind : ResKind) (n : Int)
  | peer (h : HandleArg)
  deriving DecidableEq, Repr

/-- The argument of `DO roster.show`: a handle or an EUI (R352). -/
inductive RosterRef where
  | handle (h : HandleArg)
  | eui (e : Eui)
  deriving DecidableEq, Repr

/-! ## The air -/

/-- The MAC frame kinds (R340); 11 to 15 are reserved. -/
inductive FrameKind where
  | data | ack | beacon | start | call | reply | answer | flood | join | admission | probe | reserved (code : Nat)
  deriving DecidableEq, Repr

/-- A received frame as a lane hands it over: the secured-frame map of R341, or, for an ACK, the map of R342
(`ackCtr`, `channel`; its identity is that of the frame it acknowledges). The payload is as received, encrypted. -/
structure Frame where
  kind    : FrameKind
  micLen  : Fin 4
  ackReq  : Bool
  dir     : Bool
  sync    : BitVec 6
  anyAnchor : Bool
  id      : Eui
  ctr     : BitVec 32
  reason  : BitVec 3
  temp    : BitVec 8
  payload : List Byte
  mic     : BitVec 128
  ackCtr  : BitVec 32
  channel : BitVec 8
  deriving DecidableEq, Repr

/-- The reception fields a lane attaches (R241). Quality is in 0.25 dB steps. -/
structure RxInfo where
  lane     : Fin 16
  chain    : Side
  held     : Bool
  qualityA : Option Int
  qualityB : Option Int
  rssi     : Int
  channel  : Nat
  rate     : Nat
  gainStep : Nat
  gainFlag : Bool
  invalid  : Bool
  psduLen  : Nat
  deriving DecidableEq, Repr

/-- A beacon or start beacon (R344). -/
structure Beacon where
  isStart   : Bool
  sync      : BitVec 6
  sender    : Eui
  ctr       : BitVec 32
  slot      : Nat
  offset    : Nat
  rankPrio  : Nat
  rankEui   : Eui
  slotLen   : Nat
  planCheck : BitVec 32
  retired   : Option (Nat × Nat × Nat)
  mic       : BitVec 32
  deriving DecidableEq, Repr

/-- A flooded frame (R345): the hop header and the inner frame as it stands behind it. -/
structure Flood where
  hops      : Nat
  hopClass  : BitVec 3
  innerKind : FrameKind
  inner     : Frame
  deriving DecidableEq, Repr

/-- What a lane saw in one cell of an inventory sub-slot (R314). -/
inductive CellSeen where
  | empty
  | collided
  | single (f : Frame) (r : RxInfo)
  deriving DecidableEq, Repr

/-- Why an attempt of a flight ended without success (R325): no answer in time, or a trip, grant loss or cut. -/
inductive FailCause where
  | silence | abandoned
  deriving DecidableEq, Repr

/-- The causes of a wake from LOFT, LARDER or CELLAR (R423). -/
inductive WakeCause where
  | jomen | monitor | line | schedule | cellarPeriod | generator | confirm
  deriving DecidableEq, Repr

/-- The causes of a cold start (R528). -/
inductive ColdCause where
  | power | brownout | shelf | cold | bist
  deriving DecidableEq, Repr

/-- The causes of a warm start (R528). -/
inductive WarmCause where
  | watchdog | warm | activate | trial
  deriving DecidableEq, Repr

/-- What BIST finds at a cold start (R431): the lanes and chains that fail, and whether CC, KEEPER, an SRAM bin or the
store controller fails. -/
structure Bist where
  lanes  : List (Fin 16)
  chains : List Side
  fatal  : Bool
  deriving DecidableEq, Repr

/-- The items of a warm start's checks (R432, R528), in the row order of the table. -/
inductive Item where
  | keep | map | ptr | masks | wakeq | seen | roster | flights | sched | rxbuf | cache | events | cal
  deriving DecidableEq, Repr

end Sys2Proof
end

