-- ==== Sys2Proof/Syntax.lean ====
section
/-!
DEFINITION. Sys2Proof/Syntax.lean: the commands the SW-7160 takes, one constructor for each row of the table of
operations and events. A constructor's fields are the operands of the line, or the physical facts that an event
brings with it (a reading, a received frame, a level). Numbers of a line are `Int`: R52 lets a decimal number carry a
minus sign, and a value that cannot be negative then fails with `!RANGE`.
-/

namespace Sys2Proof

/-- The commands (the rows of the operation and event table). -/
inductive Instr where
  -- parameters
  | get (h : Hdr) (obj : Nat)
  | set (h : Hdr) (obj : Nat) (arg : PArg)
  | showPart (h : Hdr)
  | showPrefix (h : Hdr) (pre : String)
  -- sessions
  | authChallenge (h : Hdr) (level : Level)
  | authResponse (h : Hdr) (level : Level) (resp : BitVec 64)
  | authKey (h : Hdr) (level : Level) (wrapped : BitVec 192)
  | logout (h : Hdr)
  -- enumeration and polling
  | enumStart (h : Hdr)
  | enumNext (h : Hdr) (n : Int) (chainIn : Bool)
  | enumClaim (h : Hdr) (eui : Eui) (n : Int)
  | roll (h : Hdr)
  | rollSlotAnswer
  -- reports
  | why (h : Hdr)
  | whyPath (h : Hdr) (obj : Nat)
  | events (h : Hdr) (max : Option Int)
  | eventPush
  | wakeList (h : Hdr) (max : Option Int)
  | wakeAck (h : Hdr) (seq : Int)
  | wakeBranch (h : Hdr)
  | wakeSeen (h : Hdr) (r : Option Int)
  | seenReadAbandoned
  | send (h : Hdr) (handle : HandleArg) (kind : FlightKind) (p dl r call : Option Int) (data : List Byte)
  | logInfo (h : Hdr)
  | logRead (h : Hdr) (seq : Int) (count kind : Option Int)
  | logAudit (h : Hdr) (seq : Int) (count : Option Int)
  | logMark (h : Hdr) (seq : Int)
  -- tally
  | tallyRead (h : Hdr) (pre : Option String)
  | tallyReadSnap (h : Hdr) (pre : Option String)
  | tallyOcc (h : Hdr)
  | tallyBw (h : Hdr) (port : Option Port)
  | tallySnap (h : Hdr)
  | tallyFreeze (h : Hdr)
  | tallyThaw (h : Hdr)
  | tallyFreezeExpiry
  | tallyClear (h : Hdr) (block : Option Block)
  | bandwidthWindowEnd
  -- images
  | imageBeginSelf (h : Hdr) (len : Int)
  | imageBeginLib (h : Hdr) (slot len : Int)
  | imageData (h : Hdr) (offset : Int) (data : List Byte)
  | imageStatus (h : Hdr) (lib : Option Int)
  | imageVerify (h : Hdr) (lib : Option Int)
  | imageVerifyDone
  | imageActivate (h : Hdr)
  | imageConfirm (h : Hdr)
  | imageAbort (h : Hdr)
  | imageDropLib (h : Hdr) (slot : Int)
  | imageList (h : Hdr)
  | imagePush (h : Hdr) (slot : Int) (handle : HandleArg) (p dl : Option Int)
  | imageStall
  | confirmTimerExpiry
  -- resets
  | resetWarm (h : Hdr)
  | resetCold (h : Hdr)
  -- DO actions
  | doJomenArm (h : Hdr) (code : Int) (mask : Option Int)
  | doJomenReason (h : Hdr) (r on : Int)
  | maskChangeEffect
  | doJomenBurst (h : Hdr) (code reason : Int) (sync rep : Option Int)
  | doRadioCal (h : Hdr) (kind : Option CalKind) (band : Option BandSel)
  | doRxCapture (h : Hdr) (src : CapSrc) (at_ count : Option Int) (rate : Option Int)
  | captureEnd (words : List (BitVec 32))
  | doRxCaptureDrop (h : Hdr)
  | captureHoldExpiry
  | doRxCaptureRead (h : Hdr) (offset count : Option Int)
  | doTimeNow (h : Hdr)
  | doTimeSet (h : Hdr) (seconds nanos : Int)
  | doTimeCounter (h : Hdr)
  | doSchedFrame (h : Hdr) (f length : Int)
  | doSchedCell (h : Hdr) (i : Int) (args : CellArgs)
  | doSchedDrop (h : Hdr) (i : Int)
  | doSchedList (h : Hdr) (f : Option Int)
  | doRoundStart (h : Hdr) (code : Int) (r : Option Int)
  | doRoundStop (h : Hdr)
  | doFlightList (h : Hdr)
  | doFlightCancel (h : Hdr) (id : Int)
  | doRosterShow (h : Hdr) (ref : RosterRef)
  | doRosterPin (h : Hdr) (handle : HandleArg) (on : Int)
  | doRosterDrop (h : Hdr) (handle : HandleArg)
  | doRosterGroups (h : Hdr) (handle : HandleArg) (groups : List Int)
  | doRosterPeer (h : Hdr) (index : Int) (eui : Eui)
  | doRosterForget (h : Hdr) (eui : Eui)
  | doKeeperNetkey (h : Hdr) (wrapped : BitVec 192)
  | doKeeperLibkey (h : Hdr) (key : BitVec 512)
  | doWmRead (h : Hdr) (n : Int)
  | doWmConv (h : Hdr) (n : Int) (code : BitVec 10)
  | doWmClear (h : Hdr) (n : Int)
  | doVaux (h : Hdr) (on : Bool)
  | vauxRampEnd
  | doPmSleep (h : Hdr) (cellar : Bool)
  | doPmShelf (h : Hdr)
  | doPmResidency (h : Hdr)
  | doFaultList (h : Hdr) (kind : Option ResKind)
  | doFaultRetire (h : Hdr) (r : ResArg)
  | doFaultReinstate (h : Hdr) (r : ResArg) (testPassed : Bool)
  -- the wire
  | lineCollision
  | partialLineTimeout
  | shortBreak (low : Ticks)
  | attention (low : Ticks)
  | longBreak (low : Ticks)
  | stuckLine
  | stuckLineCheck (high : Bool)
  | lineRateTrialExpiry
  | sessionIdleTimeout
  | challengeExpiry
  | authLockoutEnd
  | lineReceiverOpen
  -- the wake receiver
  | codeWordComplete (br : Side) (readings : List (List Int)) (rssi : Int)
  | syncSearchTimeout (br : Side)
  | discrepancyWindowClose
  | branchSettleComplete (br : Side)
  | blankingStart
  | blankingEnd
  | directSuspend (br : Side)
  | directResume (br : Side)
  | directSniff (br : Side) (level : Int)
  | sniffHoldTimeout (br : Side)
  | branchConfigChange
  | sweepStart
  -- bursts
  | burstStart
  | burstEnd
  | scheduledBurstDue
  | airtimeEntryExpiry
  -- the radio
  | radioTransitionDone (temp : Int)
  | txEndOfFrame
  | dieTemperatureReading (temp : Int)
  | gapCalibration (band : Band) (gap : Ticks)
  | calibrationDeadline
  | calibrationComplete (temp : Int) (outOfLimits : List Side)
  | idleSynthOff
  | paLoopCorrection (forward : Int)
  | aerialRestEnd (aerial : Side)
  | coexRequest
  | coexGrantSample (gnt : Bool)
  | coexGrantRise
  | coexGrantLoss
  | coexStarvation
  -- slots and reception
  | slotBoundary
  | cellStart (i : Nat) (conv : BitVec 10)
  | agcWindowEnd (chain : Side) (peak : Int)
  | forcedAgcStep (chain : Side)
  | laneRetune (lane : Fin 16) (chan rate : Nat)
  | frameReceived (f : Frame) (r : RxInfo) (fcsOk : Bool)
  | joinReceived (f : Frame) (r : RxInfo)
  | spillWriteComplete
  | ackReceived (f : Frame) (r : RxInfo) (delay : Ticks)
  | beaconReceived (b : Beacon) (r : RxInfo)
  | floodReceived (f : Flood) (r : RxInfo)
  | floodRebroadcast (lane : Fin 16)
  | seenCacheAgeOut
  | ackSend (lane : Fin 16)
  -- rounds
  | roundOpen
  | subSlotStart
  | replyWindowEnd (cells : List CellSeen)
  | roundEnd
  | roundPause
  -- flights
  | flightAttempt (id : Nat) (cell : Option Nat)
  | attemptFail (id : Nat) (cause : FailCause)
  | calledListenTimeout (id : Nat)
  | answerReceived (f : Frame) (r : RxInfo)
  | lastChanceBurst (index : Nat)
  | lastChanceFlood (index : Nat)
  | reacquireTimeout
  -- the network
  | networkWaitEnd
  | startRoundSlot
  | becomeRoot
  | sleepClockMeasure (ppmQ : Int)
  | sleepClockTempRead (temp : Int)
  | timeSave
  -- monitors, generators, VAUX
  | monitorSample (n : Fin 8) (code : BitVec 10)
  | comparatorCrossing (n : Fin 8) (active : Bool)
  | latchPeriodClear (n : Fin 8)
  | pgTrip (n : Fin 4)
  | earlyWarning
  | emergencyFlushEnd
  | vauxTrip
  | vauxRetry
  -- power
  | idleToLoft
  | loftToLarder
  | cellarEntry
  | wakeEventExit (cause : WakeCause)
  | exitComplete (failed : List Item)
  | scheduleTimerWake
  | cellarPeriodWake
  | powerOnStart (cause : ColdCause) (test : Bool) (bist : Bist) (temp : Int)
  | brownOut
  | shelfWake
  | shelfDetectorArm
  | watchdog
  | warmStart (failed : List Item) (temp : Int) (selfTestOk : Bool)
  | sleepCrystalGood
  | bistRetry (bist : Bist) (temp : Int)
  -- the store
  | codewordDue
  | storeOperationDone (ok : Bool)
  | programFailure (erase : Bool) (block : Nat)
  | peckRefresh (corrected : Nat) (block : Nat)
  | ledgerRingAdvance
  | pushBlock (cell : Nat)
  | pushDirectoryCompaction
  -- faults
  | restPeriodEnd (r : ResId)
  | restWindowExpiry (r : ResId)
  | channelJudgingWindow (r : ResId) (preambles bad : Nat)
  | peerRetireHourly
  | branchAlignment (br : Side) (chips : List (Ticks × List Int)) (onLevel offLevel : Int)
  | preambleDeclared (lane : Fin 16) (first : Side) (qa qb rssiA rssiB : Int)
  | sfdFound (lane : Fin 16) (sfd : Nat) (phr : PhrBits) (length : Nat)
  | laneEngineFault (lane : Fin 16)
  | characterEcho (c : Byte)
  | lineError (chars : List Byte) (malformed : Bool)
  | backgroundReload
  deriving DecidableEq, Repr

end Sys2Proof
end

