-- ==== Sys2Proof/Decode.lean ====
section
/-!
DEFINITION. Sys2Proof/Decode.lean: the command a word of the table spells. No row of the table of operations and events
gives its command any bits (every row's fields are empty), so no word spells a command.
-/

namespace Sys2Proof

/-- The command that `nbits` bits `w` spell by the table: none, since no row has bits. -/
def decodeTableWord (nbits w : Nat) : Option Instr :=
  match nbits, w with
  | _, _ => none

end Sys2Proof
end

