-- ==== Sys2Proof/Machine/Flags.lean ====
section
/-!
DEFINITION. Sys2Proof/Machine/Flags.lean: the checks and codes the manual computes: the line checksum (R53), the numbers of a line (R52), CRC-32C,
the BCH(31,16) code word (R99 to R101), the network sync words and their correlator (R95, R96).
-/

namespace Sys2Proof.Machine

/-! ## Checksums -/

/-- One bit of the CRC-8 of R53: polynomial 0x07, no reflection. -/
def crc8Bit (c : Nat) : Nat := if c.testBit 7 then ((c * 2) ^^^ 0x07) % 256 else (c * 2) % 256

/-- CRC-8 of a run of characters: initial value 0x00, no final XOR (R53). -/
def crc8 (bytes : List Byte) : Nat :=
  bytes.foldl (fun c b => (crc8Bit ∘ crc8Bit ∘ crc8Bit ∘ crc8Bit ∘ crc8Bit ∘ crc8Bit ∘ crc8Bit ∘ crc8Bit)
    (c ^^^ b.toNat)) 0

/-- One bit of CRC-32C (PRESUMED: the manual names it and gives no polynomial; log 9). -/
def crc32Bit (c : Nat) : Nat := if c.testBit 0 then (c / 2) ^^^ 0x82F63B78 else c / 2

/-- CRC-32C of a run of octets (R344, R448, R452, R471; log 9). -/
def crc32c (bytes : List Byte) : BitVec 32 :=
  BitVec.ofNat 32 (bytes.foldl (fun c b =>
    (crc32Bit ∘ crc32Bit ∘ crc32Bit ∘ crc32Bit ∘ crc32Bit ∘ crc32Bit ∘ crc32Bit ∘ crc32Bit) (c ^^^ b.toNat))
    0xFFFFFFFF ^^^ 0xFFFFFFFF)

/-- `n` octets of a number, least significant first (R7, R448). -/
def leBytes : Nat → Nat → List Byte
  | 0, _ => []
  | n + 1, v => BitVec.ofNat 8 (v % 256) :: leBytes n (v / 256)

/-- `n` octets of a number, most significant first (R347). -/
def beBytes (n v : Nat) : List Byte := (leBytes n v).reverse

/-! ## Numbers of a line (R52) -/

/-- The value of a hexadecimal digit of either case (R52). -/
def hexVal (c : Byte) : Option Nat :=
  let n := c.toNat
  if 48 ≤ n && n ≤ 57 then some (n - 48)
  else if 65 ≤ n && n ≤ 70 then some (n - 55)
  else if 97 ≤ n && n ≤ 102 then some (n - 87)
  else none

/-- A run of digits in a base, at least one (R52). -/
def digits (base : Nat) (l : List Byte) : Option Nat :=
  if l.isEmpty then none
  else l.foldl (fun acc c =>
    match acc, hexVal c with
    | some v, some d => if d < base then some (v * base + d) else none
    | _, _ => none) (some 0)

/-- An unsigned number: decimal digits, or 0x and hexadecimal digits (R52). -/
def number (l : List Byte) : Option Nat :=
  match l with
  | 0x30 :: 0x78 :: rest => digits 16 rest
  | _ => digits 10 l

/-- A hexadecimal digit as the part writes it (R52). -/
def hexByte (n : Nat) : Byte := BitVec.ofNat 8 (if n < 10 then 48 + n else 55 + n)

/-- A number in hexadecimal digits, as many of the `n` places as it needs, at least one (R52). -/
def hexBytes (n v : Nat) : List Byte :=
  let d := (List.range n).reverse.map (fun k => hexByte (v / 16 ^ k % 16))
  let l := d.dropWhile (· == 0x30)
  if l.isEmpty then [0x30] else l

/-- Cut a text at its commas. -/
def commaFrom : List Byte → List Byte → List (List Byte)
  | acc, [] => [acc.reverse]
  | acc, c :: cs => if c = 0x2C then acc.reverse :: commaFrom [] cs else commaFrom (c :: acc) cs

/-! ## The BCH(31,16) code (R99 to R101) -/

/-- x^k mod g(x) for k from 15 to 30: the table of R100. -/
def bchRows : List Nat :=
  [0x0FAF, 0x1F5E, 0x3EBC, 0x7D78, 0x755F, 0x6511, 0x458D, 0x04B5, 0x096A, 0x12D4, 0x25A8, 0x4B50, 0x190F, 0x321E,
   0x643C, 0x47D7]

/-- x^k mod g(x) for every k from 0 to 30. -/
def bchSyn : List Nat := (List.range 15).map (2 ^ ·) ++ bchRows

/-- The parity of a message: the exclusive-or of the rows of its set bits (R100). -/
def bchParity (m : Nat) : Nat :=
  (List.range 16).foldl (fun p i => if m.testBit i then p ^^^ bchRows.getD i 0 else p) 0

/-- The code word of a message: c(x) = m(x) x^15 + p(x) (R100). Bit k is the coefficient of x^k. -/
def bchWord (m : Nat) : Nat := (m % 65536) * 32768 + bchParity m

/-- The message of a code and a reason class (R99). -/
def jomenMsg (code reason : Nat) : Nat := (reason % 8) * 8192 + code % 8192

/-- The remainder of a received word mod g(x). -/
def bchRemainder (w : Nat) : Nat :=
  (List.range 31).foldl (fun p k => if w.testBit k then p ^^^ bchSyn.getD k 0 else p) 0

/-- The place of a single error with syndrome `s` at or above place `k`, or none. -/
def bchOne (s : Nat) : Nat → List Nat → Option Nat
  | _, [] => none
  | k, x :: xs => if x = s then some (2 ^ k) else bchOne s (k + 1) xs

/-- A pattern of two errors with syndrome `s`. -/
def bchTwo (s : Nat) : Nat → List Nat → Option Nat
  | _, [] => none
  | k, x :: xs =>
    match bchOne (s ^^^ x) (k + 1) xs with
    | some e => some (2 ^ k + e)
    | none => bchTwo s (k + 1) xs

/-- A pattern of three errors with syndrome `s`. -/
def bchThree (s : Nat) : Nat → List Nat → Option Nat
  | _, [] => none
  | k, x :: xs =>
    match bchTwo (s ^^^ x) (k + 1) xs with
    | some e => some (2 ^ k + e)
    | none => bchThree s (k + 1) xs

/-- The error pattern of at most `t` chips that takes a received word to a code word, with its weight (R101). -/
def bchErrors (w t : Nat) : Option (Nat × Nat) :=
  let s := bchRemainder w
  if s = 0 then some (0, 0)
  else if t = 0 then none
  else match bchOne s 0 bchSyn with
    | some e => some (e, 1)
    | none =>
      if t = 1 then none
      else match bchTwo s 0 bchSyn with
        | some e => some (e, 2)
        | none => if t = 2 then none else (bchThree s 0 bchSyn).map (fun e => (e, 3))

/-- A decoded code word: the code, the reason class, the chips corrected and the corrected word. -/
structure Decoded where
  code   : Nat
  reason : Nat
  errors : Nat
  word   : Nat
  deriving DecidableEq, Repr

/-- Decode a received word with correction limit `t` (R99 to R101): none when it is further than `t` from every code
word. -/
def bchDecode (w t : Nat) : Option Decoded :=
  (bchErrors w t).map (fun (e, n) =>
    let c := w ^^^ e
    { code := (c / 32768) % 8192, reason := c / 32768 / 8192, errors := n, word := c })

/-- The number of chips in which two words differ. -/
def chipDiff (n a b : Nat) : Nat := (List.range n).foldl (fun d k => if (a ^^^ b).testBit k then d + 1 else d) 0

/-! ## Sync words and chips (R92, R95, R96) -/

/-- Network sync word n (R95). -/
def syncWord (n : Nat) : Nat :=
  let s0 := if n.testBit 5 then 0x112D else 0x111E
  let s1 := if n.testBit 4 then s0 ^^^ 0xFFFF else s0
  let s2 := if n.testBit 3 then s1 ^^^ 0x00FF else s1
  let s3 := if n.testBit 2 then s2 ^^^ 0x0F0F else s2
  let s4 := if n.testBit 1 then s3 ^^^ 0x3333 else s3
  if n.testBit 0 then s4 ^^^ 0x5555 else s4

/-- The number that a run of chips spells, the first chip most significant (R92). -/
def chipsToNat (chips : List Bool) : Nat := chips.foldl (fun v c => 2 * v + (if c then 1 else 0)) 0

/-- The chips of a number, most significant first. -/
def natToChips : Nat → Nat → List Bool
  | 0, _ => []
  | n + 1, v => v.testBit n :: natToChips n v

/-- The differing chips of the 16 chips that end at place `p` (the window of places p - 15 to p), if they are all
there. DESIGN CHOICE (log 123): the correlator runs from the chip after alignment (R140), so that its window holds no chip
decided before; R96 does not say whether it reaches back. -/
def syncDiff (chips : List Bool) (word p : Nat) : Option Nat :=
  if p + 1 < 16 || chips.length < p + 1 then none
  else some (chipDiff 16 (chipsToNat ((chips.drop (p + 1 - 16)).take 16)) word)

/-- The first matching place among the first `n` places from `p` on. -/
def syncFirst (chips : List Bool) (word tol : Nat) : Nat → Nat → Option Nat
  | 0, _ => none
  | n + 1, p =>
    match syncDiff chips word p with
    | some d => if d ≤ tol then some p else syncFirst chips word tol n (p + 1)
    | none => syncFirst chips word tol n (p + 1)

/-- The place R96 chooses: the first that matches, or one of the next two with fewer differing chips, the earliest on a
tie; with its number of differing chips. The chips run from the chip after alignment (R140), and the first match lies
within 40 chips. -/
def syncChoose (chips : List Bool) (word tol : Nat) : Option (Nat × Nat) :=
  match syncFirst chips word tol 40 0 with
  | none => none
  | some p =>
    let d (k : Nat) : Nat := (syncDiff chips word (p + k)).getD 17
    if d 1 < d 0 then (if d 2 < d 1 then some (p + 2, d 2) else some (p + 1, d 1))
    else if d 2 < d 0 then some (p + 2, d 2) else some (p, d 0)

/-- The 31 chips of the code word that follow the chosen place, if all have been received (R96). -/
def codeWordOf (chips : List Bool) (word tol : Nat) : Option (Nat × Nat) :=
  match syncChoose chips word tol with
  | none => none
  | some (p, d) =>
    let w := (chips.drop (p + 1)).take 31
    if w.length = 31 then some (chipsToNat w, d) else none

/-- The 63 chips of a Jomen frame (R92). -/
def jomenFrame (sync code reason : Nat) : List Bool :=
  natToChips 16 0xAAAA ++ natToChips 16 (syncWord sync) ++ natToChips 31 (bchWord (jomenMsg code reason))

end Sys2Proof.Machine
end

