-- ==== Sys2Proof/Config.lean ====
section
/-!
DEFINITION. Sys2Proof/Config.lean: what the manual names and does not give: KEEPER's cryptographic functions (log 5),
KEEPER's random values and the other free values (log 6), and the factory's models. None has a body: nothing can be
proved of a value of theirs.
-/

namespace Sys2Proof.Config

/-! ## KEEPER's functions (log 5) -/

/-- AES-CMAC under a key (R71, R346). -/
opaque cmac : Key → List Byte → BitVec 128

/-- The AES key unwrap of RFC 3394 under a key: none when its integrity check fails (R73). -/
opaque unwrap : Key → BitVec 192 → Option Key

/-- SHA-256 (R73, R453, R466). -/
opaque sha256 : List Byte → BitVec 256

/-- The MIC of AES-128 CCM* over nonce, authenticated data and plaintext, for a MIC of the given length in bytes,
left-aligned in 128 bits (R347). -/
opaque ccmMic : Key → List Byte → List Byte → List Byte → Nat → BitVec 128

/-- The octet at a position of the key stream of AES-128 CCM* under a key and a nonce: CCM* encrypts in counter mode, so
that an encrypted payload is as long as the plain one (R347; PRESUMED from AES-CCM*, log 5). -/
opaque ccmStream : Key → List Byte → Nat → Byte

/-- ECDSA P-256 verification of a signature over a digest, under a public key (R465, R466). -/
opaque ecdsa : BitVec 512 → BitVec 256 → BitVec 512 → Bool

/-- The vendor's verification key in the factory area (R465). -/
opaque vendorKey : BitVec 512

/-! ## Free values (log 6): the argument is `State.fresh` at the draw -/

/-- The 16 random bytes of a challenge (R71). -/
opaque freeChallenge : Nat → BitVec 128

/-- A number KEEPER draws from 0 to `bound` (R289, R325, R369); only its remainder modulo `bound + 1` is used. -/
opaque freeDraw : Nat → Nat

/-- The hash of an argument text, whose spelling a command of this model does not keep (R453, R520). -/
opaque freeHash : Nat → BitVec 64

/-- A level reading of a wake branch while no frame is aligned, in dBm: the noise on its aerial (R131). -/
opaque freeLevel : Nat → Int

/-- The number of characters a line and its reply had on LINE (R512). -/
opaque freeChars : Nat → Nat

/-- What the part waits beside the characters it sends: before a reply's first character and between its lines (R63, R64);
only its remainder within the bounds of those rules is used. -/
opaque freeWait : Nat → Nat

/-- The DC offset that a calibration stored for a chain, a band and a gain step (R194): the first argument names the
calibration. -/
opaque dcOffset : Nat → Side → Band → Nat → Int

/-- The DC offset stored for the wake channel (R195). -/
opaque dcWake : Nat → Side → Int

/-- The offset that is left where a stored value is applied (R194), in 2^-40 of full scale; only what lies within the bound of
that rule is used. -/
opaque dcLeft : Nat → Int

/-- The mean power that a lane's samples of a chain have at a moment, in dBm (R240): the lane by its number. -/
opaque airLevel : Nat → Nat → Side → Int

/-! ## Factory data (log 7) -/

/-- The drive calibrated for a target power in 0.25 dBm, per band and group, in 0.25 dB (R196). -/
opaque calDrive : Band → Nat → Int → Int

/-- The rate correction of the XO's cubic model at a die temperature in 0.25 C, in 2^-32 (R253). -/
opaque xoModel : Int → Int

/-- The rate correction of the sleep clock's parabolic model at a die temperature in 0.25 C, in 2^-32 (R254). -/
opaque sleepModel : Int → Int

/-- The receive delay of the analogue path of a chain on a band, by its filter setting (0 wide, 1 mid, 2 narrow), in the
model's ticks, measured at the factory (R267; typically 0.21, 0.38 and 0.71 µs on sub-GHz, 0.09 µs on 2.4 GHz). -/
opaque rxDelay : Side → Band → Nat → Nat

/-- The transmit delay of an aerial on a band, measured at the factory (R267; typically 1.35 and 0.62 µs). -/
opaque txDelay : Side → Band → Nat

/-- The spare blocks of a fresh die (R440 gives none). -/
opaque spareBlocks : Nat

/-- The number of the first pass of the audit ring, which R454 does not give (log 14). -/
opaque firstPass : Nat

end Sys2Proof.Config
end

