-- ==== Sys2Proof/Machine/Records.lean ====
section
/-!
DEFINITION. Sys2Proof/Machine/Records.lean: the records the SW-7160 makes and sends: wake records (R158), ledger
records (R448 to R451), audit records (R452), event lines (R527) and the reply lines of LINE. Data only.
-/

namespace Sys2Proof.Machine

/-- The detector of a wake record (R158). -/
inductive WakeDet where
  | envelope | superregen | direct | tap
  deriving DecidableEq, Repr

/-- A wake record (R158) with the working fields the matcher keeps while it is open: `window` is the value of
`wur.disc.window` at T1, `t1` and `lastMatch` are completion ticks counted in WCLK edges, `word` is the corrected
code word, `closeAt` the WCLK edge of R149, `frameLen` is F of R150. -/
structure WakeRec where
  seq      : BitVec 16
  code     : Nat
  reason   : Nat
  aNamed   : Bool
  bNamed   : Bool
  first    : Side
  agreed   : Bool
  isOpen   : Bool
  det      : WakeDet
  errors   : Nat
  syncErr  : Nat
  skew     : Nat
  repeats  : Nat
  rssiA    : Int
  rssiB    : Int
  syncIdx  : Nat
  stamp    : Stamp
  t1       : Nat
  window   : Nat
  lastMatch : Nat
  closeAt  : Nat
  frameLen : Nat
  word     : BitVec 31
  deriving DecidableEq, Repr

/-- Flight outcomes, in the order of R451. -/
inductive Outcome where
  | done | tries | deadline | unreach | cancel | flood | unknown
  deriving DecidableEq, Repr

/-- Results of a last-chance attempt (R335, R451): 0 not run, 1 no answer, 2 no acknowledgement, 3 success. -/
inductive LcResult where
  | noAnswer | noAck | ok
  deriving DecidableEq, Repr

/-- The network states (R288, codes of R411). -/
inductive NetState where
  | unsynced | candidate | member | holdover | root
  deriving DecidableEq, Repr

/-- The kinds of line fault (R490). -/
inductive LineFaultKind where
  | stuck | chainin | mark
  deriving DecidableEq, Repr

/-- How a burst requested by DO ended (R122). -/
inductive BurstEnd where
  | sent | cut | dropped
  deriving DecidableEq, Repr

/-- What `~IMAGE` reports (R470, R474). -/
inductive ImageEvent where
  | verified | failed (e : Err) | reverted
  deriving DecidableEq, Repr

/-- The image a result is about: the self-image or a library slot. -/
inductive ImageRef where
  | self | lib (s : Nat)
  deriving DecidableEq, Repr

/-- The cause of a start (R528). -/
inductive StartCause where
  | cold (c : ColdCause) | warm (c : WarmCause)
  deriving DecidableEq, Repr

/-- The event lines (R527), each with its fields. -/
inductive Ev where
  | admitted (h : Handle) (id : Eui)
  | bufHigh
  | bufOk
  | burst (code reason : Nat) (how : BurstEnd)
  | capture (at_ : Stamp) (words : Nat)
  | chanBad (ch : Nat)
  | coexStarve
  | coexUp
  | faultFloor (r : ResId)
  | flight (id : Nat) (o : Outcome)
  | fold (r : Nat)
  | image (e : ImageEvent) (what : ImageRef)
  | imageStall (next : Nat)
  | lastChance (id attempt : Nat) (r : LcResult)
  | ledgerLoss (n : Nat)
  | lineFault (k : LineFaultKind)
  | lineUp (seconds : Nat)
  | netState (st : NetState)
  | noCode (h : Handle)
  | peerLost (h : Handle)
  | peerUp (h : Handle)
  | rate (bps : Nat)
  | reach (h : Handle)
  | reinstate (r : ResId)
  | rest (r : ResId) (seconds : Nat)
  | retire (r : ResId) (cause : Nat)
  | rosterFull
  | rosterOk
  | round (id code reason slots recorded repeats drops : Nat)
  | spillFull
  | start (cause : StartCause) (items : List Item)
  | storeLow (pecks : Nat)
  | sweep (r n : Nat)
  | timeMode (counter : Bool)
  | timeStep (ns : Int)
  | unreach (h : Handle)
  | vauxOff
  | vauxTrip (code : Nat)
  | wm (n : Nat) (act : Bool) (code : Nat)
  deriving DecidableEq, Repr

/-- A queued event line: its time and its fields (R65). -/
structure EvLine where
  time : Stamp
  ev   : Ev
  deriving DecidableEq, Repr

/-- The body of a SIGHTING record (R450). -/
structure Sighting where
  id         : Eui
  handle     : Option Handle
  ctr        : BitVec 32
  kind       : FrameKind
  reason     : Nat
  temp       : BitVec 8
  rx         : RxInfo
  unattached : Bool
  flooded    : Bool
  round      : Option Nat
  payload    : List Byte
  deriving DecidableEq, Repr

/-- What a PROBE flight records of the frame that answered it: the RSSI and the quality of both chains (R321, R451). -/
structure Probe where
  rssiA    : Int
  rssiB    : Int
  qualityA : Option Int
  qualityB : Option Int
  deriving DecidableEq, Repr

/-- The bodies of ledger records by kind (R449 to R451, R483); FILLER and CONTINUATION are made where records are
laid out. -/
inductive LBody where
  | sighting (b : Sighting)
  | continuation (bytes : List Byte)
  | wake (r : WakeRec)
  | fold (counter seconds nanos : Nat) (rate : Int)
  | round (id : Nat) (sweep : Bool) (reason code slots recorded repeats drops singles collided empties paused opened : Nat)
  | flight (id : Nat) (h : Handle) (eid : Eui) (kind : FlightKind) (prio : Nat) (called : Bool) (o : Outcome)
      (attempts : Nat) (lc : List LcResult) (deadline reason : Nat) (probe : Option Probe)
  | monitor (n input code : Nat) (event trip discard conv : Bool)
  | event (e : EvLine)
  | push (id : Eui) (h : Handle) (flight lib event : Nat) (digest : BitVec 64) (pecks peck block bitmap : Nat)
      (headerGood : Bool) (o : Option Outcome) (blocks : Nat)
  | flush (records : Nat)
  deriving DecidableEq, Repr

/-- A ledger record: sequence, the instant it carries, the continued bit and its body (R448); `lost` once its codeword in
the flash is uncorrectable (R445). -/
structure LRec where
  seq       : Nat
  time      : Stamp
  continued : Bool
  body      : LBody
  lost      : Bool := false
  deriving DecidableEq, Repr

/-- The SELF rule names (R529). -/
inductive SelfRule where
  | lineRateRevert | timeFoldJoin | timeFoldRoot | timeKeepLost | timeCold | netState | auditWrap
  | faultChan | faultBb | faultBranch | faultLane | faultChain | faultBlock | faultPeer
  deriving DecidableEq, Repr

/-- The origin of an audited change (R90). -/
inductive Origin where
  | line (level : Level) (addr : Nat) (broadcast : Bool)
  | air (id : Eui) (h : Handle)
  | self (rule : SelfRule)
  deriving DecidableEq, Repr

/-- An old or new value of an audit record: a signed number, or a hash of a longer value (R453). -/
inductive AVal where
  | num (i : Int)
  | hash (h : BitVec 64)
  deriving DecidableEq, Repr

/-- An audit record (R452); `lost` once its codeword in the flash is uncorrectable (R445). -/
structure ARec where
  seq    : Nat
  origin : Origin
  action : Nat
  time   : Stamp
  object : Nat
  result : Nat
  old    : AVal
  new    : AVal
  lost   : Bool := false
  deriving DecidableEq, Repr

/-- A record in the write cache, in order of arrival (R455), with the time it entered. -/
inductive CRec where
  | ledger (r : LRec) (at_ : Ticks)
  | audit (r : ARec) (at_ : Ticks)
  deriving DecidableEq, Repr

/-- The verbs of LINE (R76). -/
inductive Verb where
  | get | set | show | do_ | auth | logout | enum | roll | why | events | wake | send | log | tally | image | reset
  | unknown
  deriving DecidableEq, Repr

/-- The last error WHY reports (R525). `obj` is the object number of R519 or none. -/
structure LastErr where
  err  : Err
  verb : Verb
  obj  : Option Nat
  tok  : Nat
  time : Stamp
  deriving DecidableEq, Repr

/-- The states of a wake branch (R155). -/
inductive BranchSt where
  | off | settling | listen | blanked | suspended | retired
  deriving DecidableEq, Repr

/-- The five power states (R409). -/
inductive Power where
  | active | loft | larder | cellar | shelf
  deriving DecidableEq, Repr

/-- The states of a flight (R320, R326). -/
inductive FlightSt where
  | waiting | ready | air | backoff | lastchance
  deriving DecidableEq, Repr

/-- The stages of an image (R476). -/
inductive Stage where
  | idle | download | verifying | verified | trial
  deriving DecidableEq, Repr

/-- One line the part puts on LINE. Each constructor is one reply form of the manual; the text it stands for is named
in its docstring, and its checksum token follows R54. -/
inductive OutLine where
  /-- `=v` or `=v next=w` (R516). -/
  | value (obj : Nat) (v : PVal) (next : Option PVal)
  /-- `=path v [next=w]` of SHOW (R76, R515). -/
  | pathValue (obj : Nat) (v : PVal) (next : Option PVal)
  /-- The nine fields of SHOW PART (R77). -/
  | part (v : Variant) (eui : Eui) (fw : Nat × Nat × Nat) (addr : Nat) (chainFault solo generated : Bool) (l : Level)
  /-- `=n`. -/
  | num (n : Int)
  /-- `=0x` and two hexadecimal digits: the mask of `DO jomen.arm` (R115, log 21). -/
  | mask (m : Nat)
  /-- `=` alone. -/
  | bare
  /-- `=.`. -/
  | dot
  /-- `=. next` (R462). -/
  | dotNext (n : Nat)
  /-- `!ERROR` (R62, R522). -/
  | err (e : Err)
  /-- `=CHAL …` (R71). -/
  | chal (c : BitVec 128)
  /-- `=OBSERVER`, `=OPERATOR`, `=CUSTODIAN`. -/
  | level (l : Level)
  /-- `=KEY level`. -/
  | key (l : Level)
  /-- `=ENUM n eui` (R80). -/
  | enumAns (n : Nat) (eui : Eui)
  /-- `!CHAIN n eui` (R82). -/
  | chainAns (n : Nat) (eui : Eui)
  /-- The one character of ROLL: `W` or `E` (R84). -/
  | rollChar (w : Bool)
  /-- `=Y err=… verb=… obj=… tok=… t=…`, or `=Y err=none` (R525). -/
  | why (e : Option LastErr)
  /-- `=Y path value src=… time` (R525): origin code 0 LINE, 1 AIR, 2 SELF, none for default. -/
  | whyPath (obj : Nat) (v : PVal) (next : Option PVal) (src : Option Nat) (time : Option Stamp)
  /-- An event line (R65). -/
  | event (e : EvLine)
  /-- `~LOST n` (R65), which carries the time of its delivery. -/
  | lost (time : Stamp) (n : Nat)
  /-- `=W …` of WAKE (R162). -/
  | wakeRec (r : WakeRec)
  /-- `=A …` or `=B …` of WAKE BRANCH (R164). -/
  | branch (side : Side) (st : BranchSt) (disc : Nat) (det : WakeDet)
  /-- `=S code mask` (R167). -/
  | seen (code mask : Nat)
  /-- `=F id` (R322, R327). -/
  | flightId (id : Nat)
  /-- `=W id pos` (R322). -/
  | waitId (id pos : Nat)
  /-- One line of `DO flight.list` (R327). -/
  | flight (id : Nat) (h : Handle) (kind : FlightKind) (prio : Nat) (st : FlightSt) (dl attempts : Nat)
      (lane : Option (Fin 16))
  /-- `=R id` (R308). -/
  | roundId (id : Nat)
  /-- `=I first last mark archive` (R462). -/
  | logInfo (first last : Option Nat) (mark : Nat) (archive : Option (Nat × Nat))
  /-- `=X seq`: a record whose codeword is uncorrectable (R462). -/
  | lostRecord (seq : Nat)
  /-- `=L seq …` (R462). -/
  | ledger (r : LRec)
  /-- `=A …` of LOG AUDIT (R462). -/
  | audit (r : ARec)
  /-- `=H block t=… [snap=…]` (R508). -/
  | tallyHead (blk : Block) (since : Stamp) (snap : Option Stamp)
  /-- `=T name value o=bit` (R508). -/
  | tally (name : String) (value : Nat) (ovf : Bool)
  /-- `=O src= now= peak=` (R508); the source's position in R504. -/
  | occ (src now peak : Nat)
  /-- `=B` line of TALLY BW (R512). -/
  | bw (p : Port) (last peak win : Nat)
  /-- `=SNAP t`, `=FREEZE t`, `=THAW t` (R508). -/
  | tallyAt (verb : Nat) (t : Stamp)
  /-- `=U` of IMAGE STATUS (R467). -/
  | imageStatus (st : Stage) (next done total : Nat) (activeB : Bool) (ver : Nat × Nat × Nat) (trialBoots : Nat)
  /-- `=B` of IMAGE LIST (R467). -/
  | imageSlot (slot : Nat) (ver : Nat × Nat × Nat) (target : Nat) (digest : BitVec 64) (ok : Bool)
  /-- `=B` of `DO jomen.burst` (R122). -/
  | burstOk
  /-- A fixed word after `=`: `=CLEAR`, `=ACTIVATE`, `=CONFIRM`, `=ABORT`, `=DROP`, `=WARM`, `=COLD`, `=SHELF`,
  `=RETIRE`, `=REINSTATE`, `=counter`, `=on`, `=off`, `=LARDER`, `=CELLAR`. -/
  | word (w : String)
  /-- `=t=s.n` of `DO time.set` (R264). -/
  | timeSet (s n : Nat)
  /-- `DO time.now` (R263); net is none for `net=start`. -/
  | timeNow (t : Stamp) (asn off : Nat) (counter : Bool) (net : Option NetState)
  /-- One `=C` line of `DO sched.list` (R276). -/
  | cell (i : Nat) (a : CellArgs)
  /-- `=E …` of `DO roster.show` (R352). -/
  | roster (h : Option Handle) (id : Eui) (code : Nat) (groups : List Nat) (rx tx fail : Nat)
      (flags : List Bool) (spill : Bool) (sighted : Option Stamp)
  /-- `=index:epoch` of `DO roster.peer` (R353). -/
  | handle (h : Handle)
  /-- `=M …` of the monitor actions (R395). -/
  | monitor (n input code : Nat) (act trip disc : Bool) (time : Option Stamp)
  /-- One line of `DO pm.residency` (R439); SHELF has no ticks. -/
  | residency (p : Power) (ticks : Option Nat) (entries : Nat)
  /-- `=T …` of `DO fault.list` (R497): retired or resting, rests, cause, end of a rest. -/
  | fault (r : ResId) (peck : Option Nat) (retired : Bool) (rests : Nat) (cause : Option Nat) (until_ : Option Stamp)
  /-- `=H …` of `DO rx.capture.read` (R251). -/
  | capHead (src : CapSrc) (rate n stepA stepB : Nat) (t : Stamp)
  /-- `=D offset words` (R251). -/
  | capData (offset : Nat) (words : List (BitVec 32))
  /-- An echoed character (R56). -/
  | echo (c : List Byte)
  deriving DecidableEq, Repr

end Sys2Proof.Machine
end

