-- ==== Sys2Proof/Machine/State.lean ====
section
/-!
DEFINITION. Sys2Proof/Machine/State.lean: everything the manual gives the SW-7160 to remember, as plain data, in
groups that follow the manual's chapters; the reasons a step can stop; and the machine at reset. Each field's comment
names the rule and the value at reset.
-/

namespace Sys2Proof.Machine

/-! ## The line (R42 to R91) -/

/-- An AUTH challenge waiting for its response (R71, R72). -/
structure Challenge where
  level : Level
  value : BitVec 128
  at_   : Ticks
  deriving DecidableEq, Repr

/-- What the part is sending on LINE, so that a collision, an attention or a reset can cut it short (R43, R85). -/
inductive Sending where
  | reply
  | enumAnswer (marked : Bool) (n : Nat)
  | seen (bits : List Host.Cell) (fold : Bool)
  | push (e : EvLine)
  | lost (n : Nat)
  | echo
  | roll
  deriving DecidableEq, Repr

/-- LINE, sessions, events and the Opair chain. -/
structure Line where
  isOpen     : Bool            -- R45, R46: the receiver is open | reset: false (before the mount LINE is not read)
  rate       : Nat             -- R48: rate in force, bit/s | reset: 115,200
  rateAt     : Option Ticks    -- R48: earliest moment at which a written rate applies, the end of the reply when that is later | reset: none
  trial      : Option (Nat × Ticks) -- R48: previous rate and the end of the 10 s trial | reset: none
  partialLine : List Byte      -- R55: the partial line held, with the edit buffer of R56 | reset: []
  partialAt  : Ticks           -- R55: stop bit of its last character | reset: 0
  level      : Level           -- R70, R74: session level | reset: OBSERVER
  lastLine   : Ticks           -- R74: time of the last line for the unit | reset: 0
  challenge  : Option Challenge -- R72 | reset: none
  authFails  : Nat             -- R72: failures in a row | reset: 0
  lockout    : Option Ticks    -- R72: end of the 60 s lockout | reset: none
  address    : Nat             -- R78: chain address 0 to 16 | reset: 0
  chainMark  : Bool            -- R82 | reset: false
  solo       : Bool            -- R59 | reset: true
  chainOut   : Bool            -- R78: CHAIN_OUT driven high | reset: false
  chainInLow : Bool            -- R490: CHAIN_IN read low at every ENUM NEXT since ENUM START | reset: false
  sawNext    : Bool            -- R490: an ENUM NEXT was seen since ENUM START | reset: false
  faults     : List LineFaultKind -- R490: standing line faults | reset: []
  events     : List EvLine     -- R65: event queue, at most 64, oldest first (bin 18) | reset: []
  lost       : Nat             -- R65, R69: lost count | reset: 0
  stuckAt    : Option Ticks    -- R86: falling edge of a stuck LINE | reset: none
  pullup     : Bool            -- R45, R49: the internal pull-up is on | reset: false
  deafUntilIdle : Bool         -- R43: nothing received until LINE has idled for 2 characters | reset: false
  rollAt     : Option Ticks    -- R84: stop bit of the ROLL line's CR | reset: none
  lastErr    : Option LastErr  -- R525 | reset: none
  tx         : List OutLine    -- R62: the lines the last exchange put on LINE | reset: []
  txCc       : Bool            -- R54: the lines of the last exchange carry a checksum token | reset: false
  txCrLf     : Bool            -- R55: they end with CR LF, and not with CR | reset: false
  sending    : Option Sending  -- R43, R85: the line being sent | reset: none
  sendEnd    : Ticks           -- R43, R63, R64: end of what was last sent | reset: 0
  afterCr    : Bool            -- R51: the last character received was a CR | reset: false
  pushHeld   : Bool            -- R67: a pushed event line collided, and no reply has followed | reset: false
  checkAt    : Ticks           -- R87: the next check of a stuck line | reset: 0
  pulseEnd   : Option Ticks    -- R87: end of the pull-up's pulse of a check | reset: none
  highAt     : Option Ticks    -- R87: a check has read LINE high, and LINE has idled since | reset: none
  deriving DecidableEq, Repr

/-! ## The wake receiver and the matcher (R128 to R174) -/

/-- A branch's alignment on a preamble (R131, R140): the end of the last chip of the pattern, the chip period held from there
on, and the threshold in 0.5 dB. -/
structure Align where
  at_       : Ticks
  period    : Ticks
  threshold : Int
  deriving DecidableEq, Repr

/-- One wake branch (R128, R155). -/
structure Branch where
  st         : BranchSt        -- R155 | reset: OFF
  disc       : Nat             -- R153: consecutive-discrepancy counter | reset: 0
  align      : Option Align    -- R140 | reset: none
  settleAt   : Option Ticks    -- R155: end of SETTLING; none until DIRECT's first sniff begins | reset: none
  listenFrom : Nat             -- R153: WCLK edge since which the branch has been LISTEN | reset: 0
  hold       : Option Nat      -- R134: WCLK edge at which a DIRECT sniff hold began | reset: none
  nextSniff  : Nat             -- R134: WCLK edge of the next DIRECT sniff | reset: 0
  tap        : Bool            -- R135: the last alignment was made through the wake tap | reset: false
  det        : WakeDet         -- R137: the detector the branch took at its last SETTLING | reset: ENVELOPE
  floor      : Int             -- R131: tracked noise floor, 2^-36 dBm | reset: 0
  deriving DecidableEq, Repr

/-- The discrepancy window a fold opens (R165). -/
structure FoldWin where
  code     : Nat
  reason   : Nat
  first    : Side
  t1       : Nat
  window   : Nat
  frameLen : Nat
  deriving DecidableEq, Repr

/-- The wake receiver and MATCHER. -/
structure Wake where
  armed      : Bool            -- R15, R429: the matcher is armed | reset: false
  det        : WakeDet         -- R137: the detector last selected | reset: ENVELOPE
  a          : Branch          -- R155 | reset: OFF
  b          : Branch          -- R155 | reset: OFF
  masks      : List Host.Cell  -- R113: armed-mask table in force, 8,192 bytes | reset: all 0
  stored     : List Host.Cell  -- R116, R443: stored copy of the table | reset: all 0
  maskWrites : List Host.Cell  -- R116: changes waiting for their WCLK edge | reset: []
  armOwed    : List (Hdr × OutLine) -- R116: replies that follow that edge | reset: []
  seen       : List Host.Cell  -- R166: seen bitmap, 8 KiB, one mask byte per code | reset: all 0
  foldFlag   : Bool            -- R165 | reset: false
  folded     : Bool            -- R168: a fold came since the queue last had a free entry | reset: false
  foldWins   : List FoldWin    -- R165 | reset: []
  queue      : List WakeRec    -- R161: at most 16 records, in push order | reset: []
  seq        : BitVec 16       -- R158: next wake record sequence | reset: 0
  low        : Bool            -- R143: WAKE driven low | reset: false
  sweeps     : List (Nat × Ticks) -- R169: armed sweep classes with the earliest moment of each | reset: []
  sweeping   : Option (Nat × Bool) -- R170: class of the running sweep, and whether its burst has started | reset: none
  blankUntil : Option Ticks    -- R120: end of blanking, 250 us after the PA drive went off | reset: none
  deriving DecidableEq, Repr

/-! ## Bursts and codes (R106 to R127) -/

/-- What a burst is for (R123). -/
inductive BurstFor where
  | command
  | round (id : Nat)
  | sweep (cls : Nat)
  | lastChance (index : Nat)
  | reacquire (index : Nat)
  | called (flight : Nat)
  deriving DecidableEq, Repr

/-- An accepted wake burst with the settings in force at its acceptance (R121). -/
structure Burst where
  code    : Nat
  reason  : Nat
  sync    : Nat
  rep     : Nat
  fast    : Bool
  power   : Int
  purpose : BurstFor
  deriving DecidableEq, Repr

/-- Wake bursts and the code space. -/
structure Jomen where
  queue    : List Burst        -- R119, R122: accepted bursts not yet sent, in acceptance order | reset: []
  due      : List Burst        -- R121: bursts the part has scheduled, not yet checked | reset: []
  onAir    : Option Burst      -- R118 | reset: none
  airtime  : List (Ticks × Ticks) -- R121: length and leaving time of each burst in the rolling 3,600 s | reset: []
  afterWarm : List Ev          -- R122: ~BURST lines owed after a warm start | reset: []
  pool     : List Nat          -- R107: free individual codes, longest free first | reset: 16 to 8,127 rising
  freed    : List Nat          -- R110: codes that return to the pool at the edge that clears their masks | reset: []
  holders  : List (Nat × Nat)  -- R106: group code and the number of endpoints that hold it | reset: []
  deriving DecidableEq, Repr

/-! ## The radio (R175 to R217) -/

/-- The radio states (R175); RX names its chain mask. -/
inductive RadioSt where
  | sleep | standby | synth | rx | tx | cal
  deriving DecidableEq, Repr

/-- What is transmitted (R203, R206). -/
inductive TxKind where
  | burst | beacon | startBeacon | ack (lane : Fin 16) (chain : Side) | call | flight (id : Nat) | push (id : Nat)
  | flood (hops : Nat)
  deriving DecidableEq, Repr

/-- A call of an inventory round (R312, R343): bit i of `acks` covers channel index i. -/
structure CallBody where
  round    : Nat
  sub      : Nat
  q        : Nat
  w        : Nat
  reason   : Nat
  withhold : Bool
  last     : Bool
  acks     : List Bool
  check    : Nat
  deriving DecidableEq, Repr

/-- What a transmission carries (R342 to R345): a burst its chips, at 32,768 or 8,192 chips/s (R92, R93). -/
inductive AirBody where
  | chips (fast : Bool) (l : List Bool)
  | call (c : CallBody)
  | beacon (b : Beacon)
  | frame (f : Frame)
  | flood (f : Flood)
  deriving DecidableEq, Repr

/-- The PHR of a frame (R243): its bits 0, 3 and 4 and its length; the reserved bits are 0 on send and ignored on receive. -/
structure Phr where
  modeSwitch : Bool
  fcs16      : Bool
  whiten     : Bool
  length     : Nat
  deriving DecidableEq, Repr

/-- What stands before the PSDU of a frame on the air (R242): preamble octets, the SFD and the PHR. -/
structure AirHead where
  preamble : Nat
  sfd      : Nat
  phr      : Phr
  deriving DecidableEq, Repr

/-- A transmission (R180, R203, R206, R212): `coex` says that it asks for the air on the coexistence wires (R205), and `air`
is the earliest T_air that its grant allows (R207). A frame has its head from its start on (R242 to R247). -/
structure Tx where
  head      : Option AirHead
  body      : AirBody
  kind      : TxKind
  scheduled : Bool
  aerial    : Side
  band      : Band
  class7    : Bool
  coex      : Bool
  air       : Ticks
  octets    : Nat
  khz       : Nat
  rate      : Nat
  deriving DecidableEq, Repr

/-- A scheduled transmission that will start at its T_air (R178, R207): the band, the priority of R206 and the class of R212
its request goes by. `lost` says that its grant was lost before T_air (R210). -/
structure Claim where
  air    : Ticks
  band   : Band
  high   : Bool
  class7 : Bool
  lost   : Bool
  deriving DecidableEq, Repr

/-- A running transition of R177: the state it reaches, when, and the frequency it tunes to, if it does. -/
structure Trans where
  dest : RadioSt
  at_ : Ticks
  tune : Option (Band × Nat)
  deriving DecidableEq, Repr

/-- Calibration state of one band (R185, R188). -/
structure BandCal where
  tcal  : Int                  -- R188: die temperature of the last oscillator calibration, 0.25 C | reset: 0
  stale : List Nat             -- R188: stale groups, 0 to 15 | reset: []
  due   : Option Ticks         -- R188: trigger time of a due temperature calibration | reset: none
  used  : List Nat             -- R189: groups in use, most recently used first | reset: []
  drives : List ((Nat × Int) × Int) -- R196: drive stored per group and target power, 0.25 dB | reset: []
  deriving DecidableEq, Repr

/-- Why a calibration runs (R180, R189 to R192, R488, R497): in a schedule gap, in a taken slot, for `DO radio.cal`, for
the reinstatement of a chain, or at the end of a chain's rest. -/
inductive CalWhy where
  | gap | slot
  | command (h : Hdr)
  | reinstate (h : Hdr) (o : Origin) (sd : Side)
  | rest (sd : Side)
  deriving DecidableEq, Repr

/-- A calibration running (R180, R186): the groups it works through and its end. -/
structure CalRun where
  why    : CalWhy
  kind   : CalKind
  band   : BandSel
  groups : List (Band × Nat)
  endAt  : Ticks
  deriving DecidableEq, Repr

/-- RFE: states, calibration, power, aerials, coexistence. -/
structure Radio where
  st       : RadioSt           -- R175 | reset: SLEEP
  band     : Band              -- R175: working band | reset: sub-GHz
  trans    : Option Trans      -- R177 | reset: none
  khz      : Nat               -- R182, R185: present frequency of the working band's synthesiser, kHz | reset: 0
  idleHeld : Bool              -- R179: the idle band's synthesiser is held locked | reset: false
  next     : Option Tx         -- R178: transmission that follows the transition | reset: none
  tx       : Option Tx         -- R175: transmission on the air | reset: none
  paOn     : Bool              -- R175, R196: PG1 enables the PA | reset: false
  paFrom   : Ticks             -- R196: moment PG1 enabled the PA | reset: 0
  deafFrom : Option Ticks      -- R238: since when the chains deliver no valid samples on the way to RX | reset: none
  drive    : Int               -- R196: present drive, 0.25 dB | reset: 0
  drive0   : Int               -- R197: drive calibrated for the target power | reset: 0
  target   : Int               -- R196: target power, 0.25 dBm | reset: 0
  loopNext : Ticks             -- R196: earliest moment of the loop's next correction | reset: 0
  loopChip : Option Nat        -- R196: chip of a burst in which the loop last corrected | reset: none
  limited  : Bool              -- R197: the frame has been held at a loop limit | reset: false
  lastAlt  : Option Side       -- R203: aerial the last alternating transmission used | reset: none
  exclA    : Option Ticks      -- R202: end of ANT_A's exclusion | reset: none
  exclB    : Option Ticks      -- R202: end of ANT_B's exclusion | reset: none
  restsA   : Nat               -- R488: reflected-power rests of ANT_A in a row | reset: 0
  restsB   : Nat               -- R488: of ANT_B | reset: 0
  tripA    : Ticks             -- R488: last reflected-power trip on ANT_A | reset: 0
  tripB    : Ticks             -- R488: on ANT_B | reset: 0
  subCal   : BandCal           -- R188 | reset: see BandCal
  g24Cal   : BandCal           -- R188 | reset: see BandCal
  lastFull : Nat               -- R187, R411: last full calibration, seconds | reset: 0
  cal      : Option CalRun     -- R180 | reset: none
  taken    : Option Nat        -- R180, R190: slot that a calibration takes as a whole | reset: none
  calAsked : List (CalWhy × CalKind × BandSel) -- R192, R497: calibrations waiting for their slot boundary, in order | reset: []
  synthCorr : Int              -- R182, R253: correction of both synthesisers by the XO's model, 2^-32 | reset: 0
  txStamp  : Option Stamp      -- R266, R267: transmit time-stamp of the last frame | reset: none
  temp     : Int               -- R188: last die temperature read, 0.25 C | reset: 0
  coexReq  : Bool              -- R207: a request stands on COEX_REQ, in the pattern of its priority | reset: false
  coexWait : Option Tx         -- R209: transmission waiting for its grant | reset: none
  yielded  : Option Tx         -- R209: unscheduled transmission that yielded to a claim of rank 1 to 3 | reset: none
  coexAt   : Ticks             -- R207: rising edge of the standing request | reset: 0
  coexAir  : Ticks             -- R207: T_air that the request stands for | reset: 0
  coexOff  : Option Ticks      -- R207, R209: moment at which COEX_REQ falls | reset: none
  ahead    : Option Claim      -- R207: scheduled transmission that the request is for | reset: none
  coexHi   : Bool              -- R206: priority of the standing request | reset: false
  granted  : Bool              -- R210: from grant sample to PA drive off | reset: false
  starved  : Ticks             -- R211: starvation timer | reset: 0
  coexLow  : Bool              -- R211: COEX_GNT is low, by its last edge or sample | reset: true
  coexFault : Bool             -- R211 | reset: false
  deriving DecidableEq, Repr

/-! ## Concurrent reception (R218 to R251) -/

/-- The filter settings (R236). -/
inductive Filter where
  | wide | mid | narrow
  deriving DecidableEq, Repr

/-- One receive chain (R218, R232 to R236). -/
structure Chain where
  on      : Bool               -- R175: in the RX chain mask and powered | reset: false
  step    : Nat                -- R232: AGC step 0 to 15 | reset: 15
  stepSub : Nat                -- R232: step last held on the sub-GHz band | reset: 15
  step24  : Nat                -- R232: step last held on 2.4 GHz | reset: 15
  quiet   : Nat                -- R233: consecutive windows peaking below -24 dBFS, to 40 | reset: 0
  want    : Option Nat         -- R234: wanted step of a deferred change | reset: none
  dcSub   : Nat                -- R194: which DC calibration filled the offset table of the sub-GHz band | reset: 0
  dc24    : Nat                -- R194: of 2.4 GHz | reset: 0
  dc      : Int                -- R194, R195: DC offset applied, 2^-40 of full scale | reset: 0
  residue : Int                -- R194: offset that is left, 2^-40 of full scale | reset: 0
  filter  : Filter             -- R236 | reset: WIDE
  deriving DecidableEq, Repr

/-- Who holds a lane (R299). -/
inductive Holder where
  | none | capture | round | cell (i : Nat) | called (flight : Nat) | lastChance (index : Nat) | reacquire (index : Nat)
  | start
  deriving DecidableEq, Repr

/-- An acknowledgement owed for a received frame (R300). -/
structure AckDue where
  frameEnd : Ticks
  id       : Eui
  ctr      : BitVec 32
  recorded : Bool
  admission : Bool
  channel  : Nat
  chain    : Side
  deriving DecidableEq, Repr

/-- One lane engine (R224, R228, R234, R298). -/
structure Lane where
  holder  : Holder             -- R299 | reset: none
  chan    : Nat                -- R224: plan channel | reset: 0
  rate    : Nat                -- R223: 50, 100, 200 or 1,000 kb/s | reset: 100
  program : Nat                -- R298 | reset: 0
  pre     : Bool               -- R228: a preamble is declared | reset: false
  payload : Bool               -- R234: the lane receives a payload | reset: false
  payloadEnd : Ticks           -- R234, R243: end of that payload by its PHR | reset: 0
  badPhr  : Bool               -- R243: that PHR has the frame discarded at its end | reset: false
  whiten  : Bool               -- R242, R243: its DW bit, by which the PSDU is dewhitened | reset: false
  sfdAt : Ticks                -- R266: end of the SFD of that payload | reset: 0
  chain   : Side               -- R229: chain chosen | reset: A
  held    : Bool               -- R229 | reset: false
  qa      : Option Int         -- R228 | reset: none
  qb      : Option Int         -- R228 | reset: none
  rssi    : Int                -- R240 | reset: -128
  sfdStep : Nat                -- R241: gain step at the end of the SFD | reset: 15
  gain    : Bool               -- R235: gain flag | reset: false
  invalid : Bool               -- R239: invalid flag | reset: false
  badA    : List (Ticks × Ticks) -- R238: the last invalid spans on chain A | reset: []
  badB    : List (Ticks × Ticks) -- R238: the last invalid spans on chain B | reset: []
  counted : Ticks              -- R239: moment up to which invalid samples have been counted | reset: 0
  retune  : Option (Nat × Nat) -- R225: retune that waits for a payload | reset: none
  late    : Bool               -- R225: that retune is the start of a cell | reset: false
  window  : Option (Ticks × Ticks) -- R284: the lane takes a start of frame between these moments only | reset: none
  ack     : Option AckDue      -- R300 | reset: none
  deriving DecidableEq, Repr

/-- What holds of a chain from a moment on: its gain step, whether it is in the mask, and whether it delivers samples
(R249). -/
structure ChainTrace where
  at_  : Ticks
  step : Nat
  mask : Bool
  live : Bool
  deriving DecidableEq, Repr

/-- A capture, running or held (R248 to R251). `traceA` and `traceB` follow the chains while it runs, the newest first. -/
structure Capture where
  lane   : Fin 16
  src    : CapSrc
  rate   : Option Nat
  slot   : Option Nat
  count  : Nat
  words  : List (BitVec 32)
  stepA  : Nat
  stepB  : Nat
  startT : Stamp
  started : Bool
  startAt : Ticks
  inSpan : Bool
  traceA : List ChainTrace
  traceB : List ChainTrace
  ended  : Option Ticks
  deriving DecidableEq, Repr

/-- A frame in the receive buffer with its reception fields and the time-stamp of its start (R303, R266). -/
structure RxFrame where
  f    : Frame
  r    : RxInfo
  at_  : Ticks
  time : Stamp
  flooded : Bool
  round : Option Nat
  cell : Nat × Nat
  deriving DecidableEq, Repr

/-- The judging window of a channel that runs (R488): the cells bound to the channel, the preambles declared in them, and those
whose frame passed its FCS. -/
structure Judge where
  id     : ResId
  cells  : Nat
  pre    : Nat
  passed : Nat
  deriving DecidableEq, Repr

/-- CHZ, the lanes and the receive buffer. -/
structure Rx where
  band    : Band               -- R221: band of the span | reset: sub-GHz
  centre  : Nat                -- R219: span centre index of that band | reset: 0
  centre' : Nat                -- R221: span centre index last held on the other band | reset: 0
  a       : Chain              -- R218 | reset: see Chain
  b       : Chain              -- R218 | reset: see Chain
  lanes   : Vector Lane 16     -- R224 | reset: see Lane
  buf     : List RxFrame       -- R303: receive buffer, at most 1,024 frames, oldest first | reset: []
  high    : Bool               -- R304: above high water | reset: false
  tapFrom : Ticks              -- R226: end of the invalid samples of the last span retune | reset: 0
  capture : Option Capture     -- R250 | reset: none
  judges  : List Judge         -- R488: judging windows that run | reset: [] (a window is lost at any start, log 155)
  deriving DecidableEq, Repr

/-! ## Time and schedule (R252 to R297) -/

/-- The change `DO time.set` or `DO time.counter` has waiting (R531). -/
inductive TimeAsk where
  | set (s n : Nat)
  | counter
  deriving DecidableEq, Repr

/-- Local time (R253 to R268). The normal-service time and the counter-mode offset are held in 2^-39 ns, the counter in
quarters of a CCLK cycle, so that every advance of R257 and R258 is exact. -/
structure Time where
  counterMode : Bool           -- R256 | reset: true
  q        : Nat               -- R256: time of normal service, 2^-39 ns | reset: 0
  cq       : Nat               -- R256: CCLK counter, quarter cycles | reset: 0
  offset   : Int               -- R256, R258: counter offset, 2^-39 ns | reset: 0
  rate     : Int               -- R257: learned rate, 2^-32 | reset: 0
  slew     : Int               -- R291: slew rate, 2^-32 | reset: 0
  sleepCorr : Int              -- R254: residual sleep-clock correction, 2^-32 | reset: 0
  sleepComp : Int              -- R254: sleep-clock compensation by the parabolic model, 2^-32 | reset: 0
  xoTemp   : Int               -- R253: die temperature the XO's model was last applied at, 0.25 C | reset: 0
  upTo     : Ticks             -- R257: moment up to which local time has advanced | reset: 0
  slews    : List (Ticks × Nat) -- R255: past slew rates, each with the last moment it ran, larger ones first | reset: []
  saved    : Option Nat        -- R258: time saved in the store, 2^-39 ns | reset: none
  savedAt  : Ticks             -- R258: moment of the last save | reset: 0
  ask      : Option TimeAsk    -- R531 | reset: none
  fold     : Option SelfRule   -- R260, R261: fold due at the next slot boundary, with its rule | reset: none
  step     : Option (Int × Origin) -- R292: step due at the next slot boundary, ns, and what asked for it | reset: none
  slowFrom : Option Ticks      -- R255: last moment local time was kept on the sleep clock | reset: none
  fastUntil : Ticks            -- R255: end of the fast-temperature term | reset: 0
  temps    : List (Ticks × Int) -- R255: die temperature readings of the last 10 s, newest first | reset: []
  slot     : Nat               -- R269: slot number last begun | reset: 0
  slotAt   : Ticks             -- R269: its boundary edge | reset: 0
  deriving DecidableEq, Repr

/-- A schedule cell (R272). -/
structure Cell where
  frame  : Nat
  kind   : CellKind
  ch     : Nat
  hop    : Nat
  slot   : Nat
  offset : Nat
  rate   : Nat
  lane   : Nat
  arg    : Nat
  handle : Option Handle
  n      : Nat
  deriving DecidableEq, Repr

/-- A change to the schedule waiting for a slot boundary (R276). -/
inductive SchedChange where
  | frame (f length : Nat)
  | cell (i : Nat) (c : Cell)
  | drop (i : Nat)
  deriving DecidableEq, Repr

/-- SCHED: slotframes, cells, hop tables. -/
structure Sched where
  frames  : Vector Nat 8       -- R271: slotframe lengths | reset: 100 for slotframe 0, else 0 (R277)
  cells   : List (Nat × Cell)  -- R271: the cells that are not empty, by index | reset: cells 0 and 1 of R277
  changes : List (Ticks × SchedChange) -- R276: changes and the moment of their reply | reset: []
  h0      : List Nat           -- R278 | reset: [] (built at the start)
  h1      : List Nat           -- R278 | reset: []
  h2      : List Nat           -- R278 | reset: []
  maskNow : Nat                -- R282: hop.mask.sub in force in the tables | reset: 0
  rebuild : Option Nat         -- R282: rebuild slot of a written mask | reset: none
  retired : List ResId         -- R280: channels whose exclusion is in effect | reset: []
  pending : List (ResId × Bool × Nat) -- R280: channel, retire or reinstate, effective slot | reset: []
  carry   : Option Nat         -- R280: slot until which beacons carry the retired set | reset: none
  active  : List (Nat × Nat)   -- R274: cells of the present slot with their channels, by index | reset: []
  run      : List (Nat × Nat)  -- R273: cells of the present slot that have started, with their channels | reset: []
  notBefore : Ticks            -- R274: earliest moment of the slot's actions | reset: 0
  bitmapOk : Bool              -- R274: the schedule has started | reset: false
  deriving DecidableEq, Repr

/-- Reacquisition of a lost partner (R286). -/
structure Reacq where
  index  : Nat
  tries  : Nat
  reqAt  : Ticks
  listening : Bool
  nextAt : Ticks
  deriving DecidableEq, Repr

/-- A time parent and partition taken at the next slot boundary (R288): the parent's EUI and the root's rank. -/
structure Joining where
  parent : Eui
  prio   : Nat
  root   : Eui
  deriving DecidableEq, Repr

/-- The network (R288 to R296). -/
structure Net where
  st       : NetState          -- R288 | reset: UNSYNCED
  started  : Bool              -- R263: the start has taken a network state | reset: false
  waitFrom : Option Ticks      -- R288: slot boundary from which the wait of 2 x L0 slots counts | reset: none
  waitSlots : Nat              -- R288: length of the wait in slots | reset: 0
  joining  : Option Joining    -- R288: change to MEMBER due at the next slot boundary | reset: none
  parent   : Option Eui        -- R288: time parent | reset: none
  parentAt : Ticks             -- R291: time of the last parent beacon | reset: 0
  parentSlot : Nat             -- R411: last parent beacon slot | reset: 0
  rankPrio : Nat               -- R290: rank priority of the partition's root | reset: 0
  rankEui  : Eui               -- R290: EUI of the partition's root | reset: 0
  roundNo  : Nat               -- R289: start round in progress | reset: 0
  roundAt  : Nat               -- R289: first slot of the round | reset: 0
  drawn    : Nat               -- R289: slot drawn in it, 0 to 15 | reset: 0
  rounds   : Nat               -- R295: value taken at candidacy | reset: 0
  beaconCtr : Nat              -- R347: own beacon counter | reset: 0
  beaconSaved : Nat            -- R347, R364: persisted beacon counter | reset: 0
  cache    : List (Eui × BitVec 32) -- R367: last counters of up to 16 other senders, most recent first | reset: []
  peerCtrs : List (Nat × BitVec 32) -- R367: last beacon counter of peers 0 to 15 | reset: []
  reacq    : List Reacq        -- R286 | reset: []
  lost     : List Nat          -- R285: roster indices of lost partners | reset: []
  holdCellar : Option Ticks    -- R426: CELLAR held off until a parent beacon or this moment | reset: none
  deriving DecidableEq, Repr

/-! ## Rounds and flights (R298 to R338) -/

/-- A round requested and waiting (R307). -/
structure RoundReq where
  id    : Nat
  code  : Nat
  reason : Nat
  sweep : Bool
  chOff : Nat
  byDo  : Bool
  deriving DecidableEq, Repr

/-- The running round (R307 to R317). `prev` and `prev2` hold, by channel index, the single cells of the last two sub-slots,
each by its sub-slot and its index, and `acked` those whose record or repeat stands, with the key of their frame; `sub`
counts the sub-slots begun, `inSlot` those of the present slot, `subAt` is the start of the last, and `window` says that its
cells are still to be classified. -/
structure Round where
  req      : RoundReq
  opened   : Bool
  openSlot : Nat
  sub      : Nat
  qf       : Nat
  q        : Nat
  q1       : Nat
  chans    : List Nat
  quiet    : Nat
  prev     : List (Option (Nat × Nat))
  prev2    : List (Option (Nat × Nat))
  acked    : List ((Nat × Nat) × (Eui × BitVec 32))
  heard    : List Nat
  recorded : Nat
  repeats  : Nat
  drops    : Nat
  singles  : Nat
  collided : Nat
  empties  : Nat
  paused   : Nat
  pausing  : Bool
  stop     : Bool
  closing  : Nat
  qCall    : Nat
  inSlot   : Nat
  subAt    : Ticks
  window   : Bool
  deriving DecidableEq, Repr

/-- The progress of a PUSH flight (R481 to R484). -/
structure PushSess where
  lib     : Nat
  digest  : BitVec 64
  pecks   : Nat
  peck    : Nat
  block   : Nat
  bitmap  : Nat
  header  : Bool
  blocks  : Nat
  bad     : List Nat
  queue   : List Nat
  deriving DecidableEq, Repr

/-- A flight (R320). -/
structure Flight where
  id       : Nat
  handle   : Handle
  kind     : FlightKind
  prio     : Nat
  called   : Bool
  st       : FlightSt
  lcStep   : Nat
  deadline : Nat
  attempts : Nat
  lane     : Option (Fin 16)
  reason   : Nat
  payload  : List Byte
  push     : Option PushSess
  skips    : Nat
  nextTry  : Ticks
  ctr      : BitVec 32
  sentEnd  : Ticks
  awaiting : Bool
  frameAt  : Option Ticks
  cancel   : Bool
  late     : Bool
  waits    : Bool
  groups   : Option (List Nat)
  lc       : List LcResult
  probe    : Option Probe
  deriving DecidableEq, Repr

/-- A last-chance sequence (R335, R337): one per roster entry. -/
structure LcSeq where
  index   : Nat
  trigger : Ticks
  attempt : Nat
  listen  : Option Ticks
  answered : Bool
  deriving DecidableEq, Repr

/-- CC's round and flight work. -/
structure Work where
  round    : Option Round      -- R307 | reset: none
  rounds   : List RoundReq     -- R307: at most 8 waiting requests | reset: []
  nextRound : Nat              -- R308: next round ID, 0 to 255 | reset: 0
  table    : List Flight       -- R320: flight table, at most 32 | reset: []
  waiting  : List Flight       -- R320: waiting list, at most 256 | reset: []
  nextFlight : Nat             -- R320: next flight ID, 1 to 65,535 | reset: 1
  lc       : List LcSeq        -- R335 | reset: []
  deriving DecidableEq, Repr

/-! ## Roster and relay (R339 to R372) -/

/-- One bin of a drift model (R283), in 0.01 ppm. -/
structure DriftBin where
  o : Int
  u : Nat
  n : Nat
  deriving DecidableEq, Repr

/-- A roster entry (R350). -/
structure Entry where
  id       : Eui
  epoch    : Nat
  code     : Nat
  groups   : List Nat
  rxCtr    : BitVec 32
  window   : BitVec 32
  txCtr    : BitVec 32
  txSaved  : BitVec 32
  rxSaved  : BitVec 32
  keySlot  : Nat
  active   : Bool
  unreach  : Bool
  pinned   : Bool
  retired  : Bool
  bestB    : Bool
  fails    : Nat
  accepts  : Nat
  sends    : Nat
  tpLast   : BitVec 8
  contact  : Option Ticks
  contactSlot : Nat
  contactOff : Nat
  sighted  : Nat
  sightT   : Option Stamp
  drift    : List DriftBin
  total    : Nat
  model    : Nat
  admitOwed : Bool
  unreachAt : Option Ticks
  rejects  : Nat
  maskSaved : Nat
  retireOwed : Option (Origin × Nat)
  deriving DecidableEq, Repr

/-- A spill record (R355): the entry image, the lapsed code, and whether its CRC holds. -/
structure Spill where
  entry  : Entry
  lapsed : Nat
  crcOk  : Bool
  deriving DecidableEq, Repr

/-- A seen-cache entry (R370). -/
structure Seen where
  id     : Eui
  dir    : Bool
  ctr    : BitVec 32
  copies : Nat
  at_    : Ticks
  deriving DecidableEq, Repr

/-- A planned rebroadcast (R369). -/
structure Replay where
  flood : Flood
  from_ : Nat
  own   : Bool
  deriving DecidableEq, Repr

/-- KEEPER's keys, the roster, the spill directory and the flood caches. -/
structure Roster where
  netKey  : Option Key         -- R346 | reset: none
  libKey  : Option (BitVec 512) -- R465 | reset: none
  opKey   : Key                -- R73: OPERATOR key | reset: 0 (the commissioning key of the shipping record)
  cuKey   : Key                -- R73: CUSTODIAN key | reset: 0 (as opKey)
  entries : List (Nat × Entry) -- R350: entries ever given, by index | reset: []
  spill   : List (Eui × Spill) -- R355: spill directory | reset: []
  staged  : List Eui           -- R354: spill writes not yet complete | reset: []
  full    : Bool               -- R359: ~ROSTERFULL stands | reset: false
  spillFullAt : Option Ticks   -- R356: last ~SPILLFULL | reset: none
  loaded  : Bool               -- R424: the roster bins are loaded | reset: false
  seen    : List Seen          -- R370: seen cache, at most 256, newest first | reset: []
  replays : List Replay        -- R369 | reset: []
  deriving DecidableEq, Repr

/-! ## Monitors, generators, VAUX (R373 to R408) -/

/-- A window monitor (R374 to R383). -/
structure Mon where
  hist    : List Bool          -- R378: last decisions, newest first | reset: []
  raw     : Bool               -- R381: comparator decision | reset: false
  event   : Bool               -- R380: latched event output | reset: false
  trip    : Bool               -- R380: latched trip output | reset: false
  code    : Nat                -- R382: last conversion | reset: 0
  time    : Option Stamp       -- R395: its time | reset: none
  discard : Nat                -- R379: conversions still to discard | reset: 0
  flag    : Bool               -- R379: discard flag of the last conversion | reset: false
  sampleAt : Option Ticks      -- R394: moment of the last periodic sample | reset: none
  convAt  : Option Ticks       -- R394: moment of the last conversion of a CONV cell or a command | reset: none
  tickAt  : Option Ticks       -- R375, R377: start of the last periodic sample or decision | reset: none
  deriving DecidableEq, Repr

/-- The VAUX switch (R402, R403). -/
inductive VauxSt where
  | off | ramp (endAt : Ticks) | on
  deriving DecidableEq, Repr

/-- MON, PG and VAUX. -/
structure Mons where
  mons     : Vector Mon 8      -- R374 | reset: see Mon
  tripped  : Vector Bool 4     -- R398: generator in the tripped state | reset: false
  coexLoss : Bool              -- R397 bit 8: COEX_GNT loss | reset: false
  vaux     : VauxSt            -- R402 | reset: off
  wanted   : Bool              -- R411: requested state of VAUX | reset: false
  runFrom  : Ticks             -- R403: first trip of the run | reset: 0
  runTrips : Nat               -- R403: trips of the run | reset: 0
  lockout  : Bool              -- R403 | reset: false
  retryAt  : Option Ticks      -- R403 | reset: none
  onOwed   : Option (Hdr × Origin × Bool) -- R402: a `DO vaux on` waits for its reply; the state wanted before it | reset: none
  warning  : Bool              -- R400: the early-warning event has been acted on and WM0's event output stands | reset: false
  tripOwed : Bool              -- R403: PG2 has tripped and the VAUX trip is not yet handled | reset: false
  gridFrom : Ticks             -- R389: the cold start, from which the period grids count | reset: 0
  excite   : Option (Ticks × Bool) -- R405: moment of the last excitation, and whether PG3 gave it | reset: none
  pg3At    : Ticks             -- R396: last trip of PG3 | reset: 0
  deriving DecidableEq, Repr

/-! ## Power (R409 to R439) -/

/-- Where the part is between power and service (R28, R31, R427 to R433, R437). -/
inductive Run where
  | unpowered | testWait | bistHalt (fails : Nat) (retryAt : Option Ticks) | running | warmReset (cause : WarmCause)
  | coldReset (cause : ColdCause)
  deriving DecidableEq, Repr

/-- PMU. -/
structure Pm where
  run      : Run               -- R427 | reset: unpowered
  power    : Power             -- R409 | reset: ACTIVE (it is read only while running)
  entering : Option (Power × Ticks) -- R414, R415: entry steps running, and the commit edge | reset: none
  exiting  : Option (Power × Ticks) -- R424: exit running from this state, and its end | reset: none
  held     : Bool              -- R424: a further wake event came during an exit | reset: false
  idleFrom : Option Ticks      -- R413: start of the present idle time | reset: none
  loftFrom : Option Ticks      -- R412: entry to LOFT | reset: none
  lineIdle : Ticks             -- R415: last character for this unit on LINE | reset: 0
  cellarAt : Option Ticks      -- R426: end of the pm.cellar.period timer | reset: none
  thenCellar : Bool            -- R412: the LARDER exit that runs leads on to the CELLAR entry steps | reset: false
  ticks    : Vector Nat 4      -- R438: residency ticks of ACTIVE, LOFT, LARDER, CELLAR, 48 bits | reset: 0
  entries  : Vector Nat 5      -- R438: entries to the five states, 48 bits | reset: 0
  ovf      : List Nat          -- R438: residency counters whose overflow bit is set (0 to 3 ticks, 4 to 8 entries) | reset: []
  savedTicks : Vector Nat 4    -- R438: stored copy | reset: 0
  savedEntries : Vector Nat 5  -- R438: stored copy | reset: 0
  crystal  : Bool              -- R430: the sleep crystal is good | reset: false
  shelfFrom : Option Ticks     -- R437: LINE high since, after the entry to SHELF | reset: none
  shelfArmed : Bool            -- R437 | reset: false
  resetAt  : Option (Ticks × StartCause) -- R427: reset edge of a reset that has been asked for, and its cause; after a cold reset's edge the earliest start | reset: none
  ioLow    : Bool              -- R29: the IO rail is at 1.8 V | reset: true
  reload   : List Item         -- R424: background reloads running after a LARDER exit | reset: []
  start    : Option StartCause -- R427: cause of the start in progress or last ended | reset: none
  deriving DecidableEq, Repr

/-! ## The store (R440 to R463) -/

/-- What the part holds of one parameter it has been given: the value in force, the stored value, a written value that
has not taken effect, and the last write's origin and time (R10, R516, R525). -/
structure PRow where
  obj     : Nat
  now     : PVal
  stored  : PVal
  pending : Option PVal
  src     : Nat
  time    : Stamp
  deriving DecidableEq, Repr

/-- A stored copy that is still in the write cache with its audit record (R116, R518), as what it replaces: a parameter's
row, a mask, the host's mark. -/
inductive Undo where
  | param (obj : Nat) (old : Option PRow)
  | mask (code : Nat) (old : Byte)
  | mark (old : Nat)
  deriving DecidableEq, Repr

/-- The physical blocks of the store (R440, R447): their erase counts, 0 where none is listed; the blocks of the pecks that
have left the block of their own number; the peck that a retired block held; reinstated blocks, and fresh spare blocks
taken. -/
structure Wear where
  counts : List (Nat × Nat)    -- R447 | reset: []
  place  : List (Nat × Nat)    -- R447 | reset: []
  was    : List (Nat × Nat)    -- R495 | reset: []
  back   : List Nat            -- R497 | reset: []
  taken  : Nat                 -- R446 | reset: 0
  deriving DecidableEq, Repr

/-- STORE: write cache, ledgers, counters of the rings. -/
structure Store where
  cache    : List CRec         -- R455: write cache, in order of arrival | reset: []
  held     : List CRec         -- R456: records waiting while a flush runs | reset: []
  heldLines : List Instr       -- R91, R518: changes that wait, in order of arrival | reset: []
  sysA     : Option Nat        -- R443: sequence of the valid copy of the system area in SELF-A | reset: 0 (DESIGN CHOICE, log 156)
  sysB     : Option Nat        -- R443: of the copy in SELF-B | reset: none (DESIGN CHOICE, log 156)
  unsaved  : List (Nat × Undo) -- R116, R456, R518: stored copies in the cache, with the sequence of the audit record each entered with | reset: []
  running  : Option (Bool × Nat) -- R455: the program running: its partition (AUDIT or not) and its records | reset: none
  ledger   : List LRec         -- R459: LEDGER ring, oldest first | reset: []
  archive  : List LRec         -- R459: ARCHIVE ring, oldest first | reset: []
  audits   : List ARec         -- R454: AUDIT ring, oldest first | reset: []
  nextSeq  : Nat               -- R448: next ledger sequence, 40 bits | reset: 1
  nextAudit : Nat              -- R452: next audit sequence, 24 bits | reset: 0
  auditCount : Nat             -- R454: records written in the present pass | reset: 0
  auditPass : Nat              -- R454: passes ended | reset: 0
  mark     : Nat               -- R462: the host's mark | reset: 0
  flush    : Option Ticks      -- R456: emergency flush running, and its latest end | reset: none
  flushOwed : Option Ticks     -- R400: a flush owed at the end of a LARDER exit, and its latest end | reset: none
  free     : Nat               -- R459: erased pecks ahead of the head | reset: 3,835
  pecks    : List Nat          -- R459: records in each full peck of LEDGER, oldest first | reset: []
  headRecs : Nat               -- R441: records in the head peck | reset: 0
  archPecks : List Nat         -- R459: records in each peck of ARCHIVE, oldest first | reset: []
  auditPecks : List Nat        -- R454: records in each full peck of AUDIT, oldest first | reset: []
  auditRecs : Nat              -- R441: records in the head peck of AUDIT | reset: 0
  auditUsed : Nat              -- R441: places used in the head peck of AUDIT | reset: 0
  freeArch : Nat               -- R459: erased pecks of ARCHIVE | reset: 3,072
  headUsed : Nat               -- R441: places used in the head peck of LEDGER, fillers included | reset: 0
  spare    : Nat               -- R440, R446: spare blocks left | reset: Config.spareBlocks
  lost     : Nat               -- R446: pecks lost for want of spare blocks | reset: 0
  moves    : List Nat          -- R445: blocks whose peck is being relocated | reset: []
  wear     : Wear              -- R447 | reset: see Wear
  ledgerTail : Nat             -- R442, R459: place of the oldest peck of LEDGER among its 3,836 | reset: 0
  archTail : Nat               -- R442, R459: place of the oldest peck of ARCHIVE among its 3,072 | reset: 0
  auditTail : Nat              -- R442, R454: place of the oldest peck of AUDIT among its 64 | reset: 0
  pushDir  : List (Eui × BitVec 64 × Nat) -- R479: endpoint, digest, sequence, newest first | reset: []
  pushUsed : Nat               -- R479: entries used in the active half | reset: 0
  pushGen  : Nat               -- R479: generation of the active half | reset: 0
  deriving DecidableEq, Repr

/-! ## Images (R464 to R485) -/

/-- The header of an image (R466). -/
structure ImgHead where
  kind    : Nat
  target  : Nat
  ver     : Nat × Nat × Nat
  counter : Nat
  payload : Nat
  pecks   : Nat
  digest  : BitVec 64
  deriving DecidableEq, Repr

/-- An image in a slot: the bytes taken, its header once complete, the pecks verified, and the verdict (R468, R470). -/
structure Img where
  len    : Nat
  bytes  : List Byte
  head   : Option ImgHead
  pecks  : Nat
  ok     : Bool
  deriving DecidableEq, Repr

/-- The download running (R467, R469). -/
structure Download where
  what  : ImageRef
  times : List Ticks
  last  : Ticks
  stalled : Bool
  deriving DecidableEq, Repr

/-- The boot selector record (R471). -/
structure BootSel where
  seq     : Nat
  activeB : Bool
  trial   : Bool
  prevOk  : Bool
  boots   : Nat
  active  : BitVec 64
  prev    : BitVec 64
  floor   : Nat
  deriving DecidableEq, Repr

/-- Self-images and the library. -/
structure Images where
  stage    : Stage             -- R476: stage of the self-image | reset: IDLE
  selfImg  : Option Img        -- R464: image in the inactive slot | reset: none
  activeVer : Nat × Nat × Nat  -- R77: version of the running image | reset: 2.4.1
  activeCtr : Nat              -- R475: its security counter | reset: 0
  prevVer  : Nat × Nat × Nat   -- R471: version of the other slot's confirmed image | reset: 0.0.0
  prevCtr  : Nat               -- R475: its security counter | reset: 0
  activeImg : Option Img       -- R464: the image in the active slot, none for the factory's | reset: none
  lastBy   : Origin            -- R89, R90: origin of the last IMAGE line that changed a stage | reset: LINE, OBSERVER, address 0
  bootA    : Option BootSel    -- R471, R472: the copy in vault peck 2, none when it is not valid | reset: SELF-A active, sequence 0, no trial
  bootB    : Option BootSel    -- R471, R472: the copy in vault peck 3 | reset: as the other
  bootOwed : Option (Ticks × BootSel) -- R472: the write of the other copy that follows a commit, and its end | reset: none
  lib      : List (Nat × Img)  -- R479: library slots that hold bytes | reset: []
  libStage : List (Nat × Stage) -- R521: stage of each library slot | reset: []
  download : Option Download   -- R467 | reset: none
  verify   : Option ImageRef   -- R470: verification running | reset: none
  confirmAt : Option Ticks     -- R475: end of the confirmation time | reset: none
  deriving DecidableEq, Repr

/-! ## Faults (R486 to R499) -/

/-- A resource that is not plainly IN SERVICE with a clean record (R486, R487): `rests` its rest count, `times` the
moments of its transient faults within the window, `until_` the end of a rest that has one, `resting` a rest that runs,
`outRuns` the calibrations of a chain out of limits in a row. -/
structure Res where
  id       : ResId
  retired  : Bool
  cause    : Nat
  rests    : Nat
  resting  : Bool
  until_   : Option Ticks
  lastFault : Ticks
  times    : List Ticks
  outRuns  : Nat
  deriving DecidableEq, Repr

/-! ## Tally (R500 to R514) -/

/-- One counter (R500), under the name of the chapters' tables. -/
structure Ctr where
  block : Block
  name  : String
  value : Nat
  ovf   : Bool
  deriving DecidableEq, Repr

/-- A snapshot (R509). -/
structure Snap where
  ctrs  : List Ctr
  since : List (Block × Stamp)
  at_   : Stamp
  deriving DecidableEq, Repr

/-- TALLY. -/
structure Tally where
  ctrs    : List Ctr           -- R500: the counters that are not 0 with a clear overflow bit | reset: []
  since   : List (Block × Stamp) -- R502: when each block was last zeroed | reset: c=0 for every block
  snap    : Option Snap        -- R509 | reset: none
  frozen  : Option (Ticks × Stamp) -- R510: freeze edge | reset: none
  peaks   : Vector Nat 6       -- R504: occupancy peaks | reset: 0
  bwFrom  : Ticks              -- R512: start of the present window | reset: 0
  bwBytes : List (Port × Nat)  -- R512: bytes in the present window | reset: []
  bwLast  : List (Port × Nat)  -- R512 | reset: []
  bwPeak  : List (Port × Nat)  -- R512 | reset: []
  deriving DecidableEq, Repr

/-! ## Parameters (R9, R515 to R518) -/

/-- What the factory fixed (R1 to R3). -/
structure Part where
  variant : Variant            -- R2 | reset: E
  eui     : Eui                -- R3 | reset: 0x1C5A030000417B2E
  deriving DecidableEq, Repr

/-- The whole machine. -/
structure State where
  pending : List Instr         -- the commands waiting, first in first out | reset: []
  now     : Ticks              -- the model's clock | reset: 0
  fresh   : Nat                -- the MODEL'S own counter: the argument of the next free value | reset: 0
  part    : Part
  params  : List PRow          -- R515: parameters that have been written, by rising object number | reset: []
  line    : Line
  wake    : Wake
  jomen   : Jomen
  radio   : Radio
  rx      : Rx
  time    : Time
  sched   : Sched
  net     : Net
  work    : Work
  roster  : Roster
  mon     : Mons
  pm      : Pm
  store   : Store
  image   : Images
  faults  : List Res           -- R486: resources resting, retired or with a record | reset: []
  tally   : Tally
  deriving DecidableEq, Repr

/-! ## Stops -/

/-- The faults of a step. There are none: the manual gives every command of the table an effect in every state, and an
error reply is a reply. -/
inductive Fault where
  deriving DecidableEq, Repr

/-- The refusals of a step. -/
inductive Refusal where
  /-- Raised by an arm of exec whose command has no meaning yet. Safe: the model stops. -/
  | notModelled (mnemonic : String)
  deriving DecidableEq, Repr

/-! ## Reset -/

/-- A wake branch before the first start. -/
def Branch.reset : Branch :=
  { st := .off, disc := 0, align := none, settleAt := none, listenFrom := 0, hold := none, nextSniff := 0, tap := false,
    det := .envelope, floor := 0 }

/-- A receive chain after a cold start (R232). -/
def Chain.reset : Chain :=
  { on := false, step := 15, stepSub := 15, step24 := 15, quiet := 0, want := none, dcSub := 0, dc24 := 0, dc := 0,
    residue := 0, filter := .wide }

/-- A free lane. -/
def Lane.reset : Lane :=
  { holder := .none, chan := 0, rate := 100, program := 0, pre := false, payload := false, payloadEnd := 0, sfdAt := 0,
    chain := .a, held := false, qa := none, qb := none, rssi := -128, sfdStep := 15, gain := false, invalid := false, badA := [],
    badB := [], counted := 0, retune := none, late := false, window := none, ack := none, badPhr := false, whiten := false }

/-- A band before its first calibration. -/
def BandCal.reset : BandCal := { tcal := 0, stale := [], due := none, used := [], drives := [] }

/-- A monitor after a cold start (R383). -/
def Mon.reset : Mon :=
  { hist := [], raw := false, event := false, trip := false, code := 0, time := none, discard := 0, flag := false,
    sampleAt := none, convAt := none, tickAt := none }

/-- LINE before the mount of the first cold start (R45, R59, R78). -/
def Line.reset : Line :=
  { isOpen := false, rate := 115200, rateAt := none, trial := none, partialLine := [], partialAt := 0, level := .observer,
    lastLine := 0, challenge := none, authFails := 0, lockout := none, address := 0, chainMark := false, solo := true,
    chainOut := false, chainInLow := false, sawNext := false, faults := [], events := [], lost := 0, stuckAt := none,
    pullup := false, deafUntilIdle := false, rollAt := none, lastErr := none, tx := [], txCc := false, txCrLf := false,
    sending := none, sendEnd := 0, afterCr := false, pushHeld := false, checkAt := 0, pulseEnd := none, highAt := none }

/-- The wake receiver before the first cold start (R161). -/
def Wake.reset : Wake :=
  { armed := false, det := .envelope, a := .reset, b := .reset, masks := [], stored := [], maskWrites := [], armOwed := [],
    seen := [], foldFlag := false, folded := false, foldWins := [], queue := [], seq := 0, low := false, sweeps := [],
    sweeping := none, blankUntil := none }

/-- No bursts; the pool of a unit as delivered (R107). -/
def Jomen.reset : Jomen :=
  { queue := [], due := [], onAir := none, airtime := [], afterWarm := [], pool := (List.range 8112).map (· + 16),
    freed := [], holders := [] }

/-- RFE in SLEEP (R177). -/
def Radio.reset : Radio :=
  { st := .sleep, band := .sub, trans := none, khz := 0, idleHeld := false, next := none, tx := none, paOn := false,
    paFrom := 0, deafFrom := none, drive := 0, drive0 := 0, target := 0, loopNext := 0, loopChip := none, limited := false, lastAlt := none, exclA := none,
    exclB := none, restsA := 0, restsB := 0, tripA := 0, tripB := 0, subCal := .reset, g24Cal := .reset,
    lastFull := 0, cal := none, taken := none, calAsked := [], synthCorr := 0, txStamp := none, temp := 0, coexReq := false, coexWait := none, yielded := none,
    coexAt := 0, coexAir := 0, coexOff := none, ahead := none, coexHi := false, granted := false, starved := 0, coexLow := true,
    coexFault := false }

/-- CHZ and the lanes at rest. -/
def Rx.reset : Rx :=
  { band := .sub, centre := 0, centre' := 0, a := .reset, b := .reset, lanes := Vector.replicate 16 .reset, buf := [], high := false,
    tapFrom := 0, capture := none, judges := [] }

/-- Counter mode, counter 0, offset 0 (R258). -/
def Time.reset : Time :=
  { counterMode := true, q := 0, cq := 0, offset := 0, rate := 0, slew := 0, sleepCorr := 0, sleepComp := 0, xoTemp := 0, upTo := 0, slews := [], saved := none,
    savedAt := 0, ask := none, fold := none, step := none, slowFrom := none, fastUntil := 0, temps := [], slot := 0,
    slotAt := 0 }

/-- The schedule of a store that holds none (R277). -/
def Sched.reset : Sched :=
  { frames := #v[100, 0, 0, 0, 0, 0, 0, 0],
    cells := [(0, { frame := 0, kind := .lane, ch := 0, hop := 0, slot := 0, offset := 0, rate := 0, lane := 0,
                    arg := 1, handle := none, n := 0 }),
              (1, { frame := 0, kind := .lane, ch := 32, hop := 0, slot := 50, offset := 0, rate := 0, lane := 1,
                    arg := 0, handle := none, n := 0 })],
    changes := [], h0 := [], h1 := [], h2 := [], maskNow := 0, rebuild := none, retired := [], pending := [],
    carry := none, active := [], run := [], notBefore := 0, bitmapOk := false }

/-- No network (R288). -/
def Net.reset : Net :=
  { st := .unsynced, started := false, waitFrom := none, waitSlots := 0, joining := none, parent := none, parentAt := 0,
    parentSlot := 0, rankPrio := 0, rankEui := 0, roundNo := 0, roundAt := 0, drawn := 0, rounds := 0, beaconCtr := 0,
    beaconSaved := 0, cache := [], peerCtrs := [], reacq := [], lost := [], holdCellar := none }

/-- No rounds, no flights (R308, R320). -/
def Work.reset : Work :=
  { round := none, rounds := [], nextRound := 0, table := [], waiting := [], nextFlight := 1, lc := [] }

/-- A unit as delivered: no network key, no library key, an empty roster (R346, R465). -/
def Roster.reset : Roster :=
  { netKey := none, libKey := none, opKey := 0, cuKey := 0, entries := [], spill := [], staged := [], full := false,
    spillFullAt := none, loaded := false, seen := [], replays := [] }

/-- Monitors cleared, generators untripped, VAUX off (R383, R433). -/
def Mons.reset : Mons :=
  { mons := Vector.replicate 8 .reset, tripped := Vector.replicate 4 false, coexLoss := false, vaux := .off,
    wanted := false, runFrom := 0, runTrips := 0, lockout := false, retryAt := none, onOwed := none, warning := false,
    tripOwed := false, gridFrom := 0, excite := none, pg3At := 0 }

/-- PMU with the part unpowered. -/
def Pm.reset : Pm :=
  { run := .unpowered, power := .active, entering := none, exiting := none, held := false, idleFrom := none,
    loftFrom := none, lineIdle := 0, cellarAt := none, thenCellar := false, ticks := Vector.replicate 4 0,
    entries := Vector.replicate 5 0, ovf := [], savedTicks := Vector.replicate 4 0,
    savedEntries := Vector.replicate 5 0, crystal := false, shelfFrom := none, shelfArmed := false, resetAt := none,
    ioLow := true, reload := [], start := none }

/-- No erase and every peck on its own block (log 148). -/
def Wear.reset : Wear := { counts := [], place := [], was := [], back := [], taken := 0 }

/-- An empty store (R448, R452, R459, R462). -/
def Store.reset : Store :=
  { cache := [], held := [], heldLines := [], sysA := some 0, sysB := none, unsaved := [], running := none, ledger := [], archive := [], audits := [],
    nextSeq := 1, nextAudit := 0, auditCount := 0, auditPass := 0, mark := 0, flush := none, flushOwed := none,
    free := 3835, pecks := [], headRecs := 0, archPecks := [], auditPecks := [], auditRecs := 0, auditUsed := 0,
    freeArch := 3072, headUsed := 0, spare := Config.spareBlocks, lost := 0, moves := [],
    wear := .reset, ledgerTail := 0, archTail := 0, auditTail := 0, pushDir := [], pushUsed := 0, pushGen := 0 }

/-- The boot selector of a unit as delivered: SELF-A active, sequence 0. -/
def BootSel.reset : BootSel :=
  { seq := 0, activeB := false, trial := false, prevOk := false, boots := 0, active := 0, prev := 0,
              floor := 0 }

/-- SELF-A runs, nothing is stored beside it (R464, R471). -/
def Images.reset : Images :=
  { stage := .idle, selfImg := none, activeVer := (2, 4, 1), activeCtr := 0, prevVer := (0, 0, 0), prevCtr := 0,
    activeImg := none, lastBy := .line .observer 0 false,
    bootA := some .reset, bootB := some .reset, bootOwed := none,
    lib := [], libStage := [], download := none, verify := none, confirmAt := none }

/-- The blocks of TALLY, in a fixed order. -/
def allBlocks : List Block :=
  [.matcher, .wur, .rfe, .time, .sched, .cc, .lanes, .mon, .pg, .store, .keeper, .line, .chz, .pmu, .tally]

/-- Counters at 0 since counter value 0 (R500, R502). -/
def Tally.reset : Tally :=
  { ctrs := [], since := allBlocks.map (fun b => (b, Stamp.c 0)), snap := none, frozen := none,
    peaks := Vector.replicate 6 0, bwFrom := 0, bwBytes := [], bwLast := [], bwPeak := [] }

/-- The part as delivered, in reset before its first cold start. -/
def State.reset : State :=
  { pending := [], now := 0, fresh := 0, part := { variant := .e, eui := 0x1C5A030000417B2E }, params := [],
    line := .reset, wake := .reset, jomen := .reset, radio := .reset, rx := .reset, time := .reset, sched := .reset,
    net := .reset, work := .reset, roster := .reset, mon := .reset, pm := .reset, store := .reset, image := .reset,
    faults := [], tally := .reset }

end Sys2Proof.Machine
end

