-- ==== Sys2Proof/Machine/Memory.lean ====
section
/-!
DEFINITION. Sys2Proof/Machine/Memory.lean: the byte memories of the matcher (armed masks R113, their stored copy R443,
the seen bitmap R166), as lists of cells in one canonical form: addresses strictly rising, and no byte 0, since an
unlisted byte reads 0 (R114, R161).
-/

namespace Sys2Proof.Machine

/-- A memory of the matcher: the cells whose byte is not 0, by rising address. -/
abbrev Mem := List Host.Cell

/-- The byte at an address: what the list gives, or 0. -/
def Mem.read : Mem → Nat → Byte
  | [], _ => 0
  | (k, v) :: m, a => if k = a then v else Mem.read m a

/-- Write a byte and keep the canonical form: writing 0 removes the cell. -/
def Mem.write : Mem → Nat → Byte → Mem
  | [], a, b => if b = 0 then [] else [(a, b)]
  | (k, v) :: m, a, b =>
    if a < k then (if b = 0 then (k, v) :: m else (a, b) :: (k, v) :: m)
    else if a = k then (if b = 0 then m else (a, b) :: m)
    else (k, v) :: Mem.write m a b

/-- The canonical form from a lower bound on the next address. -/
def Mem.wfFrom : Nat → Mem → Bool
  | _, [] => true
  | lo, (k, v) :: m => decide (lo ≤ k) && decide (v ≠ 0) && Mem.wfFrom (k + 1) m

/-- The canonical form: strictly rising addresses, no byte 0. -/
def Mem.wf (m : Mem) : Bool := Mem.wfFrom 0 m

/-- Write every cell of a list. -/
def Mem.writeAll (m : Mem) (cells : List Host.Cell) : Mem := cells.foldl (fun m c => Mem.write m c.1 c.2) m

/-- OR every cell of a list into the memory (R167: bits given back). -/
def Mem.orAll (m : Mem) (cells : List Host.Cell) : Mem :=
  cells.foldl (fun m c => Mem.write m c.1 (Mem.read m c.1 ||| c.2)) m

end Sys2Proof.Machine
end

