-- ==== Sys2Proof/Machine/Params.lean ====
section
/-!
DEFINITION. Sys2Proof/Machine/Params.lean: the parameter cards (R9, R515), by object number, and how a parameter is
read, checked, written and brought into force (R9, R10, R516, R517).
-/

namespace Sys2Proof

/-- A value as a number. -/
def PVal.toInt : PVal → Int
  | .int i => i
  | .text _ => 0

end Sys2Proof

namespace Sys2Proof.Machine

/-! ## The three text forms -/

/-- The mask that a text names: 0x and hexadecimal digits (R282). -/
def PVal.mask? : PVal → Option Nat
  | .text (0x30 :: 0x78 :: l) => digits 16 l
  | _ => none

/-- The codes that a text names: numbers separated by commas, or `none` (R361). -/
def PVal.groups? : PVal → Option (List Nat)
  | .text l => if l = [0x6E, 0x6F, 0x6E, 0x65] then some [] else (commaFrom [] l).mapM number
  | .int _ => none

/-- The filter that a text names: `k/n` (R390). -/
def PVal.filter? : PVal → Option (Nat × Nat)
  | .text l =>
    match number (l.takeWhile (· != 0x2F)), number ((l.dropWhile (· != 0x2F)).drop 1) with
    | some k, some n => some (k, n)
    | _, _ => none
  | .int _ => none

/-- When a written value takes effect: the cards' "Takes effect" rows. -/
inductive Trigger where
  | atOnce | lineRate | nextLine | nextSlot | nextRound | nextStart | rebuild | monitor (n : Nat) | sense
  | assignment | burst | sniff | counterRise | fold | sweepArm | temperature | frame | transmission
  | coexRequest | coexTimer | guard | beaconSent | waitEnd | candidacy | parentBeacon | failedAttempt | send | join
  | admission | flood | floodOrigin | vauxOn | timerCompare | idlePeriod | loftEntry | larderEntry | cellarEntry
  | record | ledgerPeck | trialStart | hourly
  deriving DecidableEq, Repr

/-- The types of R9; the three text cards by what their text names. -/
inductive PKind where
  | uint | int | bool | enum (words : List String) | mask | groups | filt
  deriving DecidableEq, Repr

/-- A parameter card (R9). `hex` is the number of hexadecimal digits of R516, 0 for decimal. -/
structure Card where
  name  : String
  kind  : PKind
  lo    : Int
  hi    : Int
  dflt  : Part → PVal
  level : Level
  eff   : Trigger
  hex   : Nat

/-- A `uint` card. -/
def cU (name : String) (lo hi d : Int) (l : Level) (e : Trigger) : Card :=
  { name := name, kind := .uint, lo := lo, hi := hi, dflt := fun _ => .int d, level := l, eff := e, hex := 0 }

/-- An `int` card. -/
def cI (name : String) (lo hi d : Int) (l : Level) (e : Trigger) : Card :=
  { name := name, kind := .int, lo := lo, hi := hi, dflt := fun _ => .int d, level := l, eff := e, hex := 0 }

/-- A `uint` card whose range is written in hexadecimal. -/
def cX (name : String) (lo hi d : Int) (l : Level) (e : Trigger) (digits : Nat) : Card :=
  { name := name, kind := .uint, lo := lo, hi := hi, dflt := fun _ => .int d, level := l, eff := e, hex := digits }

/-- A `bool` card. -/
def cB (name : String) (d : Int) (l : Level) (e : Trigger) : Card :=
  { name := name, kind := .bool, lo := 0, hi := 1, dflt := fun _ => .int d, level := l, eff := e, hex := 0 }

/-- An `enum` card: values are positions in the range (R453). -/
def cE (name : String) (words : List String) (d : Int) (l : Level) (e : Trigger) : Card :=
  { name := name, kind := .enum words, lo := 0, hi := (words.length : Int) - 1, dflt := fun _ => .int d, level := l,
    eff := e, hex := 0 }

/-- The crate-band channels of the plan (R220). -/
def planChannels : Variant → List Nat
  | .e => List.range 32 ++ [34]
  | .n => List.range 64 ++ (List.range 62).map (· + 67)

/-- A set of channels as a mask: bit k for channel k (R282). -/
def maskOf (l : List Nat) : Nat := l.foldl (fun m k => m ||| 2 ^ k) 0

/-- The mask of the whole plan: the default of `hop.mask.sub` (R282). -/
def planMask (v : Variant) : Nat := maskOf (planChannels v)

/-- The inputs of R373 and their positions. -/
def monInputs : List String := ["vbat", "vauxcur", "sense", "temp", "pafwd", "parefl", "xoamp", "enva"]

/-- The defaults of R393: input, mode, lo, hi, period, filter, latch, trip. Modes are positions in
off, sampled, continuous, tx; latches in none, period, command; trips in raw, filt. -/
def monDefault : Nat → Int × Int × Int × Int × Int × (Nat × Nat) × Int × Int
  | 0 => (0, 2, 400, 1023, 32, (3, 4), 1, 1)
  | 1 => (1, 2, 0, 720, 32, (1, 1), 1, 0)
  | 2 => (5, 3, 120, 1023, 1, (1, 1), 1, 0)
  | _ => (2, 0, 0, 1023, 32768, (1, 1), 0, 1)

/-- Cards 1 to 58 (R29 to R372). -/
def cardsA : List Card :=
  [ cE "io.rail" ["3v0", "1v8"] 0 .custodian .nextStart,
    cU "line.rate" 9600 1000000 115200 .operator .lineRate,
    cB "line.pullup" 1 .operator .atOnce,
    cB "line.host.vaux" 0 .custodian .atOnce,
    cE "line.mode" ["typed", "generated"] 0 .operator .nextLine,
    cE "line.events" ["poll", "push"] 0 .operator .atOnce,
    cU "line.session.idle" 10 3600 600 .custodian .nextLine,
    { name := "jomen.sync", kind := .uint, lo := 0, hi := 63, dflt := fun p => .int (p.eui.toNat % 64 : Nat),
      level := .custodian, eff := .atOnce, hex := 0 },
    cU "jomen.sync.errors" 0 1 1 .operator .atOnce,
    cU "jomen.correct" 0 3 3 .operator .atOnce,
    cU "jomen.group.count" 1 1024 64 .custodian .nextStart,
    cX "jomen.arm.endpoint" 0 0xFF 0xFE .operator .assignment 2,
    cE "jomen.tx.rate" ["8192", "32768"] 0 .operator .burst,
    cI "jomen.tx.power" (-10) 22 22 .operator .burst,
    cU "jomen.tx.repeat" 1 64 1 .operator .burst,
    cU "jomen.tx.duty" 1 1000 100 .custodian .burst,
    cE "wur.detector" ["envelope", "superregen", "direct"] 0 .operator .atOnce,
    cE "wur.branches" ["ab", "a", "b"] 0 .operator .atOnce,
    cU "wur.direct.sniff" 1 12 3 .operator .sniff,
    cU "wur.disc.window" 1 255 32 .operator .atOnce,
    cU "wur.branch.limit" 1 255 16 .operator .counterRise,
    cX "wur.sweep.mask" 0 0xFF 0xFC .operator .fold 2,
    cU "wur.sweep.delay" 100 60000 1000 .operator .sweepArm ]
  ++
  [ cU "radio.cal.dtemp" 2 30 8 .operator .temperature,
    { name := "radio.tx.power.sub", kind := .int, lo := -40, hi := 88,
      dflt := fun p => match p.variant with | .e => .int 56 | .n => .int 88,
      level := .operator, eff := .frame, hex := 0 },
    cI "radio.tx.power.2g4" (-80) 40 40 .operator .frame,
    cE "radio.tx.ant" ["a", "b", "last", "alt"] 2 .operator .transmission,
    cE "coex.enable" ["off", "sub", "2g4", "both"] 0 .operator .transmission,
    cU "coex.lead" 50 500 100 .operator .coexRequest,
    cU "coex.hi.prio" 0 8 6 .operator .coexRequest,
    cU "coex.starve" 1 600 10 .operator .coexTimer,
    cB "coex.override_hi" 0 .custodian .atOnce,
    cE "rx.chains" ["ab", "a", "b"] 0 .operator .nextSlot,
    cE "rx.filter" ["auto", "wide"] 0 .operator .nextSlot,
    cE "phy.rate" ["50", "100", "200"] 1 .operator .nextSlot,
    cU "phy.sfd" 0 1 0 .custodian .nextSlot,
    cU "phy.preamble" 4 32 8 .operator .frame,
    cB "phy.whiten" 1 .operator .frame,
    cE "slot.length" ["5", "10", "20"] 1 .custodian .nextStart,
    cX "hop.seed" 1 0xFFFFFFFF 1 .custodian .nextStart 8,
    { name := "hop.mask.sub", kind := .mask, lo := 0, hi := 0,
      dflt := fun p => .text (0x30 :: 0x78 :: hexBytes 33 (planMask p.variant)),
      level := .custodian, eff := .rebuild, hex := 0 },
    cU "guard.drift.default" 2 200 40 .operator .guard ]
  ++
  [ cU "net.rank" 0 255 128 .custodian .beaconSent,
    cB "net.root" 1 .custodian .waitEnd,
    cU "net.start.rounds" 2 32 8 .custodian .candidacy,
    cU "time.slew.max" 1 200 50 .operator .parentBeacon,
    cU "rx.buf.high" 50 95 75 .operator .atOnce,
    cU "round.q.start" 4 15 10 .operator .nextRound,
    cU "round.max" 10 65535 1000 .operator .nextRound,
    cU "flight.tries" 1 64 8 .operator .failedAttempt,
    cU "flight.deadline" 10 1000000 6000 .operator .send,
    cU "peer.fail.limit" 2 255 12 .operator .failedAttempt,
    cE "sec.mic" ["4", "8", "16"] 0 .custodian .frame,
    cB "roster.join" 0 .operator .join,
    { name := "roster.join.groups", kind := .groups, lo := 0, hi := 0, dflt := fun _ => .text [0x6E, 0x6F, 0x6E, 0x65],
      level := .operator, eff := .admission, hex := 0 },
    cB "relay.flood" 1 .operator .atOnce,
    cX "relay.classes" 0 0x98 0x98 .operator .flood 2,
    cU "relay.hops" 0 15 4 .operator .floodOrigin ]

/-- Cards 59 to 130: the eight monitors (R384 to R393). -/
def cardsWm : List Card :=
  (List.range 8).map (fun n =>
    cE ("wm." ++ toString n ++ ".input") monInputs (monDefault n).1 .operator (.monitor n))
  ++ (List.range 8).map (fun n =>
    cE ("wm." ++ toString n ++ ".mode") ["off", "sampled", "continuous", "tx"] (monDefault n).2.1 .operator
      (.monitor n))
  ++ (List.range 8).map (fun n =>
    cU ("wm." ++ toString n ++ ".lo") 0 1023 (monDefault n).2.2.1 .operator (.monitor n))
  ++ (List.range 8).map (fun n =>
    cU ("wm." ++ toString n ++ ".hi") 0 1023 (monDefault n).2.2.2.1 .operator (.monitor n))
  ++ (List.range 8).map (fun n => cE ("wm." ++ toString n ++ ".sense") ["out", "in"] 0 .operator (.monitor n))
  ++ (List.range 8).map (fun n =>
    cU ("wm." ++ toString n ++ ".period") 1 65535 (monDefault n).2.2.2.2.1 .operator (.monitor n))
  ++ (List.range 8).map (fun n =>
    { name := "wm." ++ toString n ++ ".filter", kind := .filt, lo := 0, hi := 0,
      dflt := fun _ => .text [hexByte (monDefault n).2.2.2.2.2.1.1, 0x2F, hexByte (monDefault n).2.2.2.2.2.1.2],
      level := .operator, eff := .monitor n, hex := 0 })
  ++ (List.range 8).map (fun n =>
    cE ("wm." ++ toString n ++ ".latch") ["none", "period", "command"] (monDefault n).2.2.2.2.2.2.1 .operator
      (.monitor n))
  ++ (List.range 8).map (fun n =>
    cE ("wm." ++ toString n ++ ".trip") ["raw", "filt"] (monDefault n).2.2.2.2.2.2.2 .operator (.monitor n))

/-- The default trip masks (R397). -/
def pgDefault : Nat → Int
  | 0 => 0x305
  | 1 => 0x305
  | 2 => 0x202
  | _ => 0x200

/-- Cards 131 to 168 (R397 to R514). -/
def cardsB : List Card :=
  (List.range 4).map (fun n => cX ("pg." ++ toString n ++ ".mask") 0x200 0x3FF (pgDefault n) .custodian .atOnce 3)
  ++
  [ cU "vaux.ramp" 1 20 5 .operator .vauxOn,
    cB "sense.excite" 0 .operator .sense,
    cU "sense.drive" 2 1000 20 .operator .sense,
    cU "sense.delay" 0 10000 500 .operator .sense,
    cE "pm.floor" ["active", "loft", "larder", "cellar"] 3 .operator .timerCompare,
    cU "pm.idle.loft" 1 1000 2 .operator .idlePeriod,
    cU "pm.idle.larder" 50 60000 500 .operator .loftEntry,
    cU "pm.idle.cellar" 1 86400 60 .operator .timerCompare,
    cX "pm.larder.bins" 0x03C000 0xFFFFFF 0x07FFFF .operator .larderEntry 6,
    cU "pm.cellar.period" 0 86400 0 .operator .cellarEntry,
    cE "vaux.default" ["off", "on"] 0 .custodian .nextStart,
    cE "vaux.policy" ["manual", "wake"] 0 .operator .atOnce,
    cU "store.flush.age" 10 10000 1000 .operator .record,
    cB "store.archive" 0 .custodian .ledgerPeck,
    cU "image.confirm" 1 1440 10 .custodian .trialStart,
    cU "peer.retire.after" 0 8760 0 .custodian .hourly ]
  ++ (List.range 8).map (fun n =>
    cE ("tally.occ." ++ toString n ++ ".src") ["off", "rxbuf", "flights", "waiting", "storeq", "lanes", "wakeq"] 0
      .operator .atOnce)
  ++ (List.range 8).map (fun n => cU ("tally.occ." ++ toString n ++ ".above") 0 1024 0 .operator .atOnce)
  ++ [ cU "tally.bw.window" 1 60000 1000 .operator .atOnce, cB "tally.open" 0 .custodian .nextLine ]

/-- Every card, the card of object `k` at place `k - 1` (R515). -/
def cards : List Card := cardsA ++ cardsWm ++ cardsB

/-- The card of an object number, none for a number that names no parameter. -/
def cardOf (obj : Nat) : Option Card := if obj = 0 then none else cards[obj - 1]?

/-! ## Object numbers -/

namespace Obj
abbrev ioRail := 1
abbrev lineRate := 2
abbrev linePullup := 3
abbrev lineHostVaux := 4
abbrev lineMode := 5
abbrev lineEvents := 6
abbrev sessionIdle := 7
abbrev sync := 8
abbrev syncErrors := 9
abbrev correct := 10
abbrev groupCount := 11
abbrev armEndpoint := 12
abbrev txRate := 13
abbrev txPower := 14
abbrev txRepeat := 15
abbrev txDuty := 16
abbrev detector := 17
abbrev branches := 18
abbrev sniff := 19
abbrev discWindow := 20
abbrev branchLimit := 21
abbrev sweepMask := 22
abbrev sweepDelay := 23
abbrev calDtemp := 24
abbrev powerSub := 25
abbrev power24 := 26
abbrev txAnt := 27
abbrev coexEnable := 28
abbrev coexLead := 29
abbrev coexHiPrio := 30
abbrev coexStarve := 31
abbrev coexOverride := 32
abbrev rxChains := 33
abbrev rxFilter := 34
abbrev phyRate := 35
abbrev phySfd := 36
abbrev phyPreamble := 37
abbrev phyWhiten := 38
abbrev slotLength := 39
abbrev hopSeed := 40
abbrev hopMask := 41
abbrev driftDefault := 42
abbrev netRank := 43
abbrev netRoot := 44
abbrev startRounds := 45
abbrev slewMax := 46
abbrev bufHigh := 47
abbrev qStart := 48
abbrev roundMax := 49
abbrev flightTries := 50
abbrev flightDeadline := 51
abbrev failLimit := 52
abbrev secMic := 53
abbrev rosterJoin := 54
abbrev joinGroups := 55
abbrev relayFlood := 56
abbrev relayClasses := 57
abbrev relayHops := 58
abbrev wmInput := 59
abbrev wmMode := 67
abbrev wmLo := 75
abbrev wmHi := 83
abbrev wmSense := 91
abbrev wmPeriod := 99
abbrev wmFilter := 107
abbrev wmLatch := 115
abbrev wmTrip := 123
abbrev pgMask := 131
abbrev vauxRamp := 135
abbrev senseExcite := 136
abbrev senseDrive := 137
abbrev senseDelay := 138
abbrev pmFloor := 139
abbrev idleLoft := 140
abbrev idleLarder := 141
abbrev idleCellar := 142
abbrev larderBins := 143
abbrev cellarPeriod := 144
abbrev vauxDefault := 145
abbrev vauxPolicy := 146
abbrev flushAge := 147
abbrev archive := 148
abbrev imageConfirm := 149
abbrev retireAfter := 150
abbrev occSrc := 151
abbrev occAbove := 159
abbrev bwWindow := 167
abbrev tallyOpen := 168
end Obj

/-! ## Reading -/

/-- The row of a parameter that has been written. -/
def State.prow (s : State) (obj : Nat) : Option PRow := s.params.find? (fun r => r.obj == obj)

/-- A card's default on this part (R9). -/
def State.pdefault (s : State) (obj : Nat) : PVal :=
  match cardOf obj with
  | some c => c.dflt s.part
  | none => .int 0

/-- The value in force (R516). -/
def State.pval (s : State) (obj : Nat) : PVal :=
  match s.prow obj with
  | some r => r.now
  | none => s.pdefault obj

/-- The pending value, if a written value has not taken effect (R516). -/
def State.pnext (s : State) (obj : Nat) : Option PVal := (s.prow obj).bind PRow.pending

/-- The last written value, in force or not (R374). -/
def State.plast (s : State) (obj : Nat) : PVal := (s.pnext obj).getD (s.pval obj)

/-- The value in force of a numeric parameter. -/
def State.pint (s : State) (obj : Nat) : Int := (s.pval obj).toInt

/-- The value in force of a numeric parameter that is never negative. -/
def State.pnat (s : State) (obj : Nat) : Nat := (s.pint obj).toNat

/-! ## The group range (R103, R106, R108) -/

/-- The size of the group range that counts while a value may be pending: the smaller of the two (R106, R108). -/
def State.groupCount (s : State) : Nat :=
  match s.pnext Obj.groupCount with
  | some v => min (s.pnat Obj.groupCount) v.toInt.toNat
  | none => s.pnat Obj.groupCount

/-- A code of the group range, the all-call code left out (R108). -/
def State.isGroup (s : State) (code : Int) : Bool :=
  decide ((8192 - s.groupCount : Nat) ≤ code) && decide (code ≤ 8190)

/-- Whether a value can be written to a parameter: the ranges of the cards, and the cross checks of R374. -/
def State.rangeOk (s : State) (obj : Nat) (v : PVal) : Bool :=
  match cardOf obj with
  | none => false
  | some c =>
    match c.kind, v with
    | .mask, _ =>
      match PVal.mask? v with
      | some m =>
        let enabled := (List.range 129).filter (fun k => m.testBit k)
        m < 2 ^ 129 && enabled.all (fun k => (planChannels s.part.variant).contains k) && 4 ≤ enabled.length
      | none => false
    | .groups, _ =>
      match PVal.groups? v with
      | some l => l.length ≤ 3 && l.all (fun (g : Nat) => s.isGroup g)
      | none => false
    | .filt, _ =>
      match PVal.filter? v with
      | some (k, n) => 1 ≤ n && n ≤ 7 && 1 ≤ k && k ≤ n
      | none => false
    | _, .int i =>
      decide (c.lo ≤ i) && decide (i ≤ c.hi)
        && (obj != Obj.relayClasses || i.toNat &&& 0x98 == i.toNat)
        && (obj != Obj.larderBins || i.toNat &&& 0x03C000 == 0x03C000)
        && (obj != Obj.wmInput || i == 0)
        && (obj != Obj.wmMode || i == 2)
        && (obj != Obj.wmLo || (decide (368 ≤ i) && decide (i ≤ 800)))
        && (!(Obj.wmLo ≤ obj && obj < Obj.wmLo + 8) || decide (i ≤ (s.plast (obj + 8)).toInt))
        && (!(Obj.wmHi ≤ obj && obj < Obj.wmHi + 8) || decide ((s.plast (obj - 8)).toInt ≤ i))
    | _, _ => false

/-! ## Writing -/

/-- Put a parameter's row in its place, by rising object number. -/
def putRow (r : PRow) : List PRow → List PRow
  | [] => [r]
  | x :: xs => if r.obj < x.obj then r :: x :: xs else if x.obj = r.obj then r :: xs else x :: putRow r xs

/-- Bring the pending value of a row into force. -/
def PRow.settle (r : PRow) : PRow :=
  match r.pending with
  | some v => { r with now := v, pending := none }
  | none => r

/-- Bring into force every pending value whose card takes effect at a trigger (R9, R516). -/
def State.fire (tr : Trigger) (s : State) : State :=
  { s with params := s.params.map (fun r => if (cardOf r.obj).map Card.eff = some tr then r.settle else r) }

/-- Every stored value comes into force: a cold start (R10). -/
def State.fireAll (s : State) : State :=
  { s with params := s.params.map (fun r => { r with now := r.stored, pending := none }) }

/-- Whether a value written to a parameter is in force when its reply is sent (R383: a monitor in mode `off` takes a
write at once; a card that waits for the next record is served by the audit record of the SET itself, log 48; the value
already in force has nothing to wait for, R517). -/
def State.takesNow (s : State) (obj : Nat) (v : PVal) : Bool :=
  match (cardOf obj).map Card.eff with
  | some .atOnce => true
  | some .record => true
  | some (.monitor n) => s.pint (Obj.wmMode + n) == 0 || s.pval obj == v
  | some _ => s.pval obj == v
  | none => false

/-- Write a parameter: the stored copy, and the value in force or the pending value; the new value replaces any value
still pending (R517). -/
def State.writeParam (obj : Nat) (v : PVal) (src : Nat) (time : Stamp) (s : State) : State :=
  let row : PRow :=
    { obj := obj, now := if s.takesNow obj v then v else s.pval obj, stored := v,
      pending := if s.takesNow obj v then none else some v, src := src, time := time }
  { s with params := putRow row s.params }

end Sys2Proof.Machine
end

