-- ==== Sys2Proof/Machine/Text.lean ====
section
/-!
DEFINITION. Sys2Proof/Machine/Text.lean: the text of event lines (R12, R13, R526, R527), which EVENT records hold, and
the byte maps of ledger and audit records (R448 to R452, R483).
-/

namespace Sys2Proof.Machine

/-! ## Text -/

/-- An upper-case hexadecimal digit (R52). -/
def hexDigit (n : Nat) : Char :=
  ['0', '1', '2', '3', '4', '5', '6', '7', '8', '9', 'A', 'B', 'C', 'D', 'E', 'F'].getD (n % 16) '0'

/-- `n` hexadecimal digits of a number, most significant first. -/
def hexDigits : Nat → Nat → List Char
  | 0, _ => []
  | n + 1, v => hexDigits n (v / 16) ++ [hexDigit v]

/-- Decimal digits on a given number of places, padded with zeros. -/
def decPad : Nat → Nat → List Char
  | 0, _ => []
  | n + 1, v => decPad n (v / 10) ++ [hexDigit (v % 10)]

/-- A decimal number. -/
def dec (n : Nat) : String := toString n

/-- A signed decimal number (R52). -/
def decInt (i : Int) : String := if i < 0 then "-" ++ toString i.natAbs else toString i.natAbs

/-- A time in the R12 or R13 form. -/
def Stamp.text : Stamp → String
  | .t s n => "t=" ++ dec s ++ "." ++ String.ofList (decPad 9 n)
  | .c c => "c=" ++ String.ofList (hexDigits 16 c)

/-- An EUI or ID in four groups of four digits (R526). -/
def Eui.text (e : Eui) : String :=
  String.ofList (hexDigits 4 (e.toNat / 2 ^ 48)) ++ "-" ++ String.ofList (hexDigits 4 (e.toNat / 2 ^ 32)) ++ "-"
    ++ String.ofList (hexDigits 4 (e.toNat / 2 ^ 16)) ++ "-" ++ String.ofList (hexDigits 4 e.toNat)

/-- A handle as `index:epoch` (R351, R526). -/
def handleText (h : Handle) : String := dec h.index ++ ":" ++ dec h.epoch

/-- A handle as 16 bits: index in bits 0 to 12, epoch in bits 13 to 15 (R320, R350). -/
def handleBits (h : Handle) : Nat := h.index % 8192 + 8192 * (h.epoch % 8)

/-- The handle that 16 bits hold (R495). -/
def handleOf (n : Nat) : Handle := { index := n % 8192, epoch := n / 8192 % 8 }

/-- `a` or `b` (R495). -/
def Side.text (n : Nat) : String := if n = 0 then "a" else "b"

/-- The kind of a resource as it is written (R495). -/
def kindText : ResKind → String
  | .chan => "chan"
  | .bb => "bb"
  | .branch => "branch"
  | .lane => "lane"
  | .chain => "chain"
  | .block => "block"
  | .peer => "peer"

/-- A resource as it is written (R495). -/
def resText (r : ResId) : String :=
  kindText r.kind ++ " " ++
    match r.kind with
    | .branch => Side.text r.num
    | .chain => Side.text r.num
    | .peer => handleText (handleOf r.num)
    | _ => dec r.num

/-- Flight outcomes as they are written (R328). -/
def outcomeText : Outcome → String
  | .done => "DONE"
  | .tries => "TRIES"
  | .deadline => "DEADLINE"
  | .unreach => "UNREACH"
  | .cancel => "CANCEL"
  | .flood => "FLOOD"
  | .unknown => "UNKNOWN"

/-- The names of the checked items (R528). The wake queue and the seen bitmap are one row of the table. -/
def itemText : Item → String
  | .keep => "keep"
  | .map => "map"
  | .ptr => "ptr"
  | .masks => "masks"
  | .wakeq => "wakeq"
  | .seen => "wakeq"
  | .roster => "roster"
  | .flights => "flights"
  | .sched => "sched"
  | .rxbuf => "rxbuf"
  | .cache => "cache"
  | .events => "events"
  | .cal => "cal"

/-- Kind and cause of a start (R528). -/
def causeText : StartCause → String
  | .cold .power => "cold power"
  | .cold .brownout => "cold brownout"
  | .cold .shelf => "cold shelf"
  | .cold .cold => "cold cold"
  | .cold .bist => "cold bist"
  | .warm .watchdog => "warm watchdog"
  | .warm .warm => "warm warm"
  | .warm .activate => "warm activate"
  | .warm .trial => "warm trial"

/-- The error replies as they are written (R522). -/
def errText : Err → String
  | .syntaxErr => "!SYNTAX"
  | .verb => "!VERB"
  | .object => "!OBJECT"
  | .range => "!RANGE"
  | .check => "!CHECK"
  | .long => "!LONG"
  | .priv => "!PRIV"
  | .auth => "!AUTH"
  | .state => "!STATE"
  | .chain => "!CHAIN"
  | .busy => "!BUSY"
  | .unreach => "!UNREACH"
  | .handle => "!HANDLE"
  | .duty => "!DUTY"
  | .trip => "!TRIP"
  | .fault => "!FAULT"
  | .order => "!ORDER"
  | .format => "!FORMAT"
  | .hash => "!HASH"
  | .sign => "!SIGN"
  | .version => "!VERSION"

/-- The numbers of the errors (R522). -/
def errNum : Err → Nat
  | .syntaxErr => 1
  | .verb => 2
  | .object => 3
  | .range => 4
  | .check => 5
  | .long => 6
  | .priv => 7
  | .auth => 8
  | .state => 9
  | .chain => 10
  | .busy => 11
  | .unreach => 12
  | .handle => 13
  | .duty => 14
  | .trip => 15
  | .fault => 16
  | .order => 17
  | .format => 18
  | .hash => 19
  | .sign => 20
  | .version => 21

/-- Network states as `~NETSTATE` and `net=` write them (R263, R288). -/
def netText : NetState → String
  | .unsynced => "UNSYNCED"
  | .candidate => "CANDIDATE"
  | .member => "MEMBER"
  | .holdover => "HOLDOVER"
  | .root => "ROOT"

/-- Words separated by single spaces. -/
def spaced (l : List String) : String := String.intercalate " " l

/-- The name of an event line (R527). -/
def evName : Ev → String
  | .admitted _ _ => "ADMIT"
  | .bufHigh => "BUFHIGH"
  | .bufOk => "BUFOK"
  | .burst _ _ _ => "BURST"
  | .capture _ _ => "CAPTURE"
  | .chanBad _ => "CHANBAD"
  | .coexStarve => "COEXSTARVE"
  | .coexUp => "COEXUP"
  | .faultFloor _ => "FAULTFLOOR"
  | .flight _ _ => "FLIGHT"
  | .fold _ => "FOLD"
  | .image _ _ => "IMAGE"
  | .imageStall _ => "IMAGESTALL"
  | .lastChance _ _ _ => "LASTCHANCE"
  | .ledgerLoss _ => "LEDGERLOSS"
  | .lineFault _ => "LINEFAULT"
  | .lineUp _ => "LINEUP"
  | .netState _ => "NETSTATE"
  | .noCode _ => "NOCODE"
  | .peerLost _ => "PEERLOST"
  | .peerUp _ => "PEERUP"
  | .rate _ => "RATE"
  | .reach _ => "REACH"
  | .reinstate _ => "REINSTATE"
  | .rest _ _ => "REST"
  | .retire _ _ => "RETIRE"
  | .rosterFull => "ROSTERFULL"
  | .rosterOk => "ROSTEROK"
  | .round _ _ _ _ _ _ _ => "ROUND"
  | .spillFull => "SPILLFULL"
  | .start _ _ => "START"
  | .storeLow _ => "STORELOW"
  | .sweep _ _ => "SWEEP"
  | .timeMode _ => "TIMEMODE"
  | .timeStep _ => "TIMESTEP"
  | .unreach _ => "UNREACH"
  | .vauxOff => "VAUXOFF"
  | .vauxTrip _ => "VAUXTRIP"
  | .wm _ _ _ => "WM"

/-- The fields of an event line after its time (R526, R527). -/
def evFields : Ev → List String
  | .admitted h id => [handleText h, Eui.text id]
  | .bufHigh => []
  | .bufOk => []
  | .burst c r e => [dec c, dec r, match e with | .sent => "sent" | .cut => "cut" | .dropped => "dropped"]
  | .capture t n => [Stamp.text t, dec n]
  | .chanBad ch => [dec ch]
  | .coexStarve => []
  | .coexUp => []
  | .faultFloor r => [resText r]
  | .flight id o => [dec id, outcomeText o]
  | .fold r => ["r=" ++ dec r]
  | .image e w =>
    let ws := match w with | .self => "self" | .lib s => "lib " ++ dec s
    match e with
    | .verified => ["verified", ws]
    | .failed err => ["failed", ws, errText err]
    | .reverted => ["reverted", ws]
  | .imageStall n => [dec n]
  | .lastChance id i r => [dec id, dec i, match r with | .ok => "ok" | .noAnswer => "noanswer" | .noAck => "noack"]
  | .ledgerLoss n => [dec n]
  | .lineFault k => [match k with | .stuck => "stuck" | .chainin => "chainin" | .mark => "mark"]
  | .lineUp n => [dec n]
  | .netState st => [netText st]
  | .noCode h => [handleText h]
  | .peerLost h => [handleText h]
  | .peerUp h => [handleText h]
  | .rate n => [dec n]
  | .reach h => [handleText h]
  | .reinstate r => [resText r]
  | .rest r n => [resText r, dec n]
  | .retire r c => [resText r, dec c]
  | .rosterFull => []
  | .rosterOk => []
  | .round id code r s rec rep d => [dec id, dec code, dec r, dec s, dec rec, dec rep, dec d]
  | .spillFull => []
  | .start c items =>
    [causeText c, match items with | [] => "-" | l => String.intercalate "," (l.map itemText).eraseDups]
  | .storeLow n => [dec n]
  | .sweep r n => ["r=" ++ dec r, "n=" ++ dec n]
  | .timeMode c => [if c then "counter" else "normal"]
  | .timeStep ns => [decInt ns]
  | .unreach h => [handleText h]
  | .vauxOff => []
  | .vauxTrip c => [dec c]
  | .wm n a c => [dec n, if a then "act" else "clr", dec c]

/-- An event line as text, without the `~` (R65, R449). -/
def EvLine.text (e : EvLine) : String := spaced (evName e.ev :: Stamp.text e.time :: evFields e.ev)

/-- A text as its octets. -/
def asciiBytes (s : String) : List Byte := s.toList.map (fun c => BitVec.ofNat 8 c.toNat)

/-! ## Byte maps of records -/

/-- `n` octets: the list, cut or padded with zeros. -/
def padTo (n : Nat) (l : List Byte) : List Byte := (l ++ List.replicate (n - l.length) 0).take n

/-- A signed number as `n` little-endian octets, two's complement. -/
def leInt (n : Nat) (i : Int) : List Byte := leBytes n (i % (2 ^ (8 * n) : Nat)).toNat

/-- The time bytes of a record header: bytes 6 to 15 of R448. -/
def stampBytes : Stamp → List Byte
  | .t s n => leBytes 6 s ++ leBytes 4 n
  | .c c => leBytes 8 c ++ leBytes 2 0

/-- The time mode bit. -/
def stampMode : Stamp → Nat
  | .t _ _ => 0
  | .c _ => 1

/-- The 4-bit code of a frame kind (R340). -/
def kindCode : FrameKind → Nat
  | .data => 0
  | .ack => 1
  | .beacon => 2
  | .start => 3
  | .call => 4
  | .reply => 5
  | .answer => 6
  | .flood => 7
  | .join => 8
  | .admission => 9
  | .probe => 10
  | .reserved c => c

/-- The code of a detector (R158). -/
def detCode : WakeDet → Nat
  | .envelope => 0
  | .superregen => 1
  | .direct => 2
  | .tap => 3

/-- A bit as a number. -/
def bit (b : Bool) : Nat := if b then 1 else 0

/-- The 24 bytes of a wake record (R158). -/
def WakeRec.bytes (r : WakeRec) : List Byte :=
  leBytes 2 r.seq.toNat ++ leBytes 2 (jomenMsg r.code r.reason)
    ++ leBytes 1 (bit r.aNamed + 2 * bit r.bNamed + 4 * (match r.first with | .a => 0 | .b => 1) + 8 * bit r.agreed
      + 16 * stampMode r.stamp + 32 * bit r.isOpen + 64 * detCode r.det)
    ++ leBytes 1 (r.errors + 4 * r.syncErr) ++ leBytes 1 r.skew ++ leBytes 1 r.repeats
    ++ leInt 1 r.rssiA ++ leInt 1 r.rssiB ++ leBytes 1 r.syncIdx ++ leBytes 1 0
    ++ padTo 12 (match r.stamp with
        | .t s n => leBytes 6 s ++ leBytes 4 n
        | .c c => leBytes 8 c)

/-- The rate code of R450. -/
def rateCode (r : Nat) : Nat := if r = 50 then 0 else if r = 100 then 1 else if r = 200 then 2 else 3

/-- A quality figure as 16 bits, −512 if not measured (R450). -/
def qualBytes (q : Option Int) : List Byte := leInt 2 (q.getD (-512))

/-- Bytes 16 to 59 of a SIGHTING record (R450): payload bytes 0 to 17. -/
def Sighting.bytes (b : Sighting) : List Byte :=
  leBytes 8 b.id.toNat ++ leBytes 2 ((b.handle.map handleBits).getD 0) ++ leBytes 4 b.ctr.toNat
    ++ leBytes 1 (kindCode b.kind + 16 * b.reason) ++ leBytes 1 b.temp.toNat
    ++ qualBytes b.rx.qualityA ++ qualBytes b.rx.qualityB ++ leInt 1 b.rx.rssi ++ leBytes 1 b.rx.channel
    ++ leBytes 1 (rateCode b.rx.rate + 4 * b.rx.gainStep + 64 * (match b.rx.chain with | .a => 0 | .b => 1)
      + 128 * bit b.rx.held)
    ++ leBytes 1 (bit b.rx.gainFlag + 2 * bit b.rx.invalid + 4 * bit b.unattached + 8 * bit b.flooded
      + 16 * bit b.round.isSome)
    ++ leBytes 1 (b.round.getD 0) ++ leBytes 1 b.payload.length ++ b.payload.take 18

/-- The code of a flight kind (R320). -/
def flightKindCode : FlightKind → Nat
  | .data => 0
  | .exchange => 1
  | .push => 2
  | .probe => 3

/-- The code of an outcome (R451). -/
def outcomeCode : Outcome → Nat
  | .done => 0
  | .tries => 1
  | .deadline => 2
  | .unreach => 3
  | .cancel => 4
  | .flood => 5
  | .unknown => 6

/-- The code of a last-chance result (R451). -/
def lcCode : LcResult → Nat
  | .noAnswer => 1
  | .noAck => 2
  | .ok => 3

/-- The kind number of a record (R449). -/
def LBody.kind : LBody → Nat
  | .sighting _ => 1
  | .continuation _ => 2
  | .wake _ => 3
  | .fold _ _ _ _ => 4
  | .round _ _ _ _ _ _ _ _ _ _ _ _ _ => 5
  | .flight _ _ _ _ _ _ _ _ _ _ _ _ => 6
  | .monitor _ _ _ _ _ _ _ => 7
  | .event _ => 8
  | .push _ _ _ _ _ _ _ _ _ _ _ _ _ => 9
  | .flush _ => 10

/-- Bytes 16 to 59 of a record (R450, R451, R483). -/
def LBody.bytes : LBody → List Byte
  | .sighting b => b.bytes
  | .continuation bs => bs
  | .wake r => r.bytes
  | .fold c s n r => leBytes 8 c ++ leBytes 6 s ++ leBytes 4 n ++ leInt 4 r
  | .round id sw r code slots rec rep dr si co em pa op =>
    leBytes 1 id ++ leBytes 1 (bit sw + 2 * r) ++ leBytes 2 code ++ leBytes 4 slots ++ leBytes 4 rec ++ leBytes 4 rep
      ++ leBytes 4 dr ++ leBytes 4 si ++ leBytes 4 co ++ leBytes 4 em ++ leBytes 4 pa ++ leBytes 5 op
  | .flight id h e k p c o att lc dl r pr =>
    leBytes 2 id ++ leBytes 2 (handleBits h) ++ leBytes 8 e.toNat
      ++ leBytes 1 (flightKindCode k + 8 * p + 64 * bit c) ++ leBytes 1 (outcomeCode o) ++ leBytes 1 att
      ++ leBytes 1 ((lc.zipIdx.map (fun (x, i) => lcCode x * 4 ^ i)).foldl (· + ·) 0)
      ++ leBytes 5 dl ++ leBytes 1 r
      ++ (match pr with
          | none => leInt 1 (-128) ++ leInt 1 (-128) ++ leInt 2 (-512) ++ leInt 2 (-512)
          | some x =>
            leInt 1 x.rssiA ++ leInt 1 x.rssiB ++ qualBytes x.qualityA ++ qualBytes x.qualityB)
  | .monitor n i c ev tr di cv =>
    leBytes 1 (n + 8 * i) ++ leBytes 2 c ++ leBytes 1 (bit ev + 2 * bit tr + 4 * bit di + 8 * bit cv)
  | .event e => (asciiBytes e.text).take 44
  | .push id h f l ev dg np p b bm hg o bl =>
    leBytes 8 id.toNat ++ leBytes 2 (handleBits h) ++ leBytes 2 f ++ leBytes 1 l ++ leBytes 1 ev
      ++ beBytes 8 dg.toNat ++ leBytes 1 np ++ leBytes 1 p ++ leBytes 2 b ++ leBytes 2 bm ++ leBytes 1 (bit hg)
      ++ leBytes 1 ((o.map outcomeCode).getD 0xFF) ++ leBytes 4 bl
  | .flush n => leBytes 2 n

/-- The 64 bytes of a ledger record, its CRC-32C last (R448). -/
def LRec.bytes (r : LRec) : List Byte :=
  let b := leBytes 5 r.seq ++ leBytes 1 (r.body.kind + 32 * stampMode r.time + 64 * bit r.continued)
    ++ stampBytes r.time ++ padTo 44 r.body.bytes
  b ++ leBytes 4 (crc32c b).toNat

/-- What overflows the 44 bytes of a record's body and goes into CONTINUATION records (R449, R450, R451). -/
def LBody.overflow : LBody → List Byte
  | .sighting b => b.payload.drop 18
  | .event e => (asciiBytes e.text).drop 44
  | _ => []

/-- The recorded form of a SELF rule name: its first 12 characters (R529). -/
def ruleText : SelfRule → String
  | .lineRateRevert => "line.rate.re"
  | .timeFoldJoin => "time.fold.jo"
  | .timeFoldRoot => "time.fold.ro"
  | .timeKeepLost => "time.keep.lo"
  | .timeCold => ""
  | .netState => "net.state"
  | .auditWrap => "audit.wrap"
  | .faultChan => "fault.chan"
  | .faultBb => "fault.bb"
  | .faultBranch => "fault.branch"
  | .faultLane => "fault.lane"
  | .faultChain => "fault.chain"
  | .faultBlock => "fault.block"
  | .faultPeer => "fault.peer"

/-- The position of a level (R452). -/
def levelNum : Level → Nat
  | .observer => 0
  | .operator => 1
  | .custodian => 2

/-- An old or new value as 8 bytes (R453): a number is signed and little-endian. -/
def AVal.bytes : AVal → List Byte
  | .num i => leInt 8 i
  | .hash h => beBytes 8 h.toNat

/-- The 48 bytes of an audit record (R452). -/
def ARec.bytes (r : ARec) : List Byte :=
  leBytes 3 r.seq
    ++ (match r.origin with
        | .line l a b => leBytes 1 (4 * stampMode r.time + 8 * bit b + 16 * levelNum l) ++ leBytes 1 a
        | .air _ _ => leBytes 1 (1 + 4 * stampMode r.time) ++ leBytes 1 0
        | .self _ => leBytes 1 (2 + 4 * stampMode r.time) ++ leBytes 1 0)
    ++ leBytes 1 r.action ++ stampBytes r.time
    ++ padTo 12 (match r.origin with
        | .line _ _ _ => []
        | .air id h => leBytes 8 id.toNat ++ leBytes 2 (handleBits h)
        | .self n => asciiBytes (ruleText n))
    ++ leBytes 2 r.object ++ leBytes 1 r.result ++ leBytes 1 0 ++ r.old.bytes ++ r.new.bytes

end Sys2Proof.Machine
end

