-- ==== Sys2Proof/Machine/Ops.lean ====
section
/-!
DEFINITION. Sys2Proof/Machine/Ops.lean: the operations that every chapter shares: updates of one group of State, free
values, readings of time, counters, event lines, audit and ledger records, pulse generators, VAUX and wake events.
-/

namespace Sys2Proof.Machine

/-- What a command answers. -/
abbrev Ans := Host.Outcome State Fault Refusal

/-! ## Updates of one group -/

/-- Update the line. -/
def State.onLine (f : Line → Line) (s : State) : State := { s with line := f s.line }
/-- Update the wake receiver. -/
def State.onWake (f : Wake → Wake) (s : State) : State := { s with wake := f s.wake }
/-- Update bursts and codes. -/
def State.onJomen (f : Jomen → Jomen) (s : State) : State := { s with jomen := f s.jomen }
/-- Update the radio. -/
def State.onRadio (f : Radio → Radio) (s : State) : State := { s with radio := f s.radio }
/-- Update reception. -/
def State.onRx (f : Rx → Rx) (s : State) : State := { s with rx := f s.rx }
/-- Update local time. -/
def State.onTime (f : Time → Time) (s : State) : State := { s with time := f s.time }
/-- Update the schedule. -/
def State.onSched (f : Sched → Sched) (s : State) : State := { s with sched := f s.sched }
/-- Update the network. -/
def State.onNet (f : Net → Net) (s : State) : State := { s with net := f s.net }
/-- Update rounds and flights. -/
def State.onWork (f : Work → Work) (s : State) : State := { s with work := f s.work }
/-- Update keys and roster. -/
def State.onRoster (f : Roster → Roster) (s : State) : State := { s with roster := f s.roster }
/-- Update monitors, generators and VAUX. -/
def State.onMon (f : Mons → Mons) (s : State) : State := { s with mon := f s.mon }
/-- Update PMU. -/
def State.onPm (f : Pm → Pm) (s : State) : State := { s with pm := f s.pm }
/-- Update the store. -/
def State.onStore (f : Store → Store) (s : State) : State := { s with store := f s.store }
/-- Update the images. -/
def State.onImage (f : Images → Images) (s : State) : State := { s with image := f s.image }
/-- Update the fault model. -/
def State.onFaults (f : List Res → List Res) (s : State) : State := { s with faults := f s.faults }
/-- Update the counters. -/
def State.onTally (f : Tally → Tally) (s : State) : State := { s with tally := f s.tally }

/-- Do `f` when a condition holds, nothing otherwise. -/
def State.when (c : Bool) (f : State → State) (s : State) : State := if c then f s else s

/-- Do `f` for each element of a list, in order. -/
def State.each {α : Type} (l : List α) (f : α → State → State) (s : State) : State := l.foldl (fun s x => f x s) s

/-- Take the next free value: the argument of a free value of Config, never used twice (log 6). -/
def State.draw (s : State) : Nat × State := (s.fresh, { s with fresh := s.fresh + 1 })

/-- A number KEEPER draws, each of 0 to `bound` possible (R289, R325, R369; log 6). -/
def State.drawTo (bound : Nat) (s : State) : Nat × State :=
  (Config.freeDraw s.fresh % (bound + 1), { s with fresh := s.fresh + 1 })

/-! ## Where the part stands -/

/-- The part is in service: between the end of a reset and the next one. -/
def State.running (s : State) : Bool := s.pm.run == .running

/-- CC takes work: ACTIVE or LOFT, with no exit and no entry under way (R409, R415, R424). -/
def State.ccOn (s : State) : Bool :=
  s.running && (s.pm.power == .active || s.pm.power == .loft) && s.pm.exiting.isNone && s.pm.entering.isNone

/-- A `RESET COLD` has been answered: until its edge the part takes no new work (R427). -/
def State.resetting (s : State) : Bool :=
  match s.pm.resetAt with
  | some (_, .cold _) => true
  | _ => false

/-- The cellar domain is powered (R409, R432): every state but SHELF, and through a warm start. -/
def State.cellarOn (s : State) : Bool :=
  match s.pm.run with
  | .running => s.pm.power != .shelf
  | .warmReset _ => true
  | _ => false

/-- An exit from LARDER or CELLAR has run for a time (R424). -/
def State.exitPast (d : Ticks) (s : State) : Bool :=
  match s.pm.exiting with
  | some (.larder, t) => decide (t + d ≤ s.now + us 520)
  | some (.cellar, t) => decide (t + d ≤ s.now + us 5800)
  | _ => false

/-- The XO is good: in ACTIVE and LOFT, 480 µs into an exit, and through a warm start (R252, R409, R424, R432). -/
def State.xoOn (s : State) : Bool :=
  match s.pm.run with
  | .running => s.pm.power == .active || s.pm.power == .loft || s.exitPast (us 480)
  | .warmReset _ => true
  | _ => false

/-- Local time is kept on CCLK: with the PLL locked, 520 µs into an exit (R252, R257, R424). -/
def State.cclkOn (s : State) : Bool :=
  match s.pm.run with
  | .running => s.pm.power == .active || s.pm.power == .loft || s.exitPast (us 520)
  | .warmReset _ => true
  | _ => false

/-- The number of the present WCLK edge: the last edge at or before now. -/
def State.wclk (s : State) : Nat := s.now / wclkTicks

/-! ## Time (R256 to R259, R269) -/

/-- Local time, in 2^-39 ns: the reading in counter mode, the time in normal service (R258, R259). -/
def State.readingQ (s : State) : Nat :=
  if s.time.counterMode then (s.time.offset + (s.time.cq / 4 : Nat) * 1000 * (2 ^ 32 + s.time.rate)).toNat
  else s.time.q

/-- Local time in whole nanoseconds. -/
def State.readingNs (s : State) : Nat := s.readingQ / 2 ^ 39

/-- Local time in whole seconds. -/
def State.seconds (s : State) : Nat := s.readingNs / 1000000000

/-- A normal-service time of R12. -/
def stampOfNs (ns : Nat) : Stamp := .t (ns / 1000000000 % 2 ^ 48) (ns % 1000000000)

/-- The present time in the mode in force (R12, R13, R256). -/
def State.stamp (s : State) : Stamp :=
  if s.time.counterMode then .c (s.time.cq / 4 % 2 ^ 64) else stampOfNs (s.time.q / 2 ^ 39)

/-- The time a number of ticks ago, in the mode in force (R266). -/
def State.stampBack (s : State) (d : Ticks) : Stamp :=
  if s.time.counterMode then .c ((s.time.cq - d / 8) / 4 % 2 ^ 64)
  else stampOfNs ((s.time.q - d * 1000 * (2 ^ 32 + s.time.rate + s.time.slew).toNat / 32) / 2 ^ 39)

/-- The time of a moment that lies `d` ticks ahead, in the mode in force. -/
def State.stampAhead (s : State) (d : Ticks) : Stamp :=
  if s.time.counterMode then .c ((s.time.cq + d / 8) / 4 % 2 ^ 64)
  else stampOfNs ((s.time.q + d * 1000 * (2 ^ 32 + s.time.rate + s.time.slew).toNat / 32) / 2 ^ 39)

/-- A slew rate takes the place of the one that ran (R291), which the drift bound remembers (R255). -/
def Time.setSlew (now : Ticks) (slew : Int) (t : Time) : Time :=
  { t with slew := slew, slews := t.slews.filter (fun x => decide (t.slew.natAbs < x.2)) ++ [(now, t.slew.natAbs)] }

/-- The slot length in milliseconds (R269, R270). -/
def State.slotMs (s : State) : Nat :=
  match s.pnat Obj.slotLength with
  | 0 => 5
  | 1 => 10
  | _ => 20

/-- The slot length in 2^-39 ns. -/
def State.slotQ (s : State) : Nat := s.slotMs * 1000000 * 2 ^ 39

/-- The slot length in ticks. -/
def State.slotTicks (s : State) : Ticks := ms s.slotMs

/-- The slot that local time stands in: 40 bits (R269). -/
def State.slotNow (s : State) : Nat := s.readingQ / s.slotQ % 2 ^ 40

/-- The CCLK offset within the slot (R263, R269). -/
def State.slotOffset (s : State) : Nat := s.readingQ % s.slotQ * 16 / (125 * 2 ^ 39)

/-- The slot and the CCLK offset in which local time stood `d` ticks ago (R269). -/
def State.placeBack (s : State) (d : Ticks) : Nat × Nat :=
  let q := s.readingQ - d * 1000 * 2 ^ 39 / 4096
  (q / s.slotQ % 2 ^ 40, q % s.slotQ * 16 / (125 * 2 ^ 39))

/-- Slotframe 0's length, or 100 if it is disabled (R288). -/
def State.l0 (s : State) : Nat := if s.sched.frames[0] = 0 then 100 else s.sched.frames[0]

/-! ## Counters (R500 to R512) -/

/-- Add to a counter: 48 bits, with a sticky overflow bit (R500). -/
def Ctr.add (n : Nat) (c : Ctr) : Ctr :=
  { c with value := (c.value + n) % 2 ^ 48, ovf := c.ovf || decide (2 ^ 48 ≤ c.value + n) }

/-- Add to the counter of a name, which is listed once it has counted. -/
def bumpCtr (b : Block) (name : String) (n : Nat) : List Ctr → List Ctr
  | [] => [Ctr.add n { block := b, name := name, value := 0, ovf := false }]
  | c :: cs => if c.block == b && c.name == name then c.add n :: cs else c :: bumpCtr b name n cs

/-- Count `n` events, unless the counters are frozen (R500, R510). -/
def State.countN (b : Block) (name : String) (n : Nat) (s : State) : State :=
  if s.tally.frozen.isSome then s
  else s.onTally (fun t => { t with ctrs := if n = 0 then t.ctrs else bumpCtr b name n t.ctrs })

/-- Count one event. -/
def State.count (b : Block) (name : String) (s : State) : State := s.countN b name 1

/-- The value of a counter. -/
def State.counter (s : State) (b : Block) (name : String) : Nat :=
  match s.tally.ctrs.find? (fun c => c.block == b && c.name == name) with
  | some c => c.value
  | none => 0

/-- Add to the figure of a port. -/
def bumpPort (p : Port) (n : Nat) : List (Port × Nat) → List (Port × Nat)
  | [] => [(p, n)]
  | (q, m) :: l => if q = p then (q, m + n) :: l else (q, m) :: bumpPort p n l

/-- Bytes through a port (R512); bandwidth is not frozen (R510). -/
def State.bytes (p : Port) (n : Nat) (s : State) : State :=
  s.onTally (fun t => { t with bwBytes := bumpPort p n t.bwBytes })

/-- The figure of a port, 0 when none is listed. -/
def portValue (p : Port) (l : List (Port × Nat)) : Nat :=
  match l.find? (fun x => x.1 == p) with
  | some x => x.2
  | none => 0

/-! ## Hashes (R453) -/

/-- The first 8 bytes of a SHA-256 hash. -/
def sha8 (b : List Byte) : BitVec 64 := (Config.sha256 b).extractLsb' 192 64

/-- A parameter value as an audit record holds it (R453): a number, or the hash of a text or of a token as received. -/
def avalOf : PVal → AVal
  | .int i => .num i
  | .text t => .hash (sha8 t)

/-- A key as an audit record holds it: a hash of its 16 bytes (R73). -/
def keyVal (k : Option Key) : AVal :=
  match k with
  | some k => .hash (sha8 (beBytes 16 k.toNat))
  | none => .num 0

/-! ## The write cache (R448 to R456) -/

/-- The octets of a record in the write cache (R448, R452). -/
def CRec.size : CRec → Nat
  | .ledger _ _ => 64
  | .audit _ _ => 48

/-- The octets held in the write cache. -/
def Store.used (c : Store) : Nat := (c.cache.map CRec.size).sum

/-- Room for `n` ledger records in the 128 KiB of bins 16 and 17 (R455); none is placed while a flush runs (R456). -/
def Store.room (c : Store) (n : Nat) : Bool := c.flush.isNone && decide (c.used + 64 * n ≤ 131072)

/-- Put a record into the write cache; while a flush runs it waits (R456). -/
def Store.place (r : CRec) (c : Store) : Store :=
  match c.flush with
  | none => { c with cache := c.cache ++ [r] }
  | some _ => { c with held := c.held ++ [r] }

/-- What overflows a record's body, cut into CONTINUATION bodies of 44 bytes (R449). -/
def chunks : Nat → List Byte → List (List Byte)
  | 0, _ => []
  | n + 1, l => if l.isEmpty then [] else l.take 44 :: chunks n (l.drop 44)

/-- The records of one entry of the ledger: the record and its CONTINUATION records, with rising sequences (R448). -/
def recordsFrom (seq : Nat) (time : Stamp) : List LBody → List LRec
  | [] => []
  | b :: bs =>
    { seq := seq, time := time, continued := !bs.isEmpty, body := b } :: recordsFrom (seq + 1) time bs

/-- The bodies of one entry: the record's and those of its CONTINUATION records. -/
def LBody.all (b : LBody) : List LBody := b :: (chunks 3 b.overflow).map LBody.continuation

/-- Place a ledger record that carries a given time (R448, R449). -/
def State.ledgerAt (time : Stamp) (b : LBody) (s : State) : State :=
  let rs := recordsFrom s.store.nextSeq time b.all
  (s.fire .record).onStore (fun c =>
    let c' := rs.foldl (fun c r => c.place (.ledger r s.now)) c
    { c' with nextSeq := c.nextSeq + rs.length })

/-- Place a ledger record of this moment. -/
def State.ledger (b : LBody) (s : State) : State := s.ledgerAt s.stamp b

/-- The sequence after `n` of an audit record (R452). -/
def auditNext (n : Nat) : Nat := (n + 1) % 0xFFFFFF

/-- Place one audit record. -/
def State.auditOne (o : Origin) (action object result : Nat) (old new : AVal) (s : State) : State :=
  (s.fire .record).onStore (fun c =>
    let c' := c.place (.audit
      { seq := c.nextAudit, origin := o, action := action, time := s.stamp, object := object, result := result,
        old := old, new := new } s.now)
    { c' with nextAudit := auditNext c.nextAudit, auditCount := c.auditCount + 1 })

/-- The records of one pass of the audit ring (R442). -/
abbrev auditRing : Nat := 1376256

/-- Place an audit record; the first of a new pass follows a wrap marker (R454). -/
def State.audit (o : Origin) (action object result : Nat) (old new : AVal) (s : State) : State :=
  let s := if auditRing ≤ s.store.auditCount then
      let pass := Config.firstPass + s.store.auditPass
      (s.onStore (fun c => { c with auditCount := 0, auditPass := c.auditPass + 1 })).auditOne
        (.self .auditWrap) 0 0 0 (.num pass) (.num 0)
    else s
  s.auditOne o action object result old new

/-- The sequence the next audit record will carry: that after the wrap marker, if one comes first (R454). -/
def State.auditSeq (s : State) : Nat :=
  if auditRing ≤ s.store.auditCount then auditNext s.store.nextAudit else s.store.nextAudit

/-- The sequence of the last audit record placed. -/
def State.auditLast (s : State) : Nat := (s.store.nextAudit + 0xFFFFFE) % 0xFFFFFF

/-- A stored copy enters the cache with the audit record of a sequence (R116, R518). -/
def State.journal (seq : Nat) (u : Undo) (s : State) : State :=
  s.onStore (fun c => { c with unsaved := c.unsaved ++ [(seq, u)] })

/-- An audit record of a sequence is still in the cache. -/
def Store.auditCached (c : Store) (seq : Nat) : Bool :=
  c.cache.any (fun r => match r with | .audit a _ => a.seq == seq | .ledger _ _ => false)

/-- The system area is written (R443): the copy that is not the newer valid one, with the next sequence. -/
def Store.writeSystem (c : Store) : Store :=
  match c.sysA, c.sysB with
  | some a, some b => if a < b then { c with sysA := some (b + 1) } else { c with sysB := some (a + 1) }
  | some a, none => { c with sysB := some (a + 1) }
  | none, some b => { c with sysA := some (b + 1) }
  | none, none => { c with sysA := some 0 }

/-- The copies whose audit records have been programmed are safe: the system area is written. -/
def Store.saved (c : Store) : Store :=
  let left := c.unsaved.filter (fun u => c.auditCached u.1)
  if left.length = c.unsaved.length then c else { c.writeSystem with unsaved := left }

/-- The origin of a command on LINE (R90). -/
def State.lineOrigin (h : Hdr) (s : State) : Origin :=
  match h.addr with
  | none => .line s.line.level 0 false
  | some n => .line s.line.level n (n == 0)

/-- The position of an origin in R525: 0 LINE, 1 AIR, 2 SELF. -/
def originNum : Origin → Nat
  | .line _ _ _ => 0
  | .air _ _ => 1
  | .self _ => 2

/-! ## Event lines (R65) -/

/-- Put an event line into the queue of 64; when it is full the oldest is discarded and counted as lost. -/
def Line.push (e : EvLine) (l : Line) : Line :=
  if l.events.length < 64 then { l with events := l.events ++ [e] }
  else { l with events := l.events.drop 1 ++ [e], lost := l.lost + 1 }

/-- Queue an event line of this moment. -/
def State.pushEv (e : Ev) (s : State) : State := s.onLine (Line.push { time := s.stamp, ev := e })

/-! ## Monitor outputs (R373 to R381) -/

/-- A numeric set-up value of monitor `n`: `base` is the object of monitor 0. -/
def State.wm (s : State) (base : Nat) (n : Fin 8) : Nat := s.pnat (base + n.val)

/-- An input of R373, by its position, is available. -/
def State.inputOk (s : State) (i : Nat) : Bool :=
  match i with
  | 1 => s.mon.vaux != .off
  | 4 => s.radio.paOn
  | 5 => s.radio.paOn
  | 6 => s.xoOn
  | _ => true

/-- The comparator of a monitor is powered (R373, R375): never in `off`, in `tx` while the PA is on. -/
def State.comparatorOn (s : State) (n : Fin 8) : Bool :=
  match s.wm Obj.wmMode n with
  | 0 => false
  | 3 => s.radio.paOn && s.inputOk (s.wm Obj.wmInput n)
  | _ => s.inputOk (s.wm Obj.wmInput n)

/-- The filter output (R378): k or more of the last n decisions are active. -/
def State.filterOut (s : State) (n : Fin 8) : Bool :=
  match PVal.filter? (s.pval (Obj.wmFilter + n.val)) with
  | some (k, m) => decide (k ≤ ((s.mon.mons[n].hist.take m).filter id).length)
  | none => false

/-- The trip source (R381): the comparator, inactive while it has no power, or the filter output. -/
def State.tripSource (s : State) (n : Fin 8) : Bool :=
  if s.wm Obj.wmTrip n = 0 then s.mon.mons[n].raw && s.comparatorOn n else s.filterOut n

/-- The trip output (R380): with latch `none` it is its source. -/
def State.tripOut (s : State) (n : Fin 8) : Bool :=
  if s.wm Obj.wmLatch n = 0 then s.tripSource n else s.mon.mons[n].trip

/-! ## Power states (R409, R438) -/

/-- The place of a state in R411's residency fields. -/
def powerIdx : Power → Fin 5
  | .active => 0
  | .loft => 1
  | .larder => 2
  | .cellar => 3
  | .shelf => 4

/-- Enter a power state: its entries rise, 48 bits with a sticky overflow bit (R438). -/
def State.enterPower (p : Power) (s : State) : State :=
  s.onPm (fun m =>
    let i := powerIdx p
    let n := m.entries[i] + 1
    { m with
      power := p
      entering := none
      exiting := none
      entries := m.entries.set i (n % 2 ^ 48)
      ovf := if n < 2 ^ 48 || m.ovf.contains (4 + i.val) then m.ovf else m.ovf ++ [4 + i.val]
      idleFrom := none
      loftFrom := if p = .loft then some s.now else none })

/-- The part leaves LOFT when a character arrives: 1.5 µs are over long before the line ends (R46, R423). -/
def State.rouse (s : State) : State :=
  if s.pm.power == .loft then s.enterPower .active else s.onPm (fun m => { m with idleFrom := none })

/-! ## Wake events of PMU (R416, R423, R424) -/

/-- The time an exit takes (R22, R412). -/
def exitTime : Power → Ticks
  | .loft => us 1 + 2048
  | .larder => us 520
  | .cellar => us 5800
  | _ => 0

/-- A wake event: an entry before its commit edge is cancelled, a sleeping part starts its exit, and an event during an
exit waits (R416, R424). In ACTIVE it ends the idle time. -/
def State.wakeEvent (s : State) : State :=
  if !s.running then s
  else if s.pm.exiting.isSome then s.onPm (fun p => { p with held := true })
  else if s.pm.entering.isSome then s.onPm (fun p => { p with entering := none, idleFrom := none })
  else
    match s.pm.power with
    | .active => s.onPm (fun p => { p with idleFrom := none })
    | .shelf => s
    | p0 => s.onPm (fun p => { p with exiting := some (p0, s.now + exitTime p0) })

/-! ## Pulse generators (R396 to R398) -/

/-- A trip input of a generator: bits 0 to 7 the monitors, bit 8 COEX_GNT loss on PG0 and PG1 (R397). -/
def State.pgInput (s : State) (g : Fin 4) : Bool :=
  let m := s.pnat (Obj.pgMask + g.val)
  (List.finRange 8).any (fun n => m.testBit n.val && s.tripOut n)
    || (m.testBit 8 && s.mon.coexLoss && (g.val == 0 || g.val == 1))

/-- The counter of a generator's trips (R399). -/
def pgCounter (g : Fin 4) : String := "pg." ++ dec g.val ++ ".trip"

/-- Ask a generator to run (R398): refused and counted while an input is active, which is a wake event (R423), else it
leaves the tripped state. -/
def State.pgAsk (g : Fin 4) (s : State) : Bool × State :=
  if s.pgInput g then (false, (s.count .pg (pgCounter g)).wakeEvent)
  else (true, s.onMon (fun m => { m with tripped := m.tripped.set g false }))

/-- With `line.host.vaux` at 1 the part ignores LINE while VAUX is off; its receiver opens again after VAUX is on (R47). -/
def State.hostDeaf (s : State) : State :=
  if s.pint Obj.lineHostVaux == 1 then s.onLine (fun l => { l with isOpen := false, partialLine := [] }) else s

/-! ## VAUX (R402, R403, R435) -/

/-- A VAUX trip, or an attempt that is refused (R403, log 13): the run, the retry and the lockout. -/
def State.vauxTripped (code : Nat) (s : State) : State :=
  let s := (s.count .pg "vaux.trip").pushEv (.vauxTrip code)
  let newRun := s.mon.runTrips = 0 || s.mon.runFrom + secs 60 < s.now
  let n := if newRun then 1 else s.mon.runTrips + 1
  let s := s.onMon (fun m =>
    { m with vaux := .off, tripOwed := false, runFrom := if newRun then s.now else m.runFrom, runTrips := n })
  let s := s.hostDeaf
  if 3 ≤ n then
    ((s.onMon (fun m => { m with lockout := true, retryAt := none })).count .pg "vaux.lockout").pushEv .vauxOff
  else s.onMon (fun m => { m with retryAt := some (s.now + secs 1) })

/-- The last `vauxcur` code: that of the lowest monitor whose input is VAUX current (R403), 0 before any. -/
def State.vauxCode (s : State) : Nat :=
  match (List.finRange 8).find? (fun n => s.pnat (Obj.wmInput + n.val) == 1) with
  | some n => s.mon.mons[n].code
  | none => 0

/-- An attempt to switch VAUX on (R402): PG2 starts the ramp, or refuses. -/
def State.vauxAttempt (s : State) : State :=
  let s := (s.fire .vauxOn).onMon (fun m => { m with retryAt := none })
  let (ok, s) := s.pgAsk 2
  if ok then s.onMon (fun m => { m with vaux := .ramp (s.now + ms (s.pnat Obj.vauxRamp)) })
  else s.vauxTripped s.vauxCode

/-- The power policy asks for VAUX (R435): it does nothing while VAUX runs, a retry waits or a lockout stands. -/
def State.vauxPolicy (s : State) : State :=
  if s.pnat Obj.vauxPolicy == 1 && s.running && s.pm.power != .shelf && s.mon.vaux == .off && !s.mon.lockout
      && s.mon.retryAt.isNone && !s.mon.tripOwed then
    (s.onMon (fun m => { m with wanted := true })).vauxAttempt
  else s

/-- VAUX switched off (R402): nothing is wanted and no retry waits. -/
def State.vauxOff (s : State) : State :=
  (s.onMon (fun m => { m with vaux := .off, wanted := false, retryAt := none })).hostDeaf

/-- Queue an event line, with what R435 does at one. -/
def State.queue (e : Ev) (s : State) : State := (s.pushEv e).vauxPolicy

/-- Queue the event lines of one edge, in the order of R526. -/
def State.queueAll (l : List Ev) (s : State) : State := s.each l State.queue

/-! ## WAKE (R143) -/

/-- WAKE is driven low while a record is queued or the fold flag is set; a fall is a wake event and asks for VAUX
(R143, R435). -/
def State.driveWake (s : State) : State :=
  let low := s.wake.armed && (!s.wake.queue.isEmpty || s.wake.foldFlag)
  if low && !s.wake.low then (s.onWake (fun w => { w with low := true })).vauxPolicy
  else s.onWake (fun w => { w with low := low })

/-! ## Small helpers on lists -/

/-- Replace the first element that satisfies `p`. -/
def replaceFirst {α : Type} (p : α → Bool) (f : α → α) : List α → List α
  | [] => []
  | x :: xs => if p x then f x :: xs else x :: replaceFirst p f xs

/-- Insert in rising order of a key, behind equal keys. -/
def insertBy {α : Type} (key : α → Nat) (x : α) : List α → List α
  | [] => [x]
  | y :: ys => if key x < key y then x :: y :: ys else y :: insertBy key x ys

/-- The value a list gives for a key. -/
def assoc {α β : Type} [DecidableEq α] (k : α) : List (α × β) → Option β
  | [] => none
  | (a, b) :: l => if a = k then some b else assoc k l

/-- Set the value of a key. -/
def assocSet {α β : Type} [DecidableEq α] (k : α) (v : β) : List (α × β) → List (α × β)
  | [] => [(k, v)]
  | (a, b) :: l => if a = k then (a, v) :: l else (a, b) :: assocSet k v l

/-- Remove a key. -/
def assocDel {α β : Type} [DecidableEq α] (k : α) (l : List (α × β)) : List (α × β) := l.filter (fun x => x.1 ≠ k)

end Sys2Proof.Machine
end

