-- ==== Sys2Proof/Machine/Operands.lean ====
section
/-!
DEFINITION. Sys2Proof/Machine/Operands.lean: what a line is made of (R51 to R54), and the ranges of arguments.
-/

namespace Sys2Proof.Machine

/-! ## Characters and tokens -/

/-- Cut a line at spaces; runs of spaces separate like one (R51). -/
def tokensFrom : List Byte → List Byte → List (List Byte)
  | acc, [] => if acc.isEmpty then [] else [acc.reverse]
  | acc, c :: cs =>
    if c = 0x20 then (if acc.isEmpty then tokensFrom [] cs else acc.reverse :: tokensFrom [] cs)
    else tokensFrom (c :: acc) cs

/-- The tokens of a line. -/
def tokens (l : List Byte) : List (List Byte) := tokensFrom [] l

/-- A token as text. -/
def tokenText (t : List Byte) : String := String.ofList (t.map (fun b => Char.ofNat b.toNat))

/-- The address of a line: none without `@`, `some none` for one that names no unit (R60). -/
def lineAddr (l : List Byte) : Option (Option Nat) :=
  match l with
  | 0x40 :: _ =>
    match (tokens l).head? with
    | some (_ :: rest) =>
      match digits 10 rest with
      | some n => if n ≤ 16 then some (some n) else some none
      | none => some none
    | _ => some none
  | _ => none

/-- The line up to and with the last space outside its last token, and that token. -/
def splitLast (l : List Byte) : List Byte × List Byte :=
  let r := l.reverse
  let r := r.dropWhile (· == 0x20)
  let t := r.takeWhile (· != 0x20)
  ((r.dropWhile (· != 0x20)).reverse, t.reverse)

/-- The tokens of a line outside double quotes: a token that stands between quotes is left out. -/
def bareFrom (quoted : Bool) : List (List Byte) → List (List Byte)
  | [] => []
  | t :: ts =>
    let q := (t.filter (· == 0x22)).length % 2 == 1
    if quoted || t.head? == some 0x22 then bareFrom (quoted != q) ts else t :: bareFrom (quoted != q) ts

/-- What the last token says of the checksum (R53, R54): none carried, right, or wrong. -/
inductive CheckState where
  | absent | good | wrong
  deriving DecidableEq, Repr

/-- Judge the checksum token of a line (R54). -/
def checkOf (l : List Byte) : CheckState :=
  let (body, t) := splitLast l
  let quoted := (body.filter (· == 0x22)).length % 2 == 1
  match t with
  | 0x2A :: cc =>
    if quoted then .absent
    else
      match cc.length == 2, digits 16 cc with
      | true, some n => if n = crc8 body then .good else .wrong
      | _, _ => .wrong
  | _ => .absent

/-- The verbs (R76). -/
def verbOf (t : List Byte) : Verb :=
  match tokenText t with
  | "GET" => .get
  | "SET" => .set
  | "SHOW" => .show
  | "DO" => .do_
  | "AUTH" => .auth
  | "LOGOUT" => .logout
  | "ENUM" => .enum
  | "ROLL" => .roll
  | "WHY" => .why
  | "EVENTS" => .events
  | "WAKE" => .wake
  | "SEND" => .send
  | "LOG" => .log
  | "TALLY" => .tally
  | "IMAGE" => .image
  | "RESET" => .reset
  | _ => .unknown

/-- The actions of R520 and those recorded under R521. -/
def actionNames : List String :=
  [ "jomen.arm", "jomen.reason", "jomen.burst", "radio.cal", "rx.capture", "rx.capture.drop", "rx.capture.read",
    "time.now", "time.set", "time.counter", "sched.frame", "sched.cell", "sched.drop", "sched.list", "round.start",
    "round.stop", "flight.list", "flight.cancel" ]
  ++ [ "roster.show", "roster.pin", "roster.drop", "roster.groups", "roster.peer", "roster.forget", "keeper.netkey",
    "keeper.libkey", "wm.read", "wm.conv", "wm.clear", "vaux", "pm.sleep", "pm.shelf", "pm.residency", "fault.list",
    "fault.retire", "fault.reinstate" ]

/-- The report and form words a verb takes as its object; none for a verb whose object is not of this kind. -/
def objectWords : Verb → Option (List String)
  | .do_ => some actionNames
  | .log => some ["INFO", "READ", "AUDIT", "MARK"]
  | .tally => some ["READ", "OCC", "BW", "SNAP", "FREEZE", "THAW", "CLEAR"]
  | .image => some ["BEGIN", "DATA", "STATUS", "VERIFY", "ACTIVATE", "CONFIRM", "ABORT", "DROP", "LIST", "PUSH"]
  | _ => none

/-- The second token names something the verb knows, or nothing that R522 calls an object. -/
def objectKnown (v : Verb) (t : List Byte) : Bool :=
  match v with
  | .wake => t.isEmpty || (number t).isSome || ["ACK", "BRANCH", "SEEN"].contains (tokenText t)
  | v =>
    match objectWords v with
    | some words => words.contains (tokenText t)
    | none => true

/-- The place of a token that begins with an asterisk outside quotes, the checksum token left out, or 0. -/
def starToken (l : List Byte) : Nat :=
  let ts := bareFrom false (tokens (match checkOf l with | .absent => l | _ => (splitLast l).1))
  match ts.findIdx? (fun t => t.head? == some 0x2A) with
  | some i => i + 1
  | none => 0

/-- A character outside 0x20 to 0x7E (R51). -/
def badChar (c : Byte) : Bool := c.toNat < 0x20 || 0x7E < c.toNat

/-- The tokens of a line from its verb on, without address and checksum. -/
def bodyTokens (l : List Byte) : List (List Byte) :=
  let ts := tokens (match checkOf l with | .absent => l | _ => (splitLast l).1)
  match ts with
  | (0x40 :: _) :: rest => rest
  | ts => ts

/-- The first failure of a raw line for this unit, in the order of R524, with the failing token (R525): length,
checksum, syntax, verb, object. -/
def rawError (generated malformed : Bool) (l : List Byte) : Option (Err × Nat) :=
  let ts := bodyTokens l
  let v := verbOf (ts.headD [])
  if 200 < l.length then some (.long, 0)
  else if checkOf l == .wrong || (generated && checkOf l == .absent) then some (.check, 0)
  else if l.any badChar || starToken l != 0 || malformed || ts.isEmpty then some (.syntaxErr, starToken l)
  else if v == .unknown then some (.verb, 1)
  else if objectKnown v (ts.getD 1 []) then none
  else some (.object, 2)

/-! ## Arguments -/

/-- A number of a line within a range (R52: a negative number is out of every unsigned range). -/
def inRange (lo hi i : Int) : Bool := decide (lo ≤ i) && decide (i ≤ hi)

/-- An optional argument with its default. -/
def argOr (d : Int) (a : Option Int) : Int := a.getD d

end Sys2Proof.Machine

namespace Sys2Proof

/-! ## Handles and resources as a line gives them (R351, R495) -/

/-- A handle's numbers within R351. -/
def HandleArg.fits (h : HandleArg) : Bool := Machine.inRange 0 8191 h.index && Machine.inRange 0 7 h.epoch

/-- The handle that a line gives. -/
def HandleArg.get (h : HandleArg) : Handle := { index := h.index.toNat, epoch := h.epoch.toNat }

/-- A handle as a line gives it. -/
def Handle.arg (h : Handle) : HandleArg := { index := h.index, epoch := h.epoch }

/-- The kind of a resource that a line names. -/
def ResArg.kind : ResArg → ResKind
  | .num k _ => k
  | .peer _ => .peer

/-- The resource that a line names (R495). -/
def ResArg.id : ResArg → ResId
  | .num k n => { kind := k, num := n.toNat }
  | .peer h => { kind := .peer, num := Machine.handleBits (h.get) }

/-- The numbers of a resource that a line names can be those of one: none is negative, and a handle is within R351 (R52). -/
def ResArg.fits : ResArg → Bool
  | .num _ n => decide (0 ≤ n)
  | .peer h => h.fits

/-- The resource number that a line asks for, as an audit record holds it (R89, R493). -/
def ResArg.value : ResArg → Int
  | .num _ n => n
  | .peer h => Machine.handleBits (h.get)

end Sys2Proof
end

