-- ==== Sys2Proof/Machine/Reply.lean ====
section
/-!
DEFINITION. Sys2Proof/Machine/Reply.lean: the characters of the lines that the part sends: the text of every reply, event
and echo, the checksum token (R54) and the line end (R55).
-/

namespace Sys2Proof.Machine

/-! ## Values and words -/

/-- Characters as text. -/
def charsText (l : List Byte) : String := String.ofList (l.map (fun b => Char.ofNat b.toNat))

/-- A value as a card writes it (R516). -/
def valueText (obj : Nat) (v : PVal) : String :=
  match v, cardOf obj with
  | .text l, _ => if l.contains 0x20 then "\"" ++ charsText l ++ "\"" else charsText l
  | .int i, some c =>
    match c.kind with
    | .enum words => words.getD i.toNat (decInt i)
    | _ => if c.hex = 0 then decInt i else "0x" ++ String.ofList (hexDigits c.hex i.toNat)
  | .int i, none => decInt i

/-- A value in force and, when one waits, the pending value (R516). -/
def valueNext (obj : Nat) (v : PVal) (next : Option PVal) : List String :=
  valueText obj v :: match next with | some w => ["next=" ++ valueText obj w] | none => []

/-- The path of a parameter. -/
def pathText (obj : Nat) : String := ((cardOf obj).map Card.name).getD "-"

/-- The actions of R520, from object 512 on. -/
def actionObjects : List String :=
  ["jomen.arm", "jomen.reason", "jomen.burst", "radio.cal", "rx.capture", "rx.capture.drop", "rx.capture.read", "time.now",
    "sched.frame", "sched.cell", "sched.drop", "sched.list", "round.start", "round.stop", "flight.list", "flight.cancel"]
  ++ ["roster.show", "roster.pin", "roster.drop", "roster.groups", "roster.peer", "roster.forget", "keeper.netkey",
    "keeper.libkey", "wm.read", "wm.conv", "wm.clear", "vaux", "pm.sleep", "pm.shelf", "pm.residency", "fault.list"]

/-- The object that WHY names (R525). Actions that R521 records under other objects go by 864 (`time.counter`), 865
(`time.set`), 880 to 886 (`fault.retire`) and, in this use only, 900 to 906 (`fault.reinstate`). -/
def objectText (obj : Nat) : String :=
  if obj < 512 then pathText obj
  else if obj = 864 then "time.counter"
  else if obj = 865 then "time.set"
  else if 900 ≤ obj then "fault.reinstate"
  else if 880 ≤ obj then "fault.retire"
  else actionObjects.getD (obj - 512) "-"

/-- The session levels (R70). -/
def levelText : Level → String
  | .observer => "OBSERVER"
  | .operator => "OPERATOR"
  | .custodian => "CUSTODIAN"

/-- The verbs (R76). -/
def verbText : Verb → String
  | .get => "GET"
  | .set => "SET"
  | .show => "SHOW"
  | .do_ => "DO"
  | .auth => "AUTH"
  | .logout => "LOGOUT"
  | .enum => "ENUM"
  | .roll => "ROLL"
  | .why => "WHY"
  | .events => "EVENTS"
  | .wake => "WAKE"
  | .send => "SEND"
  | .log => "LOG"
  | .tally => "TALLY"
  | .image => "IMAGE"
  | .reset => "RESET"
  | .unknown => "-"

/-- The origins of a write (R525). -/
def srcText : Option Nat → String
  | none => "default"
  | some 0 => "LINE"
  | some 1 => "AIR"
  | some _ => "SELF"

/-- A time that may be missing (R352, R395, R525; log 112). -/
def timeText (t : Option Stamp) : String := (t.map Stamp.text).getD "-"

/-- A 128-bit challenge in four groups of eight digits (R71). -/
def chalText (c : BitVec 128) : String :=
  let d := hexDigits 32 c.toNat
  String.ofList (d.take 8 ++ ['-'] ++ (d.drop 8).take 8 ++ ['-'] ++ (d.drop 16).take 8 ++ ['-'] ++ d.drop 24)

/-- Octets as hexadecimal digits, octet 0 first (R462). -/
def hexText (l : List Byte) : String := String.ofList (l.flatMap (fun b => hexDigits 2 b.toNat))

/-- A firmware or image version (R77). -/
def verText (v : Nat × Nat × Nat) : String := dec v.1 ++ "." ++ dec v.2.1 ++ "." ++ dec v.2.2

/-- A flag. -/
def bitText (b : Bool) : String := dec (bit b)

/-- The detectors of a wake record (R162). -/
def detText : WakeDet → String
  | .envelope => "envelope"
  | .superregen => "superregen"
  | .direct => "direct"
  | .tap => "tap"

/-- The states of a wake branch (R155). -/
def branchText : BranchSt → String
  | .off => "OFF"
  | .settling => "SETTLING"
  | .listen => "LISTEN"
  | .blanked => "BLANKED"
  | .suspended => "SUSPENDED"
  | .retired => "RETIRED"

/-- The power states (R409). -/
def powerText : Power → String
  | .active => "ACTIVE"
  | .loft => "LOFT"
  | .larder => "LARDER"
  | .cellar => "CELLAR"
  | .shelf => "SHELF"

/-- The stages of an image (R476). -/
def stageText : Stage → String
  | .idle => "IDLE"
  | .download => "DOWNLOAD"
  | .verifying => "VERIFYING"
  | .verified => "VERIFIED"
  | .trial => "TRIAL"

/-- The kinds of a flight as SEND names them (R322); a push is entered by IMAGE PUSH (R320). -/
def flightKindText : FlightKind → String
  | .data => "data"
  | .exchange => "exchange"
  | .push => "push"
  | .probe => "probe"

/-- The states of a flight (R320, R326). -/
def flightStText : FlightSt → String
  | .waiting => "WAITING"
  | .ready => "READY"
  | .air => "AIR"
  | .backoff => "BACKOFF"
  | .lastchance => "LASTCHANCE"

/-- The blocks of TALLY (R503). -/
def blockText : Block → String
  | .matcher => "MATCHER"
  | .wur => "WUR"
  | .rfe => "RFE"
  | .time => "TIME"
  | .sched => "SCHED"
  | .cc => "CC"
  | .lanes => "LANES"
  | .mon => "MON"
  | .pg => "PG"
  | .store => "STORE"
  | .keeper => "KEEPER"
  | .line => "LINE"
  | .chz => "CHZ"
  | .pmu => "PMU"
  | .tally => "TALLY"

/-- The ports of TALLY BW (R512). -/
def portText : Port → String
  | .line => "line"
  | .storeRd => "store.rd"
  | .storeWr => "store.wr"
  | .airTx => "air.tx"
  | .airRx n => "air.rx." ++ dec n.val

/-- The kinds of a schedule cell (R272). -/
def cellKindText : CellKind → String
  | .empty => "empty"
  | .lane => "lane"
  | .tx => "tx"
  | .round => "round"
  | .conv => "conv"
  | .capt => "capt"

/-- The source of a capture as the header of R251 writes it. -/
def capText : CapSrc → String
  | .chan p => "chan" ++ decInt p
  | .chain c => "chain" ++ Side.text (match c with | .a => 0 | .b => 1)

/-- The flags of a roster entry that are set, by name, in bit order (R352). -/
def flagsText (flags : List Bool) : String :=
  let names := (["active", "unreach", "pinned", "retired", "bestb", "alarm"].zip flags).filterMap
    (fun x => if x.2 then some x.1 else none)
  if names.isEmpty then "-" else String.intercalate "," names

/-! ## Lines -/

/-- The fields of a `=W` line (R162). -/
def wakeFields (r : WakeRec) : List String :=
  ["=W", "seq=" ++ dec r.seq.toNat, "code=" ++ dec r.code, "r=" ++ dec r.reason,
    "br=" ++ (if r.aNamed then "A" else "") ++ (if r.bNamed then "B" else ""),
    "first=" ++ (match r.first with | .a => "A" | .b => "B"),
    "skew=" ++ (if r.agreed then dec r.skew else "-"), "rep=" ++ dec r.repeats,
    "rssi=" ++ decInt (if r.aNamed then r.rssiA else -128) ++ "," ++ decInt (if r.bNamed then r.rssiB else -128),
    "err=" ++ dec r.errors, "sync=" ++ dec r.syncErr, "det=" ++ detText r.det, Stamp.text r.stamp]

/-- The text of a line that the part sends, its checksum and its line end left out. Fields that the manual names without
their form are written in the order it names them (log 112). -/
def OutLine.text : OutLine → String
  | .value obj v next => "=" ++ spaced (valueNext obj v next)
  | .pathValue obj v next => "=" ++ spaced (pathText obj :: valueNext obj v next)
  | .part v eui fw addr marked solo gen l =>
    "=" ++ spaced ["SW-7160", (match v with | .e => "E" | .n => "N"), Eui.text eui, verText fw, "ADDR=" ++ dec addr,
      "CHAIN=" ++ (if marked then "fault" else "ok"), "SOLO=" ++ bitText solo,
      "MODE=" ++ (if gen then "generated" else "typed"), "PRIV=" ++ levelText l]
  | .num n => "=" ++ decInt n
  | .mask m => "=0x" ++ String.ofList (hexDigits 2 m)
  | .bare => "="
  | .dot => "=."
  | .dotNext n => "=. " ++ dec n
  | .err e => errText e
  | .chal c => "=CHAL " ++ chalText c
  | .level l => "=" ++ levelText l
  | .key l => "=KEY " ++ levelText l
  | .enumAns n eui => "=ENUM " ++ dec n ++ " " ++ Eui.text eui
  | .chainAns n eui => "!CHAIN " ++ dec n ++ " " ++ Eui.text eui
  | .rollChar w => if w then "W" else "E"
  | .why none => "=Y err=none"
  | .why (some e) => spaced ["=Y", "err=" ++ errText e.err, "verb=" ++ verbText e.verb,
      "obj=" ++ (e.obj.map objectText).getD "-", "tok=" ++ dec e.tok, Stamp.text e.time]
  | .whyPath obj v next src time =>
    spaced (["=Y", pathText obj] ++ valueNext obj v next ++ ["src=" ++ srcText src, timeText time])
  | .event e => "~" ++ EvLine.text e
  | .lost t n => spaced ["~LOST", Stamp.text t, dec n]
  | .wakeRec r => spaced (wakeFields r)
  | .branch sd st disc det =>
    spaced [(match sd with | .a => "=A" | .b => "=B"), branchText st, "disc=" ++ dec disc, "det=" ++ detText det]
  | .seen code m => spaced ["=S", dec code, "0x" ++ String.ofList (hexDigits 2 m)]
  | .flightId id => "=F " ++ dec id
  | .waitId id pos => spaced ["=W", dec id, dec pos]
  | .flight id h kind p st dl att lane =>
    spaced ["=F", "id=" ++ dec id, "h=" ++ handleText h, "kind=" ++ flightKindText kind, "p=" ++ dec p,
      "st=" ++ flightStText st, "dl=" ++ dec dl, "att=" ++ dec att,
      "lane=" ++ (match lane with | some n => dec n.val | none => "-")]
  | .roundId id => "=R " ++ dec id
  | .logInfo f l m a =>
    spaced ["=I", "first=" ++ (f.map dec).getD "-", "last=" ++ (l.map dec).getD "-", "mark=" ++ dec m,
      "archive=" ++ (match a with | some (x, y) => dec x ++ "-" ++ dec y | none => "-")]
  | .lostRecord seq => "=X " ++ dec seq
  | .ledger r => spaced ["=L", dec r.seq, hexText (LRec.bytes r)]
  | .audit r => spaced ["=A", hexText (ARec.bytes r)]
  | .tallyHead blk since snap =>
    spaced (["=H", blockText blk, Stamp.text since] ++
      match snap with | some t => ["snap=" ++ Stamp.text t] | none => [])
  | .tally name v ovf => spaced ["=T", name, dec v, "o=" ++ bitText ovf]
  | .occ src now peak =>
    spaced ["=O", "src=" ++ ["off", "rxbuf", "flights", "waiting", "storeq", "lanes", "wakeq"].getD src "-",
      "now=" ++ dec now, "peak=" ++ dec peak]
  | .bw p last peak win => spaced ["=B", portText p, "last=" ++ dec last, "peak=" ++ dec peak, "win=" ++ dec win]
  | .tallyAt v t => spaced [["=SNAP", "=FREEZE", "=THAW"].getD v "=", Stamp.text t]
  | .imageStatus st next done total b ver boots =>
    spaced ["=U", "stage=" ++ stageText st, "next=" ++ dec next, "pecks=" ++ dec done ++ "/" ++ dec total,
      "active=" ++ (if b then "B" else "A"), "ver=" ++ verText ver, "trial=" ++ dec boots]
  | .imageSlot slot ver target digest ok =>
    spaced ["=B", "slot=" ++ dec slot, "ver=" ++ verText ver, "target=" ++ dec target, "digest=" ++ Eui.text digest,
      "ok=" ++ bitText ok]
  | .burstOk => "=B"
  | .word w => "=" ++ w
  | .timeSet s n => "=" ++ Stamp.text (.t s n)
  | .timeNow t asn off c net =>
    "=" ++ spaced [Stamp.text t, "asn=" ++ dec asn, "off=" ++ dec off, "mode=" ++ (if c then "counter" else "normal"),
      "net=" ++ (match net with | some st => netText st | none => "start")]
  | .cell i a =>
    spaced ["=C", dec i, decInt a.frame, decInt a.slot, decInt a.offset, cellKindText a.kind, "ch=" ++ decInt a.ch,
      "hop=" ++ decInt a.hop, "rate=" ++ decInt a.rate, "lane=" ++ decInt a.lane, "arg=" ++ decInt a.arg,
      "handle=" ++ (a.handle.map (fun h => decInt h.index ++ ":" ++ decInt h.epoch)).getD "-", "n=" ++ decInt a.n]
  | .roster h id code groups rx tx fail flags spill sighted =>
    spaced ["=E", "h=" ++ (h.map handleText).getD "-", "id=" ++ Eui.text id, "code=" ++ dec code,
      "groups=" ++ String.intercalate "," ((groups ++ [0, 0, 0]).take 3 |>.map dec), "rx=" ++ dec rx, "tx=" ++ dec tx,
      "fail=" ++ dec fail, "st=" ++ (if spill then "spill" else flagsText flags), timeText sighted]
  | .handle h => "=" ++ handleText h
  | .monitor n input code act trip disc t =>
    spaced ["=M", "n=" ++ dec n, "in=" ++ monInputs.getD input "-", "code=" ++ dec code, "act=" ++ bitText act,
      "trip=" ++ bitText trip, "disc=" ++ bitText disc, timeText t]
  | .residency p ticks n =>
    spaced (["=P", "state=" ++ powerText p] ++ (match ticks with | some t => ["ticks=" ++ dec t] | none => [])
      ++ ["entries=" ++ dec n])
  | .fault r peck retired rests cause til =>
    spaced (["=T", resText r] ++ (match peck with | some p => ["peck=" ++ dec p] | none => [])
      ++ ["st=" ++ (if retired then "RETIRED" else "REST"), "rests=" ++ dec rests]
      ++ (match cause with | some c => ["cause=" ++ dec c] | none => [])
      ++ (match til with | some t => ["until=" ++ Stamp.text t] | none => []))
  | .capHead src rate n a b t =>
    spaced ["=H", "src=" ++ capText src, "rate=" ++ dec rate, "n=" ++ dec n, "step.a=" ++ dec a, "step.b=" ++ dec b,
      Stamp.text t]
  | .capData off ws => spaced (["=D", dec off] ++ ws.map (fun w => String.ofList (hexDigits 8 w.toNat)))
  | .echo l => charsText l

/-- A line that is an echo or the one character of a ROLL slot carries neither a checksum nor a line end (R56, R84). -/
def OutLine.isBare : OutLine → Bool
  | .echo _ => true
  | .rollChar _ => true
  | _ => false

/-- The checksum token of a line: the characters up to and with the space before the asterisk count (R53, R54). -/
def withCheck (l : List Byte) : List Byte :=
  let c := crc8 (l ++ [0x20])
  l ++ [0x20, 0x2A, hexByte (c / 16), hexByte (c % 16)]

/-- The characters of one line on LINE: the text, the checksum token where the line carries one (R54), and CR LF in typed
mode or CR in generated mode (R55). -/
def OutLine.wire (cc crlf : Bool) (o : OutLine) : List Byte :=
  let l := asciiBytes o.text
  if o.isBare then l
  else (if cc then withCheck l else l) ++ (if crlf then [0x0D, 0x0A] else [0x0D])

/-- The characters that the last exchange puts on LINE, line by line. -/
def Line.sent (l : Line) : List (List Byte) := l.tx.map (OutLine.wire l.txCc l.txCrLf)

end Sys2Proof.Machine
end

