-- ==== Sys2Proof/Machine/Resource.lean ====
section
/-!
DEFINITION. Sys2Proof/Machine/Resource.lean: the fault model that every resource follows: rests, strikes, retirement
and what announces them (R486 to R496).
-/

namespace Sys2Proof.Machine

/-- The record of a resource in service that has never failed (R486, R496). -/
def Res.clean (id : ResId) : Res :=
  { id := id, retired := false, cause := 0, rests := 0, resting := false, until_ := none, lastFault := 0, times := [],
    outRuns := 0 }

/-- The record of a resource. -/
def State.res (s : State) (id : ResId) : Res :=
  match s.faults.find? (fun r => r.id == id) with
  | some r => r
  | none => Res.clean id

/-- Put a record in its place; one that says nothing is not kept. -/
def putRes (r : Res) (l : List Res) : List Res :=
  let l' := l.filter (fun x => x.id ≠ r.id)
  if r = Res.clean r.id then l' else l' ++ [r]

/-- Update the record of a resource. -/
def State.onRes (id : ResId) (f : Res → Res) (s : State) : State := s.onFaults (putRes (f (s.res id)))

/-- A resource is retired. -/
def State.isRetired (s : State) (k : ResKind) (n : Nat) : Bool := (s.res { kind := k, num := n }).retired

/-- The position of a kind in R495. -/
def kindPos : ResKind → Nat
  | .chan => 0
  | .bb => 1
  | .branch => 2
  | .lane => 3
  | .chain => 4
  | .block => 5
  | .peer => 6

/-- The SELF rule of a kind (R493, R529). -/
def kindRule : ResKind → SelfRule
  | .chan => .faultChan
  | .bb => .faultBb
  | .branch => .faultBranch
  | .lane => .faultLane
  | .chain => .faultChain
  | .block => .faultBlock
  | .peer => .faultPeer

/-- The number of a side: 0 A, 1 B. -/
def Side.num : Side → Nat
  | .a => 0
  | .b => 1

/-- The other side. -/
def Side.other : Side → Side
  | .a => .b
  | .b => .a

/-- The base of a kind's rest period (R488). -/
def State.restBase (s : State) : ResKind → Ticks
  | .lane => s.slotTicks
  | .chain => secs 1
  | _ => 0

/-- The cap of a kind's rest period (R488). -/
def State.restCap (s : State) : ResKind → Ticks
  | .lane => 64 * s.slotTicks
  | .chain => secs 64
  | _ => 0

/-- The window of a kind (R488). -/
def restWindow : ResKind → Ticks
  | .chan => secs 3600
  | .bb => secs 3600
  | .lane => secs 600
  | .chain => secs 600
  | _ => 0

/-- The rest period for a rest count (R487): base × 2^(n − 1), never above the cap. -/
def State.restPeriod (s : State) (k : ResKind) (n : Nat) : Ticks := min (s.restBase k * 2 ^ (n - 1)) (s.restCap k)

/-- Count and announce a rest (R493); the period is in whole seconds, rounded down (log 15). -/
def State.restSaid (id : ResId) (period : Ticks) (s : State) : State :=
  (s.count .cc ("fault.rest." ++ kindText id.kind)).queue (.rest id (period / secs 1))

/-- Rest a resource for a period (R486): the rest count rises and the period starts. -/
def State.restFor (id : ResId) (period : Ticks) (s : State) : State :=
  (s.onRes id (fun r =>
    { r with rests := r.rests + 1, resting := true, until_ := some (s.now + period), lastFault := s.now,
             times := r.times.filter (fun t => s.now ≤ t + restWindow id.kind) ++ [s.now] })).restSaid id period

/-- A transient fault of a resource that rests by periods (R486, R487): no change while it rests or is retired. -/
def State.transient (id : ResId) (s : State) : State :=
  let r := s.res id
  if r.retired || r.resting then s else s.restFor id (s.restPeriod id.kind (r.rests + 1))

/-- A strike (R487): counted as a rest, the resource stays in service. -/
def State.strike (id : ResId) (s : State) : State :=
  (s.onRes id (fun r =>
    { r with rests := r.rests + 1, lastFault := s.now,
             times := r.times.filter (fun t => s.now ≤ t + restWindow id.kind) ++ [s.now] })).count .cc
    ("fault.rest." ++ kindText id.kind)

/-- The transient faults of a resource within its window, one of this moment included. -/
def State.faultsInWindow (s : State) (id : ResId) : Nat :=
  ((s.res id).times.filter (fun t => s.now ≤ t + restWindow id.kind)).length + 1

/-- Retire a resource (R486, R493): state, audit record, event line and count, in this order. A resource already retired
stays as it is. -/
def State.retire (o : Origin) (id : ResId) (cause : Nat) (s : State) : State :=
  if (s.res id).retired then s
  else
    (((s.onRes id (fun r => { r with retired := true, cause := cause, resting := false, until_ := none })).audit o 9
      (880 + kindPos id.kind) 0 (.num cause) (.num id.num)).queue (.retire id cause)).count .cc
      ("fault.retire." ++ kindText id.kind)

/-- Reinstate a resource (R486, R493): rest count 0, strikes 0. -/
def State.reinstate (o : Origin) (id : ResId) (s : State) : State :=
  let cause := (s.res id).cause
  (((s.onRes id (fun _ => Res.clean id)).audit o 10 (880 + kindPos id.kind) 0 (.num cause) (.num id.num)).queue
    (.reinstate id)).count .cc "fault.reinstate"

/-- A retirement withheld to keep a lane, a chain or a branch (R491). -/
def State.floorSaid (id : ResId) (s : State) : State := (s.count .cc "fault.floor").queue (.faultFloor id)

/-! ## The floors of R491 -/

/-- A branch that counts as listening (R491): any state but OFF and RETIRED. -/
def Branch.listening (b : Branch) : Bool := b.st != .off && b.st != .retired

/-- A branch decides chips: LISTEN or BLANKED (R120, R155). -/
def Branch.decides (b : Branch) : Bool := b.st == .listen || b.st == .blanked

/-- A branch of the pair. -/
def Wake.br (w : Wake) : Side → Branch
  | .a => w.a
  | .b => w.b

/-- Update a branch of the pair. -/
def Wake.onBr (sd : Side) (f : Branch → Branch) (w : Wake) : Wake :=
  match sd with
  | .a => { w with a := f w.a }
  | .b => { w with b := f w.b }

/-- `wur.branches` has a branch in use (R138). -/
def State.branchUsed (s : State) (sd : Side) : Bool :=
  match s.pnat Obj.branches with
  | 0 => true
  | 1 => sd == .a
  | _ => sd == .b

/-- A branch listens and stays in service at the next WCLK edge: it is not being removed or retired (R154, R491). -/
def State.staysInUse (s : State) (sd : Side) : Bool :=
  (s.wake.br sd).listening && s.branchUsed sd && !s.isRetired .branch (Side.num sd)

/-- A retirement that would leave the part without a lane, a chain or a listening branch (R491). -/
def State.lastOne (s : State) (id : ResId) : Bool :=
  match id.kind with
  | .lane => (List.range 16).all (fun n => n == id.num || s.isRetired .lane n)
  | .chain => s.isRetired .chain (1 - id.num)
  | .branch => if id.num = 0 then !s.staysInUse .b else !s.staysInUse .a
  | _ => false

/-- Retire a lane or a chain by its criterion, or rest it at its cap where R491 keeps it. -/
def State.retireOrRest (id : ResId) (cause : Nat) (s : State) : State :=
  if s.lastOne id then
    let s := s.floorSaid id
    if (s.res id).resting then s else s.restFor id (s.restCap id.kind)
  else s.retire (.self (kindRule id.kind)) id cause

/-- Announce a line fault (R490). -/
def State.lineFault (k : LineFaultKind) (s : State) : State :=
  ((s.onLine (fun l => { l with faults := if l.faults.contains k then l.faults else l.faults ++ [k] })).count .cc
    "fault.line").queue (.lineFault k)

end Sys2Proof.Machine
end

