-- ==== Sys2Proof/Machine/LineOps.lean ====
section
/-!
DEFINITION. Sys2Proof/Machine/LineOps.lean: how the part takes a line: who hears it, the order of the judgements of
R524, the audit record, the last error and the reply (R46 to R91).
-/

namespace Sys2Proof.Machine

/-! ## What a verb answers -/

/-- What an audit record will hold beside its origin, time and result (R452). -/
structure Aud where
  action : Nat
  obj    : Nat
  old    : AVal
  new    : AVal
  deriving DecidableEq, Repr

/-- The outcome of a verb: the state with its effect, the failure and its token, the reply lines, the object WHY names
and the audit record. -/
structure Done where
  s   : State
  err : Option (Err × Nat)
  out : List OutLine
  obj : Option Nat
  aud : Option Aud

/-- Success. -/
def good (s : State) (out : List OutLine) (obj : Option Nat) (aud : Option Aud) : Done :=
  { s := s, err := none, out := out, obj := obj, aud := aud }

/-- Failure. -/
def bad (s : State) (e : Err) (tok : Nat) (obj : Option Nat) (aud : Option Aud) : Done :=
  { s := s, err := some (e, tok), out := [], obj := obj, aud := aud }

/-- The session holds a level or a higher one (R70). -/
def State.allowed (s : State) (l : Level) : Bool := levelNum l ≤ levelNum s.line.level

/-- Go on only at a level (R76). -/
def needs (l : Level) (s : State) (obj : Option Nat) (aud : Option Aud) (k : Done) : Done :=
  if s.allowed l then k else bad s .priv 1 obj aud

/-! ## Who hears a line -/

/-- The session drops to OBSERVER (R74). -/
def Line.endSession (l : Line) : Line := { l with level := .observer, challenge := none }

/-- The part ignores LINE: it feeds a host from VAUX, and VAUX is off (R47). -/
def State.lineIgnored (s : State) : Bool := s.pint Obj.lineHostVaux == 1 && s.mon.vaux == .off

/-- The receiver takes characters (R46, R47, R43, R86). -/
def State.hears (s : State) : Bool :=
  s.running && !s.resetting && s.line.isOpen && s.line.stuckAt.isNone && !s.line.deafUntilIdle
    && (s.pm.power == .active || s.pm.power == .loft) && !s.lineIgnored

/-- A falling edge on LINE wakes the part (R46, R423), unless it ignores LINE (R47) or LINE is stuck (R86); a stuck LINE that
a check has read high is then idle no longer (R87). -/
def State.lineEdge (s : State) : State :=
  let s := s.onLine (fun l => { l with highAt := none })
  if s.running && (s.pm.power == .larder || s.pm.power == .cellar) && s.line.stuckAt.isNone && !s.lineIgnored then
    s.wakeEvent
  else s

/-- A line is for this unit (R59, R60): one without `@` in solo mode, the broadcast, or its own address. -/
def State.forUnit (s : State) (h : Hdr) : Bool :=
  match h.addr with
  | none => s.line.solo
  | some n => n == 0 || n == s.line.address

/-- What a heard line does whoever it is for: parameters of the next line come into force (R57, R75, R514), its characters
count (R512), `@` ends solo mode (R59), valid syntax confirms a rate (R48), the partial line has become this line (R55), and a
running entry is cancelled (R416). -/
def State.takeLine (h : Hdr) (s : State) : State :=
  let (k, s) := (s.fire .nextLine).draw
  let s := s.rouse.bytes .line (Config.freeChars k)
  let s := if s.pm.entering.isSome then s.wakeEvent else s
  s.onLine (fun l =>
    { l with solo := l.solo && h.addr.isNone, trial := none, partialLine := [], tx := [], sending := none })

/-- What a line for this unit does before it is judged: the idle times restart (R74, R415), and a challenge is cancelled
unless this line answers it (R72). -/
def State.beginLine (answersChallenge : Bool) (s : State) : State :=
  let s := s.onPm (fun p => { p with lineIdle := s.now })
  s.onLine (fun l => { l with lastLine := s.now, challenge := if answersChallenge then l.challenge else none })

/-! ## Replies -/

/-- One character time (R42). -/
def State.charTime (s : State) : Ticks := 40960000000 / max 1 s.line.rate

/-- How long lines take on LINE from the line they answer: the part waits 2 character times to 200 ms before the first and
20 ms at most between lines, a free value within these bounds (R63, R64; log 114). -/
def State.sendTime (k : Nat) (l : List (List Byte)) (s : State) : Ticks :=
  let most := ms 200 + (l.length - 1) * ms 20 - 2 * s.charTime
  2 * s.charTime + Config.freeWait k % (most + 1) + (l.map List.length).sum * s.charTime

/-- The part sends lines (R54, R55, R62). -/
def State.send (out : List OutLine) (cc : Bool) (what : Sending) (s : State) : State :=
  let (k, s) := s.draw
  let crlf := s.pnat Obj.lineMode == 0
  let s := s.onLine (fun l => { l with tx := out, txCc := cc, txCrLf := crlf, sending := some what })
  s.onLine (fun l => { l with sendEnd := s.now + s.sendTime k s.line.sent })

/-- The part sends characters that are no line: an echo (R56) or the answer in a ROLL slot (R84), at once. -/
def State.sendBare (o : OutLine) (what : Sending) (n : Nat) (s : State) : State :=
  s.onLine (fun l => { l with tx := [o], txCc := false, sending := some what, sendEnd := s.now + n * s.charTime })

/-- What is on the wire at this moment (R43). -/
def State.onWire (s : State) : Option Sending := if s.now < s.line.sendEnd then s.line.sending else none

/-- The seen bits and the fold flag that a WAKE SEEN reply carried come back when it is abandoned (R167). -/
def State.seenBack (what : Option Sending) (s : State) : State :=
  match what with
  | some (.seen bits fold) => s.onWake (fun w => { w with seen := Mem.orAll w.seen bits, foldFlag := w.foldFlag || fold })
  | _ => s

/-- The note of what a reply carries: the bits of a WAKE SEEN reply (R167) and the address of an ENUM answer (R82). -/
def Sending.ofReply : Option Sending → Sending
  | some (.enumAnswer m n) => .enumAnswer m n
  | some (.seen b f) => .seen b f
  | _ => .reply

/-- The verb answers an enumeration. -/
def Sending.answers : Option Sending → Bool
  | some (.enumAnswer _ _) => true
  | _ => false

/-- A reply goes on LINE (R62), and a pushed event line that collided may follow it (R67). A broadcast gets none, but for
the answers of ENUM (R61). A reply without lines is one that comes later, or never. -/
def State.reply (h : Hdr) (out : List OutLine) (s : State) : State :=
  if h.addr == some 0 && !Sending.answers s.line.sending then s
  else if out.isEmpty then s.onLine (fun l => { l with tx := [], sending := none })
  else
    (s.send out (h.cc || s.pnat Obj.lineMode == 1) (Sending.ofReply s.line.sending)).onLine
      (fun l => { l with pushHeld := false })

/-- A failure: the last error (R525), and either the error reply or, for a broadcast, silence and a count (R61). -/
def State.refuse (h : Hdr) (v : Verb) (e : Err) (tok : Nat) (obj : Option Nat) (s : State) : State :=
  let s := s.onLine (fun l => { l with lastErr := some { err := e, verb := v, obj := obj, tok := tok, time := s.stamp } })
  if h.addr == some 0 then s.count .line "line.refuse" else s.reply h [.err e]

/-- The record of a broadcast that is refused for its level, a range or its checksum and whose verb has no record of its own:
a DO action is recorded as an action, with the hash of its arguments, LOGOUT as the level it asks for, ROLL as an address that
stays (R61, R452; log 115). -/
def State.refusedAud (v : Verb) (obj : Option Nat) (s : State) : Aud :=
  match v with
  | .do_ => { action := 4, obj := obj.getD 0, old := .num 0, new := .hash (Config.freeHash s.fresh) }
  | .logout => { action := 2, obj := 768, old := .num (levelNum s.line.level), new := .num 0 }
  | _ => { action := 5, obj := 771, old := .num s.line.address, new := .num s.line.address }

/-- Write the audit record of a command (R89, R91): its own, or that of a refused broadcast (R61). -/
def State.recordLine (o : Origin) (h : Hdr) (v : Verb) (d : Done) : State :=
  match d.aud, d.err with
  | some a, none => d.s.audit o a.action a.obj 0 a.old a.new
  | some a, some (e, _) => d.s.audit o a.action a.obj (errNum e) a.old a.new
  | none, some (e, _) =>
    if h.addr == some 0 && (e == .priv || e == .range || e == .check) then
      let a := d.s.refusedAud v d.obj
      d.s.draw.2.audit o a.action a.obj (errNum e) a.old a.new
    else d.s
  | none, none => d.s

/-- Write the audit record of a command, then answer (R91). -/
def State.finish (o : Origin) (h : Hdr) (v : Verb) (d : Done) : State :=
  let s := State.recordLine o h v d
  match d.err with
  | some (e, tok) => s.refuse h v e tok d.obj
  | none => s.reply h d.out

/-- A line without the checksum that generated mode requires (R55). -/
def State.noCheck (h : Hdr) (s : State) : Bool := s.pnat Obj.lineMode == 1 && !h.cc

/-- The audit record of a command whose record its work writes itself: only a failed checksum leaves it to the line. -/
def State.lateAudit (h : Hdr) (a : Aud) (s : State) : Option Aud := if s.noCheck h then some a else none

/-- Judge a line of this unit: its checksum first (R524), then its verb; then its record and its answer. -/
def State.judge (h : Hdr) (v : Verb) (run : State → Done) (s : State) : State :=
  let o := s.lineOrigin h
  let d := run s
  if s.noCheck h then
    State.finish o h v { d with s := { s with fresh := d.s.fresh }, err := some (.check, 0), out := [] }
  else State.finish o h v d

/-! ## Changes that wait (R91, R518) -/

/-- The record of R520 of a `DO vaux`: 0 off, 1 on, before and after. -/
def vauxAud (before on : Bool) : Aud :=
  { action := 4, obj := 539, old := .num (bit before), new := .num (bit on) }

/-- The calibration is the step of a reinstatement that a line asked for (R497). -/
def CalWhy.isChange : CalWhy → Bool
  | .reinstate _ _ _ => true
  | _ => false

/-- A line waits for the calibration to answer it (R192, R497). -/
def CalWhy.answers : CalWhy → Bool
  | .reinstate _ _ _ => true
  | .command _ => true
  | _ => false

/-- An earlier change has not been applied and recorded yet: a `DO vaux on` whose attempt runs (R402), a change of armed masks
before its edge (R116), the reinstatement of a chain whose calibration is not over (R497). -/
def State.changeOpen (s : State) : Bool :=
  s.mon.onOwed.isSome || !s.wake.armOwed.isEmpty || s.radio.calAsked.any (fun c => c.1.isChange)
    || (s.radio.cal.map (fun c => c.why.isChange)).getD false

/-- A change waits: an emergency flush runs (R518), or one that came before it is not applied yet (R91). `DO vaux off` ends the
attempt of the `DO vaux on` before it and does not wait for it (R402). -/
def State.mustWait (c : Instr) (s : State) : Bool :=
  s.store.flush.isSome || !s.store.heldLines.isEmpty
    || (s.changeOpen && !(match c with | .doVaux _ false => true | _ => false))

/-- Take a line of a verb: hear it, ignore it if it is for another unit or a broadcast the verb does not take (R61), and judge
it; `c` is the line as a change, which may have to wait (R91). -/
def State.takeVerb (c : Option Instr) (h : Hdr) (v : Verb) (bcast answersChallenge : Bool) (run : State → Done) (s : State) :
    State :=
  if s.hears then
    let mine := s.forUnit h
    let s := s.takeLine h
    if !mine || (h.addr == some 0 && !bcast) then s
    else
      let s := s.beginLine (answersChallenge && !s.noCheck h)
      match c with
      | some c => if s.mustWait c then s.onStore (fun x => { x with heldLines := x.heldLines ++ [c] }) else s.judge h v run
      | none => s.judge h v run
  else s.lineEdge

/-- Take a line that changes nothing that is audited. -/
def State.verb (h : Hdr) (v : Verb) (bcast answersChallenge : Bool) (run : State → Done) (s : State) : State :=
  s.takeVerb none h v bcast answersChallenge run

/-- Take a line that is a change (R89, R91). -/
def State.change (c : Instr) (h : Hdr) (v : Verb) (bcast answersChallenge : Bool) (run : State → Done) (s : State) : State :=
  s.takeVerb (some c) h v bcast answersChallenge run

/-- The hash of an argument text, which this model does not keep (R453, R520; log 6). -/
def State.argHash (s : State) : AVal × State :=
  let (k, s) := s.draw
  (.hash (Config.freeHash k), s)

/-- A DO action whose audit record holds its argument text (R520): the level, then the work. -/
def actionRun (obj : Nat) (l : Level) (work : State → Option Aud → Done) (s : State) : Done :=
  let (t, s) := s.argHash
  let a : Option Aud := some { action := 4, obj := obj, old := .num 0, new := t }
  needs l s (some obj) a (work s a)

/-- A DO action that is not audited (R520). -/
def State.report (h : Hdr) (obj : Nat) (l : Level) (work : State → Done) (s : State) : State :=
  s.verb h .do_ true false (fun s => needs l s (some obj) none (work s))

end Sys2Proof.Machine
end

