-- ==== Sys2Proof/Machine/RosterOps.lean ====
section
/-!
DEFINITION. Sys2Proof/Machine/RosterOps.lean: the roster and the spill directory: look-up, codes and masks, counters and
the replay window, keys and the checks of a frame, contacts and drift, eviction and activation (R106 to R116, R283 to
R285, R341 to R365).
-/

namespace Sys2Proof.Machine

/-! ## Entries -/

/-- The roster entry of an index, if one was ever given (R350). -/
def State.entry (s : State) (i : Nat) : Option Entry := assoc i s.roster.entries

/-- Update a roster entry that exists. -/
def State.onEntry (i : Nat) (f : Entry → Entry) (s : State) : State :=
  match s.entry i with
  | some e => s.onRoster (fun r => { r with entries := assocSet i (f e) r.entries })
  | none => s

/-- The handle of an entry (R351). -/
def State.handleAt (s : State) (i : Nat) : Handle := { index := i, epoch := ((s.entry i).map Entry.epoch).getD 0 }

/-- The entry a handle names, unless the handle is stale or unused (R351). -/
def State.byHandle (s : State) (h : Handle) : Option Entry :=
  match s.entry h.index with
  | some e => if e.active && e.epoch == h.epoch then some e else none
  | none => none

/-- The index of the active entry of an ID. -/
def State.indexOf (s : State) (id : Eui) : Option Nat :=
  match s.roster.entries.find? (fun x => x.2.active && x.2.id == id) with
  | some x => some x.1
  | none => none

/-- The spill record of an ID, if its CRC holds (R355). -/
def State.spillOf (s : State) (id : Eui) : Option Spill :=
  match assoc id s.roster.spill with
  | some x => if x.crcOk then some x else none
  | none => none

/-- A drift bin without samples (R283). -/
def DriftBin.empty : DriftBin := { o := 0, u := 0, n := 0 }

/-- An entry for an ID that was never known (R350, R355). -/
def Entry.fresh (id : Eui) (model : Nat) : Entry :=
  { id := id, epoch := 0, code := 0, groups := [], rxCtr := 0, window := 0, txCtr := 0, txSaved := 0, rxSaved := 0,
    keySlot := 0, active := true, unreach := false, pinned := false, retired := false, bestB := false,
    fails := 0, accepts := 0, sends := 0, tpLast := 0x80, contact := none, contactSlot := 0, contactOff := 0, sighted := 0,
    sightT := none, drift := List.replicate 7 .empty, total := 0, model := model, admitOwed := false,
    unreachAt := none, rejects := 0, maskSaved := 0, retireOwed := none }

/-! ## Codes and armed masks (R106 to R116) -/

/-- The mask a code will have once every waiting change has taken effect. -/
def State.maskOf (s : State) (code : Nat) : Byte := Mem.read (Mem.writeAll s.wake.masks s.wake.maskWrites) code

/-- Write the mask of a code: the change waits for its WCLK edge (R116). Code 0 cannot be written (R104). -/
def State.writeMask (code : Nat) (m : Byte) (s : State) : State :=
  if code = 0 then s else s.onWake (fun w => { w with maskWrites := w.maskWrites ++ [(code, m)] })

/-- The code that has been free the longest, of those a pending group count leaves individual (R106, R107); codes on their way
back into the pool come last (R110). -/
def State.takeCode (s : State) : Nat × State :=
  let top := match s.pnext Obj.groupCount with | some v => 8192 - v.toInt.toNat | none => 8192
  match (s.jomen.pool ++ s.jomen.freed).find? (fun c => c < top) with
  | some c => (c, s.onJomen (fun j => { j with pool := j.pool.erase c, freed := j.freed.erase c }))
  | none => (0, s)

/-- A code will return to the pool behind every other, at the edge that clears its mask (R110). -/
def State.freeCode (c : Nat) (s : State) : State :=
  if c = 0 then s else (s.onJomen (fun j => { j with freed := j.freed ++ [c] })).writeMask c 0

/-- Add to the number of endpoints that hold a group code (R106). -/
def bumpHolder (g : Nat) (up : Bool) (l : List (Nat × Nat)) : List (Nat × Nat) :=
  let n := (assoc g l).getD 0
  let n' := if up then n + 1 else n - 1
  if n' = 0 then assocDel g l else assocSet g n' l

/-- Count group codes that an endpoint takes or gives up (R106). -/
def State.holdGroups (gs : List Nat) (up : Bool) (s : State) : State :=
  s.onJomen (fun j => { j with holders := gs.foldl (fun l g => bumpHolder g up l) j.holders })

/-- The individual or infrastructure code of an entry (R109). -/
def codeOf (i : Nat) (e : Entry) : Nat := if i ≤ 15 then i else e.code

/-! ## Keys (R346) -/

/-- The key an endpoint's frames are secured with. -/
def endpointKey (nk : Key) (id : Eui) : Key := Config.cmac nk (0x01#8 :: beBytes 8 id.toNat)

/-- The beacon key. -/
def beaconKey (nk : Key) : Key := Config.cmac nk [0x02#8]

/-! ## Frames as octets (R339 to R347) -/

/-- Octets of a MIC of a length code (R339). -/
def micOctets (code : Nat) : Nat :=
  match code with
  | 0 => 0
  | 1 => 4
  | 2 => 8
  | _ => 16

/-- The frame control of a frame (R339). -/
def frameControl (f : Frame) : List Byte :=
  leBytes 1 (kindCode f.kind + 16 * f.micLen.val + 64 * bit f.ackReq + 128 * bit f.dir)
    ++ leBytes 1 (f.sync.toNat + 64 * bit f.anyAnchor)

/-- The bytes before the payload: the authenticated data (R341, R347). -/
def frameAad (f : Frame) : List Byte :=
  match f.kind with
  | .ack => frameControl f ++ leBytes 4 f.ctr.toNat ++ leBytes 4 f.ackCtr.toNat ++ leBytes 1 f.channel.toNat
  | _ => frameControl f ++ leBytes 8 f.id.toNat ++ leBytes 4 f.ctr.toNat ++ leBytes 1 f.reason.toNat
      ++ leBytes 1 f.temp.toNat

/-- The nonce of a frame (R347). -/
def frameNonce (f : Frame) : List Byte :=
  beBytes 8 f.id.toNat ++ beBytes 4 f.ctr.toNat
    ++ leBytes 1 (f.micLen.val + 4 * bit f.dir + 8 * kindCode f.kind)

/-- A payload encrypted or decrypted by AES-128 CCM*: each octet with its octet of the key stream (R347, log 5). -/
def ccmCrypt (k : Key) (nonce l : List Byte) : List Byte :=
  l.zipIdx.map (fun x => x.1 ^^^ Config.ccmStream k nonce x.2)

/-- The payload decrypted (R347). -/
def framePlain (nk : Key) (f : Frame) : List Byte := ccmCrypt (endpointKey nk f.id) (frameNonce f) f.payload

/-- The MIC holds: its octets equal those KEEPER computes (R347). -/
def micOk (nk : Key) (f : Frame) : Bool :=
  let n := micOctets f.micLen.val
  let want := Config.ccmMic (endpointKey nk f.id) (frameNonce f) (frameAad f) (framePlain nk f) n
  f.mic.toNat / 2 ^ (128 - 8 * n) == want.toNat / 2 ^ (128 - 8 * n)

/-! ## The replay window (R362) -/

/-- The receive counter and window after a counter is accepted; none when it is a duplicate or old (R362). -/
def replay (l w c : BitVec 32) : Option (BitVec 32 × BitVec 32) :=
  if l.toNat < c.toNat then
    let d := c.toNat - l.toNat
    some (c, if 32 ≤ d then 1 else (w <<< d) ||| 1)
  else
    let d := l.toNat - c.toNat
    if 32 ≤ d then none
    else if w.getLsbD d then none
    else some (l, w ||| (1 <<< d))

/-- The transmit counter at which nothing more is sent (R362). -/
def ctrEnd : Nat := 0xFFFFFFF0

/-- The next transmit counter of an entry (R363), persisted every 16 sends (R364); none once it has ended, which is
counted (R362). -/
def State.nextTx (i : Nat) (s : State) : Option (BitVec 32) × State :=
  match s.entry i with
  | none => (none, s)
  | some e =>
    if ctrEnd ≤ e.txCtr.toNat then (none, s.count .cc "sec.ctr.end")
    else
      let c := e.txCtr + 1
      let saved := if e.txSaved.toNat + 16 ≤ c.toNat then c else e.txSaved
      (some c, s.onEntry i (fun e =>
        { e with txCtr := c, txSaved := saved, sends := if saved = e.txSaved then min 15 (e.sends + 1) else 0 }))

/-- The spill image of an entry as it stands (R355). -/
def State.persist (i : Nat) (s : State) : State :=
  let s := s.onEntry i (fun e => { e with rxSaved := e.rxCtr, txSaved := e.txCtr, accepts := 0, sends := 0 })
  if i ≤ 15 then s
  else
    match s.entry i with
    | some e => s.onRoster (fun r =>
        { r with spill := assocSet e.id { entry := e, lapsed := ((assoc e.id r.spill).map Spill.lapsed).getD 0,
                                          crcOk := true } r.spill })
    | none => s

/-- Persist every entry changed since its last persist (R364). -/
def State.persistAll (s : State) : State :=
  s.each (s.roster.entries.filter (fun x => x.2.active && (x.2.rxCtr ≠ x.2.rxSaved || x.2.txCtr ≠ x.2.txSaved)))
    (fun x s => s.persist x.1)

/-! ## Drift (R255, R283 to R285) -/

/-- The bin of a temperature in whole degrees (R283). -/
def driftBin (t : Int) : Nat := if t < -40 then 0 else min 6 ((t + 40).toNat / 20)

/-- A temperature byte, or the die's temperature when it is 0x80 (R283). -/
def State.tempOf (s : State) (t : BitVec 8) : Int := if t = 0x80 then s.radio.temp / 4 else t.toInt

/-- An offset in the 16 bits of its field (R350). DESIGN CHOICE (log 151): beyond them it stays at the end of their range. -/
def clampOffset (o : Int) : Int := max (-32768) (min 32767 o)

/-- One step of a drift model at a contact whose measured drift is `m`, in 0.01 ppm (R283, R350). -/
def DriftBin.learn (m : Int) (b : DriftBin) : DriftBin :=
  if b.n = 0 then { o := clampOffset m, u := 800, n := 1 }
  else { o := clampOffset (b.o + (m - b.o) / 4), u := min 65535 (max (max 100 (2 * (m - b.o).natAbs)) (b.u * 7 / 8)),
         n := min 255 (b.n + 1) }

/-- The bound of a bin (R283, R287). -/
def State.binBound (s : State) (b : DriftBin) : Nat := if b.n = 0 then 100 * s.pnat Obj.driftDefault else b.u

/-- The largest slew rate that ran at some time since a moment (R255). -/
def Time.slewSince (since : Ticks) (t : Time) : Nat :=
  ((t.slews.filter (fun x => decide (since < x.1))).map (·.2)).foldl max t.slew.natAbs

/-- The part's own drift bound over the time since a moment, in 0.01 ppm (R255). -/
def State.ownDrift (s : State) (since : Ticks) : Nat :=
  (match s.time.slowFrom with | some t => if since ≤ t then 300 else 200 | none => 200)
    + (if s.now < s.time.fastUntil then 200 else 0)
    + s.time.slewSince since * 100000000 / 2 ^ 32

/-- The largest bound over the bins from the partner's last temperature to the die's present one (R284). -/
def State.partnerDrift (s : State) (e : Entry) : Nat :=
  let a := driftBin (s.tempOf e.tpLast)
  let b := driftBin (s.radio.temp / 4)
  ((List.range 7).filter (fun k => (a ≤ k && k ≤ b) || (b ≤ k && k ≤ a))).foldl
    (fun m k => max m (s.binBound (e.drift.getD k .empty))) 0

/-- The guard of R284 in ticks: 120 µs and the drifts over the time since the last contact. -/
def State.guardFrom (s : State) (e : Entry) (t : Ticks) : Ticks :=
  us 120 + (s.ownDrift t + s.partnerDrift e) * (s.now - t) / 100000000

/-- The measured drift of a contact (R283), in 0.01 ppm: `late` is the arrival after the cell's nominal time and `dt` the
time since the contact before, in ticks; the prediction is shifted by the offset of the bin of the last T_p (R284). -/
def measuredDrift (o oLast late : Int) (dt : Nat) : Int := o - oLast + late * 100000000 / dt

/-- A contact with a partner (R283): a frame that starts at a moment. The drift model learns when 1 s or more has passed
since the contact before and the frame came in a cell that names the partner, so that a time was predicted for it
(log 29). -/
def State.contactAt (i : Nat) (at_ : Ticks) (t : BitVec 8) (late : Option Int) (s : State) : State :=
  s.onEntry i (fun e =>
    let k := driftBin (s.tempOf t)
    let last := (e.drift.getD (driftBin (s.tempOf e.tpLast)) .empty).o
    let learnt := match e.contact, late with
      | some c, some d =>
        if c + secs 1 ≤ at_ then
          let b := e.drift.getD k .empty
          e.drift.set k (b.learn (measuredDrift b.o last d (at_ - c)))
        else e.drift
      | _, _ => e.drift
    let (slot, off) := s.placeBack (s.now - at_)
    { e with contact := some at_, contactSlot := slot, contactOff := off, tpLast := BitVec.ofInt 8 (s.tempOf t), drift := learnt })

/-! ## Alarms and eviction (R354) -/

/-- The entry has replied to the sweep round that runs (R354). -/
def State.sweepHeard (s : State) (i : Nat) : Bool :=
  match s.work.round with
  | some r => r.req.sweep && r.heard.contains i
  | none => false

/-- An entry holds an alarm (R354): a record or a seen bit of its code, a sweep that is armed (log 154), or one that runs
and to which it has not replied. -/
def State.alarmHeld (s : State) (i : Nat) (e : Entry) : Bool :=
  let c := e.code
  (c != 0 && (s.wake.queue.any (fun r => r.code == c) || Mem.read s.wake.seen c != 0))
    || !s.wake.sweeps.isEmpty || s.work.rounds.any RoundReq.sweep
    || (s.wake.sweeping.isSome && !s.sweepHeard i)

/-- A flight in the table or the waiting list names the entry. -/
def State.hasFlight (s : State) (i : Nat) : Bool :=
  s.work.table.any (fun f => f.handle.index == i) || s.work.waiting.any (fun f => f.handle.index == i)

/-- An entry that may be evicted (R354, R496). -/
def State.evictable (s : State) (x : Nat × Entry) : Bool :=
  16 ≤ x.1 && x.2.active && !x.2.pinned && !s.alarmHeld x.1 x.2 && !s.hasFlight x.1

/-- The entry R354 evicts: the lowest last sighted slot, and the lowest index among equals. -/
def oldest : List (Nat × Entry) → Option (Nat × Entry)
  | [] => none
  | x :: xs =>
    match oldest xs with
    | none => some x
    | some y => if x.2.sighted < y.2.sighted || (x.2.sighted = y.2.sighted && x.1 ≤ y.1) then some x else some y

/-- Evict an entry (R354): spill write staged, code returned, group counts kept with the spill record. -/
def State.evict (i : Nat) (s : State) : State :=
  match s.entry i with
  | none => s
  | some e =>
    let s := s.freeCode e.code
    let e' := { e with active := false, code := 0, keySlot := 0, rxSaved := e.rxCtr, txSaved := e.txCtr }
    s.onRoster (fun r =>
      { r with entries := assocSet i e' r.entries,
               spill := assocSet e.id { entry := e', lapsed := e.code, crcOk := true } r.spill,
               staged := r.staged ++ [e.id] })

/-- A free endpoint index: the lowest that no active entry holds (R359). -/
def State.freeIndex (s : State) : Option Nat :=
  let held := (s.roster.entries.filter (fun x => x.2.active)).map (·.1)
  if held.length < 16 then some (((List.range 32).find? (fun k => 16 ≤ k && !held.contains k)).getD 16)
  else
    let m := held.foldl max 15
    match ((List.range (m - 15)).map (· + 16)).find? (fun k => !held.contains k) with
    | some k => some k
    | none => if m + 1 ≤ 8191 then some (m + 1) else none

/-- An index for an endpoint that must become active: a free one, or that of the entry evicted for it (R359). -/
def State.takeIndex (s : State) : Option Nat × State :=
  match s.freeIndex with
  | some i => (some i, s)
  | none =>
    match oldest (s.roster.entries.filter s.evictable) with
    | some (i, _) => (some i, s.evict i)
    | none => (none, s)

/-- Give an index to an endpoint (R107, R111, R114, R351): the epoch rises, a code is assigned and armed. A value of
`jomen.arm.endpoint` that waits comes into force where a code is assigned (R117). -/
def State.giveIndex (i : Nat) (e : Entry) (s : State) : State :=
  let epoch := (((s.entry i).map Entry.epoch).getD 0 + 1) % 8
  let (c, s) := s.takeCode
  let s := if c = 0 then s else s.fire .assignment
  let e' := { e with epoch := epoch, code := c, active := true, keySlot := i, contact := none,
                     retired := e.retired, unreachAt := none }
  let s := s.onRoster (fun r => { r with entries := assocSet i e' r.entries })
  if c = 0 then (s.count .cc "jomen.nocode").queue (.noCode { index := i, epoch := epoch })
  else s.writeMask c (BitVec.ofNat 8 (s.pnat Obj.armEndpoint))

/-- The endpoint is served unattached; `~ROSTERFULL` at the first such frame (R359). -/
def State.unattached (s : State) : State :=
  let s := s.count .cc "roster.unattached"
  if s.roster.full then s
  else (s.onRoster (fun r => { r with full := true })).queue .rosterFull

/-- `~ROSTEROK` when an entry is next free or evictable (R359). -/
def State.rosterCheck (s : State) : State :=
  if s.roster.full && (s.freeIndex.isSome || s.roster.entries.any s.evictable) then
    (s.onRoster (fun r => { r with full := false })).queue .rosterOk
  else s

end Sys2Proof.Machine
end

