-- ==== Sys2Proof/Machine/RxOps.lean ====
section
/-!
DEFINITION. Sys2Proof/Machine/RxOps.lean: the channel plan, the span, the hop tables, lanes and chains (R178 to R185,
R218 to R241, R278 to R282, R299).
-/

namespace Sys2Proof.Machine

/-! ## The plan (R183, R184, R219, R220) -/

/-- The wake channel in kHz (R183). -/
def wakeKHz : Variant → Nat
  | .e => 869525
  | .n => 915200

/-- The band of a rate: 1 Mb/s is the backbone's (R184). -/
def bandOf (rate : Nat) : Band := if rate = 1000 then .g24 else .sub

/-- The centre of a channel at a rate, in kHz (R184, R220). -/
def chanKHz (v : Variant) (rate ch : Nat) : Nat :=
  if rate = 1000 then 2403000 + 4000 * ch
  else
    match v with
    | .e => if rate = 200 then 863200 + 400 * ch else 863100 + 200 * ch
    | .n => if rate = 200 then 902300 + 400 * ch else 902200 + 200 * ch

/-- The span centres of a band, by index (R219). -/
def centres : Band → Variant → List Nat
  | .sub, .e => [0]
  | .sub, .n => (List.range 90).map (· + 20)
  | .g24, _ => List.range 19

/-- A span centre in kHz (R219). -/
def centreKHz : Band → Variant → Nat → Nat
  | .sub, .e, _ => 866600
  | .sub, .n, j => 902100 + 200 * j
  | .g24, _, j => 2405000 + 4000 * j

/-- The channel positions a channel takes under a span centre: one, or two at 200 kb/s; the backbone outputs are
numbered from 100 (R219, R223). None when the span does not hold it. -/
def positions (v : Variant) (centre rate ch : Nat) : Option (List Nat) :=
  let base (k : Nat) : Option Nat :=
    match v with
    | .e => if k ≤ 34 then some (k + 2) else none
    | .n => if centre ≤ k + 20 && k + 20 - centre < 40 then some (k + 20 - centre) else none
  if rate = 1000 then (if ch = centre then some [100] else if ch = centre + 1 then some [101] else none)
  else if rate = 200 then
    match base (2 * ch), base (2 * ch + 1) with
    | some p, some q => some [p, q]
    | _, _ => none
  else (base ch).map (fun p => [p])

/-- A channel of the plan at a rate (R184, R220). -/
def planHas (v : Variant) (rate ch : Nat) : Bool :=
  if rate = 1000 then decide (ch < 20)
  else if rate = 200 then
    match v with
    | .e => decide (ch ≤ 15)
    | .n => decide (ch ≤ 31) || (decide (34 ≤ ch) && decide (ch ≤ 63))
  else (planChannels v).contains ch

/-- The 200 kb/s channel that an entry k of H0 gives: the one that holds channel k, or the next lower of the plan. DESIGN
CHOICE (log 134): H0 draws on the channels of 50 and 100 kb/s (R278), and R272 lets its cells run at 200. -/
def wideOf (v : Variant) (k : Nat) : Nat :=
  let m := k / 2
  if planHas v 200 m then m else match v with | .e => min m 15 | .n => if m < 34 then 31 else 63

/-- The channel at a rate that an entry of H0 gives. -/
def entryChan (v : Variant) (rate k : Nat) : Nat := if rate = 200 then wideOf v k else k

/-- The parts of the plan a channel takes, as numbers that clash when channels do (R219, R275). -/
def chanBins (rate ch : Nat) : List Nat :=
  if rate = 1000 then [1000 + ch] else if rate = 200 then [2 * ch, 2 * ch + 1] else [ch]

/-- The present centre of a span where it is one of the table, else the lowest. DESIGN CHOICE (log 135): on the N variant a
unit starts from the lowest centre, for no rule names the first. -/
def legalCentre (v : Variant) (b : Band) (j : Nat) : Nat :=
  let l := centres b v
  if l.contains j then j else l.headD 0

/-- The span holds the wake channel ±100 kHz (R135). -/
def spanHasWake (v : Variant) (b : Band) (centre : Nat) : Bool :=
  b == .sub && centreKHz .sub v centre ≤ wakeKHz v + 3900 && wakeKHz v + 100 ≤ centreKHz .sub v centre + 4000

/-- The calibration group of a frequency in kHz (R185). -/
def groupOf (v : Variant) (b : Band) (khz : Nat) : Nat :=
  match b, v with
  | .sub, .e => min 15 ((khz - 863000) * 2 / 875)
  | .sub, .n => min 15 ((khz - 902000) / 1625)
  | .g24, _ => min 15 ((khz - 2400000) * 100 / 521875)

/-! ## Rates and times -/

/-- The default rate (R244). -/
def State.phyRate (s : State) : Nat :=
  match s.pnat Obj.phyRate with
  | 0 => 50
  | 1 => 100
  | _ => 200

/-- The rate of a cell (R272). -/
def State.cellRate (s : State) (code : Nat) : Nat :=
  match code with
  | 1 => 50
  | 2 => 100
  | 3 => 200
  | 4 => 1000
  | _ => s.phyRate

/-- The time of octets on the air at a rate. -/
def airTicks (rate octets : Nat) : Ticks := octets * 8 * 4096000 / rate

/-- Lane samples at a rate (R223); rate 0 stands for the raw samples of a chain, at 10 MS/s (R248). -/
def samplesTicks (rate n : Nat) : Ticks := if rate = 0 then n * 4096 / 10 else n * (airTicks rate 1 / 32)

/-- One lane sample at a rate. -/
def sampleTicks (rate : Nat) : Ticks := samplesTicks rate 1

/-- The first lane sample that begins at or after a moment: all lanes of one rate share one grid (R223). DESIGN CHOICE (log
136): its samples begin at the multiples of their length. -/
def gridUp (rate : Nat) (t : Ticks) : Ticks :=
  if rate = 0 then t else (t + sampleTicks rate - 1) / sampleTicks rate * sampleTicks rate

/-- PSDU octets of a secured frame with a payload of `n` octets (R341, R242). -/
def psduOctets (n micCode : Nat) : Nat := 16 + n + micOctets micCode + 4

/-- The lane sample that a moment falls in begins here. -/
def gridDown (rate : Nat) (t : Ticks) : Ticks := if rate = 0 then t else t / sampleTicks rate * sampleTicks rate

/-- The delay of CHZ and the lane at a rate (R267). -/
def laneDelay (rate : Nat) : Ticks :=
  match rate with
  | 50 => 46300 * 512 / 125
  | 100 => 23400 * 512 / 125
  | 200 => 11900 * 512 / 125
  | _ => 2600 * 512 / 125

/-! ## Hop tables (R278 to R282) -/

/-- One step of the generator of R278. -/
def hopRand (x : Nat) : Nat :=
  let x := (x ^^^ (x * 2 ^ 13)) % 2 ^ 32
  let x := x ^^^ (x / 2 ^ 17)
  (x ^^^ (x * 32)) % 2 ^ 32

/-- Swap two places of a list. -/
def swapAt (l : List Nat) (i j : Nat) : List Nat := (l.set i (l.getD j 0)).set j (l.getD i 0)

/-- The shuffle of R278, from place `n` down to 1. -/
def hopShuffle : Nat → Nat → List Nat → List Nat
  | 0, _, l => l
  | n + 1, x, l =>
    let x := hopRand x
    hopShuffle n x (swapAt l (n + 1) (x % (n + 2)))

/-- A hop table from its sorted list of enabled channels and the seed (R278). -/
def hopTable (enabled : List Nat) (seed : Nat) : List Nat :=
  match enabled with
  | [] => []
  | l => hopShuffle 63 seed ((List.range 64).map (fun j => l.getD (j % l.length) 0))

/-- The channels k that a mask enables (R282). -/
def maskChannels (m : Nat) : List Nat := (List.range 129).filter (fun k => m.testBit k)

/-- The 200 kb/s channels whose two halves are enabled (R278). -/
def wideChannels (m : Nat) : List Nat := (List.range 64).filter (fun k => m.testBit (2 * k) && m.testBit (2 * k + 1))

/-- The mask of a mask value. -/
def PVal.maskBits (v : PVal) : Nat := (PVal.mask? v).getD 0

/-- Build the hop tables from the seed and a mask (R278). -/
def State.buildHops (mask : Nat) (s : State) : State :=
  let seed := s.pnat Obj.hopSeed
  s.onSched (fun c =>
    { c with h0 := hopTable (maskChannels mask) seed, h1 := hopTable (wideChannels mask) seed,
             h2 := hopTable (List.range 20) seed, maskNow := mask })

/-- A channel of the 50 and 100 kb/s plan, or of the backbone, whose exclusion is in effect (R280). -/
def State.chanOut (s : State) (table ch : Nat) : Bool :=
  let out (k : ResKind) (n : Nat) : Bool := s.sched.retired.contains { kind := k, num := n }
  match table with
  | 0 => out .chan ch
  | 1 => out .chan (2 * ch) || out .chan (2 * ch + 1)
  | _ => out .bb ch

/-- The hop table of a number. -/
def State.hop (s : State) : Nat → List Nat
  | 0 => s.sched.h0
  | 1 => s.sched.h1
  | _ => s.sched.h2

/-- The first channel from an entry on, upwards modulo 64, whose channel is not retired, with the entries skipped
(R279); none when every channel of the table is retired. -/
def hopFrom (out : Nat → Bool) (t : List Nat) : Nat → Nat → Nat → Option (Nat × Nat)
  | 0, _, _ => none
  | n + 1, i, k =>
    match t[i % 64]? with
    | none => none
    | some c => if out c then hopFrom out t n (i + 1) (k + 1) else some (c, k)

/-- A cell's channel in a slot, and the skips it took (R279). -/
def State.hopPick (s : State) (table slot off : Nat) : Option (Nat × Nat) :=
  hopFrom (s.chanOut table) (s.hop table) 64 ((slot + off) % 64) 0

/-- The start channel: the first entry of H0, counting upwards (R286), as a channel of `phy.rate`. -/
def State.startChannel (s : State) : Nat :=
  entryChan s.part.variant s.phyRate (((hopFrom (s.chanOut 0) s.sched.h0 64 0 0).map (·.1)).getD 0)

/-- Keep the first of equal elements. -/
def distinct : List Nat → List Nat
  | [] => []
  | x :: xs => x :: (distinct xs).filter (· ≠ x)

/-- The last-chance channels C1 to C3: the first three distinct channels of H0 that are not retired, from the entry after
the start channel's (R335), as channels of `phy.rate`. -/
def State.lcChannels (s : State) : List Nat :=
  let i := match hopFrom (s.chanOut 0) s.sched.h0 64 0 0 with | some (_, k) => k + 1 | none => 0
  (distinct (((((List.range 64).map (fun k => s.sched.h0.getD ((i + k) % 64) 0)).filter
    (fun c => !s.chanOut 0 c))).map (entryChan s.part.variant s.phyRate))).take 3

/-- The plan check of this part's beacons (R344). -/
def State.planCheck (s : State) : BitVec 32 :=
  crc32c (leBytes 4 (s.pnat Obj.hopSeed) ++ leBytes 1 (s.pnat Obj.slotLength) ++ leBytes 17 s.sched.maskNow)

/-! ## Judging windows of channels (R488) -/

/-- The channels that a lane's channel stands for: at 200 kb/s the two that it occupies (R220; log 155). -/
def channelIds (rate ch : Nat) : List ResId :=
  if rate = 1000 then [{ kind := .bb, num := ch }]
  else if rate = 200 then [{ kind := .chan, num := 2 * ch }, { kind := .chan, num := 2 * ch + 1 }]
  else [{ kind := .chan, num := ch }]

/-- The judging window of a channel. -/
def State.judgeOf (r : ResId) (s : State) : Judge :=
  (s.rx.judges.find? (fun j => j.id == r)).getD { id := r, cells := 0, pre := 0, passed := 0 }

/-- The judging window of a channel is over: the next one starts. -/
def State.judgeEnd (r : ResId) (s : State) : State := s.onRx (fun x => { x with judges := x.judges.filter (fun j => j.id != r) })

/-- What the judging windows of channels count. -/
def State.judgeChans (l : List ResId) (f : Judge → Judge) (s : State) : State :=
  s.each l (fun r s => s.onRx (fun x => { x with judges := x.judges.filter (fun j => j.id != r) ++ [f (s.judgeOf r)] }))

/-- What the judging windows count of a lane that a cell has bound. -/
def State.judgeLane (n : Fin 16) (f : Judge → Judge) (s : State) : State :=
  let l := s.rx.lanes[n]
  match l.holder with
  | .cell _ => s.judgeChans (channelIds l.rate l.chan) f
  | _ => s

/-! ## Chains (R175, R227, R232) -/

/-- A chain of the pair. -/
def Rx.chain (r : Rx) : Side → Chain
  | .a => r.a
  | .b => r.b

/-- A chain is in the crate band with a span that holds the wake channel, within the terms of R135: a retune within RX does
not change that, and no chips come during it. -/
def State.tapTerms (s : State) (sd : Side) : Bool :=
  s.radio.st == .rx && (s.rx.chain sd).on && s.radio.band == .sub && spanHasWake s.part.variant .sub s.rx.centre

/-- A DIRECT branch listens by the wake tap of its chain (R135). -/
def State.tapListens (s : State) (sd : Side) : Bool :=
  (s.wake.br sd).det == .direct && (s.wake.br sd).decides && s.tapTerms sd

/-- Update a chain of the pair. -/
def State.onChain (sd : Side) (f : Chain → Chain) (s : State) : State :=
  s.onRx (fun r => match sd with | .a => { r with a := f r.a } | .b => { r with b := f r.b })

/-- The chain mask: `rx.chains` less any retired chain (R227), and less one that rests (R486). -/
def State.inMask (s : State) (sd : Side) : Bool :=
  let r := s.res { kind := .chain, num := Side.num sd }
  !r.retired && !r.resting
    && (match s.pnat Obj.rxChains with | 0 => true | 1 => sd == .a | _ => sd == .b)

/-- Hold a step on a band: it is the one the chain will start at there (R232). -/
def Chain.hold (b : Band) (n : Nat) (c : Chain) : Chain :=
  match b with
  | .sub => { c with step := n, stepSub := n }
  | .g24 => { c with step := n, step24 := n }

/-- The calibration that filled a chain's table of offsets for a band (R194). -/
def Chain.dcTable (b : Band) (c : Chain) : Nat := match b with | .sub => c.dcSub | .g24 => c.dc24

/-- The offset that is left at the moment a stored value is applied: within 0.5 % of full scale (R194; log 130). -/
def dcLeft (k : Nat) : Int := max (-(2 ^ 40 / 200)) (min (2 ^ 40 / 200) (Config.dcLeft k))

/-- A chain applies the offset stored for itself, its band and its gain step (R194). -/
def State.applyDc (sd : Side) (s : State) : State :=
  let (k, s) := s.draw
  s.onChain sd (fun c => { c with dc := Config.dcOffset (c.dcTable s.radio.band) sd s.radio.band c.step, residue := dcLeft k })

/-- A sniff applies the offset stored for the wake channel, which nothing tracks (R195). -/
def State.sniffDc (sd : Side) (s : State) : State :=
  let (k, s) := s.draw
  s.onChain sd (fun c => { c with dc := Config.dcWake (c.dcTable .sub) sd, residue := dcLeft k })

/-- Put a chain to work at the step it last held on the band, with the offset of that step, or to chain sleep (R175, R176,
R194, R232). -/
def State.powerChain (sd : Side) (s : State) : State :=
  if !s.inMask sd then s.onChain sd (fun c => { c with on := false })
  else if (s.rx.chain sd).on then s
  else
    (s.onChain sd (fun c =>
      { c with on := true, step := (match s.radio.band with | .sub => c.stepSub | .g24 => c.step24), quiet := 0,
               want := none })).applyDc sd

/-- Put the chains of the mask to work, the others to chain sleep (R175, R176). -/
def State.chainsOn (s : State) : State := (s.powerChain .a).powerChain .b

/-- Both chains to chain sleep. -/
def State.chainsOff (s : State) : State :=
  s.onRx (fun r => { r with a := { r.a with on := false }, b := { r.b with on := false } })

/-! ## Lanes (R224 to R239, R299) -/

/-- Update a lane. -/
def State.onLane (n : Fin 16) (f : Lane → Lane) (s : State) : State :=
  s.onRx (fun r => { r with lanes := r.lanes.set n (f r.lanes[n]) })

/-- A lane receives a payload (R234): from its SFD until its frame ends, and no longer than the longest PSDU lasts. -/
def State.receiving (s : State) (l : Lane) : Bool := l.payload && decide (s.now < l.payloadEnd)

/-- Some lane receives a payload. -/
def State.anyPayload (s : State) : Bool := (List.finRange 16).any (fun n => s.receiving s.rx.lanes[n])

/-- Some lane of a chain receives a payload. -/
def State.chainPayload (s : State) (sd : Side) : Bool :=
  (List.finRange 16).any (fun n => s.receiving s.rx.lanes[n] && s.rx.lanes[n].chain == sd)

/-- A bound lane. -/
def Lane.bound (l : Lane) : Bool := l.holder != .none

/-- The channel positions a lane takes, by the numbers that clash when channels do: those of the channel it receives and of the
one it waits to be retuned to (R225). -/
def Lane.bins (l : Lane) : List Nat :=
  chanBins l.rate l.chan ++ (match l.retune with | some (c, r) => chanBins r c | none => [])

/-- The other lane that is bound to a position of a channel: at most one is, captures apart (R224). -/
def State.chanHolder (n : Fin 16) (rate ch : Nat) (s : State) : Option (Fin 16) :=
  (List.finRange 16).find? (fun m =>
    let l := s.rx.lanes[m]
    m ≠ n && l.bound && l.holder != .capture && (chanBins rate ch).any (fun b => l.bins.contains b))

/-- The lanes bound to a holder (R504). -/
def State.boundLanes (s : State) : Nat := ((List.finRange 16).filter (fun n => s.rx.lanes[n].bound)).length

/-- A lane that may take a holder (R299, R486): free, not retired and not resting. -/
def State.laneOpen (s : State) (n : Fin 16) : Bool :=
  let r := s.res { kind := .lane, num := n.val }
  !s.rx.lanes[n].bound && !r.retired && !r.resting

/-- The counter of a lane's invalid samples. -/
def invalidCounter (n : Fin 16) : String := "rx.invalid." ++ dec n.val

/-- Count the invalid samples of a lane from the first that begins at or after a moment to the first at or after another: each
sample counts once, whichever chains it is invalid on (R238, R239; DESIGN CHOICE, log 137). -/
def State.countInvalid (n : Fin 16) (from_ until_ : Ticks) (s : State) : State :=
  let l := s.rx.lanes[n]
  let start := gridUp l.rate (max from_ l.counted)
  let stop := gridUp l.rate until_
  if l.bound && start < stop then
    (s.onLane n (fun l => { l with counted := stop })).countN .lanes (invalidCounter n) ((stop - start) / sampleTicks l.rate)
  else s

/-- The invalid spans of a chain, as a lane's rate has them. -/
def Lane.bad (sd : Side) (l : Lane) : List (Ticks × Ticks) := match sd with | .a => l.badA | .b => l.badB

/-- Keep an invalid span, with those before it that the last 16 symbols may still meet, and in a capture all of them. -/
def Lane.addBad (now from_ until_ : Ticks) (old : List (Ticks × Ticks)) (l : Lane) : List (Ticks × Ticks) :=
  (from_, until_) :: (if l.holder == .capture then old else old.filter (fun x => decide (now ≤ x.2 + samplesTicks l.rate 64)))

/-- A lane has an invalid sample of a chain between two moments (R239). -/
def Lane.hasBad (sd : Side) (from_ until_ : Ticks) (l : Lane) : Bool :=
  (l.bad sd).any (fun x => decide (x.1 < until_) && decide (from_ < x.2))

/-- The lane samples of some chains that begin from one moment to before another are invalid (R238): spans that overlap are
united, and each sample counts once (R239). A lane in the SFD's payload on such a chain sets the frame's invalid flag. -/
def State.spoilSpan (n : Fin 16) (a b : Bool) (from_ until_ : Ticks) (s : State) : State :=
  let l := s.rx.lanes[n]
  if !l.bound || !(a || b) then s
  else
    let (x, y) := (gridUp l.rate from_, gridUp l.rate until_)
    let hit := (l.chain == .a && a) || (l.chain == .b && b)
    (s.countInvalid n from_ until_).onLane n (fun l =>
      { l with badA := if a then l.addBad s.now x y l.badA else l.badA,
               badB := if b then l.addBad s.now x y l.badB else l.badB,
               invalid := l.invalid || (l.payload && hit) })

/-- Samples of a lane are invalid on some chains until a moment, from now or from when the chains began to deliver nothing. -/
def State.spoil (n : Fin 16) (a b : Bool) (until_ : Ticks) (s : State) : State :=
  s.spoilSpan n a b (s.radio.deafFrom.getD s.now) until_

/-- Spoil a number of samples of every lane on some chains, from the first that begins at or after a moment. -/
def State.spoilAll (a b : Bool) (from_ : Ticks) (samples : Nat) (s : State) : State :=
  s.each (List.finRange 16) (fun n s =>
    let r := s.rx.lanes[n].rate
    s.spoil n a b (gridUp r from_ + samplesTicks r samples))

/-- A lane leaves the frame it was in. -/
def Lane.idle (l : Lane) : Lane :=
  { l with pre := false, payload := false, badPhr := false, gain := false, invalid := false }

/-- Bind a lane to a holder, a channel and a rate (R224, R299). A change of channel or rate is a retune: 24 invalid
samples at the new rate, or a wait while a payload runs (R225). -/
def State.bind (n : Fin 16) (hd : Holder) (ch rate program : Nat) (s : State) : State :=
  let l := s.rx.lanes[n]
  let s := if l.bound then s else s.onLane n (fun l => { l with counted := max l.counted s.now })
  if l.chan = ch && l.rate = rate then s.onLane n (fun l => { l with holder := hd, program := program, retune := none, window := none })
  else if s.receiving l then
    s.onLane n (fun l => { l with holder := hd, program := program, retune := some (ch, rate), late := false, window := none })
  else
    let s := s.onLane n (fun l => { l.idle with holder := hd, program := program, chan := ch, rate := rate, retune := none, window := none })
    s.spoil n true true (gridUp rate s.now + samplesTicks rate 24)

/-- Release a lane. -/
def State.release (n : Fin 16) (s : State) : State :=
  s.onLane n (fun l => { l with holder := .none, program := 0, retune := none, window := none })

/-- Release every lane whose holder satisfies a condition. -/
def State.releaseAll (p : Holder → Bool) (s : State) : State :=
  s.each (List.finRange 16) (fun n s => if s.rx.lanes[n].bound && p s.rx.lanes[n].holder then s.release n else s)

/-- Every payload under way is lost; the losses are counted under a name. -/
def State.losePayloads (b : Block) (name : String) (s : State) : State :=
  s.each (List.finRange 16) (fun n s =>
    if s.receiving s.rx.lanes[n] then (s.onLane n Lane.idle).count b name else s)

/-- An RSSI of R240: levels beyond −120 or 0 dBm read as those. -/
def clampRssi (i : Int) : Int := if i = -128 then i else max (-120) (min 0 i)

/-- A chain delivers samples to the lanes: it receives, in the mask, and its samples have become valid (R227, R238). -/
def State.chainLive (s : State) (sd : Side) : Bool :=
  s.radio.st == .rx && s.radio.deafFrom.isNone && (s.rx.chain sd).on && s.inMask sd

/-- The RSSI a lane keeps for a chain (R240): −128 while the chain delivers nothing or a sample of the last 8 symbols is
invalid, else the mean power of those samples, a free value. -/
def State.laneRssi (n : Fin 16) (sd : Side) (s : State) : Int :=
  let l := s.rx.lanes[n]
  if !s.chainLive sd || l.hasBad sd (s.now - samplesTicks l.rate 32) s.now then -128
  else max (-120) (min 0 (Config.airLevel s.now n.val sd))

/-- A filter setting by its place in R236. -/
def Filter.place : Filter → Nat
  | .wide => 0
  | .mid => 1
  | .narrow => 2

/-- The receive delay of a lane on a chain (R267): the analogue path, by the filter that is set, and CHZ with the lane. -/
def State.rxDelay (n : Fin 16) (sd : Side) (s : State) : Ticks :=
  Config.rxDelay sd s.radio.band (s.rx.chain sd).filter.place + laneDelay s.rx.lanes[n].rate

/-! ## The receive buffer (R303 to R305) -/

/-- The high-water mark (R304). -/
def State.highMark (s : State) : Nat := (1024 * s.pnat Obj.bufHigh + 99) / 100

/-- Cross the high-water mark upwards or downwards (R304). -/
def State.bufCheck (s : State) : State :=
  let n := s.rx.buf.length
  if !s.rx.high && s.highMark ≤ n then (s.onRx (fun r => { r with high := true })).queue .bufHigh
  else if s.rx.high && n + 64 ≤ s.highMark then (s.onRx (fun r => { r with high := false })).queue .bufOk
  else s

end Sys2Proof.Machine
end

