-- ==== Sys2Proof/Machine/FlightOps.lean ====
section
/-!
DEFINITION. Sys2Proof/Machine/FlightOps.lean: the flight table and the waiting list, how flights end, failed attempts,
unreachable endpoints, the last chance, and the records of push flights (R320 to R337, R479, R483).
-/

namespace Sys2Proof.Machine

/-! ## Look-up and update -/

/-- The flight of an ID, in the table or the waiting list. -/
def State.flight (s : State) (id : Nat) : Option Flight :=
  match s.work.table.find? (fun f => f.id == id) with
  | some f => some f
  | none => s.work.waiting.find? (fun f => f.id == id)

/-- Update the flight of an ID. -/
def State.onFlight (id : Nat) (g : Flight → Flight) (s : State) : State :=
  s.onWork (fun w =>
    { w with table := replaceFirst (fun f => f.id == id) g w.table,
             waiting := replaceFirst (fun f => f.id == id) g w.waiting })

/-- The flight IDs of one endpoint in the table and the waiting list. -/
def State.flightsOf (s : State) (i : Nat) : List Nat :=
  ((s.work.table ++ s.work.waiting).filter (fun f => f.handle.index == i)).map Flight.id

/-! ## Records (R328, R483) -/

/-- The counter of an outcome (R328). -/
def outcomeCounter : Outcome → String
  | .done => "flight.done"
  | .tries => "flight.tries"
  | .deadline => "flight.deadline"
  | .unreach => "flight.unreach"
  | .cancel => "flight.cancel"
  | .flood => "flight.flood"
  | .unknown => "flight.unknown"

/-- The ID of a flight's endpoint. -/
def State.flightId (s : State) (f : Flight) : Eui := ((s.entry f.handle.index).map Entry.id).getD 0

/-- The push directory takes the newest record of a pair, and forgets the oldest beyond 131,072 (R479). -/
def State.dirPut (id : Eui) (digest : BitVec 64) (seq : Nat) (s : State) : State :=
  let l := (id, digest, seq) :: s.store.pushDir.filter (fun x => !(x.1 == id && x.2.1 == digest))
  let s := s.onStore (fun c => { c with pushDir := l.take 131072, pushUsed := min 262144 (c.pushUsed + 1) })
  if 131072 < l.length then s.count .cc "push.dir.drop" else s

/-- Write a PUSH record and the directory entry of its pair (R483). -/
def State.pushRecord (f : Flight) (p : PushSess) (event : Nat) (o : Option Outcome) (s : State) : State :=
  let seq := s.store.nextSeq
  (s.ledger (.push (s.flightId f) f.handle f.id p.lib event p.digest p.pecks p.peck p.block p.bitmap p.header o
    p.blocks)).dirPut (s.flightId f) p.digest seq

/-! ## The last chance (R334 to R337) -/

/-- The sequence of a roster entry. -/
def State.lcOf (s : State) (i : Nat) : Option LcSeq := s.work.lc.find? (fun q => q.index == i)

/-- The endpoint of a flight is marked unreachable. -/
def State.unreachable (s : State) (i : Nat) : Bool := ((s.entry i).map Entry.unreach).getD false

/-- A flight moves to LASTCHANCE: it joins the entry's sequence, or starts it (R334, R335, R337). -/
def State.toLastChance (id : Nat) (s : State) : State :=
  match s.flight id with
  | none => s
  | some f =>
    let i := f.handle.index
    let s := s.onFlight id (fun f => { f with st := .lastchance, lcStep := 1, lane := none, awaiting := false })
    if (s.lcOf i).isSome then s
    else (s.onWork (fun w =>
      { w with lc := w.lc ++ [{ index := i, trigger := s.now, attempt := 1, listen := none, answered := false }] })).count
        .cc "flight.lastchance"

/-! ## Ends (R326, R328) -/

/-- The waiting entry that is admitted next: highest priority, first arrived (R323). -/
def bestWaiting : List Flight → Option Flight
  | [] => none
  | f :: fs =>
    match bestWaiting fs with
    | none => some f
    | some g => if f.prio < g.prio then some g else some f

/-- Admit a waiting entry into a free table entry (R323); one of priority 7 whose deadline has passed, or whose endpoint is
unreachable, goes to LASTCHANCE (R326, R334). -/
def State.admitWaiting (s : State) : State :=
  if 32 ≤ s.work.table.length then s
  else
    match bestWaiting s.work.waiting with
    | none => s
    | some f =>
      let s := s.onWork (fun w =>
        { w with waiting := w.waiting.filter (fun g => g.id ≠ f.id), table := w.table ++ [{ f with st := .ready }] })
      if f.prio == 7 && (f.late || s.unreachable f.handle.index) then s.toLastChance f.id else s

/-- The lane of a flight is freed. -/
def State.freeFlightLane (f : Flight) (s : State) : State :=
  match f.lane with
  | some n =>
    match s.rx.lanes[n].holder with
    | .called id => if id = f.id then s.release n else s
    | _ => s
  | none => s

/-- End a flight with an outcome (R326, R328): its lane and entry are freed, its record is written, `~FLIGHT` is queued,
the outcome is counted, and a waiting entry is admitted. Group codes carried by `DO roster.groups` are taken at DONE
(R353). -/
def State.endFlight (id : Nat) (o : Outcome) (s : State) : State :=
  match s.flight id with
  | none => s
  | some f =>
    let s := s.freeFlightLane f
    let s := s.onWork (fun w =>
      { w with table := w.table.filter (fun g => g.id ≠ id), waiting := w.waiting.filter (fun g => g.id ≠ id) })
    let s :=
      match f.groups, o with
      | some gs, .done =>
        match s.byHandle f.handle with
        | some e => ((s.holdGroups e.groups false).holdGroups gs true).onEntry f.handle.index
            (fun e => { e with groups := gs })
        | none => s
      | _, _ => s
    let s := match f.push with | some p => s.pushRecord f p 4 (some o) | none => s
    let s := s.ledger (.flight f.id f.handle (s.flightId f) f.kind f.prio f.called o (min 255 f.attempts) f.lc f.deadline
      f.reason f.probe)
    (((s.queue (.flight f.id o)).count .cc (outcomeCounter o)).admitWaiting).rosterCheck

/-- What ends a flight, or moves one of priority 7 to LASTCHANCE (R326, R334). A flight in the air waits for its attempt
to end, and one of priority 7 in the waiting list for its admission (log 152). -/
def State.expire (id : Nat) (o : Outcome) (s : State) : State :=
  match s.flight id with
  | none => s
  | some f =>
    if f.st == .lastchance then s
    else if f.st == .air then (if o == .deadline then s.onFlight id (fun f => { f with late := true }) else s)
    else if f.prio == 7 then
      (if f.st == .waiting then s.onFlight id (fun f => { f with late := f.late || o == .deadline }) else s.toLastChance id)
    else s.endFlight id o

/-- Mark an entry unreachable (R331): counted, announced, rested as a peer (R488), its flights ended or moved. The rest
of a peer has no period, so the seconds of its `~REST` are a free value (log 6). -/
def State.markUnreach (i : Nat) (s : State) : State :=
  let h := s.handleAt i
  let id : ResId := { kind := .peer, num := handleBits h }
  let s := s.onEntry i (fun e => { e with unreach := true, unreachAt := some s.now })
  let s := (s.count .cc "peer.unreach").queue (.unreach h)
  let (k, s) := s.draw
  let s := s.onRes id (fun r => { r with rests := r.rests + 1, resting := true, lastFault := s.now })
  let s := (s.count .cc "fault.rest.peer").queue (.rest id (Config.freeDraw k))
  s.each (s.flightsOf i) (fun id s => s.expire id .unreach)

/-- A frame is accepted from an entry (R332, R488): failures 0, the mark and the rest end. -/
def State.heardFrom (i : Nat) (s : State) : State :=
  let was := s.unreachable i
  let s := s.onEntry i (fun e => { e with fails := 0, unreach := false, unreachAt := none, rejects := 0 })
  if was then
    (s.onRes { kind := .peer, num := handleBits (s.handleAt i) }
      (fun r => { r with resting := false, until_ := none })).queue (.reach (s.handleAt i))
  else s

/-! ## Failed attempts (R325) -/

/-- After an attempt a flight that was cancelled, late, out of tries or unreachable ends or moves (R326). -/
def State.afterAttempt (id : Nat) (s : State) : State :=
  let s := s.fire .failedAttempt
  match s.flight id with
  | none => s
  | some f =>
    if f.cancel then s.endFlight id .cancel
    else if s.unreachable f.handle.index && f.prio < 7 then s.endFlight id .unreach
    else if f.late && f.prio < 7 then s.endFlight id .deadline
    else if s.pnat Obj.flightTries ≤ f.attempts && f.prio < 7 then s.endFlight id .tries
    else if f.prio == 7 && (f.late || s.unreachable f.handle.index || s.pnat Obj.flightTries ≤ f.attempts) then
      s.toLastChance id
    else s

/-- An attempt ends without success (R325): attempts rise, and with a silent endpoint the entry's failure count; the
flight backs off by a number of its cells, or of seconds when it is called. -/
def State.failAttempt (id : Nat) (silence : Bool) (s : State) : State :=
  match s.flight id with
  | none => s
  | some f =>
    let s := s.freeFlightLane f
    let att := min 255 (f.attempts + 1)
    let (k, s) := s.drawTo (2 ^ min att 4 - 1)
    let s := s.onFlight id (fun f =>
      { f with st := .backoff, attempts := att, lane := none, awaiting := false, skips := if f.called then 0 else k,
               nextTry := if f.called then s.now + secs k else s.now })
    let i := f.handle.index
    let s := if silence then s.onEntry i (fun e => { e with fails := min 255 (e.fails + 1) }) else s
    let s := s.fire .failedAttempt
    let marked := s.unreachable i
    let fails := ((s.entry i).map Entry.fails).getD 0
    let s := if silence && !marked && s.pnat Obj.failLimit ≤ fails then s.markUnreach i else s
    s.afterAttempt id

/-! ## Retired peers (R116, R488, R492, R496) -/

/-- Retire a peer: the retired bit, its mask cleared and kept for a reinstatement, its flights ended; with a flight in
LASTCHANCE the retirement waits (R488, R492; log 30). -/
def State.retirePeer (o : Origin) (i cause : Nat) (s : State) : State :=
  match s.entry i with
  | none => s
  | some e =>
    if e.retired then s
    else if s.work.table.any (fun f => f.handle.index == i && f.st == .lastchance) then
      s.onEntry i (fun e => { e with retireOwed := some (o, cause) })
    else
      let id : ResId := { kind := .peer, num := handleBits (s.handleAt i) }
      let mask := (s.maskOf (codeOf i e)).toNat
      let s := s.onEntry i (fun e => { e with retired := true, maskSaved := mask, retireOwed := none })
      let s := (s.writeMask (codeOf i e) 0).retire o id cause
      s.each (s.flightsOf i) (fun f s => s.endFlight f .unreach)

/-- The sequence of an entry has ended: a retirement that waited takes effect (R492). -/
def State.owedRetire (i : Nat) (s : State) : State :=
  match (s.entry i).bind Entry.retireOwed with
  | some (o, cause) =>
    if s.work.table.any (fun f => f.handle.index == i && f.st == .lastchance) then s else s.retirePeer o i cause
  | none => s

/-- The flights of a last-chance sequence, in flight ID order (R337). -/
def State.lcFlights (i : Nat) (s : State) : List Flight :=
  (s.work.table.filter (fun f => f.handle.index == i && f.st == .lastchance)).foldl (fun l f => insertBy Flight.id f l) []

/-- A last-chance sequence is over: its lane is free, and a retirement that waited takes effect (R336, R492). -/
def State.lcOver (i : Nat) (s : State) : State :=
  ((s.onWork (fun w => { w with lc := w.lc.filter (fun q => q.index ≠ i) })).releaseAll (fun h => h == .lastChance i)).owedRetire i

/-- The last-chance results of every flight of a sequence. -/
def State.lcNote (i : Nat) (attempt : Nat) (r : LcResult) (s : State) : State :=
  let ids := ((s.work.table.filter (fun f => f.handle.index == i && f.st == .lastchance))).map Flight.id
  s.each ids (fun id s =>
    (s.onFlight id (fun f => { f with lc := f.lc ++ [r], awaiting := false })).queue (.lastChance id attempt r))

/-- A last-chance attempt fails (R335): every flight of the sequence notes it, and the next attempt's turn comes. -/
def State.lcFail (i : Nat) (r : LcResult) (s : State) : State :=
  match s.lcOf i with
  | none => s
  | some q =>
    let s := s.releaseAll (fun h => h == .lastChance i)
    let s := s.lcNote i q.attempt r
    let s := s.onWork (fun w =>
      { w with
        lc := replaceFirst (fun q => q.index == i)
          (fun q => { q with attempt := q.attempt + 1, listen := none, answered := false }) w.lc
        table := w.table.map (fun f =>
          if f.handle.index == i && f.st == .lastchance then { f with lcStep := min 4 (q.attempt + 1), frameAt := none } else f) })
    let s := s.each ((s.lcFlights i).filter Flight.cancel) (fun f s => s.endFlight f.id .cancel)
    if (s.lcFlights i).isEmpty then s.lcOver i else s

end Sys2Proof.Machine
end

