-- ==== Sys2Proof/Machine/Wear.lean ====
section
/-!
DEFINITION. Sys2Proof/Machine/Wear.lean: the pecks of the two regions and the physical blocks that hold them: erase counts,
wear levelling, relocation and replacement blocks (R440 to R447, R459, R479).
-/

namespace Sys2Proof.Machine

/-! ## Pecks and blocks (R440 to R442)

The pecks of the pSLC region are numbered 0 to 4,095 in the order of R442, those of the TLC region 4,096 to 8,191. A unit as
delivered holds each on the block of its number, and its spare blocks are those from 8,192 on (DESIGN CHOICE, log 148). -/

/-- The first pecks of AUDIT, LEDGER, LIBRARY and ARCHIVE. -/
abbrev auditPeck0 : Nat := 68
/-- LEDGER's. -/
abbrev ledgerPeck0 : Nat := 260
/-- LIBRARY's. -/
abbrev libraryPeck0 : Nat := 4096
/-- ARCHIVE's. -/
abbrev archivePeck0 : Nat := 5120

/-- A peck of the TLC region. -/
def tlcPeck (p : Nat) : Bool := decide (4096 ≤ p)

/-- The pecks of the region of a peck. -/
def regionPecks (p : Nat) : List Nat := (List.range 4096).map (fun k => if tlcPeck p then 4096 + k else k)

/-- The difference of erase counts beyond which static data moves (R447). -/
def wearLimit (p : Nat) : Nat := if tlcPeck p then 100 else 500

/-- The block that holds a peck. -/
def Wear.blockOf (p : Nat) (w : Wear) : Nat := (assoc p w.place).getD p

/-- The peck that a block holds. -/
def Wear.peckOf (b : Nat) (w : Wear) : Option Nat :=
  match w.place.find? (fun x => x.2 = b) with
  | some (p, _) => some p
  | none => if b < 8192 && (assoc b w.place).isNone then some b else none

/-- The erases of a block. -/
def Wear.erases (b : Nat) (w : Wear) : Nat := (assoc b w.counts).getD 0

/-- A peck moves to a block. -/
def Wear.put (p b : Nat) (w : Wear) : Wear := { w with place := if p = b then assocDel p w.place else assocSet p b w.place }

/-- Two pecks change blocks. -/
def Wear.swap (p q : Nat) (w : Wear) : Wear :=
  if p = q then w else (w.put p (w.blockOf q)).put q (w.blockOf p)

/-- A peck's block is erased. -/
def Wear.erase (p : Nat) (w : Wear) : Wear :=
  { w with counts := assocSet (w.blockOf p) (w.erases (w.blockOf p) + 1) w.counts }

/-- The peck of a list whose block has been erased least, the first among equals. -/
def Wear.least (p : Nat) (l : List Nat) (w : Wear) : Nat :=
  l.foldl (fun q k => if w.erases (w.blockOf k) < w.erases (w.blockOf q) then k else q) p

/-- Static data moves when the erase counts of a region differ by more than its limit (R447): the data of the block erased
least goes to the block just erased, and its old block is erased in turn. -/
def Wear.level (p : Nat) (w : Wear) : Wear :=
  if w.erases (w.blockOf p) ≤ wearLimit p then w
  else
    let q := w.least p (regionPecks p)
    if w.erases (w.blockOf p) ≤ w.erases (w.blockOf q) + wearLimit p then w else (w.swap p q).erase p

/-! ## Erased pecks and erases (R447, R459) -/

/-- The erased pecks of the rings in the region of a peck: those ahead of their heads. -/
def Store.erased (p : Nat) (c : Store) : List Nat :=
  if tlcPeck p then
    (List.range c.freeArch).map (fun k => archivePeck0 + (c.archTail + c.archPecks.length + k) % 3072)
  else (List.range c.free).map (fun k => ledgerPeck0 + (c.ledgerTail + c.pecks.length + 1 + k) % 3836)

/-- A peck is erased: its block's count rises, static data moves where the counts differ too much, and the peck will next be
written on the least worn erased block of its region (R447). -/
def Store.erasePeck (p : Nat) (c : Store) : Store :=
  let w := (c.wear.erase p).level p
  { c with wear := w.swap p (w.least p (c.erased p)) }

/-- Several pecks are erased. -/
def Store.erasePecks (l : List Nat) (c : Store) : Store := l.foldl (fun c p => c.erasePeck p) c

/-- The peck of a block is relocated to a fresh one, and the block is erased (R445). -/
def Store.relocate (b : Nat) (c : Store) : Store :=
  match c.wear.peckOf b with
  | none => c
  | some p =>
    match c.erased p with
    | [] => c
    | q :: l => { c with wear := (c.wear.swap p (c.wear.least q l)).erase (c.wear.least q l) }

/-- A block leaves service (R446, R488): a replacement block takes its peck, one reinstated first; with none left a peck of
LEDGER, or of ARCHIVE in the TLC region, is lost and its block takes the place. -/
def Store.replaceBlock (b : Nat) (c : Store) : Store :=
  match c.wear.peckOf b with
  | none => if 0 < c.spare then { c with spare := c.spare - 1, wear := { c.wear with back := c.wear.back.filter (· ≠ b) } } else c
  | some p =>
    let w := { c.wear with was := assocSet b p c.wear.was }
    if 0 < c.spare then
      match w.back with
      | x :: l => { c with spare := c.spare - 1, wear := { w.put p x with back := l } }
      | [] => { c with spare := c.spare - 1, wear := { w.put p (8192 + w.taken) with taken := w.taken + 1 } }
    else
      let w := match (c.erased p).getLast? with | some q => w.swap p q | none => w
      if tlcPeck p then { c with wear := w, freeArch := c.freeArch - 1, lost := c.lost + 1 }
      else { c with wear := w, free := c.free - 1, lost := c.lost + 1 }

/-- A block reinstated is erased twice in its test and joins the spare blocks (R497). -/
def Store.blockBack (b : Nat) (c : Store) : Store :=
  { c with
    spare := c.spare + 1
    wear := { c.wear with counts := assocSet b (c.wear.erases b + 2) c.wear.counts, was := assocDel b c.wear.was,
                          back := c.wear.back ++ [b] } }

/-! ## The boot selector (R471, R472) -/

/-- The record the loader uses: the valid copy with the higher sequence (R471). With no valid copy it is that of a unit as
delivered: no rule names one (log 150). -/
def Images.boot (m : Images) : BootSel :=
  match m.bootA, m.bootB with
  | some a, some b => if a.seq < b.seq then b else a
  | some a, none => a
  | none, some b => b
  | none, none => .reset

/-- The copy in vault peck 2 is written first: it holds the lower sequence, or is not valid (R472). -/
def Images.firstA (m : Images) : Bool :=
  match m.bootA, m.bootB with
  | none, _ => true
  | some _, none => false
  | some a, some b => decide (a.seq ≤ b.seq)

/-- Write the copy that holds the lower sequence. -/
def Images.putBoot (b : Option BootSel) (m : Images) : Images := if m.firstA then { m with bootA := b } else { m with bootB := b }

/-- The write of the other copy ends (R472). -/
def Images.bootSettle (m : Images) : Images :=
  match m.bootOwed with
  | some (_, b) => { m.putBoot (some b) with bootOwed := none }
  | none => m

/-- A loss of power cuts the write of the other copy short: that copy is not valid. -/
def Images.bootCut (m : Images) : Images :=
  match m.bootOwed with
  | some _ => { m.putBoot none with bootOwed := none }
  | none => m

/-- Write the record (R472): first the copy with the lower sequence, whose read-back without error commits the write, then the
other, whose program and read-back end 490 µs later (R444; log 150). -/
def State.writeBoot (f : BootSel → BootSel) (s : State) : State :=
  s.onImage (fun m =>
    let m := m.bootSettle
    let b := f m.boot
    { m.putBoot (some b) with bootOwed := some (s.now + us 490, b) })

/-- The write of the other copy is over when its time has come. -/
def State.bootDue (s : State) : State :=
  match s.image.bootOwed with
  | some (t, _) => if t ≤ s.now then s.onImage Images.bootSettle else s
  | none => s

end Sys2Proof.Machine
end

