-- ==== Sys2Proof/Machine/ImgOps.lean ====
section
/-!
DEFINITION. Sys2Proof/Machine/ImgOps.lean: images as bytes, their headers and checks, and the progress of a PUSH flight
(R464 to R470, R479 to R484).
-/

namespace Sys2Proof.Machine

/-! ## Bytes (R466) -/

/-- The number little-endian bytes spell. -/
def leNum : List Byte → Nat
  | [] => 0
  | b :: l => b.toNat + 256 * leNum l

/-- `n` bytes from a place. -/
def slice (at_ n : Nat) (l : List Byte) : List Byte := (l.drop at_).take n

/-- The number in `n` bytes of a header. -/
def hdrNum (at_ n : Nat) (l : List Byte) : Nat := leNum (slice at_ n l)

/-- Octets of a header. -/
abbrev hdrLen : Nat := 4096

/-- Octets of a peck of payload (R466). -/
abbrev peckLen : Nat := 1048576

/-- The image digest (R466). -/
def digestOf (l : List Byte) : BitVec 64 := sha8 (slice 0 896 l)

/-- The hash the header holds for payload peck `k` (R466), most significant byte first as SHA-256 is written. -/
def peckHash (k : Nat) (l : List Byte) : List Byte := slice (64 + 32 * k) 32 l

/-- Payload peck `k` of the bytes taken. -/
def peckBytes (k : Nat) (l : List Byte) : List Byte := slice (hdrLen + peckLen * k) peckLen l

/-- The SHA-256 of a peck equals the header's. -/
def peckGood (k : Nat) (l : List Byte) : Bool := beBytes 32 (Config.sha256 (peckBytes k l)).toNat == peckHash k l

/-- All bytes are 0. -/
def allZero (l : List Byte) : Bool := l.all (fun b => b == 0)

/-- The fields of a header (R466). -/
def headOf (l : List Byte) : ImgHead :=
  { kind := hdrNum 4 1 l, target := hdrNum 6 2 l, ver := (hdrNum 8 1 l, hdrNum 9 1 l, hdrNum 10 2 l),
    counter := hdrNum 12 4 l, payload := hdrNum 16 4 l, pecks := hdrNum 20 1 l, digest := digestOf l }

/-- Every field of R466 but the signature holds for an image of a length: the kind and the target of the slot, a payload
that fills the length, the peck count, and zeros where nothing stands. -/
def headGood (what : ImageRef) (len : Nat) (l : List Byte) : Bool :=
  let h := headOf l
  slice 0 4 l == [0x53#8, 0x57#8, 0x49#8, 0x4D#8]
    && h.kind == (match what with | .self => 0 | .lib _ => 1)
    && hdrNum 5 1 l == 1
    && (match what with | .self => h.target == 0x7160 | .lib _ => true)
    && 1 ≤ h.payload && h.payload ≤ (match what with | .self => 25161728 | .lib _ => 16773120)
    && h.payload + hdrLen == len
    && h.pecks == (h.payload + peckLen - 1) / peckLen
    && allZero (slice 21 3 l) && allZero (slice 30 34 l)
    && allZero (slice (64 + 32 * h.pecks) (32 * (24 - h.pecks)) l)
    && allZero (slice 896 3200 l)

/-- The signature of a header under a key (R465, R466). -/
def signed (key : BitVec 512) (l : List Byte) : Bool :=
  Config.ecdsa key (Config.sha256 (slice 0 832 l)) (BitVec.ofNat 512 (leNum (slice 832 64 l).reverse))

/-- The bytes up to the first unverified peck (R469, R477): without a complete header none. -/
def Img.cutBack (i : Img) : Img :=
  match i.head with
  | some _ => { i with bytes := i.bytes.take (hdrLen + peckLen * i.pecks) }
  | none => { i with bytes := [] }

/-! ## Stages (R476, R521) -/

/-- The position of a stage (R476). -/
def stageNum : Stage → Nat
  | .idle => 0
  | .download => 1
  | .verifying => 2
  | .verified => 3
  | .trial => 4

/-- The object of an image in audit records (R521). -/
def imgObj : ImageRef → Nat
  | .self => 800
  | .lib s => 801 + s

/-- The image of a slot. -/
def State.img (r : ImageRef) (s : State) : Option Img :=
  match r with
  | .self => s.image.selfImg
  | .lib k => assoc k s.image.lib

/-- Put an image into its slot, or empty it. -/
def State.putImg (r : ImageRef) (i : Option Img) (s : State) : State :=
  s.onImage (fun m =>
    match r, i with
    | .self, i => { m with selfImg := i }
    | .lib k, some x => { m with lib := assocSet k x m.lib }
    | .lib k, none => { m with lib := assocDel k m.lib })

/-- The stage of an image. -/
def State.stageOf (r : ImageRef) (s : State) : Stage :=
  match r with
  | .self => s.image.stage
  | .lib k => (assoc k s.image.libStage).getD .idle

/-- Set the stage of an image, without its record. -/
def State.setStage (r : ImageRef) (st : Stage) (s : State) : State :=
  s.onImage (fun m =>
    match r with
    | .self => { m with stage := st }
    | .lib k => { m with libStage := if st = .idle then assocDel k m.libStage else assocSet k st m.libStage })

/-- A change of stage that the part makes itself is recorded under the origin of the last IMAGE line (R89, R90, R476;
log 43). -/
def State.stageNow (r : ImageRef) (st : Stage) (s : State) : State :=
  let old := s.stageOf r
  (s.setStage r st).audit s.image.lastBy 7 (imgObj r) 0 (.num (stageNum old)) (.num (stageNum st))

/-! ## PUSH sessions (R480 to R484) -/

/-- The number that stands for the header among the pecks (R481). -/
abbrev hdrPeck : Nat := 0xFF

/-- The blocks of a peck of a payload; 64 for the header (R481). -/
def blocksOf (payload peck : Nat) : Nat :=
  if peck = hdrPeck then 64 else (min peckLen (payload - peckLen * peck) + 63) / 64

/-- The image a session sends, while its slot still holds it verified. -/
def State.pushImg (p : PushSess) (s : State) : Option Img :=
  match assoc p.lib s.image.lib with
  | some i => if i.ok && (i.head.map ImgHead.digest) == some p.digest then some i else none
  | none => none

/-- The payload length of the image of a session. -/
def State.pushLen (p : PushSess) (s : State) : Nat := (((s.pushImg p).bind Img.head).map ImgHead.payload).getD 0

/-- A session whose peck has been sent goes on to the next one that waits (R481). -/
def PushSess.advance (payload : Nat) (p : PushSess) : PushSess :=
  if blocksOf payload p.peck ≤ p.block then
    match p.queue with
    | [] => p
    | k :: rest => { p with peck := k, block := 0, queue := rest }
  else p

/-- The session has a block to send. -/
def PushSess.hasBlock (payload : Nat) (p : PushSess) : Bool := decide (p.block < blocksOf payload p.peck)

/-- The payload of the next block (R481). -/
def PushSess.payloadOf (i : Img) (p : PushSess) : List Byte :=
  let data := if p.peck = hdrPeck then slice (64 * p.block) 64 i.bytes
    else slice (hdrLen + peckLen * p.peck + 64 * p.block) 64 i.bytes
  leBytes 1 p.peck ++ leBytes 2 p.block ++ data ++ List.replicate (64 - data.length) 0

/-- The pecks that are not reported good, the header first (R481, R484). -/
def openPecks (header : Bool) (bitmap pecks : Nat) : List Nat :=
  (if header then [] else [hdrPeck]) ++ (List.range pecks).filter (fun k => !bitmap.testBit k)

/-- A session that goes on from a progress: the current peck at its next block if it is still open, then the other open
pecks in order (R484). -/
def PushSess.from_ (lib : Nat) (h : ImgHead) (peck block bitmap : Nat) (header : Bool) : PushSess :=
  let l := openPecks header bitmap h.pecks
  let (peck, block, rest) :=
    if l.contains peck then (peck, block, l.erase peck)
    else match l with
      | k :: rest => (k, 0, rest)
      | [] => (peck, blocksOf h.payload peck, [])
  PushSess.advance h.payload
    { lib := lib, digest := h.digest, pecks := h.pecks, peck := peck, block := block, bitmap := bitmap, header := header,
      blocks := 0, bad := [], queue := rest }

/-- The header and every peck are reported good (R482). -/
def PushSess.complete (p : PushSess) : Bool := (openPecks p.header p.bitmap p.pecks).isEmpty

/-- Update the session of a flight. -/
def State.onPush (id : Nat) (g : PushSess → PushSess) (s : State) : State :=
  s.onFlight id (fun f => { f with push := f.push.map g })

/-- Write a PUSH record of a flight as it stands (R483). -/
def State.pushNote (id event : Nat) (s : State) : State :=
  match s.flight id with
  | some f => match f.push with | some p => s.pushRecord f p event none | none => s
  | none => s

/-- A PUSH flight that was cancelled, or whose deadline slot began, while its block was in the air ends with that block
(R326). -/
def State.pushOver (id : Nat) (s : State) : State :=
  match s.flight id with
  | none => s
  | some f => if f.cancel then s.endFlight id .cancel else if f.late then s.endFlight id .deadline else s

/-- A block has been acknowledged (R480, R483, R485): the flight is READY for its next block, its attempts start again,
and a record is written after the header's 64 blocks and at every 1,024th block. -/
def State.pushAcked (f : Flight) (s : State) : State :=
  let s := s.count .lanes "push.block"
  let s := s.onFlight f.id (fun f => { f with awaiting := false, st := .ready, lane := none, attempts := 0 })
  let s := s.onPush f.id (fun p => { p with block := p.block + 1, blocks := p.blocks + 1 })
  match (s.flight f.id).bind Flight.push with
  | none => s
  | some p =>
    let s := if p.peck = hdrPeck && p.block = 64 then s.pushNote f.id 0 else s
    let s := if p.blocks % 1024 = 0 then s.pushNote f.id 3 else s
    (s.onPush f.id (PushSess.advance (s.pushLen p))).pushOver f.id

/-- A bad report of a peck (R482): it waits to be sent again from block 0. -/
def PushSess.again (payload peck : Nat) (p : PushSess) : PushSess :=
  PushSess.advance payload
    { p with
      header := p.header && peck != hdrPeck
      bitmap := if peck = hdrPeck then p.bitmap else p.bitmap &&& (0xFFFF - 2 ^ peck)
      bad := p.bad ++ [peck]
      queue := if p.queue.contains peck then p.queue else p.queue ++ [peck] }

/-- A good report (R482). -/
def PushSess.reported (peck : Nat) (p : PushSess) : PushSess :=
  if peck = hdrPeck then { p with header := true } else { p with bitmap := p.bitmap ||| 2 ^ peck }

/-- A report of the endpoint of a PUSH flight (R482): a code, the peck, the digest. Other payloads are none. -/
def State.pushReport (i : Nat) (plain : List Byte) (s : State) : State :=
  match plain with
  | code :: peck :: digest =>
    let k := peck.toNat
    match s.work.table.find? (fun f => f.handle.index == i
        && (match f.push with
            | some p => digest == beBytes 8 p.digest.toNat && (k == hdrPeck || decide (k < p.pecks))
            | none => false)) with
    | none => s
    | some f =>
      if code = 0xB0 then
        let s := (s.onPush f.id (PushSess.reported k)).pushNote f.id 1
        if (((s.flight f.id).bind Flight.push).map PushSess.complete).getD false then s.endFlight f.id .done else s
      else if code = 0xB1 then
        let len := (f.push.map (fun p => s.pushLen p)).getD 0
        let s := s.onPush f.id (PushSess.again len k)
        let s := (s.count .cc "push.peck.bad").pushNote f.id 2
        if 3 ≤ ((((s.flight f.id).bind Flight.push).map (fun p => p.bad.count k)).getD 0) then s.endFlight f.id .tries else s
      else s
  | _ => s

end Sys2Proof.Machine
end

