-- ==== Sys2Proof/Machine/Claims.lean ====
section
/-!
DEFINITION. Sys2Proof/Machine/Claims.lean: the cells of a slot, and the scheduled transmissions and receptions that lie
ahead: what RFE times its radio and its coexistence requests by (R178, R207, R271).
-/

namespace Sys2Proof.Machine

/-! ## The cells of a slot (R271 to R273) -/

/-- The cell is a lane's work on a channel: LANE or TX (R273). -/
def Cell.onChannel (c : Cell) : Bool := c.kind == .lane || c.kind == .tx

/-- The cell names a lane: all kinds but ROUND and CONV (R273, log 24). -/
def Cell.onLane (c : Cell) : Bool := c.kind == .lane || c.kind == .tx || c.kind == .capt

/-- The cells active in a slot (R271), by slotframe number and then by index (R275). -/
def State.cellsAt (slot : Nat) (s : State) : List (Nat × Cell) :=
  (s.sched.cells.filter (fun x =>
    let len := s.sched.frames[x.2.frame % 8]
    len ≠ 0 && slot % len == x.2.slot && x.2.kind != .empty)).foldl
      (fun l x => insertBy (fun y => y.2.frame * 512 + y.1) x l) []

/-- In UNSYNCED and CANDIDATE no cell of a network works (R289). -/
def State.noNetwork (s : State) : Bool := s.net.st == .unsynced || s.net.st == .candidate

/-- The cells on a channel of the present and the next slot that have not started, with the moment of their start offset; a
slot whose time was stepped starts none for 20 µs (R274). -/
def State.cellsSoon (s : State) : List (Ticks × Cell) :=
  if s.noNetwork then []
  else
    (List.range 2).flatMap (fun k =>
      ((s.cellsAt (s.time.slot + k)).filter (fun x =>
        x.2.onChannel && (k == 1 || (assoc x.1 s.sched.active).isSome))).map (fun x =>
          (max (s.time.slotAt + k * s.slotTicks + x.2.offset * cclkTicks) (if k = 0 then s.sched.notBefore else 0), x.2)))

/-- A cell for a band other than the working one falls within the next 20 ms (R179). -/
def State.otherBandSoon (s : State) : Bool :=
  (List.range (20 / s.slotMs + 2)).any (fun k =>
    (s.cellsAt (s.time.slot + k)).any (fun x =>
      x.2.onChannel && bandOf (s.cellRate x.2.rate) != s.radio.band
        && decide (s.now ≤ s.time.slotAt + k * s.slotTicks + x.2.offset * cclkTicks)
        && decide (s.time.slotAt + k * s.slotTicks + x.2.offset * cclkTicks ≤ s.now + ms 20)))

/-! ## The running round (R310, R311, R317) -/

/-- A round that has opened and is not paused holds the slots (R310, R317). -/
def State.roundRuns (s : State) : Bool :=
  match s.work.round with
  | some r => r.opened && !r.pausing
  | none => false

/-- The sub-slots of a slot (R311). -/
def State.subSlots (s : State) : Nat := s.slotMs * 2 / 5

/-! ## The flights of a cell (R206, R324, R480) -/

/-- A flight's frames request the air at high priority (R206). -/
def State.flightHigh (f : Flight) (s : State) : Bool := decide (s.pint Obj.coexHiPrio ≤ f.prio)

/-- A flight's frames are of class 7 (R212). -/
def Flight.class7 (f : Flight) : Bool := f.reason == 7 || f.prio == 7

/-- The READY flights that a TX cell may take: of its handle, or of every flight that is not called (R324). -/
def State.cellFlights (c : Cell) (s : State) : List Flight :=
  s.work.table.filter (fun f =>
    f.st == .ready && f.kind != .push
      && (match c.handle with | some h => f.handle == h | none => !f.called))

/-- The PUSH flight that a cell takes: READY, of its handle or of any, with a block to send; of highest priority, the oldest
among equals. -/
def State.pushFlight (c : Cell) (s : State) : Option Flight :=
  bestWaiting (s.work.table.filter (fun f =>
    f.st == .ready && f.kind == .push && (c.handle == some f.handle || c.handle.isNone)
      && (match f.push with | some p => PushSess.hasBlock (s.pushLen p) p | none => false)))

/-- The flights that wait out skips in their eligible cells (R325, R480): a TX cell, or for a PUSH flight a LANE cell that
runs PUSH, that names their handle or none. -/
def State.skipCell (c : Cell) (s : State) : State :=
  s.onWork (fun w =>
    { w with table := w.table.map (fun f =>
        if f.st == .backoff && !f.called && (f.kind == .push) == (c.kind == .lane)
            && (c.handle == some f.handle || c.handle.isNone) then
          (if f.skips = 0 then { f with st := .ready } else { f with skips := f.skips - 1 })
        else f) })

/-! ## Scheduled transmissions ahead (R178, R207) -/

/-- The transmission of a cell that starts at a moment: a beacon, a PUSH block, or a flight's frame. -/
def State.cellClaim (t : Ticks) (c : Cell) (s : State) : Option Claim :=
  let band := bandOf (s.cellRate c.rate)
  let frame (f : Flight) : Claim := { air := t, band := band, high := s.flightHigh f, class7 := Flight.class7 f, lost := false }
  match c.kind with
  | .lane =>
    if c.arg = 1 then
      (if s.roster.netKey.isSome then some { air := t, band := band, high := true, class7 := false, lost := false } else none)
    else if c.arg = 4 then ((s.skipCell c).pushFlight c).map frame
    else none
  | .tx => (bestWaiting ((s.skipCell c).cellFlights c)).map frame
  | _ => none

/-- The calls of the running round in the present and the next slot: 28 µs into their sub-slots (R311). -/
def State.callClaims (s : State) : List Claim :=
  match s.work.round with
  | none => []
  | some r =>
    if !s.roundRuns then []
    else
      ((List.range (2 * s.subSlots)).drop r.inSlot).map (fun j =>
        { air := s.time.slotAt + j * us 2500 + us 28, band := .sub, high := false, class7 := r.req.reason == 7, lost := false })

/-- The acknowledgements that lanes of cells owe: 1,000 µs after their frames (R300). -/
def State.ackClaims (s : State) : List Claim :=
  if s.rx.high then []
  else
    (List.finRange 16).filterMap (fun n =>
      match s.rx.lanes[n].ack, s.rx.lanes[n].holder with
      | some a, .cell _ =>
        if a.recorded then
          some { air := a.frameEnd + us 1000, band := bandOf s.rx.lanes[n].rate, high := true, class7 := false, lost := false }
        else none
      | _, _ => none)

/-- The start beacon of a candidate: at the boundary of the slot drawn (R289). -/
def State.startClaims (s : State) : List Claim :=
  if s.net.st == .candidate && s.time.slot ≤ s.net.roundAt + s.net.drawn then
    [{ air := s.time.slotAt + (s.net.roundAt + s.net.drawn - s.time.slot) * s.slotTicks, band := .sub, high := true,
       class7 := false, lost := false }]
  else []

/-- Every scheduled transmission of the present and the next slot that can be foreseen. -/
def State.claims (s : State) : List Claim :=
  (if s.roundRuns then [] else s.cellsSoon.filterMap (fun x => s.cellClaim x.1 x.2))
    ++ s.callClaims ++ s.ackClaims ++ s.startClaims

/-- The earliest of the claims that lie ahead, up to a moment. -/
def State.nextClaim (until_ : Ticks) (s : State) : Option Claim :=
  (s.claims.filter (fun c => decide (s.now < c.air) && decide (c.air ≤ until_))).foldl (fun best c =>
    match best with
    | none => some c
    | some b => if c.air < b.air then some c else some b) none

/-- A cell that receives or transmits starts within a time (R178): the part brings the radio to RX by then. -/
def State.cellWithin (d : Ticks) (s : State) : Bool :=
  s.cellsSoon.any (fun x => decide (s.now ≤ x.1) && decide (x.1 ≤ s.now + d))

end Sys2Proof.Machine
end

