-- ==== Sys2Proof/Machine/MonOps.lean ====
section
/-!
DEFINITION. Sys2Proof/Machine/MonOps.lean: how a monitor decides, filters and latches, and how its set-up changes
(R373 to R383).
-/

namespace Sys2Proof.Machine

/-- Update a monitor. -/
def State.onWm (n : Fin 8) (f : Mon → Mon) (s : State) : State :=
  s.onMon (fun m => { m with mons := m.mons.set n (f m.mons[n]) })

/-- Monitors work in every state but SHELF, and across a warm start (R383). -/
def State.monOn (s : State) : Bool := s.cellarOn

/-- The decision of a monitor on a code (R374): with sense `out` outside the window, with `in` inside it. -/
def State.wmDecide (n : Fin 8) (code : Nat) (s : State) : Bool :=
  let inside := s.wm Obj.wmLo n ≤ code && code ≤ s.wm Obj.wmHi n
  if s.wm Obj.wmSense n = 0 then !inside else inside

/-- The event output of a monitor becomes active (R382). -/
def State.wmAct (n : Fin 8) (s : State) : State :=
  (((s.onWm n (fun m => { m with event := true })).count .mon ("wm." ++ dec n.val ++ ".event")).queue
    (.wm n.val true s.mon.mons[n].code)).wakeEvent

/-- The event output clears (R382); with WM0's the early warning is over (R400). -/
def State.wmClear (n : Fin 8) (s : State) : State :=
  let s := s.onWm n (fun m => { m with event := false })
  let s := if n.val = 0 then s.onMon (fun m => { m with warning := false }) else s
  s.queue (.wm n.val false s.mon.mons[n].code)

/-- Apply the latch to both outputs after their sources may have changed (R380): an output becomes active with its
source, and with latch `none` clears with it. -/
def State.relatch (n : Fin 8) (s : State) : State :=
  let free := s.wm Obj.wmLatch n = 0
  let m := s.mon.mons[n]
  let src := s.filterOut n
  let trip := s.tripSource n || (!free && m.trip)
  let s := s.onWm n (fun m => { m with trip := trip })
  if src && !m.event then s.wmAct n
  else if !src && m.event && free then s.wmClear n
  else s

/-- Clear the outputs whose source is inactive: at a grid boundary, or at `DO wm.clear` (R380). -/
def State.unlatch (n : Fin 8) (s : State) : State :=
  let m := s.mon.mons[n]
  let s := if s.tripSource n then s else s.onWm n (fun m => { m with trip := false })
  if m.event && !s.filterOut n then s.wmClear n else s

/-- What a change of set-up does to the monitor (R378, R379, R390): a new input, mode or filter clears the history; a
new input, or a mode that leaves `off`, discards the next two conversions. -/
def State.wmChanged (n : Fin 8) (s before : State) : State :=
  let same (base : Nat) : Bool := s.pval (base + n.val) == before.pval (base + n.val)
  let fromOff := before.wm Obj.wmMode n = 0 && s.wm Obj.wmMode n != 0
  s.onWm n (fun m =>
    { m with
      hist := if same Obj.wmInput && same Obj.wmMode && same Obj.wmFilter then m.hist else []
      raw := m.raw && same Obj.wmInput && same Obj.wmMode
      discard := if !same Obj.wmInput || fromOff then 2 else m.discard })

/-- The writes that wait for a sample come into force together (R374, R383). -/
def State.wmSettle (n : Fin 8) (s : State) : State := (s.fire (.monitor n.val)).wmChanged n s

/-- Take a conversion (R377, R379): a discarded one is counted and flagged, one without its excitation is flagged
(R396, log 23). -/
def State.wmConvert (n : Fin 8) (code : Nat) (excited : Bool) (s : State) : State :=
  let d := s.mon.mons[n].discard
  let s := s.onWm n (fun m =>
    { m with code := code, time := some s.stamp, discard := m.discard - 1, flag := decide (0 < d) || !excited })
  if 0 < d then s.count .mon "wm.discard" else s

/-- A filter decision, and the comparator's with it (R374, R378); a flagged conversion feeds none (R379). -/
def State.wmFeed (n : Fin 8) (active : Bool) (s : State) : State :=
  s.onWm n (fun m => { m with raw := active, hist := (active :: m.hist).take 7 })

/-- The PA drive goes off (R375, R381): `tx` comparators and those on PA inputs lose their power, and `tx` monitors
their history. -/
def State.wmPaOff (s : State) : State :=
  s.each (List.finRange 8) (fun n s =>
    let tx := s.wm Obj.wmMode n = 3
    let pa := s.wm Obj.wmInput n = 4 || s.wm Obj.wmInput n = 5
    if tx || pa then
      (s.onWm n (fun m => { m with raw := false, hist := if tx then [] else m.hist })).relatch n
    else s)

end Sys2Proof.Machine
end

