-- ==== Sys2Proof/Machine/AirOps.lean ====
section
/-!
DEFINITION. Sys2Proof/Machine/AirOps.lean: what every transmission and every reception shares: calibration groups, the
radio's path between its states, the choice of aerial, coexistence, the start and the end of a transmission, and wake
bursts (R118 to R123, R175 to R212, R221 to R223, R238).
-/

namespace Sys2Proof.Machine

/-! ## Calibration groups (R185 to R191) -/

/-- The calibration state of a band. -/
def Radio.cal' (r : Radio) : Band → BandCal
  | .sub => r.subCal
  | .g24 => r.g24Cal

/-- Update the calibration state of a band. -/
def State.onCal (b : Band) (f : BandCal → BandCal) (s : State) : State :=
  s.onRadio (fun r => match b with | .sub => { r with subCal := f r.subCal } | .g24 => { r with g24Cal := f r.g24Cal })

/-- The calibration group of a frequency on this part (R185). -/
def State.groupAt (s : State) (b : Band) (khz : Nat) : Nat := groupOf s.part.variant b khz

/-- The groups in use of a band, most recently used first (R189): those a span centre has held, and on the sub-GHz band
those of the hop tables' channels and of the wake channel (log 16). -/
def State.groupsInUse (s : State) (b : Band) : List Nat :=
  let used := (s.radio.cal' b).used
  match b with
  | .g24 => used
  | .sub =>
    let v := s.part.variant
    let more := s.groupAt .sub (wakeKHz v) :: (s.sched.h0.map (fun c => s.groupAt .sub (chanKHz v 100 c))
      ++ s.sched.h1.map (fun c => s.groupAt .sub (chanKHz v 200 c)))
    used ++ (List.range 16).filter (fun g => more.contains g && !used.contains g)

/-- The stale groups in use of a band. -/
def State.staleInUse (s : State) (b : Band) : List Nat :=
  (s.groupsInUse b).filter (fun g => (s.radio.cal' b).stale.contains g)

/-- A group is locked: it is the most recently used, and no longer stale, since a lock to a stale group calibrates it
(R177, R189). -/
def BandCal.lock (g : Nat) (c : BandCal) : BandCal :=
  { c with stale := c.stale.filter (· ≠ g), used := g :: c.used.filter (· ≠ g) }

/-- When no stale group in use remains, a due calibration of the band has ended at a die temperature (R191). -/
def State.calSettled (b : Band) (temp : Int) (s : State) : State :=
  if (s.radio.cal' b).due.isSome && (s.staleInUse b).isEmpty then s.onCal b (fun c => { c with due := none, tcal := temp })
  else s

/-- A reading of die temperature judged against a band's T_cal (R188): readings are in 0.25 °C. -/
def BandCal.judge (limit : Nat) (temp : Int) (now : Ticks) (c : BandCal) : BandCal :=
  if c.due.isNone && 4 * limit < (temp - c.tcal).natAbs then { c with stale := List.range 16, due := some now } else c

/-- A reading of die temperature by TIME, and by RFE while the radio is out of SLEEP (R188, R253, R255): the XO's model
moves the rate of local time by what it has changed since it was last applied, and corrects both synthesisers. -/
def State.readTemp (temp : Int) (s : State) : State :=
  let s := s.fire .temperature
  let limit := s.pnat Obj.calDtemp
  let recent := s.time.temps.filter (fun x => s.now ≤ x.1 + secs 10)
  let fast := recent.any (fun x => decide (4 < (temp - x.2).natAbs))
  let s := s.onRadio (fun r => { r with temp := temp, synthCorr := Config.xoModel temp })
  let s := s.onRadio (fun r =>
    if r.st = .sleep then r
    else { r with subCal := r.subCal.judge limit temp s.now, g24Cal := r.g24Cal.judge limit temp s.now })
  s.onTime (fun t =>
    { t with rate := t.rate + (Config.xoModel temp - Config.xoModel t.xoTemp), xoTemp := temp, temps := (s.now, temp) :: recent,
             fastUntil := if fast then s.now + secs 60 else t.fastUntil })

/-! ## Frequencies (R177, R182, R219) -/

/-- The frequency of the span's centre. -/
def State.spanKHz (s : State) : Nat := centreKHz s.rx.band s.part.variant s.rx.centre

/-- The frequency the radio needs: the transmission's, or the span's centre. -/
def State.wantTune (s : State) : Band × Nat :=
  match s.radio.next with
  | some tx => (tx.band, tx.khz)
  | none => (s.rx.band, s.spanKHz)

/-- The time of a hop or a band change (R177, maximum column). -/
def State.hopTime (s : State) (b : Band) (khz : Nat) : Ticks :=
  let stale := (s.radio.cal' b).stale.contains (s.groupAt b khz)
  if b = s.radio.band || s.radio.idleHeld then
    match b, stale with
    | .sub, false => us 40
    | .g24, false => us 50
    | .sub, true => us 360
    | .g24, true => us 370
  else if stale then us 380 else us 60

/-- The distance of two span centres. -/
def apart (i j : Nat) : Nat := max i j - min i j

/-- The centre that satisfies a condition and is nearest the present one, the lower on a tie (R221). -/
def nearestCentre (v : Variant) (b : Band) (cur : Nat) (ok : Nat → Bool) : Option Nat :=
  ((centres b v).filter ok).foldl (fun best j =>
    match best with
    | none => some j
    | some k => if apart j cur < apart k cur then some j else best) none

/-! ## The radio's path (R175 to R180) -/

/-- The time of R177 from SLEEP to reception on the span: 20 µs, a lock, and 12 µs. -/
def State.rxPath (s : State) : Ticks :=
  us 32 + (if (s.radio.cal' s.rx.band).stale.contains (s.groupAt s.rx.band s.spanKHz) then us 380 else us 60)

/-- A calibration takes the slot as a whole (R180, R190): until its end the radio serves nothing of lower rank. -/
def State.calSlot (s : State) : Bool := s.radio.taken == some s.time.slot

/-- The state the radio is wanted in: TX for a transmission, RX while lanes are bound and in time for a cell (R178), else SLEEP
(log 17). -/
def State.wantRadio (s : State) : RadioSt :=
  if s.radio.next.isSome then .tx
  else if (0 < s.boundLanes || s.cellWithin s.rxPath) && (s.inMask .a || s.inMask .b) then .rx
  else .sleep

/-- Start a transition. -/
def State.trans (dest : RadioSt) (d : Ticks) (tune : Option (Band × Nat)) (s : State) : State :=
  s.onRadio (fun r => { r with trans := some { dest := dest, at_ := s.now + d, tune := tune } })

/-- The chains begin to deliver nothing. -/
def State.deaf (s : State) : State :=
  s.onRadio (fun r => { r with deafFrom := some (r.deafFrom.getD s.now) })

/-- Start the next transition of R177 towards the state that is wanted, unless one runs, a transmission is on the air or
a calibration holds the radio. A granted transmission reaches the air no earlier than its T_air (R207, R209). -/
def State.moveRadio (s : State) : State :=
  if s.radio.trans.isSome || s.radio.tx.isSome || s.radio.cal.isSome || s.calSlot then s
  else
    let (b, khz) := s.wantTune
    let tuned := b = s.radio.band && khz = s.radio.khz
    let air (d : Ticks) : Ticks := max d ((match s.radio.next with | some tx => tx.air | none => 0) - s.now)
    match s.radio.st, s.wantRadio with
    | .sleep, .sleep => s
    | .sleep, _ => s.deaf.trans .standby (us 20) none
    | .standby, .sleep => s.trans .sleep (us 5) none
    | .standby, _ =>
      s.trans .synth (if (s.radio.cal' b).stale.contains (s.groupAt b khz) then us 380 else us 60) (some (b, khz))
    | .synth, .sleep => s.trans .sleep (us 5) none
    | .synth, w =>
      if tuned then s.trans w (if w = .tx then air (us 18) else us 12) none
      else s.deaf.trans .synth (s.hopTime b khz) (some (b, khz))
    | .rx, .sleep => s.trans .sleep (us 5) none
    | .rx, .tx => if tuned then s.trans .tx (air (us 28)) none else s.deaf.trans .synth (us 3) none
    | .rx, _ =>
      if tuned then s
      else (s.losePayloads .chz "chz.span.cut").deaf.trans .rx (s.hopTime b khz) (some (b, khz))
    | .tx, _ => s
    | .cal, _ => s

/-- The chains deliver valid samples again: what was lost is counted lane by lane (R238, R239). -/
def State.valid (s : State) : State :=
  match s.radio.deafFrom with
  | none => s
  | some t =>
    (s.each (List.finRange 16) (fun n s => s.spoilSpan n true true t s.now)).onRadio (fun r => { r with deafFrom := none })

/-- The working band's synthesiser is locked to a frequency (R175, R177, R189); after a band change the chains that receive
keep their steps, with the offsets stored for the new band (R194, R232), and the other synthesiser stays locked while R179
allows it: out of SYNTH and RX there was none. -/
def State.lockTo (b : Band) (khz : Nat) (temp : Int) (s : State) : State :=
  let change := b != s.radio.band
  let s := (s.onCal b (BandCal.lock (s.groupAt b khz))).calSettled b temp
  let s := s.onRadio (fun r => { r with band := b, khz := khz })
  if change then
    let s := s.onRadio (fun r => { r with idleHeld := (r.st == .rx || r.st == .synth) && s.otherBandSoon })
    s.each [Side.a, Side.b] (fun sd s =>
      if (s.rx.chain sd).on then (s.onChain sd (Chain.hold b (s.rx.chain sd).step)).applyDc sd else s)
  else s

/-- A retune ends (R177, R189, R222): the synthesiser is locked to a group of a band, which a stale group's calibration has
made fresh, and the first 24 lane samples that follow are invalid, those of the wake tap with them (R226; DESIGN CHOICE, log
127: the tap's samples are as long as those of a lane at `phy.rate`). -/
def State.tuned (b : Band) (khz : Nat) (temp : Int) (s : State) : State :=
  let s := s.lockTo b khz temp
  let s := s.onRx (fun r => { r with tapFrom := s.now + 24 * sampleTicks s.phyRate })
  s.spoilAll true true s.now 24

/-! ## The aerial (R203, R204) -/

/-- Beacons, broadcasts, floods and wake bursts alternate between the aerials (R203). -/
def TxKind.alternates : TxKind → Bool
  | .ack _ _ => false
  | .flight _ => false
  | .push _ => false
  | _ => true

/-- The aerial `radio.tx.ant` names for a transmission (R203). -/
def State.namedAerial (k : TxKind) (s : State) : Side :=
  let unicast (id : Nat) : Side :=
    match s.flight id with
    | none => .a
    | some f =>
      let best : Side := if ((s.entry f.handle.index).map Entry.bestB).getD false then .b else .a
      if s.pnat Obj.txAnt == 3 && f.attempts % 2 == 1 then Side.other best else best
  match s.pnat Obj.txAnt with
  | 0 => .a
  | 1 => .b
  | _ =>
    match k with
    | .ack _ sd => sd
    | .flight id => unicast id
    | .push id => unicast id
    | _ => match s.radio.lastAlt with | some x => Side.other x | none => .a

/-- When an aerial may be used: at once, from a moment on, or never (R202, R204). -/
inductive AerialFree where
  | now | from_ (t : Ticks) | never
  deriving DecidableEq, Repr

/-- The exclusion of an aerial. -/
def State.aerialFree (sd : Side) (s : State) : AerialFree :=
  if s.isRetired .chain (Side.num sd) then .never
  else
    match (match sd with | .a => s.radio.exclA | .b => s.radio.exclB) with
    | some t => if s.now < t then .from_ t else .now
    | none => .now

/-- The aerial a transmission uses (R203, R204): with both excluded, the one whose exclusion ends first. -/
def State.aerial (k : TxKind) (s : State) : Side :=
  let x := s.namedAerial k
  let y := Side.other x
  match s.aerialFree x, s.aerialFree y with
  | .now, _ => x
  | _, .now => y
  | .from_ t, .from_ u => if u < t then y else x
  | .from_ _, .never => x
  | .never, _ => y

/-! ## Coexistence (R205 to R212) -/

/-- A band has coexistence (R205). -/
def State.coexOn (b : Band) (s : State) : Bool :=
  match s.pnat Obj.coexEnable, b with
  | 1, .sub => true
  | 2, .g24 => true
  | 3, _ => true
  | _, _ => false

/-- A class 7 transmission that goes ahead without grant (R212). -/
def State.coexFree (tx : Tx) (s : State) : Bool :=
  tx.class7 && s.radio.coexFault && s.pint Obj.coexOverride == 1

/-- The request ends: COEX_REQ is low. -/
def Radio.coexDrop (r : Radio) : Radio := { r with coexReq := false, granted := false, coexOff := none, ahead := none }

/-- A class 7 transmission that waits asks anew under the override, with the high-priority pattern (R212). -/
def State.coexOverride (s : State) : State :=
  match s.radio.coexWait with
  | some w => if s.coexFree w && !s.radio.coexHi then s.onRadio Radio.coexDrop else s
  | none => s

/-- The level of COEX_REQ (R207): high while a request stands, but low from 10 to 20 µs after its rising edge at low
priority. -/
def State.coexPin (s : State) : Bool :=
  s.radio.coexReq
    && (s.radio.coexHi || decide (s.now < s.radio.coexAt + us 10) || decide (s.radio.coexAt + us 20 ≤ s.now))

/-- The priority of R206 of a burst: high for alarm sweeps and last-chance attempts. -/
def BurstFor.high : BurstFor → Bool
  | .sweep _ => true
  | .lastChance _ => true
  | _ => false

/-- A transmission requests at high priority (R206); under the override of R212 every one does. -/
def State.txHigh (tx : Tx) (s : State) : Bool :=
  s.coexFree tx
    || (match tx.kind with
        | .burst => ((s.jomen.onAir.map Burst.purpose).map BurstFor.high).getD false
        | .beacon => true
        | .startBeacon => true
        | .ack _ _ => true
        | .flight id => ((s.flight id).map (fun f => s.flightHigh f)).getD false
        | .push id => ((s.flight id).map (fun f => s.flightHigh f)).getD false
        | .call => false
        | .flood _ => false)

/-- A scheduled transmission goes ahead without grant (R212). -/
def State.claimFree (c : Claim) (s : State) : Bool :=
  c.class7 && s.radio.coexFault && s.pint Obj.coexOverride == 1

/-- The scheduled transmission ahead up to a moment that asks for the air on the wires (R205). -/
def State.coexNext (until_ : Ticks) (s : State) : Option Claim :=
  (s.nextClaim until_).bind (fun c => if s.coexOn c.band then some c else none)

/-- The PA drive of a transmission that asked for the air goes off at a moment (R207, R208): COEX_REQ falls 5 µs later, unless
the next transmission has the same priority and its T_air within `coex.lead` + 20 µs, whose request it then is. One that
yielded has its T_air 30 µs after the drive, where its grant is sampled at once (DESIGN CHOICE, log 129). -/
def State.coexAfter (off : Ticks) (s : State) : State :=
  let s := s.onRadio (fun r => { r with granted := false, ahead := none })
  match s.coexNext (off + us (s.pnat Obj.coexLead + 20)), s.radio.yielded with
  | some c, _ =>
    if c.high == s.radio.coexHi then s.onRadio (fun r => { r with coexAir := c.air, ahead := some c })
    else s.onRadio (fun r => { r with coexOff := some (off + us 5) })
  | none, some w =>
    if w.coex && s.txHigh w == s.radio.coexHi then s.onRadio (fun r => { r with coexAir := off + us 30 })
    else s.onRadio (fun r => { r with coexOff := some (off + us 5) })
  | none, none => s.onRadio (fun r => { r with coexOff := some (off + us 5) })

/-- The end of a transmission's request. -/
def State.coexEnd (tx : Tx) (off : Ticks) (s : State) : State := if tx.coex && s.radio.coexReq then s.coexAfter off else s

/-! ## Starting a transmission -/

/-- Transmission is barred: the early warning stands, an emergency flush runs, or the part is not in service
(R400, R456). -/
def State.txBarred (s : State) : Bool :=
  !s.ccOn || s.mon.mons[0].event || s.store.flush.isSome || s.resetting

/-- The radio has no transmission on the air, on its way or waiting for its grant, no calibration, and no slot taken by one. -/
def State.airFree (s : State) : Bool :=
  s.radio.tx.isNone && s.radio.next.isNone && s.radio.coexWait.isNone && s.radio.cal.isNone && !s.calSlot

/-- An unscheduled transmission may ask for the air: the radio is free, and none that yielded comes before it. -/
def State.txFree (s : State) : Bool := s.airFree && s.radio.yielded.isNone

/-- A transmission begins its path to TX. -/
def State.goTx (tx : Tx) (s : State) : State := (s.onRadio (fun r => { r with next := some tx })).moveRadio

/-- Ask for an unscheduled transmission (R180, R205 to R212): without coexistence it begins its path at once, else it waits for
its request to be granted. -/
def State.transmit (tx : Tx) (s : State) : State :=
  let s := s.fire .transmission
  let tx := { tx with coex := s.coexOn tx.band }
  if tx.coex then s.onRadio (fun r => { r with coexWait := some tx }) else s.goTx tx

/-- An unscheduled transmission that waits for its grant yields to a claim of rank 1 to 3, and will ask again (R180, R209). -/
def Radio.yieldWait (r : Radio) : Radio :=
  match r.coexWait with
  | some w => if r.ahead.isSome then { r with yielded := some w, coexWait := none }
    else { r.coexDrop with yielded := some w, coexWait := none }
  | none => r

/-- The frequency of the synthesiser for a frame on a channel: the span's centre where the span holds it, else the
channel's own. -/
def State.txKHz (rate ch : Nat) (s : State) : Nat :=
  let b := bandOf rate
  if b = s.rx.band && (positions s.part.variant s.rx.centre rate ch).isSome then s.spanKHz
  else chanKHz s.part.variant rate ch

/-- A frame to be transmitted; its aerial is chosen when it starts (R203). -/
def State.frameTx (k : TxKind) (body : AirBody) (class7 : Bool) (octets rate ch : Nat) (s : State) : Tx :=
  { head := none, body := body, kind := k, scheduled := false, aerial := .a, band := bandOf rate, class7 := class7, coex := false, air := 0,
    octets := octets, khz := s.txKHz rate ch, rate := rate }

/-! ## Wake bursts (R118 to R123) -/

/-- The length of a burst, off chips included (R93, R118). -/
def Burst.length (b : Burst) : Ticks := b.rep * 63 * (if b.fast then 125000 else 500000)

/-- A burst for a purpose, with the settings in force (R121, R123). -/
def State.makeBurst (code reason sync rep : Nat) (p : BurstFor) (s : State) : Burst :=
  { code := code, reason := reason, sync := sync, rep := rep, fast := s.pnat Obj.txRate == 1,
    power := s.pint Obj.txPower, purpose := p }

/-- The airtime total of the rolling 3,600 s (R121). -/
def State.airtime (s : State) : Ticks := ((s.jomen.airtime.filter (fun x => s.now < x.2)).map (·.1)).sum

/-- The duty check of a burst (R121): `jomen.tx.duty` in tenths of a per cent of 3,600 s. -/
def State.dutyOk (b : Burst) (s : State) : Bool :=
  decide ((s.airtime + b.length) * 1000 ≤ secs 3600 * s.pnat Obj.txDuty)

/-- A burst is accepted: it enters the airtime total and waits its turn (R119, R121). -/
def State.acceptBurst (b : Burst) (s : State) : State :=
  s.onJomen (fun j =>
    { j with queue := j.queue ++ [b], airtime := j.airtime ++ [(b.length, s.now + secs 3600)] })

/-- The part schedules a burst of its own; it is checked when it falls due (R121, R123). -/
def State.scheduleBurst (code reason : Nat) (p : BurstFor) (s : State) : State :=
  let b := s.makeBurst code reason (s.pnat Obj.sync) (s.pnat Obj.txRepeat) p
  s.onJomen (fun j => { j with due := j.due ++ [b] })

/-- A burst of a purpose is due, accepted or on the air. -/
def State.burstPending (p : BurstFor) (s : State) : Bool :=
  (s.jomen.due ++ s.jomen.queue ++ s.jomen.onAir.toList).any (fun b => b.purpose == p)

/-- The chips of a burst: its frames back to back (R92, R118). -/
def Burst.chips (b : Burst) : List Bool := (List.replicate b.rep (jomenFrame b.sync b.code b.reason)).flatten

/-- The transmission of a burst: the synthesiser on the wake channel (R118). -/
def State.burstTx (b : Burst) (s : State) : Tx :=
  { head := none, body := .chips b.fast b.chips, kind := .burst, scheduled := false, aerial := .a, band := .sub, class7 := b.reason == 7,
    coex := false, air := 0, octets := 0, khz := wakeKHz s.part.variant, rate := 0 }

/-! ## Listening after a burst -/

/-- A lane that a cell names within a time from now (R299). -/
def State.laneNamed (n : Fin 16) (d : Ticks) (s : State) : Bool :=
  (List.range (d / s.slotTicks + 2)).any (fun k =>
    (s.cellsAt (s.time.slot + k)).any (fun x =>
      x.2.onLane && x.2.lane == n.val && (x.2.kind == .capt || !s.noNetwork)
        && decide (s.time.slotAt + k * s.slotTicks + x.2.offset * cclkTicks ≤ s.now + d)))

/-- The highest-numbered lane that is free for a listening period (R299), where no other lane holds the channel but one of a
start (R224; log 138). -/
def State.listenLane (d : Ticks) (ch : Nat) (s : State) : Option (Fin 16) :=
  (List.finRange 16).reverse.find? (fun n =>
    s.laneOpen n && !s.laneNamed n d
      && (match s.chanHolder n s.phyRate ch with | some m => s.rx.lanes[m].holder == Holder.start | none => true))

/-- A lane makes room for a holder of higher rank (R299): a called attempt on it is abandoned in the anchor (R325; log 138). -/
def State.displace (n : Fin 16) (s : State) : State :=
  match s.rx.lanes[n].holder with
  | .called id => (s.failAttempt id false).release n
  | .lastChance _ => s.release n
  | .reacquire _ => s.release n
  | .start => s.release n
  | _ => s

/-- Bind a lane to a channel at the default rate to listen on it; a lane of a start makes room (R224). It hears what the span
holds, and the slots that begin while it listens hold its channel where their cells let them (R221, log 135). -/
def State.listenOn (n : Fin 16) (hd : Holder) (ch program : Nat) (s : State) : State :=
  let s := match s.chanHolder n s.phyRate ch with | some m => if s.rx.lanes[m].holder == Holder.start then s.release m else s | none => s
  (s.bind n hd ch s.phyRate program).moveRadio

/-- Take a lane to listen on the start channel for a time; a wait for one is counted (R299). -/
def State.listenStart (hd : Holder) (d : Ticks) (s : State) : State :=
  match s.listenLane d s.startChannel with
  | some n => s.listenOn n hd s.startChannel 3
  | none => s.count .lanes "lane.wait"

/-- A listening period that holds no lane takes one (R299). -/
def State.listenTake (hd : Holder) (until_ : Ticks) (s : State) : State :=
  if (List.finRange 16).any (fun n => s.rx.lanes[n].holder == hd) || until_ ≤ s.now then s
  else
    match s.listenLane (until_ - s.now) s.startChannel with
    | some n => s.listenOn n hd s.startChannel 3
    | none => s

/-- That of a last-chance sequence. -/
def State.listenLc (q : LcSeq) (s : State) : State :=
  match q.listen with | some t => s.listenTake (.lastChance q.index) t | none => s

/-- That of a reacquisition. -/
def State.listenReacq (q : Reacq) (s : State) : State :=
  if q.listening then s.listenTake (.reacquire q.index) q.nextAt else s

/-- A listening period that waits for a lane takes one at a slot boundary (R299). -/
def State.listenWaits (s : State) : State :=
  let s := s.each s.work.lc State.listenLc
  s.each s.net.reacq State.listenReacq

/-- What follows a burst of the part's own work when its last chip has been sent, or when the burst was skipped or cut:
a round opens at the next slot boundary, and the others listen (R286, R307, R324, R335). -/
def State.burstWork (p : BurstFor) (s : State) : State :=
  match p with
  | .command => s
  | .round _ => s.onWork (fun w => { w with round := w.round.map (fun r => { r with openSlot := s.time.slot }) })
  | .sweep _ => s.onWork (fun w => { w with round := w.round.map (fun r => { r with openSlot := s.time.slot }) })
  | .lastChance i =>
    let s := s.listenStart (.lastChance i) (ms 100)
    s.onWork (fun w =>
      { w with lc := replaceFirst (fun q => q.index == i) (fun q => { q with listen := some (s.now + ms 100) }) w.lc })
  | .reacquire i =>
    let s := s.listenStart (.reacquire i) (ms 200)
    s.onNet (fun n =>
      { n with reacq := replaceFirst (fun q => q.index == i) (fun q => { q with listening := true, nextAt := s.now + ms 200 }) n.reacq })
  | .called id =>
    let s := s.onFlight id (fun f => { f with nextTry := s.now + ms 100 })
    match (s.flight id).bind Flight.lane with
    | some n => s.listenOn n (.called id) s.startChannel 3
    | none => s

/-- A burst is cut (R118, R122, R201, R210): counted, announced if a command asked for it; a called attempt is abandoned
(R325), other work goes on as after a burst (log 18). -/
def State.burstCut (b : Burst) (s : State) : State :=
  let s := (s.onJomen (fun j => { j with onAir := none })).count .cc "jomen.burst.cut"
  match b.purpose with
  | .command => s.queue (.burst b.code b.reason .cut)
  | .called id => s.failAttempt id false
  | .sweep cls =>
    (s.onWake (fun w => { w with sweeping := some (cls, true) })).burstWork b.purpose
  | p => s.burstWork p

/-! ## On the air and off -/

/-- The work of a transmission that was abandoned: a trip, a grant loss, a cut (R201, R210, R325). -/
def State.txLost (tx : Tx) (s : State) : State :=
  match tx.kind with
  | .burst => match s.jomen.onAir with | some b => s.burstCut b | none => s
  | .flight id => s.failAttempt id false
  | .push id => s.failAttempt id false
  | _ => s

/-- The target power of a transmission in 0.25 dBm (R125, R199, R200). -/
def State.target (tx : Tx) (s : State) : Int :=
  match tx.kind, tx.band with
  | .burst, _ => match s.jomen.onAir with | some b => 4 * b.power | none => 4 * s.pint Obj.txPower
  | _, .sub => s.pint Obj.powerSub
  | _, .g24 => s.pint Obj.power24

/-- The chip of a burst on the air, by its number, once the PA has ramped (R118, R196). -/
def State.chipNow (s : State) : Nat × Bool :=
  match s.radio.tx.map Tx.body with
  | some (.chips fast l) =>
    let n := (s.now - (s.radio.paFrom + us 4)) / (if fast then 125000 else 500000)
    (n, l.getD n false)
  | _ => (0, true)

/-- The PA drive is on: PG1 enables the PA, and in a burst PG0 keys it for each chip, on for a 1 and off for a 0 (R118). -/
def State.driveOn (s : State) : Bool := s.radio.paOn && (decide (s.now < s.radio.paFrom + us 4) || s.chipNow.2)

/-- The PA drive goes off: a sub-GHz transmission leaves the matcher blanked for 250 µs (R120). -/
def State.paOff (band : Band) (ramp : Ticks) (s : State) : State :=
  let s := (s.onRadio (fun r => { r with paOn := false })).wmPaOff
  match band with
  | .sub => s.onWake (fun w => { w with blankUntil := some (s.now + ramp + us 250) })
  | .g24 => s

/-- The SFD of a frame by `phy.sfd` (R242, R245). -/
def State.sfdWord (s : State) : Nat := if s.pnat Obj.phySfd = 1 then 0x7A0E else 0x904E

/-- What goes before the PSDU of a frame that starts now (R242 to R247): a call's preamble has 4 octets, for its 21 octets
on the air (R311, R343). A burst has none of it. -/
def State.airHead (tx : Tx) (s : State) : Option AirHead :=
  if tx.kind == .burst then none
  else some
    { preamble := if tx.kind == .call then 4 else s.pnat Obj.phyPreamble
      sfd := s.sfdWord
      phr := { modeSwitch := false, fcs16 := false, whiten := s.pint Obj.phyWhiten == 1, length := tx.octets } }

/-- The transmit time-stamp of a frame whose first symbol is due now (R266, R267): the first symbol after the SFD leaves the
aerial a preamble and an SFD later, and for a frame that was not timed to its T_air the transmit delay later still. -/
def State.txStamped (tx : Tx) (s : State) : State :=
  match tx.head with
  | none => s
  | some h =>
    let d := airTicks tx.rate (h.preamble + 2) + (if tx.scheduled then 0 else Config.txDelay tx.aerial tx.band)
    s.onRadio (fun r => { r with txStamp := some (s.stampAhead d) })

/-- PG1 enables the PA and, for a burst, PG0 the keying; either refuses while a trip input is active (R396, R398). The
transmission is then on the air from this moment, the end of the ramp (R196), on the aerial that R203 and R204 name now. -/
def State.startTx (tx : Tx) (s : State) : State :=
  let s := (s.fire .transmission).fire .frame
  let (ok, s) := s.pgAsk 1
  let (ok', s) := if tx.kind = .burst then s.pgAsk 0 else (true, s)
  if ok && ok' then
    let tx := { tx with aerial := s.aerial tx.kind, head := s.airHead tx }
    let s := s.txStamped tx
    let g := s.groupAt tx.band tx.khz
    let target := s.target tx
    let cal := Config.calDrive tx.band g target
    let s := s.count .rfe (match tx.aerial with | .a => "radio.tx.a" | .b => "radio.tx.b")
    let s := s.onWake (fun w =>
      match tx.kind, s.jomen.onAir.map Burst.purpose with
      | .burst, some (.sweep cls) => { w with sweeping := some (cls, true) }
      | _, _ => w)
    s.onRadio (fun r =>
      { r with
        st := .tx
        trans := none
        next := none
        tx := some tx
        paOn := true
        paFrom := s.now - us 4
        deafFrom := some (r.deafFrom.getD (s.now - us 4))
        target := target
        drive0 := cal
        drive := (assoc (g, target) (r.cal' tx.band).drives).getD cal
        loopNext := s.now + us 6
        loopChip := none
        limited := false
        lastAlt := if tx.kind.alternates then some tx.aerial else r.lastAlt })
  else
    let s := s.chainsOff.onRadio (fun r => { r with st := .synth, trans := none, next := none })
    ((s.coexEnd tx s.now).txLost tx).moveRadio

/-- A transmission has reached the end of its path. Where transmission is barred none starts (R34, R400): an unscheduled one
asks again, a scheduled one is lost. -/
def State.beginTx (s : State) : State :=
  match s.radio.next with
  | none => s.chainsOff.onRadio (fun r => { r with st := .synth })
  | some tx =>
    if s.txBarred then
      let s := s.chainsOff.onRadio (fun r => { r with st := .synth, next := none })
      let s := s.coexEnd tx s.now
      if tx.scheduled then s.txLost tx else s.onRadio (fun r => { r with yielded := some tx })
    else s.startTx tx

/-- A transmission that yielded asks again (R209). -/
def State.resume (s : State) : State :=
  match s.radio.yielded with
  | some w =>
    if s.airFree && !s.txBarred && !s.anyPayload then (s.onRadio (fun r => { r with yielded := none })).transmit { w with air := 0 }
    else s
  | none => s

/-- The drive at the end of a frame is stored for its group and its target power (R196). -/
def State.storeDrive (tx : Tx) (s : State) : State :=
  s.onCal tx.band (fun c => { c with drives := assocSet (s.groupAt tx.band tx.khz, s.radio.target) s.radio.drive c.drives })

/-- A transmission ends as it should: the drive goes off 5 µs later, its request with it (R207), and the radio leaves TX for RX
after a call (R311), for SYNTH after any other (R177). -/
def State.endTx (tx : Tx) (s : State) : State :=
  let s := (s.storeDrive tx).paOff tx.band (us 5)
  let s := (s.onRadio (fun r => { r with tx := none })).coexEnd tx (s.now + us 5)
  let s := s.bytes .airTx tx.octets
  if tx.kind = .call then s.trans .rx (us 24) none else s.trans .synth (us 5) none

/-- What is on the air is cut: the drive is off and the frame abandoned, and its work goes the way of R325 (R177, R201, R210,
R433). -/
def State.cutTx (s : State) : State :=
  match s.radio.tx with
  | none => s
  | some tx =>
    let s := (s.storeDrive tx).paOff tx.band 0
    let s := s.chainsOff.onRadio (fun r => { r with tx := none, st := .synth, trans := none })
    (s.coexEnd tx s.now).txLost tx

/-- A transmission is stopped at once. -/
def State.stopTx (s : State) : State := if s.radio.tx.isSome then s.cutTx.moveRadio.resume else s

/-- A transmission on its way to the air is called back for a claim above its own (R180, R209): an unscheduled one asks again,
a scheduled one is lost. -/
def State.callBack (s : State) : State :=
  match s.radio.next with
  | none => s
  | some tx =>
    let s := s.onRadio (fun r =>
      { (if tx.coex then r.coexDrop else r) with
        next := none, trans := match r.trans with | some t => if t.dest = .tx then none else some t | none => none })
    if tx.scheduled then s.txLost tx else s.onRadio (fun r => { r with yielded := some tx })

/-! ## Scheduled transmissions at their T_air (R178, R180, R208, R209) -/

/-- How a scheduled transmission finds the radio at its T_air: free for it, held by a claim that ranks no lower, without its
grant, or without the grant it had. -/
inductive AirTurn where
  | go | busy | denied | lost
  deriving DecidableEq, Repr

/-- The radio is held against a scheduled transmission (R119, R180): a bar, a calibration that takes the slot, a scheduled
transmission, or a burst. -/
def State.airHeld (s : State) : Bool :=
  s.txBarred || s.calSlot || (match s.radio.cal with | some c => c.why != .gap | none => false)
    || (match s.radio.tx with | some t => t.scheduled || t.kind == .burst | none => false)
    || (match s.radio.next with | some t => t.scheduled | none => false)

/-- The verdict of the coexistence wires on a scheduled transmission of a band (R205 to R212): its request was made in time,
and its grant sampled high and not lost since. -/
def State.coexTurn (b : Band) (path : Ticks) (s : State) : AirTurn :=
  if !s.coexOn b then .go
  else
    match s.radio.ahead with
    | some c =>
      if c.band != b || s.now + path < c.air then .denied
      else if c.lost then .lost
      else if s.radio.granted || s.claimFree c then .go
      else .denied
    | none => .denied

/-- What an unscheduled claim leaves to a scheduled one (R180): a frame on the air is abandoned, one that waits or is on its
way asks again, a calibration in a gap stops with its group still stale, and payloads that run are lost and counted. -/
def State.clearAir (s : State) : State :=
  let s := s.cutTx.callBack.onRadio Radio.yieldWait
  let s := s.onRadio (fun r => { r with cal := none, st := if r.st = .cal then .synth else r.st })
  s.losePayloads .rfe "radio.rx.cut"

/-- A scheduled transmission takes the radio `path` before its T_air (R180): the turn it has, and what that does. One that asks
on the wires and cannot start is skipped and counted, and COEX_REQ falls at its T_air (R208, R209); one of class 7 goes ahead
without grant under the override (R212). -/
def State.takeAir (b : Band) (path : Ticks) (s : State) : AirTurn × State :=
  let s := s.fire .transmission
  let held := s.airHeld
  let on := s.coexOn b
  let turn := s.coexTurn b path
  if held && !(on && !s.txBarred) then (.busy, s)
  else if held || turn != .go then
    let s := if s.radio.ahead.isSome then
        let mine := (s.radio.tx.toList ++ s.radio.next.toList).any Tx.coex
        s.onRadio (fun r => { r with ahead := none, coexOff := if mine then r.coexOff else some (r.coexOff.getD (s.now + path)) })
      else s
    if !held && turn == .lost then (.lost, s) else (.denied, s.count .rfe "coex.deny")
  else
    let s := match s.radio.ahead with
      | some c => if on && s.claimFree c then s.count .rfe "coex.override" else s
      | none => s
    let (req, at_, high, granted) := (s.radio.coexReq, s.radio.coexAt, s.radio.coexHi, s.radio.granted)
    let s := s.clearAir
    (.go, if on then
        s.onRadio (fun r => { r with coexReq := req, coexAt := at_, coexHi := high, granted := granted, coexOff := none })
      else s)

/-- A scheduled transmission whose turn it is starts (R178; DESIGN CHOICE, log 128): with `path` 0 this moment is its T_air,
and its way to the air has been timed back from it; else the transition to TX takes `path`. -/
def State.launch (path : Ticks) (tx : Tx) (s : State) : State :=
  let on := s.coexOn tx.band
  let tx := { tx with scheduled := true, coex := on }
  let s := s.onRadio (fun r => { r with next := some tx, ahead := if on then none else r.ahead })
  if path = 0 then
    let s := s.onRadio (fun r => { r with trans := none, deafFrom := some (r.deafFrom.getD (s.now - (if r.st = .rx then us 28 else us 18))) })
    (if tx.band = s.radio.band && tx.khz = s.radio.khz then s else s.lockTo tx.band tx.khz s.radio.temp).beginTx
  else
    (s.onRadio (fun r => { r with trans := none })).trans .tx path
      (if tx.band = s.radio.band && tx.khz = s.radio.khz then none else some (tx.band, tx.khz))

end Sys2Proof.Machine
end

