-- ==== Sys2Proof/Machine/PgOps.lean ====
section
/-!
DEFINITION. Sys2Proof/Machine/PgOps.lean: how the pulse generators trip and what a trip does (R201, R202, R396 to R398,
R488).
-/

namespace Sys2Proof.Machine

/-- The name of an aerial in a counter. -/
def aerialText : Side → String
  | .a => "a"
  | .b => "b"

/-- The rest of a transmit aerial after a reflected-power trip (R202, R488): 1 s, doubled by each further trip within
60 s of the one before, 64 s at most; a trip during a rest changes nothing. -/
def State.restAerial (sd : Side) (s : State) : State :=
  let (excl, rests, last) := match sd with
    | .a => (s.radio.exclA, s.radio.restsA, s.radio.tripA)
    | .b => (s.radio.exclB, s.radio.restsB, s.radio.tripB)
  let resting := match excl with | some t => decide (s.now < t) | none => false
  if resting then s
  else
    let n := if s.now ≤ last + secs 60 then rests + 1 else 1
    let period := min (secs 1 * 2 ^ (n - 1)) (secs 64)
    let s := s.onRadio (fun r =>
      match sd with
      | .a => { r with exclA := some (s.now + period), restsA := n, tripA := s.now }
      | .b => { r with exclB := some (s.now + period), restsB := n, tripB := s.now })
    s.restSaid { kind := .chain, num := Side.num sd } period

/-- PG1 trips on a monitor of the reflected power (R201). -/
def State.reflected (s : State) : Bool :=
  (List.finRange 8).any (fun n =>
    (s.pnat (Obj.pgMask + 1)).testBit n.val && s.tripOut n && s.wm Obj.wmInput n == 5)

/-- The trip of PG1 stops the transmission on the air; one by reflected power is counted, and rests its aerial
(R201, R396). -/
def State.tripPa (s : State) : State :=
  match s.radio.tx with
  | none => s
  | some tx =>
    let s := if s.reflected then
        (s.count .rfe ("radio.trip.refl." ++ aerialText tx.aerial)).restAerial tx.aerial
      else s
    s.stopTx

/-- A generator trips when a selected input becomes active: its move into the tripped state is counted once
and is a wake event (R396 to R398, R423). -/
def State.pgFall (g : Fin 4) (s : State) : State :=
  if !s.pgInput g || s.mon.tripped[g] then s
  else
    let s := ((s.onMon (fun m => { m with tripped := m.tripped.set g true })).count .pg (pgCounter g)).wakeEvent
    match g with
    | 0 => (match s.radio.tx with
        | some tx => if tx.kind = .burst then s.stopTx else s
        | none => s)
    | 1 => s.tripPa
    | 2 =>
      if s.mon.vaux == .off then s
      else (s.onMon (fun m => { m with vaux := .off, tripOwed := true })).hostDeaf
    | 3 => s.onMon (fun m => { m with pg3At := s.now })

/-- Every generator with an active input trips; PG1 before PG0, whose burst it takes with it (R396, R397). -/
def State.pgFallAll (s : State) : State := s.each [1, 0, 2, 3] State.pgFall

end Sys2Proof.Machine
end

