-- ==== Sys2Proof/Machine/Mon.lean ====
section
/-!
DEFINITION. Sys2Proof/Machine/Mon.lean: the commands and events of the window monitors, the pulse generators and VAUX
(R373 to R408).
-/

namespace Sys2Proof.Machine

/-! ## Samples and conversions -/

/-- The excitation of a sample (R396, R398, R405): asked for on an excited SENSE, one for all samples of a tick; false
when PG3 refuses it, or tripped while it drove. -/
def State.exciteFor (n : Fin 8) (s : State) : Bool × State :=
  let s := s.fire .sense
  if s.wm Obj.wmInput n = 2 && s.pint Obj.senseExcite == 1 then
    let drive := us (s.pnat Obj.senseDrive)
    let start := s.now - (drive + us (s.pnat Obj.senseDelay) + us 2)
    let midway := s.mon.tripped[3] && start ≤ s.mon.pg3At + wclkTicks && s.mon.pg3At ≤ start + drive
    match (match s.mon.excite with | some (t, ok) => if t = s.now then some ok else none | none => none) with
    | some ok => (ok, s)
    | none =>
      let (ok, s) := if midway then (false, s) else s.pgAsk 3
      (ok, s.onMon (fun m => { m with excite := some (s.now, ok) }))
  else (true, s)

/-- WM0, and a monitor of the VAUX current, keep their comparators running in every state (R376). -/
def State.wmAlways (n : Fin 8) (s : State) : Bool := n.val == 0 || s.wm Obj.wmInput n == 1

/-- A monitor decides once at each sample: mode `sampled`, `continuous` while the XO is off but for R376, or on an
excited SENSE (R375, R376, R405). -/
def State.wmSampled (n : Fin 8) (s : State) : Bool :=
  match s.wm Obj.wmMode n with
  | 1 => true
  | 2 => (!s.xoOn && !s.wmAlways n) || (s.wm Obj.wmInput n == 2 && s.pint Obj.senseExcite == 1)
  | _ => false

/-- A sleep tick of the monitor's period grid (R389). -/
def State.wmGrid (n : Fin 8) (s : State) : Bool :=
  (s.now - s.mon.gridFrom) / sleepTicks % max 1 (s.wm Obj.wmPeriod n) == 0

/-- The time an excitation takes before the window of a sample opens (R377, R405). -/
def State.exciteTime (n : Fin 8) (s : State) : Ticks :=
  if s.wm Obj.wmInput n = 2 && s.pint Obj.senseExcite == 1 then us (s.pnat Obj.senseDrive) + us (s.pnat Obj.senseDelay) else 0

/-- The sleep tick of the grid that a moment falls in (R389). -/
def State.gridTick (t : Ticks) (s : State) : Nat := (t - s.mon.gridFrom) / sleepTicks

/-- A periodic sample or decision of a monitor is due (R375, R377): of a `tx` monitor 8 µs after the one before, of the others
once at a sleep tick, which for a sampled one lies on its period grid. -/
def State.wmDue (n : Fin 8) (s : State) : Bool :=
  let m := s.mon.mons[n]
  if s.wm Obj.wmMode n = 3 then
    s.radio.paOn && (match m.tickAt with | some t => decide (t < s.radio.paFrom) || decide (t + us 8 ≤ s.now) | none => true)
  else
    let k := s.gridTick (s.now - s.exciteTime n)
    (!s.wmSampled n || k % max 1 (s.wm Obj.wmPeriod n) == 0) && m.tickAt.map (fun t => s.gridTick t) != some k

/-- Two moments lie within 2 µs (R394). -/
def near2us (a : Option Ticks) (b : Ticks) : Bool :=
  match a with
  | some t => decide (b ≤ t + us 2) && decide (t ≤ b + us 2)
  | none => false

/-- A decision edge of a monitor (R373 to R382, log 22): the periodic sample of a sampled monitor, the sleep tick of a
continuous one, whose conversion falls on its grid, or the conversion of a `tx` monitor, each when it is due. `code` is what
the input reads. -/
def execMonitorSample (n : Fin 8) (code : BitVec 10) (s : State) : Ans :=
  .next (
    if !s.monOn || s.wm Obj.wmMode n = 0 || !s.wmDue n || near2us s.mon.mons[n].convAt s.now then s
    else
      let s := (s.onWm n (fun m => { m with tickAt := some (s.now - s.exciteTime n) })).wmSettle n
      if s.wm Obj.wmMode n = 0 then s.relatch n
      else
        let converts := s.wmSampled n || s.wm Obj.wmMode n == 3 || s.wmGrid n
        if !s.inputOk (s.wm Obj.wmInput n) then
          let s := if converts then s.count .mon "wm.skip" else s
          (s.relatch n).pgFallAll
        else
          let (ok, s) := s.exciteFor n
          let s := if converts then
              (s.wmConvert n code.toNat ok).onWm n (fun m => { m with sampleAt := some s.now })
            else s
          let s := if converts && s.mon.mons[n].flag then s else s.wmFeed n (s.wmDecide n code.toNat)
          (s.relatch n).pgFallAll)

/-- One conversion outside the periodic samples, of a CONV cell or `DO wm.conv` (R394): in any mode but `off` it also
makes a filter decision, unless a periodic sample within 2 µs made it; its monitor record is written. -/
def State.conv (n : Fin 8) (code : Nat) (s : State) : State :=
  let s := s.wmSettle n
  if !s.inputOk (s.wm Obj.wmInput n) then ((s.count .mon "wm.skip").relatch n).pgFallAll
  else
    let shared := near2us s.mon.mons[n].sampleAt s.now
    let (ok, s) := s.exciteFor n
    let s := (s.wmConvert n code ok).onWm n (fun m => { m with convAt := some s.now })
    let s := if s.wm Obj.wmMode n = 0 || s.mon.mons[n].flag || shared then s
      else s.wmFeed n (s.wmDecide n code)
    let s := (s.relatch n).pgFallAll
    let m := s.mon.mons[n]
    s.ledger (.monitor n.val (s.wm Obj.wmInput n) m.code m.event (s.tripOut n) m.flag true)

/-- A continuous or `tx` comparator crosses (R381): a raw trip acts at once. -/
def execComparatorCrossing (n : Fin 8) (active : Bool) (s : State) : Ans :=
  .next (
    let mode := s.wm Obj.wmMode n
    if s.monOn && s.comparatorOn n && (mode == 3 || (mode == 2 && !s.wmSampled n)) then
      ((s.onWm n (fun m => { m with raw := active })).relatch n).pgFallAll
    else s)

/-- A boundary of the period grid clears a `period` latch whose source is inactive (R380). -/
def execLatchPeriodClear (n : Fin 8) (s : State) : Ans :=
  .next (
    if s.monOn && s.wm Obj.wmLatch n == 1 && s.wmGrid n then s.unlatch n else s)

/-! ## Commands of the monitors (R395) -/

/-- The report of a monitor. -/
def State.wmLine (n : Fin 8) (s : State) : OutLine :=
  let m := s.mon.mons[n]
  .monitor n.val (s.wm Obj.wmInput n) m.code m.event (s.tripOut n) m.flag m.time

/-- A monitor number. -/
def wmNumber (n : Int) : Option (Fin 8) := if inRange 0 7 n then some (Fin.ofNat 8 n.toNat) else none

/-- `DO wm.read n`: the last conversion. -/
def execDoWmRead (h : Hdr) (n : Int) (s : State) : Ans :=
  .next (s.report h 536 .operator (fun s =>
    match wmNumber n with
    | some k => good s [s.wmLine k] (some 536) none
    | none => bad s .range 3 (some 536) none))

/-- `DO wm.conv n`: one conversion, its record, and the report. -/
def execDoWmConv (h : Hdr) (n : Int) (code : BitVec 10) (s : State) : Ans :=
  .next (s.report h 537 .operator (fun s =>
    match wmNumber n with
    | some k =>
      let s := s.conv k code.toNat
      good s [s.wmLine k] (some 537) none
    | none => bad s .range 3 (some 537) none))

/-- `DO wm.clear n`: the latches of a `command` monitor whose sources are inactive clear. -/
def runDoWmClear (h : Hdr) (n : Int) : State → Done :=
  actionRun 538 .operator (fun s aud =>
    match wmNumber n with
    | some k =>
      let s := if s.wm Obj.wmLatch k = 2 then s.unlatch k else s
      good s [s.wmLine k] (some 538) aud
    | none => bad s .range 3 (some 538) aud)

/-- The line of `runDoWmClear`. -/
def execDoWmClear (h : Hdr) (n : Int) (s : State) : Ans :=
  .next (s.change (.doWmClear h n) h .do_ true false (runDoWmClear h n))

/-! ## Trips and the early warning (R396 to R400) -/

/-- A generator trips (R396 to R398). -/
def execPgTrip (g : Fin 4) (s : State) : Ans := .next (s.pgFall g)

/-- The flush of R456 starts: every closed wake record goes into the cache, and nothing else does until the flush ends,
at the latest at `latest` (R400). In CELLAR nothing is kept to flush. -/
def State.startFlush (latest : Ticks) (s : State) : State :=
  if s.store.flush.isSome then s
  else
    let s := s.each (s.wake.queue.filter (fun r => !r.isOpen)) (fun r s => s.ledgerAt r.stamp (.wake r))
    s.onStore (fun c => { c with flush := some latest, flushOwed := none })

/-- The early warning (R34, R400): the transmission on the air is cut, none starts, and the emergency flush runs. In
LARDER it runs when the exit ends, in CELLAR there is nothing to flush. -/
def execEarlyWarning (s : State) : Ans :=
  .next (
    if !s.monOn || !s.mon.mons[0].event || s.mon.warning then s
    else
      let s := s.onMon (fun m => { m with warning := true })
      if s.ccOn then s.stopTx.startFlush (s.now + ms 5)
      else if s.pm.power == .larder || (s.pm.exiting.map Prod.fst) == some .larder then
        s.onStore (fun c => { c with flushOwed := some (s.now + ms 5) })
      else s)

/-! ## VAUX (R402, R403) -/

/-- The command that waits for its attempt gets its answer and its record. -/
def State.vauxAnswer (e : Option Err) (w : String) (s : State) : State :=
  match s.mon.onOwed with
  | none => s
  | some (h, o, before) =>
    let s := s.onMon (fun m => { m with onOwed := none })
    State.finish o h .do_
      { s := s, err := e.map (fun x => (x, 0)), out := [.word w], obj := some 539, aud := some (vauxAud before true) }

/-- A trip of VAUX is handled (R403): counted, announced, retried after 1 s or locked out; a command that waits fails. -/
def execVauxTrip (s : State) : Ans :=
  .next (
    if s.mon.tripOwed then (s.vauxTripped s.vauxCode).vauxAnswer (some .trip) "" else s)

/-- VAUX is tried again 1 s after a trip (R403). -/
def execVauxRetry (s : State) : Ans :=
  .next (
    match s.mon.retryAt with
    | some t =>
      if s.running && s.pm.power != .shelf && s.mon.vaux == .off && decide (t ≤ s.now) then s.vauxAttempt else s
    | none => s)

/-- 100 µs after its ramp the switch is fully on (R402). -/
def execVauxRampEnd (s : State) : Ans :=
  .next (
    match s.mon.vaux with
    | .ramp t =>
      if t + us 100 ≤ s.now then (s.onMon (fun m => { m with vaux := .on })).vauxAnswer none "on" else s
    | _ => s)

/-- `DO vaux on` starts an attempt, ending a lockout, and is answered when the attempt ends; `DO vaux off` acts at once,
and first answers one that waits (R402, R403). -/
def runDoVaux (h : Hdr) (on : Bool) (s : State) : Done :=
  let before := s.mon.wanted
  let aud : Option Aud := some (vauxAud before on)
  needs .operator s (some 539) aud (
    if on then
      let s := if s.mon.tripOwed then s.vauxTripped s.vauxCode else s
      let s := if s.mon.lockout then s.onMon (fun m => { m with lockout := false, runTrips := 0 }) else s
      let s := s.onMon (fun m => { m with wanted := true })
      let owe (s : State) : Done :=
        good (s.onMon (fun m => { m with onOwed := some (h, s.lineOrigin h, before) })) [] (some 539)
          (s.lateAudit h (vauxAud before on))
      match s.mon.vaux with
      | .on => good s [.word "on"] (some 539) aud
      | .ramp _ => owe s
      | .off =>
        let s := s.vauxAttempt
        if s.mon.vaux == .off then bad s .trip 0 (some 539) aud else owe s
    else
      let first : List OutLine := if s.mon.onOwed.isSome then [.word "off"] else []
      let s := (s.onMon (fun m => { m with tripOwed := false })).vauxAnswer none "off"
      good s.vauxOff (first ++ [.word "off"]) (some 539) aud)

/-- The line of `runDoVaux`. -/
def execDoVaux (h : Hdr) (on : Bool) (s : State) : Ans :=
  .next (s.change (.doVaux h on) h .do_ true false (runDoVaux h on))

end Sys2Proof.Machine
end

