-- ==== Sys2Proof/Machine/CalOps.lean ====
section
/-!
DEFINITION. Sys2Proof/Machine/CalOps.lean: calibrations of the radio: what each takes, how one starts and what its end
brings (R180, R186 to R192, R488, R497).
-/

namespace Sys2Proof.Machine

/-- The bands of a band argument. -/
def BandSel.bands : BandSel → List Band
  | .sub => [.sub]
  | .g24 => [.g24]
  | .both => [.sub, .g24]

/-- The chains that are not retired (R176, R496). -/
def State.calChains (s : State) : List Side := [Side.a, Side.b].filter (fun sd => !s.isRetired .chain (Side.num sd))

/-- The chains a calibration measures, for I/Q and DC, and whether their results are judged (R186, R488, R497). -/
def State.calSides (why : CalWhy) (kind : CalKind) (s : State) : List Side :=
  match why with
  | .gap => []
  | .slot => []
  | .reinstate _ _ sd => [sd]
  | .rest sd => [sd]
  | .command _ =>
    match kind with
    | .osc => []
    | .filter => []
    | _ => s.calChains

/-- The groups of a calibration by command: every group of its bands when it includes the oscillator. -/
def calGroups (why : CalWhy) (kind : CalKind) (band : BandSel) : List (Band × Nat) :=
  match why, kind with
  | .command _, .osc => (BandSel.bands band).flatMap (fun b => (List.range 16).map (fun g => (b, g)))
  | .command _, .all => (BandSel.bands band).flatMap (fun b => (List.range 16).map (fun g => (b, g)))
  | _, _ => []

/-- The time a calibration takes (R186): 42.0 ms for all kinds on both bands and two chains. -/
def State.calTime (why : CalWhy) (kind : CalKind) (band : BandSel) (groups : Nat) (s : State) : Ticks :=
  let bands := (BandSel.bands band).length
  let chains := s.calChains.length
  match why with
  | .gap => us 262 * groups
  | .slot => us 262 * groups
  | .reinstate _ _ _ => ms 16
  | .rest _ => ms 16
  | .command _ =>
    match kind with
    | .osc => us 262 * groups
    | .iq => ms 5 * (chains * bands)
    | .filter => ms 2 * chains
    | .dc => ms 2 * (chains * bands)
    | .all => us 262 * groups + (if bands = 2 then us 1616 else 0) + ms 5 * (chains * bands) + ms 2 * chains
        + ms 2 * (chains * bands)

/-- A payload under way when the radio turns to calibration is lost; no counter is named for it. -/
def State.dropPayloads (s : State) : State :=
  s.each (List.finRange 16) (fun n s => if s.receiving s.rx.lanes[n] then s.onLane n Lane.idle else s)

/-- A calibration takes the radio (R177, R180): one that takes its slot cuts what is on the air and calls back what is on its
way, and an unscheduled transmission that waits yields. Its way to CAL has been timed back from this moment (R178; log 92). -/
def State.startCal (why : CalWhy) (kind : CalKind) (band : BandSel) (groups : List (Band × Nat)) (s : State) : State :=
  let s := ((s.cutTx.callBack.dropPayloads.chainsOff.deaf).onRadio Radio.yieldWait).onRadio (fun r =>
    if r.ahead.isSome then r.coexDrop else r)
  s.onRadio (fun r =>
    { r with st := .cal, trans := none,
             cal := some { why := why, kind := kind, band := band, groups := groups,
                           endAt := s.now + s.calTime why kind band groups.length } })

/-- At a slot boundary the first calibration that waits takes the radio; it takes every slot it runs in (R180, R192). -/
def State.startAskedCal (s : State) : State :=
  if s.radio.cal.isNone then
    match s.radio.calAsked with
    | [] => s
    | (why, kind, band) :: rest =>
      (s.onRadio (fun r => { r with calAsked := rest })).startCal why kind band (calGroups why kind band)
  else s

/-- The calibration that runs takes the slot: a gap calibration does not. -/
def State.calTakesSlot (s : State) : Bool :=
  match s.radio.cal with
  | some c => c.why != .gap
  | none => false

/-- The result of a calibration of one chain (R488): within limits, or a transient fault and, the third time in a row, a
retirement. -/
def State.judgeChain (sd : Side) (good : Bool) (s : State) : State :=
  let id : ResId := { kind := .chain, num := Side.num sd }
  if good then s.onRes id (fun r => { r with outRuns := 0 })
  else
    let s := s.onRes id (fun r => { r with outRuns := r.outRuns + 1 })
    if 3 ≤ (s.res id).outRuns then s.retireOrRest id 5 else s.transient id

/-- A group that has been calibrated (R186, R189). -/
def BandCal.fresh (g : Nat) (c : BandCal) : BandCal := { c with stale := c.stale.filter (· ≠ g) }

/-- A calibration has filled a chain's table of DC offsets for a band (R186, R194). -/
def State.dcTaken (sd : Side) (b : Band) (s : State) : State :=
  let (k, s) := s.draw
  s.onChain sd (fun c => match b with | .sub => { c with dcSub := k } | .g24 => { c with dc24 := k })

/-- What the end of a calibration brings (R189 to R192, R194, R488, R497): fresh groups, fresh tables of offsets, a band
settled at the die temperature, the chains judged, and the reply of a command. -/
def State.endCal (c : CalRun) (temp : Int) (out : List Side) (s : State) : State :=
  let s := s.each c.groups (fun g s => s.onCal g.1 (BandCal.fresh g.2))
  let s := match c.why with
    | .command _ =>
      s.each (c.groups.map Prod.fst).eraseDups (fun b s => s.onCal b (fun k => { k with due := none, tcal := temp }))
    | _ => (s.calSettled .sub temp).calSettled .g24 temp
  let s := if c.kind == .dc || c.kind == .all then
      s.each (s.calSides c.why c.kind) (fun sd s => s.each (BandSel.bands c.band) (fun b s => s.dcTaken sd b))
    else s
  let s := match c.why, c.kind, c.band with
    | .command _, .all, .both => s.onRadio (fun r => { r with lastFull := s.seconds })
    | _, _, _ => s
  let s := s.onRadio (fun r => { r with cal := none })
  match c.why with
  | .gap => s.countN .rfe "radio.cal.gap" c.groups.length
  | .slot => s
  | .command h => (s.each (s.calSides c.why c.kind) (fun sd s => s.judgeChain sd (!out.contains sd))).reply h [.bare]
  | .rest sd => s.judgeChain sd (!out.contains sd)
  | .reinstate h o sd =>
    let id : ResId := { kind := .chain, num := Side.num sd }
    if out.contains sd then
      (s.audit o 10 (880 + kindPos id.kind) (errNum .fault) (.num (s.res id).cause) (.num id.num)).refuse h .do_ .fault 0
        (some (900 + kindPos id.kind))
    else (s.reinstate o id).reply h [.word "REINSTATE"]

end Sys2Proof.Machine
end

