-- ==== Sys2Proof/Machine/CapOps.lean ====
section
/-!
DEFINITION. Sys2Proof/Machine/CapOps.lean: I/Q captures: their lane, their start and their release (R248 to R250).
-/

namespace Sys2Proof.Machine

/-- Drop the capture, running, waiting or held, and free its lane (R250). -/
def State.dropCapture (s : State) : State :=
  match s.rx.capture with
  | none => s
  | some c =>
    let s := if s.rx.lanes[c.lane].holder == .capture then s.release c.lane else s
    s.onRx (fun r => { r with capture := none })

/-- The rate of the lane that is bound to a channel position (R248). -/
def State.rateAt (p : Nat) (s : State) : Option Nat :=
  ((List.finRange 16).find? (fun n =>
    let l := s.rx.lanes[n]
    l.bound && l.holder != .capture
      && ((positions s.part.variant s.rx.centre l.rate l.chan).getD []).contains
          (match s.rx.band with | .sub => p | .g24 => p + 100))).map (fun n => s.rx.lanes[n].rate)

/-- The rate of a capture when it starts (R248): raw samples at 10 MS/s are written as rate 0. DESIGN CHOICE (log 139):
without a rate and with no lane bound there, a backbone output is captured at 1,000 kb/s, the only rate that it has;
`phy.rate` is none of its rates. -/
def State.captureRate (c : Capture) (s : State) : Nat :=
  match c.src with
  | .chain _ => 0
  | .chan p => c.rate.getD ((s.rateAt p.toNat).getD (match s.rx.band with | .sub => s.phyRate | .g24 => 1000))

/-- The source of a capture lies in the span (R219, R248). -/
def State.captureIn (c : Capture) (rate : Nat) (s : State) : Bool :=
  match c.src with
  | .chain _ => true
  | .chan p =>
    match s.rx.band with
    | .sub => decide (0 ≤ p) && rate != 1000 && decide (p + (if rate = 200 then 1 else 0) ≤ 39)
    | .g24 => rate == 1000 && decide (0 ≤ p) && decide (p ≤ 1)

/-- What holds of a chain now (R249). -/
def State.traceOf (sd : Side) (s : State) : ChainTrace :=
  { at_ := s.now, step := (s.rx.chain sd).step, mask := s.inMask sd, live := s.chainLive sd }

/-- A capture starts: the lane runs CAPTURE at the capture's rate, and the gain steps and the time of the first word are fixed
(R248, R251). -/
def State.runCapture (c : Capture) (s : State) : State :=
  let rate := s.captureRate c
  let s := s.onRx (fun r =>
    { r with capture := some { c with rate := some rate, slot := none, started := true, startAt := gridUp rate s.now,
                                      inSpan := s.captureIn c rate, stepA := r.a.step, stepB := r.b.step,
                                      startT := s.stamp, traceA := [s.traceOf .a], traceB := [s.traceOf .b] } })
  (s.onLane c.lane (fun l =>
    { l.idle with holder := .capture, program := 7, retune := none, rate := rate, counted := max l.counted s.now })).moveRadio

/-- Add to a trace what has changed of a chain. -/
def State.traceChain (sd : Side) (l : List ChainTrace) (s : State) : List ChainTrace :=
  let x := s.traceOf sd
  match l with
  | y :: _ => if { y with at_ := x.at_ } = x then l else x :: l
  | [] => [x]

/-- A running capture follows its chains, and takes the time and the gain steps of its first word at its first sample (R249,
R251). -/
def State.captureTick (s : State) : State :=
  match s.rx.capture with
  | some c =>
    if c.started && c.ended.isNone then
      let c := if c.startAt = s.now then { c with startT := s.stamp, stepA := s.rx.a.step, stepB := s.rx.b.step } else c
      s.onRx (fun r =>
        { r with capture := some { c with traceA := s.traceChain .a c.traceA, traceB := s.traceChain .b c.traceB } })
    else s
  | none => s

/-- A lane that may serve a capture: not retired and not resting (R299, R486). -/
def State.laneServes (n : Fin 16) (s : State) : Bool :=
  let r := s.res { kind := .lane, num := n.val }
  !r.retired && !r.resting

/-- The lanes that the cells of a slot will hold. -/
def State.cellLanes (slot : Nat) (s : State) : List Nat :=
  ((s.cellsAt slot).filter (fun x => x.2.onLane)).map (fun x => x.2.lane)

/-- A lane that is not bound in the start slot (R248), the highest-numbered such lane (log 28): now, one that is open and
that no cell of the slot names; in a later slot, one that its cells do not name, for a capture outranks the other holders
(R299). -/
def State.captureLane (slot : Option Nat) (s : State) : Option (Fin 16) :=
  let cells := s.cellLanes (slot.getD s.time.slot)
  (List.finRange 16).reverse.find? (fun n =>
    (if slot.isSome then s.laneServes n else s.laneOpen n) && !cells.contains n.val)

/-- A capture that waits for a slot starts at that slot's boundary (R248), on its lane, or where that has left service on
another that is free; with none it is dropped (DESIGN CHOICE, log 139). One that names the present slot or a past one is
accepted and never starts: the rule does not say what becomes of it (DESIGN CHOICE, log 139). -/
def State.captureDue (s : State) : State :=
  match s.rx.capture with
  | some c =>
    if c.slot = some s.time.slot && !c.started then
      match if s.laneServes c.lane then some c.lane else s.captureLane none with
      | some n => (s.displace n).runCapture { c with lane := n }
      | none => s.dropCapture
    else s
  | none => s

end Sys2Proof.Machine
end

