-- ==== Sys2Proof/Machine/SendOps.lean ====
section
/-!
DEFINITION. Sys2Proof/Machine/SendOps.lean: the frames the part builds and sends: secured frames, acknowledgements and
beacons (R300, R341 to R348, R362 to R364).
-/

namespace Sys2Proof.Machine

/-! ## Secured frames (R341, R342, R347) -/

/-- The MIC length code that `sec.mic` gives (R339, R348). -/
def State.micCode (s : State) : Fin 4 := Fin.ofNat 4 (s.pnat Obj.secMic + 1)

/-- The temperature byte of the part's own frames: the die's, in whole degrees (R341). -/
def State.tempByte (s : State) : BitVec 8 := BitVec.ofInt 8 (s.radio.temp / 4)

/-- Encrypt and authenticate a frame under its endpoint's key (R347). -/
def secure (nk : Key) (f : Frame) (plain : List Byte) : Frame :=
  let k := endpointKey nk f.id
  { f with payload := ccmCrypt k (frameNonce f) plain,
           mic := Config.ccmMic k (frameNonce f) (frameAad f) plain (micOctets f.micLen.val) }

/-- A frame of the part to an endpoint or a peer: towards endpoints the direction is 1, towards peers 0 (R339, R349). -/
def State.madeFrame (kind : FrameKind) (i : Option Nat) (id : Eui) (ctr : BitVec 32) (reason : Nat) (ackReq : Bool)
    (s : State) : Frame :=
  { kind := kind, micLen := s.micCode, ackReq := ackReq,
    dir := match i with | some k => decide (16 ≤ k) | none => true,
    sync := BitVec.ofNat 6 (s.pnat Obj.sync), anyAnchor := false, id := id, ctr := ctr, reason := BitVec.ofNat 3 reason,
    temp := s.tempByte, payload := [], mic := 0, ackCtr := 0, channel := 0 }

/-- A secured frame with its payload (R341). -/
def State.securedFrame (nk : Key) (kind : FrameKind) (i : Option Nat) (id : Eui) (ctr : BitVec 32) (reason : Nat)
    (ackReq : Bool) (plain : List Byte) (s : State) : Frame :=
  secure nk (s.madeFrame kind i id ctr reason ackReq) plain

/-- The acknowledgement of a frame (R342): the direction opposite to it, the channel of the next frame or 0xFF. -/
def ackFrame (nk : Key) (f : Frame) (ctr : BitVec 32) (ch : Nat) : Frame :=
  secure nk
    { kind := .ack, micLen := 1, ackReq := false, dir := !f.dir, sync := f.sync, anyAnchor := false, id := f.id,
      ctr := ctr, reason := 0, temp := 0x80, payload := [], mic := 0, ackCtr := f.ctr, channel := BitVec.ofNat 8 ch } []

/-- The PSDU octets of an acknowledgement: 15 bytes and the FCS (R342). -/
abbrev ackOctets : Nat := 19

/-! ## Beacons (R280, R344, R347, R364) -/

/-- The retired set as it will stand at its effective slot (R280, R492). -/
def State.retiredSet (s : State) : List ResId :=
  s.sched.pending.foldl (fun l p => if p.2.1 then l ++ [p.1] else l.filter (· ≠ p.1)) s.sched.retired

/-- The retired-set fields of a beacon while R280 requires them: effective slot, crate-band set, backbone set. -/
def State.beaconRetired (s : State) : Option (Nat × Nat × Nat) :=
  match s.sched.carry with
  | some c =>
    if s.time.slot ≤ c then
      let set (k : ResKind) : Nat := Machine.maskOf ((s.retiredSet.filter (fun r => r.kind == k)).map ResId.num)
      some (c - 640, set .chan, set .bb)
    else none
  | none => none

/-- The authenticated bytes of a beacon (R344). -/
def beaconBytes (b : Beacon) : List Byte :=
  leBytes 1 ((if b.isStart then 3 else 2) + 16 + 128) ++ leBytes 1 b.sync.toNat
    ++ leBytes 8 b.sender.toNat ++ leBytes 4 b.ctr.toNat ++ leBytes 5 b.slot ++ leBytes 3 b.offset
    ++ leBytes 1 b.rankPrio ++ leBytes 8 b.rankEui.toNat ++ leBytes 1 (b.slotLen + 4 * bit b.retired.isSome)
    ++ leBytes 4 b.planCheck.toNat
    ++ (match b.retired with
        | some (e, c, k) => leBytes 5 e ++ leBytes 17 c ++ leBytes 3 k
        | none => [])

/-- The MIC of a beacon under the beacon key (R346, R347). -/
def beaconMic (nk : Key) (b : Beacon) : BitVec 32 :=
  (Config.ccmMic (beaconKey nk)
    (beBytes 8 b.sender.toNat ++ beBytes 4 b.ctr.toNat ++ leBytes 1 (1 + 4 + 8 * (if b.isStart then 3 else 2)))
    (beaconBytes b) [] 4).extractLsb' 96 32

/-- The next beacon counter (R347), persisted every 16 (R364); none once it has ended, which is counted (R362). -/
def State.nextBeacon (s : State) : Option (BitVec 32) × State :=
  if ctrEnd ≤ s.net.beaconCtr then (none, s.count .cc "sec.ctr.end")
  else
    let c := s.net.beaconCtr + 1
    (some (BitVec.ofNat 32 c), s.onNet (fun n =>
      { n with beaconCtr := c, beaconSaved := if n.beaconSaved + 16 ≤ c then c else n.beaconSaved }))

/-- Send a beacon or a start beacon, at its T_air in the present slot, on a channel at a rate (R289, R298, R344). A start
beacon carries its sender's own rank, a beacon its partition's (R290). -/
def State.sendBeacon (start : Bool) (offset rate ch : Nat) (s : State) : State :=
  match s.roster.netKey with
  | none => s
  | some nk =>
    match s.nextBeacon with
    | (none, s) => s
    | (some c, s) =>
      let s := s.fire .beaconSent
      let s := if start || s.net.st == .root then
          s.onNet (fun n => { n with rankPrio := s.pnat Obj.netRank, rankEui := s.part.eui })
        else s
      let b : Beacon :=
        { isStart := start, sync := BitVec.ofNat 6 (s.pnat Obj.sync), sender := s.part.eui, ctr := c, slot := s.time.slot, offset := offset,
          rankPrio := s.net.rankPrio, rankEui := s.net.rankEui, slotLen := s.pnat Obj.slotLength,
          planCheck := s.planCheck, retired := s.beaconRetired, mic := 0 }
      let b := { b with mic := beaconMic nk b }
      let octets := (beaconBytes b).length + 8
      s.launch 0 (s.frameTx (if start then .startBeacon else .beacon) (.beacon b) false octets rate ch)

end Sys2Proof.Machine
end

