-- ==== Sys2Proof/Machine/SchedOps.lean ====
section
/-!
DEFINITION. Sys2Proof/Machine/SchedOps.lean: the cells of a slot, their channels and conflicts, the guards of partners,
the span and the filters of a slot, and channels that leave or rejoin the hop tables (R221, R222, R236, R271 to R286,
R492).
-/

namespace Sys2Proof.Machine

/-! ## The cells of a slot (R271 to R275, R279) -/

/-- A cell that is active in a slot, with its index, its channel and its rate. -/
structure Placed where
  i    : Nat
  cell : Cell
  ch   : Nat
  rate : Nat
  deriving DecidableEq, Repr

/-- Two cells conflict (R275). -/
def Placed.clash (p q : Placed) : Bool :=
  (p.cell.onLane && q.cell.onLane && p.cell.lane == q.cell.lane)
    || (p.cell.onChannel && q.cell.onChannel
        && (chanBins p.rate p.ch).any (fun b => (chanBins q.rate q.ch).contains b))

/-- Go through a list in order, with the cells placed so far and the state. -/
def State.sweepList {α : Type} (f : α → List Placed → State → List Placed × State) (xs : List α) (s : State) :
    List Placed × State := xs.foldl (fun acc x => f x acc.1 acc.2) ([], s)

/-- One cell of a slot with its channel. -/
def State.placeCell (slot : Nat) (x : Nat × Cell) (l : List Placed) (s : State) : List Placed × State :=
  let c := x.2
  if s.noNetwork && c.kind != .conv && c.kind != .capt then (l, s)
  else if c.onChannel then
    match s.hopPick c.hop slot c.ch with
    | some (ch, k) =>
      let rate := s.cellRate c.rate
      (l ++ [{ i := x.1, cell := c, ch := if c.hop = 0 then entryChan s.part.variant rate ch else ch, rate := rate }],
        s.countN .sched "hop.skip" k)
    | none => (l, s)
  else (l ++ [{ i := x.1, cell := c, ch := 0, rate := s.cellRate c.rate }], s)

/-- The cells of a slot with their channels: skips are counted, and a cell whose table is all retired is left out
(R279). In UNSYNCED and CANDIDATE only CONV and CAPT cells are bound (R289). -/
def State.placeCells (slot : Nat) (s : State) : List Placed × State :=
  State.sweepList (State.placeCell slot) (s.cellsAt slot) s

/-- Resolve conflicts: the earlier cell wins, the loser is skipped and counted (R275). -/
def State.resolve (l : List Placed) (s : State) : List Placed × State :=
  State.sweepList (fun p l s =>
    if l.any (fun q => q.clash p) then (l, s.count .sched "sched.conflict") else (l ++ [p], s)) l s

/-! ## Guards (R284 to R286) -/

/-- The READY flight of a handle of highest priority, the oldest among equals (R324). -/
def State.readyFor (h : Handle) (s : State) : Option Flight :=
  bestWaiting (s.work.table.filter (fun f => f.handle == h && f.st == .ready && f.kind != .push))

/-- The partner a cell receives from: that of a LANE cell, or of a TX cell with no frame queued, which listens (R273). -/
def State.listensFor (c : Cell) (s : State) : Option Handle :=
  match c.kind, c.handle with
  | .lane, some h => some h
  | .tx, some h => if (s.readyFor h).isSome then none else some h
  | _, _ => none

/-- The guard cap (R285): a quarter slot. -/
def State.guardCap (s : State) : Ticks := s.slotTicks / 4

/-- The partner for whose frame a cell of the slot needs a guard, with its last contact: one not heard since the start of the
previous slot (R284). -/
def State.guardPartner (c : Cell) (s : State) : Option (Handle × Entry × Ticks) :=
  match s.listensFor c with
  | none => none
  | some h =>
    match s.byHandle h with
    | none => none
    | some e =>
      match e.contact with
      | some t => if s.time.slotAt ≤ t + s.slotTicks then none else some (h, e, t)
      | none => none

/-- A partner that has been declared lost is not found again yet. -/
def State.isLost (c : Cell) (s : State) : Bool :=
  match s.listensFor c with
  | some h => (s.byHandle h).isSome && s.net.lost.contains h.index
  | none => false

/-- Judge the guard before a cell (R284, R285): the answer says whether the cell is attempted, and whether the partner has just
been lost. A lost partner's cells are left out until it is found. -/
def State.guardOk (c : Cell) (s : State) : Bool × Option Handle :=
  if s.isLost c then (false, none)
  else
    match s.guardPartner c with
    | some (h, e, t) => if s.guardCap < s.guardFrom e t then (false, some h) else (true, none)
    | none => (true, none)

/-- The window in which a cell's lane listens for its partner's start of frame (R284): the cell's nominal time, shifted by the
offset of the bin of the last T_p, less and plus the guard; none where no guard is due. -/
def State.cellWindow (c : Cell) (s : State) : Option (Ticks × Ticks) :=
  match s.guardPartner c with
  | some (_, e, t) =>
    let nominal := s.time.slotAt + c.offset * cclkTicks + airTicks (s.cellRate c.rate) (s.pnat Obj.phyPreamble + 2)
    let o := (e.drift.getD (driftBin (s.tempOf e.tpLast)) .empty).o
    let at_ := (nominal : Int) + o * (nominal - t : Nat) / 100000000
    let g : Int := s.guardFrom e t
    some ((at_ - g).toNat, (at_ + g).toNat)
  | none => none

/-! ## The span (R221, R222) -/

/-- The wake tap of a chain is in use (R135). -/
def State.tapUsed (s : State) : Bool := s.tapListens .a || s.tapListens .b

/-- A span centre covers a channel at a rate. -/
def State.covers (b : Band) (j rate ch : Nat) (s : State) : Bool :=
  bandOf rate == b && (positions s.part.variant j rate ch).isSome

/-- The best of the centres by R221: the wake channel under a tap, then the nearest, then the lower. -/
def State.bestCentre (b : Band) (cur : Nat) (ok : Nat → Bool) (s : State) : Option Nat :=
  let tapOk (j : Nat) : Bool := ok j && s.tapUsed && spanHasWake s.part.variant b j
  match nearestCentre s.part.variant b cur tapOk with
  | some j => some j
  | none => nearestCentre s.part.variant b cur ok

/-- The centre for a set of channels in a band (R221): the present one if it covers all, else the best that does, else
the one that covers the most. After a change of band the present one is that band's last (log 135). -/
def State.pickCentre (b : Band) (chs : List (Nat × Nat)) (s : State) : Nat :=
  let cur := legalCentre s.part.variant b (if s.rx.band = b then s.rx.centre else s.rx.centre')
  let n (j : Nat) : Nat := (chs.filter (fun x => s.covers b j x.1 x.2)).length
  let all := centres b s.part.variant
  if n cur = chs.length then cur
  else
    let most := all.foldl (fun m j => max m (n j)) 0
    (s.bestCentre b cur (fun j => n j == most)).getD cur

/-- The working band of a slot: that of most of its channels, sub-GHz among equals (log 25). -/
def workingBand (chs : List (Nat × Nat)) : Band :=
  let g := (chs.filter (fun x => x.1 == 1000)).length
  if chs.length < 2 * g then .g24 else .sub

/-- The synthesiser is called to the span's centre; the group is then one in use (R189). The other band keeps its last
centre. -/
def State.setSpan (b : Band) (j : Nat) (s : State) : State :=
  s.onRx (fun r => { r with band := b, centre := j, centre' := if r.band = b then r.centre' else r.centre })

/-! ## Filters (R236) -/

/-- The narrowest setting that passes a run of positions. -/
def filterFor (ps : List Nat) : Filter :=
  if ps.all (fun p => 15 ≤ p && p ≤ 24) then .narrow
  else if ps.all (fun p => 10 ≤ p && p ≤ 29) then .mid
  else .wide

/-- The positions of the wake channel ±100 kHz under the span (R135, R219). -/
def wakePositions (v : Variant) (j : Nat) : List Nat :=
  match v with
  | .e => [34, 35]
  | .n => [85 - j]

/-- The channels bound in the slot: by its cells, by the lanes that are bound already, and by the retunes that wait. -/
def State.slotChannels (s : State) : List (Nat × Nat) :=
  s.sched.active.filterMap (fun x =>
      (assoc x.1 s.sched.cells).bind (fun c => if c.onChannel then some (s.cellRate c.rate, x.2) else none))
    ++ ((List.finRange 16).filter (fun n => s.rx.lanes[n].bound && s.rx.lanes[n].holder != .capture)).flatMap (fun n =>
      let l := s.rx.lanes[n]
      (l.rate, l.chan) :: (match l.retune with | some (c, r) => [(r, c)] | none => []))

/-- The positions of a channel capture that runs (R248). -/
def State.capPositions (s : State) : List Nat :=
  match s.rx.capture with
  | some c =>
    match c.src with
    | .chan p => if c.started && c.ended.isNone then [p.toNat] ++ (if c.rate = some 200 then [p.toNat + 1] else []) else []
    | .chain _ => []
  | none => []

/-- The setting of a chain's filter for the slot (R236): `auto` passes every channel bound, and the wake tap of the chain while
it is in use. -/
def State.slotFilter (sd : Side) (s : State) : Filter :=
  if s.pnat Obj.rxFilter == 1 || s.rx.band == .g24 then .wide
  else
    let ps := s.slotChannels.flatMap (fun x => (positions s.part.variant s.rx.centre x.1 x.2).getD [])
    filterFor (ps ++ s.capPositions ++ (if s.tapListens sd then wakePositions s.part.variant s.rx.centre else []))

/-- Change a chain's filter unless one of its lanes receives a payload: 32 invalid samples on every lane (R236, R238). -/
def State.setFilter (sd : Side) (f : Filter) (s : State) : State :=
  if (s.rx.chain sd).filter == f || s.chainPayload sd then s
  else (s.onChain sd (fun c => { c with filter := f })).spoilAll (sd == .a) (sd == .b) s.now 32

/-- The filters of both chains for the slot that begins. -/
def State.slotFilters (s : State) : State := (s.setFilter .a (s.slotFilter .a)).setFilter .b (s.slotFilter .b)

/-! ## Channels of the hop tables (R280, R489, R492) -/

/-- The effective slot of a decision: the first multiple of 64 that lies 128 or more slots ahead (R280, R282). -/
def effSlot (slot : Nat) : Nat := (slot + 128 + 63) / 64 * 64

/-- A channel will leave or rejoin the tables at an effective slot; beacons carry the set until 640 slots after it. -/
def State.chanChange (id : ResId) (leave : Bool) (eff : Nat) (s : State) : State :=
  s.onSched (fun c =>
    { c with pending := c.pending.filter (fun p => p.1 ≠ id) ++ [(id, leave, eff)], carry := some (eff + 640) })

/-- A reinstatement cancels a retirement that awaits its effective slot (R492). -/
def State.chanCancel (id : ResId) (s : State) : State :=
  s.onSched (fun c => { c with pending := c.pending.filter (fun p => p.1 ≠ id) })

/-- The crate-band channels of H0 that stay in service (R489). -/
def State.h0InService (s : State) : List Nat :=
  (distinct s.sched.h0).filter (fun k => !(s.retiredSet).contains { kind := .chan, num := k })

/-- Retiring a channel would leave fewer than 4 channels of H0 in service (R489). -/
def State.chanFloor (id : ResId) (s : State) : Bool :=
  id.kind == .chan && (s.h0InService.filter (· ≠ id.num)).length < 4

end Sys2Proof.Machine
end

