-- ==== Sys2Proof/Machine/NetOps.lean ====
section
/-!
DEFINITION. Sys2Proof/Machine/NetOps.lean: changes of the network state, folds and steps of local time, and lost partners
(R256 to R265, R285 to R292, R531).
-/

namespace Sys2Proof.Machine

/-! ## Network states (R288) -/

/-- The code of a network state in R411. -/
def netCode : NetState → Nat
  | .unsynced => 0
  | .candidate => 1
  | .member => 2
  | .holdover => 3
  | .root => 4

/-- A change of network state: audited with rule `net.state`, announced, and any wait begins afresh (R288). -/
def State.setNet (st : NetState) (s : State) : State :=
  let old := s.net.st
  if old = st then s
  else
    ((s.onNet (fun n => { n with st := st, waitFrom := none })).audit (.self .netState) 11 896 0 (.num (netCode old))
      (.num (netCode st))).queue (.netState st)

/-- A wait of 2 × L0 slots begins at the present slot boundary (R288). -/
def State.beginWait (s : State) : State :=
  s.onNet (fun n => { n with waitFrom := some s.time.slotAt, waitSlots := 2 * s.l0 })

/-- The wait that a state needs and has not begun (R288). -/
def State.ensureWait (s : State) : State :=
  if s.net.started && (s.net.st == .unsynced || s.net.st == .holdover) && s.net.waitFrom.isNone then s.beginWait else s

/-- The new parent and partition taken at a slot boundary (R288). -/
def State.join (s : State) : State :=
  match s.net.joining with
  | none => s
  | some j =>
    (s.onNet (fun n =>
      { n with joining := none, parent := some j.parent, parentSlot := s.time.slot, rankPrio := j.prio, rankEui := j.root })).setNet .member

/-! ## Lost partners (R285, R286) -/

/-- The burst of a reacquisition is requested (R123, R286). -/
def State.reacqBurst (i : Nat) (s : State) : State :=
  let s := s.onNet (fun n =>
    { n with reacq := replaceFirst (fun q => q.index == i)
               (fun q => { q with reqAt := s.now, nextAt := s.now + secs 1, listening := false }) n.reacq })
  match s.entry i with
  | some e => s.scheduleBurst (codeOf i e) 6 (.reacquire i)
  | none => s

/-- A partner is declared lost (R285) and its reacquisition begins (R286); a time parent that is lost leaves the part in
HOLDOVER (R288). A partner without a code cannot be called and stays lost (R109, log 26). -/
def State.loseContact (h : Handle) (s : State) : State :=
  let s := (s.count .cc "guard.lost").queue (.peerLost h)
  let s := s.onNet (fun n => { n with lost := if n.lost.contains h.index then n.lost else n.lost ++ [h.index] })
  let s := match s.entry h.index with
    | some e => if s.net.st == .member && s.net.parent == some e.id then s.setNet .holdover else s
    | none => s
  if ((s.entry h.index).map (codeOf h.index)).getD 0 = 0 || s.net.reacq.any (fun q => q.index == h.index) then s
  else
    (s.onNet (fun n =>
      { n with reacq := n.reacq ++ [{ index := h.index, tries := 0, reqAt := s.now, listening := false, nextAt := s.now }] })).reacqBurst h.index

/-! ## Folds and steps (R260 to R265, R292) -/

/-- Counter time is folded into seconds and nanoseconds (R261), to the reading or to a time that was set (R264): the fold
record, the count, and for a rule of the part's own the audit record of the mode change (R260, R262). -/
def State.foldNow (rule : Option SelfRule) (target : Option Nat) (s : State) : State :=
  let c := s.time.cq / 4 % 2 ^ 64
  let q := target.getD s.readingQ
  let s := s.onTime (fun t => { t with counterMode := false, q := q, fold := none })
  let ns := q / 2 ^ 39
  let s := (s.count .time "time.fold").ledger (.fold c (ns / 1000000000) (ns % 1000000000) s.time.rate)
  let s := match rule with
    | some r => s.audit (.self r) 8 864 0 (.num 1) (.num 0)
    | none => s
  s.queue (.timeMode false)

/-- The slots by which a step moves the time (R292). -/
def moveSlot (d : Int) (n : Nat) : Nat := ((n : Int) + d).toNat

/-- A step of local time (R292): deadline slots and last-contact slots move with it, and so do the slots from which the
part counts (log 27). -/
def State.stepNow (ns : Int) (o : Option Origin) (s : State) : State :=
  let before := s.slotNow
  let dq := ns * 2 ^ 39
  let s := s.onTime (fun t =>
    if t.counterMode then { t with offset := t.offset + dq, step := none }
    else { t with q := ((t.q : Int) + dq).toNat, step := none })
  let d : Int := (s.slotNow : Int) - before
  let s := s.onWork (fun w =>
    { w with table := w.table.map (fun f => { f with deadline := moveSlot d f.deadline }),
             waiting := w.waiting.map (fun f => { f with deadline := moveSlot d f.deadline }),
             round := w.round.map (fun r => { r with openSlot := moveSlot d r.openSlot }) })
  let s := s.onRoster (fun r =>
    { r with entries := r.entries.map (fun x => (x.1, { x.2 with contactSlot := moveSlot d x.2.contactSlot })),
             replays := r.replays.map (fun p => { p with from_ := moveSlot d p.from_ }) })
  let s := s.onNet (fun n => { n with parentSlot := moveSlot d n.parentSlot, roundAt := moveSlot d n.roundAt })
  let s := s.count .time "time.step"
  let s := match o with
    | some o => s.audit o 8 865 0 (.num 0) (.num ns)
    | none => s
  s.queue (.timeStep ns)

/-- Local time returns to counter mode; the reading goes on (R265). -/
def State.toCounter (s : State) : State :=
  (s.onTime (fun t =>
    { t with counterMode := true, offset := (t.q : Int) - (t.cq / 4 : Nat) * 1000 * (2 ^ 32 + t.rate) })).queue
    (.timeMode true)

/-- What waits for the boundary is applied at its first CCLK edge: a command's change, then a fold, then a step (R274,
R531). The answer says whether the time was stepped. -/
def State.applyTime (s : State) : Bool × State :=
  let ask := s.time.ask
  let s := s.onTime (fun t => { t with ask := none })
  let (moved, s) := match ask with
    | some (.set sec n) =>
      let target := (sec * 1000000000 + n) * 2 ^ 39
      if s.time.counterMode then (true, s.foldNow none (some target))
      else (true, s.stepNow (((sec * 1000000000 + n : Nat) : Int) - s.readingNs) none)
    | some .counter => (false, if s.time.counterMode then s else s.toCounter)
    | none => (false, s)
  let s := match s.time.fold with
    | some r => if s.time.counterMode then s.foldNow (some r) none else s.onTime (fun t => { t with fold := none })
    | none => s
  match s.time.step with
  | some (ns, o) => (true, s.stepNow ns (some o))
  | none => (moved, s)

end Sys2Proof.Machine
end

