-- ==== Sys2Proof/Machine/RoundOps.lean ====
section
/-!
DEFINITION. Sys2Proof/Machine/RoundOps.lean: inventory rounds: requests, the opening, the channels and lanes of a slot,
Q, and the end (R307 to R317).
-/

namespace Sys2Proof.Machine

/-- A round that waits for its burst (R307, R315). -/
def Round.fresh (q : RoundReq) (slot qStart : Nat) : Round :=
  { req := q, opened := false, openSlot := slot, sub := 0, qf := 64 * qStart, q := qStart, q1 := qStart, chans := [],
    quiet := 0, prev := [], prev2 := [], acked := [], heard := [], recorded := 0, repeats := 0, drops := 0, singles := 0,
    collided := 0, empties := 0, paused := 0, pausing := false, stop := false, closing := 0, qCall := 0, inSlot := 0,
    subAt := 0, window := false }

/-- A round comes into its turn: its burst is scheduled with reason 1, or with the sweep's class (R123, R307); a sweep starts
then, and is counted (R169, R174). -/
def State.startRound (q : RoundReq) (s : State) : State :=
  let s := s.fire .nextRound
  let s := s.onWork (fun w => { w with round := some (Round.fresh q s.time.slot (s.pnat Obj.qStart)) })
  if q.sweep then
    ((s.onWake (fun w => { w with sweeping := some (q.reason, false) })).count .matcher "matcher.sweep").scheduleBurst q.code
      q.reason (.sweep q.reason)
  else s.scheduleBurst q.code 1 (.round q.id)

/-- The next round ID (R308). -/
def State.takeRoundId (s : State) : Nat × State :=
  (s.work.nextRound, s.onWork (fun w => { w with nextRound := (w.nextRound + 1) % 256 }))

/-- A request joins those that wait, in request order, but the sweeps that wait follow each other in falling order of class
(R169, R307). -/
def waitRound (q : RoundReq) : List RoundReq → List RoundReq
  | [] => [q]
  | x :: xs =>
    if q.sweep && x.sweep && (decide (x.reason < q.reason) || !xs.any RoundReq.sweep) then
      (if x.reason < q.reason then q :: x :: xs else x :: q :: xs)
    else x :: waitRound q xs

/-- A round is requested: it starts, waits among at most 8, or is dropped (R307). The answer is its ID, none when it is
dropped. -/
def State.requestRound (code reason : Nat) (sweep : Bool) (chOff : Nat) (byDo : Bool) (s : State) :
    Option Nat × State :=
  if s.work.round.isNone && s.work.rounds.isEmpty then
    let (id, s) := s.takeRoundId
    (some id, s.startRound { id := id, code := code, reason := reason, sweep := sweep, chOff := chOff, byDo := byDo })
  else if s.work.rounds.length < 8 then
    let (id, s) := s.takeRoundId
    let q : RoundReq := { id := id, code := code, reason := reason, sweep := sweep, chOff := chOff, byDo := byDo }
    (some id, s.onWork (fun w => { w with rounds := waitRound q w.rounds }))
  else (none, s)

/-- A round has opened and has not ended (R317). -/
def State.roundOpen (s : State) : Bool := (s.work.round.map Round.opened).getD false

/-! ## The channels of a slot (R309, R310) -/

/-- The enabled, non-retired 200 kb/s channels in rising order (R309). -/
def State.roundList (s : State) : List Nat :=
  ((List.range 64).filter (fun m => s.sched.h1.contains m)).filter (fun m => !s.chanOut 1 m)

/-- The lanes a round may take, the lowest numbers first (R310). -/
def State.roundLanes (s : State) : List (Fin 16) :=
  (List.finRange 16).filter (fun n =>
    let r := s.res { kind := .lane, num := n.val }
    !r.retired && !r.resting
      && (match s.rx.lanes[n].holder with | .capture => false | _ => true))

/-- The channels of a round in the slot that begins, the call channel first met, at most 16 and at most as many as there
are lanes, in rising order (R309, R310). The call channel stays among them. -/
def State.roundChans (r : Round) (s : State) : List Nat :=
  match s.hopPick 1 s.time.slot r.req.chOff with
  | none => []
  | some (c0, _) =>
    let l := s.roundList
    let i0 := (l.findIdx? (· == c0)).getD 0
    let first := min i0 (l.length - 16)
    let l := ((l.drop first).take 16).filter (fun m => (positions s.part.variant s.rx.centre 200 m).isSome)
    l.take s.roundLanes.length

/-- The call channel of a slot: c0, where the round holds it, else the lowest channel it holds (R309, log 19). -/
def State.callChannel (r : Round) (s : State) : Nat :=
  match s.hopPick 1 s.time.slot r.req.chOff with
  | some (c0, _) => if r.chans.contains c0 then c0 else r.chans.headD c0
  | none => r.chans.headD 0

/-- Bind INVENTORY to the lanes of a round, channel index i on the i-th of them (R310). -/
def bindRound : List (Fin 16) → List Nat → State → State
  | n :: ns, c :: cs, s => bindRound ns cs (s.bind n .round c 200 2)
  | _, _, s => s

/-- Update the running round. -/
def State.onRound (f : Round → Round) (s : State) : State := s.onWork (fun w => { w with round := w.round.map f })

/-- Sub-slots lost to a pause (R317). -/
def State.roundLose (n : Nat) (s : State) : State :=
  (s.onRound (fun r => { r with paused := r.paused + n })).countN .cc "round.pause" n

/-- At a slot boundary a paused round resumes once no attempt of a last chance is on the way or listening, and loses the
slot's sub-slots otherwise (R317). -/
def State.roundResume (s : State) : State :=
  let busy := s.work.lc.any (fun q => q.listen.isSome || s.burstPending (.lastChance q.index))
  match s.work.round with
  | some r =>
    if !r.pausing then s
    else if busy then s.roundLose s.subSlots
    else s.onRound (fun r => { r with pausing := false })
  | none => s

/-- A frame of the running round has been judged: a record or a repeat is acknowledged by a later call, and each is
counted once (R314, R316). -/
def State.roundNote (x : RxFrame) (recorded again : Bool) (s : State) : State :=
  s.onRound (fun r =>
    if x.round = some r.req.id && (recorded || again) then
      { r with acked := r.acked ++ [(x.cell, (x.f.id, x.f.ctr))], recorded := r.recorded + (if recorded then 1 else 0),
               repeats := r.repeats + (if again then 1 else 0) }
    else r)

/-- A frame is lost to a full buffer, within a round or outside one (R305, R316). -/
def State.bufDrop (s : State) : State :=
  (s.onRound (fun r => if r.opened then { r with drops := r.drops + 1 } else r)).count .lanes "rx.buf.drop"

/-- The holder of a channel of the round makes room (R224, R299). -/
def State.displaceOn (c : Nat) (s : State) : State := match s.chanHolder 0 200 c with | some m => s.displace m | none => s

/-- The channels and lanes of a slot of the round (R309, R310). -/
def State.roundSlot (s : State) : State :=
  match s.work.round with
  | none => s
  | some r =>
    if r.opened && !r.pausing then
      let s := s.releaseAll (fun h => match h with | .round => true | .cell _ => true | .start => true | _ => false)
      let l := s.roundChans r
      let s := s.onWork (fun w => { w with round := some { r with chans := l, inSlot := 0 } })
      let s := s.each (s.roundLanes.take l.length) (fun n s => s.displace n)
      let s := s.each l State.displaceOn
      (bindRound s.roundLanes l s).moveRadio
    else s

/-! ## Q (R304, R315) -/

/-- The Q of a call: the value in force, two higher above high water, at most 15 (R304, R312). -/
def State.callQ (r : Round) (s : State) : Nat := if s.rx.high then min 15 (r.q + 2) else r.q

/-- Qf after a sub-slot with `c` collided and `e` empty cells (R315). -/
def qfNext (qf c e : Nat) : Nat := min 960 (max 256 (qf + 7 * c - 5 * e))

/-- The Q that Qf gives (R315). -/
def qOf (qf : Nat) : Nat := (qf + 32) / 64

/-! ## The end (R316) -/

/-- The next round that waits starts. -/
def State.nextRound (s : State) : State :=
  match s.work.rounds with
  | q :: qs => (s.onWork (fun w => { w with rounds := qs })).startRound q
  | [] => s

/-- A round ends: its lanes are freed, its record is written, `~ROUND` or `~SWEEP` is queued, and the next request comes
into its turn (R171, R316). DESIGN CHOICE (log 126): the tags heard that `~SWEEP` gives are the records the round made; R171
does not say what it counts. The slots used run to the one in which the last sub-slot began. -/
def State.endRound (s : State) : State :=
  match s.work.round with
  | none => s
  | some r =>
    let slots := if r.opened then s.time.slot + (if r.subAt < s.time.slotAt then 0 else 1) - r.openSlot else 0
    let s := s.releaseAll (fun h => h == .round)
    let s := s.onWork (fun w => { w with round := none })
    let s := s.ledger (.round r.req.id r.req.sweep r.req.reason r.req.code slots r.recorded r.repeats r.drops r.singles
      r.collided r.empties r.paused r.openSlot)
    let s :=
      if r.req.sweep then
        (s.onWake (fun w => { w with sweeping := none })).queue (.sweep r.req.reason r.recorded)
      else s.queue (.round r.req.id r.req.code r.req.reason slots r.recorded r.repeats r.drops)
    (s.nextRound.moveRadio).rosterCheck

end Sys2Proof.Machine
end

