-- ==== Sys2Proof/Machine/TimeSched.lean ====
section
/-!
DEFINITION. Sys2Proof/Machine/TimeSched.lean: slot boundaries, cells, the commands of time and schedule, and the clocks'
corrections (R252 to R282, R288 to R292).
-/

namespace Sys2Proof.Machine

/-! ## What a boundary does -/

/-- The changes of the schedule whose reply was sent 1 ms or more before the boundary (R276). -/
def SchedChange.apply (c : SchedChange) (k : Sched) : Sched :=
  match c with
  | .frame f n => { k with frames := k.frames.set (f % 8) n (Nat.mod_lt _ (by decide)) }
  | .cell i x => { k with cells := if x.kind == .empty then assocDel i k.cells else assocSet i x k.cells }
  | .drop i => { k with cells := assocDel i k.cells }

/-- Apply them. -/
def State.applyChanges (s : State) : State :=
  let ready := s.sched.changes.filter (fun x => decide (x.1 + ms 1 ≤ s.time.slotAt))
  let s := s.onSched (fun k => { k with changes := k.changes.filter (fun x => !decide (x.1 + ms 1 ≤ s.time.slotAt)) })
  s.each ready (fun x s => s.onSched x.2.apply)

/-- The rebuild of the hop tables whose slot has come (R282), and the channels whose effective slot has (R280). -/
def State.applyTables (s : State) : State :=
  let s := match s.sched.rebuild with
    | some r =>
      if r ≤ s.time.slot then
        let s := s.fire .rebuild
        (s.buildHops (PVal.maskBits (s.pval Obj.hopMask))).onSched (fun k => { k with rebuild := none })
      else s
    | none => s
  let due := s.sched.pending.filter (fun p => decide (p.2.2 ≤ s.time.slot))
  s.onSched (fun k =>
    { k with
      retired := due.foldl (fun l p => if p.2.1 then (if l.contains p.1 then l else l ++ [p.1]) else l.filter (· ≠ p.1))
        k.retired
      pending := k.pending.filter (fun p => !decide (p.2.2 ≤ s.time.slot)) })

/-- The deadline slot of a flight begins (R326, R334). -/
def State.deadlines (s : State) : State :=
  s.each ((s.work.table ++ s.work.waiting).filter (fun f => decide (f.deadline ≤ s.time.slot))) (fun f s =>
    s.expire f.id .deadline)

/-- What the retirement of a lane or a chain stops at a boundary (R492): a flight's attempt is abandoned, a capture is
dropped, a payload on a retired chain is lost. -/
def State.leaveRetired (s : State) : State :=
  let s := s.each (List.finRange 16) (fun n s =>
    if s.isRetired .lane n.val && s.rx.lanes[n].bound then
      let s := s.each (s.work.table.filter (fun f => f.lane == some n && f.st == .air)) (fun f s => s.failAttempt f.id false)
      let s := if s.rx.lanes[n].holder == .capture then s.dropCapture else s
      s.release n
    else s)
  s.each (List.finRange 16) (fun n s =>
    if s.receiving s.rx.lanes[n] && s.isRetired .chain (Side.num s.rx.lanes[n].chain) then
      (s.onLane n Lane.idle).count .rfe "radio.rx.cut"
    else s)

/-- The chain mask of the slot while the radio receives (R175 to R177, R227): a chain that joins delivers valid samples
12 µs later, and one that leaves has only invalid ones for the frame that a lane receives on it. -/
def State.slotChains (s : State) : State :=
  if s.radio.st == .rx then
    let (a, b) := (s.rx.a.on, s.rx.b.on)
    let s := s.chainsOn
    let fresh (sd : Side) (was : Bool) : Bool := (s.rx.chain sd).on && !was
    s.each (List.finRange 16) (fun n s =>
      (s.spoil n (fresh .a a) (fresh .b b) (s.now + us 12)).onLane n (fun l =>
        { l with invalid := l.invalid || (l.payload && !(s.rx.chain l.chain).on) }))
  else s

/-- A lane that a cell or the start's listening held is free again, unless it receives a payload (R225, R299). -/
def State.freeCell (n : Fin 16) (s : State) : State :=
  match s.rx.lanes[n].holder with
  | .cell _ => if s.receiving s.rx.lanes[n] then s else s.release n
  | .start => if s.receiving s.rx.lanes[n] then s else s.release n
  | _ => s

/-- Every lane of the slot before is free again. -/
def State.freeCells (s : State) : State := s.each (List.finRange 16) State.freeCell

/-- The guard of one cell. -/
def State.guardCell (p : Placed) (l : List Placed) (s : State) : List Placed × State :=
  let s := if (s.guardPartner p.cell).isSome then s.fire .guard else s
  match s.guardOk p.cell with
  | (true, _) => (l ++ [p], s)
  | (false, some h) => (l, s.loseContact h)
  | (false, none) => (l, s)

/-- The guards of the slot's cells (R284, R285): a partner lost is declared so before its cell, which is left out. -/
def State.guards (l : List Placed) (s : State) : List Placed × State := State.sweepList State.guardCell l s

/-- The channels of a round in the slot, as the span must cover them (R221, R309, log 25). -/
def State.roundWants (s : State) : List (Nat × Nat) :=
  match s.work.round with
  | some r =>
    match s.hopPick 1 s.time.slot r.req.chOff with
    | none => []
    | some (c0, _) =>
      let l := s.roundList
      let i0 := (l.findIdx? (· == c0)).getD 0
      ((l.drop (min i0 (l.length - 16))).take 16).map (fun m => (200, m))
  | none => []

/-- The channels that lanes listen on for an answer. -/
def State.listenWants (s : State) : List (Nat × Nat) :=
  (List.finRange 16).filterMap (fun n =>
    let l := s.rx.lanes[n]
    match l.holder with
    | .called _ => some (l.rate, l.chan)
    | .lastChance _ => some (l.rate, l.chan)
    | .reacquire _ => some (l.rate, l.chan)
    | _ => none)

/-- The span and its skipped cells (R221, R222). It holds the channels that lanes listen on too, where one centre covers them
with those of the cells (DESIGN CHOICE, log 135). -/
def State.slotSpan (l : List Placed) (s : State) : List Placed × State :=
  let round := s.roundRuns
  let cells := if round then s.roundWants
    else (l.filter (fun p => p.cell.onChannel)).map (fun p => (p.rate, p.ch))
  let heard := if round then [] else s.listenWants
  let b := if round then .sub else if !cells.isEmpty then workingBand cells else if heard.isEmpty then s.rx.band else .sub
  let inBand := cells.filter (fun x => bandOf x.1 == b)
  let both := inBand ++ heard
  let all := (centres b s.part.variant).any (fun j => both.all (fun x => s.covers b j x.1 x.2))
  let s := s.setSpan b (s.pickCentre b (if all then both else inBand))
  let ok (p : Placed) : Bool := round || !p.cell.onChannel || s.covers b s.rx.centre p.rate p.ch
  (l.filter ok, s.countN .chz "chz.span.skip" (l.filter (fun p => !ok p)).length)

/-- In UNSYNCED and CANDIDATE lane 0 listens on the start channel and the others on enabled channels of the span
(R289). -/
def State.startListening (s : State) : State :=
  if s.net.started && s.noNetwork && !s.calTakesSlot then
    let rate := s.phyRate
    let sc := s.startChannel
    let s := s.setSpan .sub (s.pickCentre .sub [(rate, sc)])
    let others := (s.hop (if rate = 200 then 1 else 0)).mergeSort (· ≤ ·) |> distinct
    let others := others.filter (fun c => c ≠ sc && !s.chanOut (if rate = 200 then 1 else 0) c && s.covers .sub s.rx.centre rate c)
    s.each ((List.finRange 16).zip (sc :: others)) (fun x s =>
      if s.laneOpen x.1 && (s.chanHolder x.1 rate x.2).isNone then s.bind x.1 .start x.2 rate 0 else s)
  else s

/-- The calibration that takes the slot (R180, R190): its cells are skipped, and each is counted. DESIGN CHOICE (log 131): in
`sched.conflict`, since no counter is named for them. -/
def State.takenSlot (s : State) : State :=
  if s.calTakesSlot then
    let s := (s.countN .sched "sched.conflict" s.sched.active.length).onSched (fun k => { k with active := [], run := [] })
    (s.onRadio (fun r => { r with taken := some s.time.slot })).count .rfe "radio.cal.slot"
  else s

/-- The moment lies at a slot boundary whose step has run. -/
def State.atBoundary (s : State) : Bool :=
  s.ccOn && s.sched.bitmapOk && s.slotNow == s.time.slot && decide (s.now < s.time.slotAt + us 20)

/-- A slot boundary (R274). The event has no effect until local time stands in a new slot. -/
def execSlotBoundary (s : State) : Ans :=
  .next (
    if !s.ccOn || s.slotNow = s.time.slot || !s.net.started then s
    else
      let s := s.fire .nextSlot
      let (moved, s) := s.applyTime
      let s := s.onTime (fun t => { t with slot := s.slotNow, slotAt := s.now - s.slotOffset * cclkTicks })
      let s := s.onSched (fun k => { k with bitmapOk := true, run := [], notBefore := if moved then s.now + us 20 else 0 })
      let s := s.join.ensureWait.applyChanges.applyTables.deadlines.leaveRetired.roundResume
      let s := s.freeCells.slotChains
      let (l, s) := s.placeCells s.time.slot
      let (l, s) := s.resolve l
      let (l, s) := s.guards l
      let (l, s) := s.slotSpan l
      let s := s.onSched (fun k => { k with active := l.map (fun p => (p.i, p.ch)) })
      s.startAskedCal.takenSlot.startListening.roundSlot.captureDue.listenWaits.slotFilters.moveRadio)

/-! ## Cells (R273, R298, R299) -/

/-- A span retune holds the actions on channels back to the end of its hop time (R274). -/
def State.retuning (s : State) : Bool :=
  match s.radio.trans with
  | some t => s.radio.st == .rx && t.dest == .rx && t.tune.isSome
  | none => false

/-- The cell of an index that is active in the present slot and has not started, with its channel. -/
def State.dueCell (i : Nat) (s : State) : Option (Cell × Nat) :=
  match assoc i s.sched.active, assoc i s.sched.cells with
  | some ch, some c =>
    if s.ccOn && s.slotNow = s.time.slot && s.time.slotAt + c.offset * cclkTicks ≤ s.now && s.sched.notBefore ≤ s.now
        && !(c.onChannel && s.retuning)
    then some (c, ch) else none
  | _, _ => none

/-- A lane that a cell may take: a higher holder keeps it (R299), and a retired or resting lane takes none (R486). -/
def State.cellLane (n : Fin 16) (s : State) : Bool :=
  let r := s.res { kind := .lane, num := n.val }
  !r.retired && !r.resting
    && (match s.rx.lanes[n].holder with | .capture => false | .round => false | _ => true)

/-- A cell binds its lane to its channel, its rate and its program (R224, R298): holders of lower rank on that lane and on that
channel make room (R299), a wait behind a payload is the wait of R225, and the lane listens for its partner in the window of
R284. -/
def State.bindCell (i : Nat) (c : Cell) (ch program : Nat) (s : State) : State :=
  let n : Fin 16 := Fin.ofNat 16 c.lane
  let rate := s.cellRate c.rate
  let s := s.displace n
  let s := match s.chanHolder n rate ch with | some m => s.displace m | none => s
  let s := (s.bind n (.cell i) ch rate program).onLane n (fun l => { l with late := l.retune.isSome, window := s.cellWindow c })
  let s := s.judgeChans (channelIds rate ch) (fun j => { j with cells := j.cells + 1 })
  (s.onSched (fun k => { k with run := k.run ++ [(i, ch)] })).moveRadio

/-- A lane of a cell or a round holds a position of the cell's channel: the cell is skipped like one whose lane is held (R224,
R299; log 138). -/
def State.chanBusy (c : Cell) (ch : Nat) (s : State) : Bool :=
  match s.chanHolder (Fin.ofNat 16 c.lane) (s.cellRate c.rate) ch with
  | some m => match s.rx.lanes[m].holder with | .cell _ => true | .round => true | _ => false
  | none => false

/-- A cell that has had its one attempt, or was skipped, has no other (R209, R324, R480). -/
def State.cellUsed (i : Nat) (s : State) : State := s.onSched (fun k => { k with run := assocDel i k.run })

/-- A BEACON cell sends this network's beacon in MEMBER, HOLDOVER and ROOT (R298, R344): its start is the beacon's T_air. -/
def State.beaconCell (c : Cell) (ch : Nat) (s : State) : State :=
  if s.noNetwork then s
  else
    match s.takeAir (bandOf (s.cellRate c.rate)) 0 with
    | (.go, s) => s.sendBeacon false c.offset (s.cellRate c.rate) ch
    | (_, s) => s

/-- The work of a cell on its lane (R273). -/
def State.laneCell (i : Nat) (c : Cell) (ch : Nat) (s : State) : State :=
  let n : Fin 16 := Fin.ofNat 16 c.lane
  if !s.cellLane n || (c.onChannel && s.chanBusy c ch) then s.count .lanes "lane.skip"
  else
    match c.kind with
    | .lane =>
      let s := s.bindCell i c ch c.arg
      if c.arg = 1 then s.beaconCell c ch else if c.arg = 4 then s.skipCell c else s
    | .tx => ((s.skipCell c).bindCell i c ch 3)
    | .capt =>
      let s := s.dropCapture
      s.runCapture
        { lane := n, src := if c.arg = 64 then .chain .a else if c.arg = 65 then .chain .b else .chan c.arg,
          rate := if c.rate = 0 then none else some (s.cellRate c.rate), slot := none, count := c.n, words := [],
          stepA := 0, stepB := 0, startT := s.stamp, started := false, startAt := s.now, inSpan := false, traceA := [],
          traceB := [], ended := none }
    | _ => s

/-! ## The commands of time (R263 to R265, R531) -/

/-- `DO time.now` (R263). -/
def execDoTimeNow (h : Hdr) (s : State) : Ans :=
  .next (s.report h 519 .operator (fun s =>
    good s [.timeNow s.stamp s.slotNow s.slotOffset s.time.counterMode (if s.net.started then some s.net.st else none)]
      (some 519) none))

/-- The position of the time mode in R521: normal 0, counter 1. -/
def State.modePos (s : State) : Int := if s.time.counterMode then 1 else 0

/-- `DO time.set` (R264): applied at the next slot boundary, in UNSYNCED, CANDIDATE and ROOT; audited at once as action
8 (R521, R531). -/
def runDoTimeSet (h : Hdr) (seconds nanos : Int) (s : State) : Done :=
  let ns := seconds * 1000000000 + nanos
  let aud : Option Aud := some (
    if s.time.counterMode then { action := 8, obj := 864, old := .num 1, new := .num 0 }
    else { action := 8, obj := 865, old := .num 0, new := .num (ns - s.readingNs) })
  let obj : Option Nat := some 865
  needs .custodian s obj aud
    (if !inRange 0 (2 ^ 48 - 1) seconds || !inRange 0 999999999 nanos then bad s .range 3 obj aud
     else if s.net.st == .member || s.net.st == .holdover then bad s .state 0 obj aud
     else good (s.onTime (fun t => { t with ask := some (.set seconds.toNat nanos.toNat) }))
       [.timeSet seconds.toNat nanos.toNat] obj aud)

/-- The line of `runDoTimeSet`. -/
def execDoTimeSet (h : Hdr) (seconds nanos : Int) (s : State) : Ans :=
  .next (s.change (.doTimeSet h seconds nanos) h .do_ true false (runDoTimeSet h seconds nanos))

/-- `DO time.counter` (R265). -/
def runDoTimeCounter (h : Hdr) (s : State) : Done :=
  let aud : Option Aud := some { action := 8, obj := 864, old := .num s.modePos, new := .num 1 }
  needs .custodian s (some 864) aud
    (good (s.onTime (fun t => { t with ask := some .counter })) [.word "counter"] (some 864) aud)

/-- The line of `runDoTimeCounter`. -/
def execDoTimeCounter (h : Hdr) (s : State) : Ans :=
  .next (s.change (.doTimeCounter h) h .do_ true false (runDoTimeCounter h))

/-! ## The commands of the schedule (R276) -/

/-- The schedule with every change that waits for its boundary applied: what a further change is judged against. -/
def State.schedNext (s : State) : Sched := s.sched.changes.foldl (fun k x => x.2.apply k) s.sched

/-- A change of the schedule waits for the first boundary 1 ms or more after its reply (R276). -/
def State.schedAsk (c : SchedChange) (s : State) : State :=
  s.onSched (fun k => { k with changes := k.changes ++ [(s.now, c)] })

/-- `DO sched.frame f length` (R271, R276). -/
def runDoSchedFrame (h : Hdr) (f length : Int) : State → Done :=
  actionRun 520 .operator (fun s aud =>
    if !inRange 0 7 f then bad s .range 3 (some 520) aud
    else if !inRange 0 65535 length then bad s .range 4 (some 520) aud
    else if (s.schedNext.cells).any (fun x => x.2.frame == f.toNat && decide (length ≤ x.2.slot)) then
      bad s .state 0 (some 520) aud
    else good (s.schedAsk (.frame f.toNat length.toNat)) [.bare] (some 520) aud)

/-- The line of `runDoSchedFrame`. -/
def execDoSchedFrame (h : Hdr) (f length : Int) (s : State) : Ans :=
  .next (s.change (.doSchedFrame h f length) h .do_ true false (runDoSchedFrame h f length))

/-- The cell that the arguments of `DO sched.cell` name, if each is within R272. The start offset is in CCLK cycles. -/
def State.cellOf (a : CellArgs) (s : State) : Option Cell :=
  let len := s.schedNext.frames.toList.getD a.frame.toNat 0
  let cycles := s.slotMs * 128000
  let argOk := match a.kind with
    | .lane => inRange 0 7 a.arg
    | .conv => inRange 0 7 a.arg
    | .capt => inRange 0 39 a.arg || a.arg == 64 || a.arg == 65
    | _ => inRange 0 255 a.arg
  let nOk := match a.kind with
    | .capt => inRange 1 8192 a.n
    | .round => s.isGroup a.n || a.n == 8191
    | _ => inRange 0 65535 a.n
  let rateFits := (a.hop != 2 || a.rate == 4) && (a.hop != 1 || a.rate == 3)
  let handleOk := match a.handle with | some h => h.fits | none => true
  if inRange 0 7 a.frame && inRange 0 (len - 1) a.slot && inRange 0 (cycles - 1) a.offset && inRange 0 63 a.ch
      && inRange 0 2 a.hop && inRange 0 4 a.rate && rateFits && inRange 0 15 a.lane && argOk && nOk && handleOk then
    some { frame := a.frame.toNat, kind := a.kind, ch := a.ch.toNat, hop := a.hop.toNat, slot := a.slot.toNat,
           offset := a.offset.toNat, rate := a.rate.toNat, lane := a.lane.toNat, arg := a.arg.toNat,
           handle := a.handle.map HandleArg.get, n := a.n.toNat }
  else none

/-- `DO sched.cell` (R272, R276). -/
def runDoSchedCell (h : Hdr) (i : Int) (args : CellArgs) : State → Done :=
  actionRun 521 .operator (fun s aud =>
    if !inRange 0 511 i then bad s .range 3 (some 521) aud
    else
      match s.cellOf args with
      | some c => good (s.schedAsk (.cell i.toNat c)) [.bare] (some 521) aud
      | none => bad s .range 4 (some 521) aud)

/-- The line of `runDoSchedCell`. -/
def execDoSchedCell (h : Hdr) (i : Int) (args : CellArgs) (s : State) : Ans :=
  .next (s.change (.doSchedCell h i args) h .do_ true false (runDoSchedCell h i args))

/-- `DO sched.drop i` (R276). -/
def runDoSchedDrop (h : Hdr) (i : Int) : State → Done :=
  actionRun 522 .operator (fun s aud =>
    if !inRange 0 511 i then bad s .range 3 (some 522) aud
    else good (s.schedAsk (.drop i.toNat)) [.bare] (some 522) aud)

/-- The line of `runDoSchedDrop`. -/
def execDoSchedDrop (h : Hdr) (i : Int) (s : State) : Ans :=
  .next (s.change (.doSchedDrop h i) h .do_ true false (runDoSchedDrop h i))

/-- A cell in the form of its line (R276). -/
def Cell.args (c : Cell) : CellArgs :=
  { frame := c.frame, slot := c.slot, offset := c.offset, kind := c.kind, ch := c.ch, hop := c.hop, rate := c.rate,
    lane := c.lane, arg := c.arg, handle := c.handle.map Handle.arg, n := c.n }

/-- `DO sched.list [f]` (R276): the cells in force, by index. -/
def execDoSchedList (h : Hdr) (f : Option Int) (s : State) : Ans :=
  .next (s.report h 523 .operator (fun s =>
    match f with
    | some k =>
      if inRange 0 7 k then list s (fun c => c.frame == k.toNat) else bad s .range 3 (some 523) none
    | none => list s (fun _ => true)))
where
  /-- The lines of the cells that satisfy a condition. -/
  list (s : State) (p : Cell → Bool) : Done :=
    let l := (s.sched.cells.filter (fun x => p x.2)).foldl (fun l x => insertBy (fun y => y.1) x l) []
    good s (l.map (fun x => OutLine.cell x.1 (Cell.args x.2)) ++ [.dot]) (some 523) none

/-! ## The clocks (R253, R254, R258) -/

/-- The sleep clock, as it is compensated, is measured against CCLK (R254): each measurement, in steps of 0.25 ppm, replaces
the residual correction. -/
def execSleepClockMeasure (ppmQ : Int) (s : State) : Ans :=
  .next (
    if s.xoOn then s.onTime (fun t => { t with sleepCorr := ppmQ * 2 ^ 32 / 4000000 }) else s)

/-- The sleep clock's compensation follows the die temperature every 16 s with the XO off (R254). -/
def execSleepClockTempRead (temp : Int) (s : State) : Ans :=
  .next (
    if s.running && (s.pm.power == .larder || s.pm.power == .cellar) && !s.xoOn then
      (s.onTime (fun t => { t with sleepComp := Config.sleepModel temp })).onRadio (fun r => { r with temp := temp })
    else s)

/-- The time is saved (R258), and the residency counters with it (R438). -/
def State.saveTime (s : State) : State :=
  let s := s.onTime (fun t => { t with saved := some s.readingQ, savedAt := s.now })
  s.onPm (fun p => { p with savedTicks := p.ticks, savedEntries := p.entries })

/-- Every 60 s in normal service the time is saved (R258). -/
def execTimeSave (s : State) : Ans :=
  .next (
    if s.running && !s.time.counterMode && decide (s.time.savedAt + secs 60 ≤ s.now) then s.saveTime else s)

end Sys2Proof.Machine
end

