-- ==== Sys2Proof/Machine/Cells.lean ====
section
/-!
DEFINITION. Sys2Proof/Machine/Cells.lean: a schedule cell starts its action (R119, R273, R298, R299, R310, R351).
-/

namespace Sys2Proof.Machine

/-- A cell names a handle that is stale (R351). -/
def State.cellStale (c : Cell) (s : State) : Bool :=
  match c.handle with
  | some h => (s.byHandle h).isNone
  | none => false

/-- A burst is on the air, or the radio is on its way to it (R118, R119). -/
def State.inBurst (s : State) : Bool :=
  s.jomen.onAir.isSome && (s.radio.tx.toList ++ s.radio.next.toList).any (fun t => t.kind == .burst)

/-- A ROUND cell requests a round of its group code, reason 1, with its channel offset (R307, R309). -/
def State.roundCell (c : Cell) (s : State) : State :=
  match s.requestRound c.n 1 false c.ch false with
  | (some _, s) => s
  | (none, s) => s.count .cc "round.drop"

/-- An active cell starts its action (R273). Within a burst every cell is skipped (R119); a CONV cell takes its conversion
whatever else the radio does, and the others are skipped when their handle is stale (R351) and within a round (R310). -/
def execCellStart (i : Nat) (conv : BitVec 10) (s : State) : Ans :=
  .next (
    match s.dueCell i with
    | none => s
    | some (c, ch) =>
      let s := s.onSched (fun k => { k with active := assocDel i k.active })
      if s.inBurst then s.count .sched "sched.burst.skip"
      else if c.kind == .conv then s.conv (Fin.ofNat 8 c.arg) conv.toNat
      else if s.cellStale c then s.count .cc "roster.stale"
      else if s.roundRuns then s.count .sched "round.skip"
      else if c.kind == .round then s.roundCell c
      else s.laneCell i c ch)

end Sys2Proof.Machine
end

