-- ==== Sys2Proof/Machine/FrameOps.lean ====
section
/-!
DEFINITION. Sys2Proof/Machine/FrameOps.lean: a received frame from the lane to the ledger: the receive buffer, the checks
of R349, admission, restores from spill, the sighting and the acknowledgement that is owed (R16, R17, R300 to R305,
R349 to R364).
-/

namespace Sys2Proof.Machine

/-! ## New flights (R320, R322, R334) -/

/-- What becomes of a new flight: entered in the table, in the waiting list at a place, or no room. -/
inductive Entered where
  | table (id : Nat)
  | waiting (id pos : Nat)
  | busy
  deriving DecidableEq, Repr

/-- A flight before it is entered. -/
def Flight.make (h : Handle) (kind : FlightKind) (prio : Nat) (called : Bool) (deadline reason : Nat)
    (payload : List Byte) (groups : Option (List Nat)) (push : Option PushSess) : Flight :=
  { id := 0, handle := h, kind := kind, prio := prio, called := called, st := .ready, lcStep := 0, deadline := deadline,
    attempts := 0, lane := none, reason := reason, payload := payload, push := push, skips := 0, nextTry := 0, ctr := 0,
    sentEnd := 0, awaiting := false, frameAt := none, cancel := false, late := false, waits := false, groups := groups, lc := [],
    probe := none }

/-- Enter a flight (R320, R322): its ID rises by 1 and passes over 0; a flight of priority 7 to an unreachable entry goes
to LASTCHANCE (R334). -/
def State.newFlight (f : Flight) (s : State) : Entered × State :=
  let id := s.work.nextFlight
  let next := if id = 65535 then 1 else id + 1
  let f := { f with id := id, nextTry := s.now }
  if s.work.table.length < 32 then
    let s := s.onWork (fun w => { w with nextFlight := next, table := w.table ++ [f] })
    (.table id, if f.prio == 7 && s.unreachable f.handle.index then s.toLastChance id else s)
  else if s.work.waiting.length < 256 then
    let s := s.onWork (fun w => { w with nextFlight := next, waiting := w.waiting ++ [{ f with st := .waiting }] })
    (.waiting id s.work.waiting.length, s)
  else (.busy, s.count .cc "flight.busy")

/-- The 8 bytes of an ADMIT (R357). -/
def admitPayload (code : Nat) (groups : List Nat) : List Byte :=
  leBytes 2 code ++ leBytes 2 (groups.getD 0 0) ++ leBytes 2 (groups.getD 1 0) ++ leBytes 2 (groups.getD 2 0)

/-! ## The checks of R349 -/

/-- Who a frame is from: an active entry, an endpoint of the spill directory, or nobody known. -/
inductive Sender where
  | entry (i : Nat) (e : Entry)
  | spilled (e : Entry)
  | unknown
  deriving DecidableEq, Repr

/-- Look an ID up in the roster, then in the spill directory (R349, R355). -/
def State.sender (id : Eui) (s : State) : Sender :=
  match (s.indexOf id).bind (fun i => (s.entry i).map (fun e => (i, e))) with
  | some (i, e) => .entry i e
  | none =>
    match s.spillOf id with
    | some x => .spilled x.entry
    | none => .unknown

/-- The counters and the retirement that a rejection at the MIC or replay step brings (R349, R488). -/
def State.rejected (id : Eui) (b : Block) (name : String) (s : State) : State :=
  let s := s.count b name
  match s.indexOf id with
  | none => s
  | some i =>
    let s := s.onEntry i (fun e => { e with rejects := e.rejects + 1 })
    if 64 ≤ ((s.entry i).map Entry.rejects).getD 0 then s.retirePeer (.self .faultPeer) i 8 else s

/-- The failure of the MIC step, none when it passes (R346, R348, R349): no key, a MIC shorter than `sec.mic`, or a MIC
that does not hold. -/
def State.micFault (f : Frame) (s : State) : Option String :=
  match s.roster.netKey with
  | none => some "sec.nokey"
  | some nk =>
    if f.micLen < s.micCode then some "sec.mic.short"
    else if !micOk nk f then some "sec.mic.bad"
    else none

/-- The decrypted payload (R347). -/
def State.plainOf (f : Frame) (s : State) : List Byte :=
  match s.roster.netKey with
  | some nk => framePlain nk f
  | none => []

/-- Steps 1 and 2 of R349: none passes, else the counter of the discard, if it has one. -/
def State.headFault (f : Frame) (s : State) : Option (Option String) :=
  let wanted := match f.kind with | .data => true | .reply => true | .answer => true | .probe => true | .join => true | .admission => true | _ => false
  match f.kind with
  | .reserved _ => some (some "mac.kind.bad")
  | _ =>
    if f.dir || !wanted then some none
    else if f.sync.toNat ≠ s.pnat Obj.sync && !(f.kind == .join && f.anyAnchor) then some (some "mac.sync.other")
    else none

/-! ## Acknowledgements owed (R300, R302, R357) -/

/-- The acknowledgement a lane owes for a frame is found by ID and counter. -/
def AckDue.isFor (f : Frame) (a : AckDue) : Bool := a.id == f.id && a.ctr == f.ctr

/-- The acknowledgement that a frame's end makes due. -/
def AckDue.make (f : Frame) (now : Ticks) (sd : Side) : AckDue :=
  { frameEnd := now, id := f.id, ctr := f.ctr, recorded := false, admission := false, channel := 0xFF, chain := sd }

/-- A frame's record is in the write cache: its acknowledgement may go, as an ADMIT where one is owed (R300, R357). -/
def State.ackReady (x : RxFrame) (admission : Bool) (s : State) : State :=
  s.onLane x.r.lane (fun l =>
    match l.ack with
    | some a => if a.isFor x.f then { l with ack := some { a with recorded := true, admission := admission } } else l
    | none => l)

/-- A frame that was rejected is not acknowledged (R17). -/
def State.ackDrop (x : RxFrame) (s : State) : State :=
  s.onLane x.r.lane (fun l =>
    match l.ack with
    | some a => if a.isFor x.f then { l with ack := none } else l
    | none => l)

/-! ## Acceptance (R230, R283, R332, R350, R364) -/

/-- Persist the receive counter and window (R364). -/
def State.persistRx (i : Nat) (s : State) : State :=
  let s := s.onEntry i (fun e => { e with rxSaved := e.rxCtr, accepts := 0 })
  if i ≤ 15 then s
  else
    match s.entry i with
    | some e => s.onRoster (fun r =>
        { r with spill := r.spill.map (fun x =>
            if x.1 = e.id then (x.1, { x.2 with entry := { x.2.entry with rxCtr := e.rxCtr, window := e.window } }) else x) })
    | none => s

/-- A lost partner is found again at its frame (R286). -/
def State.found (i : Nat) (s : State) : State :=
  if s.net.lost.contains i || s.net.reacq.any (fun q => q.index == i) then
    let s := s.onNet (fun n => { n with lost := n.lost.filter (· ≠ i), reacq := n.reacq.filter (fun q => q.index ≠ i) })
    let s := s.releaseAll (fun h => h == .reacquire i)
    (s.count .cc "guard.reacq").queue (.peerUp (s.handleAt i))
  else s

/-- The arrival of a frame after its cell's nominal time, when it came in a cell that names its sender (R266, R284). -/
def State.lateness (n : Fin 16) (i : Nat) (at_ : Ticks) (s : State) : Option Int :=
  match s.rx.lanes[n].holder with
  | .cell k =>
    match assoc k s.sched.cells with
    | some c =>
      if c.handle == some (s.handleAt i) then
        some ((at_ : Int) - (s.time.slotAt + c.offset * cclkTicks + airTicks s.rx.lanes[n].rate (s.pnat Obj.phyPreamble + 2)))
      else none
    | none => none
  | _ => none

/-- An active entry's frame is accepted: counters, contact, last-best branch, the marks that end (R230, R283, R332,
R350, R362, R364). A flooded frame came by a relay, so it says nothing of the branch or of the time. -/
def State.acceptEntry (i : Nat) (l w : BitVec 32) (x : RxFrame) (s : State) : State :=
  let s := s.onEntry i (fun e =>
    { e with rxCtr := l, window := w, accepts := e.accepts + 1, rejects := 0, sighted := (s.placeBack (s.now - x.at_)).1,
             sightT := some x.time, total := min (2 ^ 32 - 1) (e.total + 1),
             bestB := if x.flooded then e.bestB else x.r.chain == .b })
  let s := if 16 ≤ ((s.entry i).map Entry.accepts).getD 0 then s.persistRx i else s
  let s := if x.flooded || x.r.invalid then s else s.contactAt i x.at_ x.f.temp (s.lateness x.r.lane i x.at_)
  (s.heardFrom i).found i

/-- The SIGHTING record of a frame (R450), under its time-stamp. -/
def State.sight (x : RxFrame) (h : Option Handle) (plain : List Byte) (s : State) : State :=
  s.ledgerAt x.time (.sighting
    { id := x.f.id, handle := h, ctr := x.f.ctr, kind := x.f.kind, reason := x.f.reason.toNat, temp := x.f.temp, rx := x.r,
      unattached := h.isNone, flooded := x.flooded, round := x.round, payload := plain })

/-- What became of a frame. -/
inductive FrameEnd where
  | recorded | again | refused
  deriving DecidableEq, Repr

/-- The reply of an endpoint that has a record in the running round (R314). -/
def State.repeatReply (x : RxFrame) (i : Nat) (s : State) : Bool :=
  match x.round, s.work.round with
  | some id, some r => r.req.id == id && r.heard.contains i
  | _, _ => false

/-- The entry has a record in the running round from now on (R314). -/
def State.roundHeard (x : RxFrame) (i : Nat) (s : State) : State :=
  match x.round with
  | some id => s.onWork (fun w =>
      { w with round := w.round.map (fun r => if r.req.id == id then { r with heard := r.heard ++ [i] } else r) })
  | none => s

/-- A frame of the last chance succeeds (R335, R337): `~LASTCHANCE ok`, DONE, and the next flight's frame 8 ms later; with
none left the sequence is over. -/
def State.lcSuccess (f : Flight) (s : State) : State :=
  let i := f.handle.index
  let attempt := ((s.lcOf i).map LcSeq.attempt).getD 1
  let s := (s.onFlight f.id (fun f => { f with lc := f.lc ++ [.ok] })).queue (.lastChance f.id attempt .ok)
  let s := s.endFlight f.id .done
  match s.lcFlights i with
  | g :: _ => s.onFlight g.id (fun g => { g with frameAt := some (s.now + ms 8), lane := f.lane })
  | [] => s.lcOver i

/-- The flight's frame has its acknowledgement or answer (R321, R335). -/
def State.flightDone (f : Flight) (s : State) : State :=
  if f.st == .lastchance then s.lcSuccess f else s.endFlight f.id .done

/-- The flight that an accepted frame completes: the EXCHANGE of its sender that waits on the lane (R321). -/
def State.exchangeDone (x : RxFrame) (i : Nat) (s : State) : State :=
  if x.flooded || x.f.kind != .data then s
  else
    match s.work.table.find? (fun f => f.handle.index == i && f.kind == .exchange
        && (f.st == .air || f.st == .lastchance) && f.awaiting && f.lane == some x.r.lane) with
    | some f => s.flightDone f
    | none => s

/-- An endpoint restored in an inventory round is sent its ADMIT as a flight (R357). -/
def State.admitFlight (i : Nat) (s : State) : State :=
  match s.entry i with
  | some e =>
    let f := Flight.make (s.handleAt i) .data 3 false (s.slotNow + s.pnat Obj.flightDeadline) 0
      (admitPayload e.code e.groups) (some e.groups) none
    match s.newFlight f with
    | (.busy, s) => s
    | (_, s) => s.onEntry i (fun e => { e with admitOwed := false })
  | none => s

/-- Record an accepted frame of an active entry, or note a repeat reply (R16, R314). `admission` says that an ADMIT
answers it. -/
def State.recordEntry (i : Nat) (l w : BitVec 32) (x : RxFrame) (plain : List Byte) (admission : Bool) (s : State) :
    FrameEnd × State :=
  let again := s.repeatReply x i
  let s := s.acceptEntry i l w x
  let s := if again then s.count .cc "round.dup" else (s.sight x (some (s.handleAt i)) plain).roundHeard x i
  let s := if x.round.isSome && admission then s.admitFlight i else s
  let s := (s.ackReady x (admission && x.round.isNone)).exchangeDone x i
  let s := if x.f.kind == .data && !x.flooded && !again then s.pushReport i plain else s
  (if again then .again else .recorded, s)

/-- Record an accepted frame of an endpoint served unattached (R359): counters go back to its spill record. -/
def State.recordUnattached (e : Entry) (l w : BitVec 32) (x : RxFrame) (plain : List Byte) (admission : Bool)
    (s : State) : FrameEnd × State :=
  let e := { e with rxCtr := l, window := w, rxSaved := l, active := false, code := 0 }
  let s := s.onRoster (fun r =>
    { r with spill := assocSet e.id { entry := e, lapsed := ((assoc e.id r.spill).map Spill.lapsed).getD 0, crcOk := true } r.spill })
  let s := s.unattached
  (.recorded, (s.sight x none plain).ackReady x admission)

/-- Make an endpoint active (R107, R351, R355, R357): its spill record is made, `~ADMIT` is queued and an ADMIT is
owed. -/
def State.activate (i : Nat) (e : Entry) (s : State) : State :=
  let s := s.giveIndex i { e with admitOwed := true, accepts := 0, sends := 0 }
  let s := s.persist i
  s.queue (.admitted (s.handleAt i) e.id)

/-- An accepted frame of an endpoint of the spill directory: it becomes active again, or is served unattached (R357,
R359). -/
def State.restoreSpill (e : Entry) (l w : BitVec 32) (x : RxFrame) (plain : List Byte) (s : State) : FrameEnd × State :=
  match s.takeIndex with
  | (some i, s) => (s.activate i { e with rxCtr := l, window := w }).recordEntry i l w x plain true
  | (none, s) => s.recordUnattached e l w x plain (x.f.kind == .join)

/-- A frame is turned away. -/
def State.refuseFrame (x : RxFrame) (s : State) : FrameEnd × State := (.refused, s.ackDrop x)

/-! ## JOIN (R356 to R358) -/

/-- The model code of a JOIN (R358). -/
def joinModel (plain : List Byte) : Nat := (plain.getD 0 0).toNat + 256 * (plain.getD 1 0).toNat

/-- The groups of `roster.join.groups` (R361). -/
def PVal.groupList (v : PVal) : List Nat := (PVal.groups? v).getD []

/-- A new endpoint is admitted (R107, R356): counters from the JOIN, groups from `roster.join.groups`, audited with origin
AIR. -/
def State.admitNew (x : RxFrame) (plain : List Byte) (s : State) : FrameEnd × State :=
  let s := s.fire .admission
  let groups := PVal.groupList (s.pval Obj.joinGroups)
  let e := { Entry.fresh x.f.id (joinModel plain) with groups := groups, rxCtr := x.f.ctr, window := 1 }
  let s := s.holdGroups groups true
  match s.takeIndex with
  | (some i, s) =>
    let s := s.activate i e
    let s := s.audit (.air x.f.id (s.handleAt i)) 4 546 0 (.num 0) (.num x.f.id.toNat)
    s.recordEntry i x.f.ctr 1 x plain true
  | (none, s) =>
    let s := s.audit (.air x.f.id { index := 0, epoch := 0 }) 4 546 0 (.num 0) (.num x.f.id.toNat)
    s.recordUnattached e x.f.ctr 1 x plain true

/-- The spill directory is full: discarded, counted, announced once an hour at most (R356). -/
def State.spillFull (s : State) : State :=
  let s := s.count .store "spill.full"
  let quiet := match s.roster.spillFullAt with | some t => decide (s.now < t + secs 3600) | none => false
  if quiet then s else (s.onRoster (fun r => { r with spillFullAt := some s.now })).queue .spillFull

/-- A JOIN that has passed steps 1 and 2 of R349 (R356, R358, R496). -/
def State.joinFrame (x : RxFrame) (s : State) : FrameEnd × State :=
  let s := s.fire .join
  let refused (s : State) : FrameEnd × State := (s.count .cc "roster.join.refused").refuseFrame x
  let plain := s.plainOf x.f
  let known (e : Entry) (s : State) (go : BitVec 32 → BitVec 32 → State → FrameEnd × State) : FrameEnd × State :=
    if e.retired then refused s
    else
      match s.micFault x.f with
      | some name => (s.rejected x.f.id .keeper name).refuseFrame x
      | none =>
        if plain.length < 5 then refused s
        else
          match replay e.rxCtr e.window x.f.ctr with
          | none => (s.rejected x.f.id .cc "sec.replay").refuseFrame x
          | some (l, w) => go l w s
  match s.sender x.f.id with
  | .entry i e => known e s (fun l w s =>
      (s.onEntry i (fun e => { e with model := joinModel plain, admitOwed := true })).recordEntry i l w x plain true)
  | .spilled e => known e s (fun l w s => s.restoreSpill { e with model := joinModel plain } l w x plain)
  | .unknown =>
    if s.pint Obj.rosterJoin == 0 then refused s
    else if 1048576 ≤ s.roster.spill.length then s.spillFull.refuseFrame x
    else
      match s.micFault x.f with
      | some name => (s.count .keeper name).refuseFrame x
      | none => if plain.length < 5 then refused s else s.admitNew x plain

/-! ## Answers to reason 6 wakes (R286, R324, R335, R337) -/

/-- The channel C_i of an attempt of the last chance, the start channel when H0 has too few (R335). -/
def State.lcChannel (attempt : Nat) (s : State) : Nat := s.lcChannels.getD (attempt - 1) s.startChannel

/-- The end of a frame of the receive buffer at the aerial land: its PHR and PSDU after its start of frame (R242, R266). -/
def RxFrame.endAt (x : RxFrame) : Ticks := x.at_ + airTicks x.r.rate (2 + x.r.psduLen)

/-- An answer was accepted: the called flight's frame, or the first of the last chance, goes out 8 ms after the answer's
end; the acknowledgement of a last-chance answer names C_i (R324, R335). -/
def State.answered (x : RxFrame) (i : Nat) (s : State) : State :=
  match s.rx.lanes[x.r.lane].holder with
  | .called id => s.onFlight id (fun f =>
      if f.handle.index = i && f.st == .air && !f.awaiting && f.frameAt.isNone then { f with frameAt := some (RxFrame.endAt x + ms 8) } else f)
  | .lastChance k =>
    match s.lcOf k with
    | some q =>
      if k = i && q.listen.isSome && !q.answered then
        let s := s.onWork (fun w => { w with lc := replaceFirst (fun q => q.index == k) (fun q => { q with answered := true }) w.lc })
        let s := match s.lcFlights k with
          | f :: _ => s.onFlight f.id (fun f => { f with frameAt := some (RxFrame.endAt x + ms 8), lane := some x.r.lane })
          | [] => s
        s.onLane x.r.lane (fun l => { l with ack := l.ack.map (fun a => { a with channel := s.lcChannel q.attempt }) })
      else s
    | none => s
  | _ => s

/-! ## One frame through steps 4 and 5 of R16 -/

/-- The spill record of an ID whose CRC fails is treated as absent, and counted (R355). -/
def State.spillCrc (id : Eui) (s : State) : State :=
  match s.indexOf id, assoc id s.roster.spill with
  | none, some x => if x.crcOk then s else s.count .store "spill.crc"
  | _, _ => s

/-- Check and record a frame that passed its MIC (R349 step 5 on). -/
def State.replayStep (x : RxFrame) (s : State) : FrameEnd × State :=
  let plain := s.plainOf x.f
  match s.sender x.f.id with
  | .unknown => (s.count .cc "roster.unknown").refuseFrame x
  | .entry i e =>
    match replay e.rxCtr e.window x.f.ctr with
    | none => (s.rejected x.f.id .cc "sec.replay").refuseFrame x
    | some (l, w) =>
      let (r, s) := s.recordEntry i l w x plain e.admitOwed
      (r, if x.f.kind == .answer && !x.flooded then s.answered x i else s)
  | .spilled e =>
    match replay e.rxCtr e.window x.f.ctr with
    | none => (s.count .cc "sec.replay").refuseFrame x
    | some (l, w) => s.restoreSpill e l w x plain

/-- Check a frame in the order of R349, record it, and answer what became of it. A flooded frame has passed its MIC
(R368). -/
def State.processFrame (x : RxFrame) (s : State) : FrameEnd × State :=
  if x.flooded then s.replayStep x
  else
    match s.headFault x.f with
    | some (some name) => (s.count .cc name).refuseFrame x
    | some none => s.refuseFrame x
    | none =>
      let s := s.spillCrc x.f.id
      if x.f.kind == .join then s.joinFrame x
      else
        match s.sender x.f.id with
        | .unknown => (s.count .cc "roster.unknown").refuseFrame x
        | _ =>
          match s.micFault x.f with
          | some name => (s.rejected x.f.id .keeper name).refuseFrame x
          | none => s.replayStep x

/-! ## The receive buffer (R303 to R305) -/

/-- Ledger records a frame takes: its SIGHTING and the CONTINUATION records (R449, R450). -/
def sightRecords (f : Frame) : Nat := 1 + (f.payload.length - 18 + 43) / 44

/-- CC moves frames from the buffer while the write cache has room for their records (R303). -/
def State.drainBuf : Nat → State → State
  | 0, s => s
  | k + 1, s =>
    match s.rx.buf with
    | [] => s
    | x :: rest =>
      if s.roster.loaded && s.store.room (sightRecords x.f) then
        let (r, s) := (s.onRx (fun r => { r with buf := rest })).processFrame x
        State.drainBuf k ((s.roundNote x (r == .recorded) (r == .again)).bufCheck)
      else s

/-- The reception fields a lane attaches (R241). -/
def State.rxInfo (n : Fin 16) (psdu : Nat) (s : State) : RxInfo :=
  let l := s.rx.lanes[n]
  { lane := n, chain := l.chain, held := l.held, qualityA := l.qa, qualityB := l.qb, rssi := l.rssi, channel := l.chan,
    rate := l.rate, gainStep := l.sfdStep, gainFlag := l.gain, invalid := l.invalid, psduLen := psdu }

/-- The moment of the start of frame at the aerial land: the end of the SFD less the delays of R267 (R266). -/
def State.frameStart (n : Fin 16) (s : State) : Ticks := s.rx.lanes[n].sfdAt

/-- A lane is in the payload of a frame, on a radio that receives. -/
def State.inFrame (n : Fin 16) (s : State) : Bool :=
  s.ccOn && s.radio.st == .rx && s.rx.lanes[n].bound && s.rx.lanes[n].payload && !s.rx.lanes[n].badPhr

/-- A frame has passed its FCS on a lane: its PSDU counts (R512), and its cell's channel is credited (R488). -/
def State.airRx (n : Fin 16) (psdu : Nat) (s : State) : State :=
  (s.bytes (.airRx n) psdu).judgeLane n (fun j => { j with passed := j.passed + 1 })

/-- A lane runs a program that acknowledges frames: all but INVENTORY and CAPTURE (R298, R302). -/
def Lane.acks (l : Lane) : Bool := l.program != 2 && l.program != 7

/-- A lane hands a frame whose FCS passed to the receive buffer (R16, R303, R305), and CC moves what it can. An
acknowledgement is owed for a frame that asks for it, and for a JOIN (R300, R357). -/
def State.arrive (n : Fin 16) (f : Frame) (psdu : Nat) (flooded : Bool) (s : State) : State :=
  let l := s.rx.lanes[n]
  let at_ := s.frameStart n
  let x : RxFrame :=
    { f := f, r := s.rxInfo n psdu, at_ := at_, time := s.stampBack (s.now - at_), flooded := flooded, round := none,
      cell := (0, 0) }
  let s := s.onLane n Lane.idle
  if 1024 ≤ s.rx.buf.length then s.bufDrop
  else
    let s := if !flooded && l.acks && (f.ackReq || f.kind == .join) then
        s.onLane n (fun l => { l with ack := some (AckDue.make f s.now x.r.chain) })
      else s
    let s := (s.onRx (fun r => { r with buf := r.buf ++ [x] })).bufCheck
    s.drainBuf s.rx.buf.length

end Sys2Proof.Machine
end

