-- ==== Sys2Proof/Machine/Frames.lean ====
section
/-!
DEFINITION. Sys2Proof/Machine/Frames.lean: the events of received frames, floods and acknowledgements (R16, R300 to R305,
R349 to R372).
-/

namespace Sys2Proof.Machine

/-! ## Frames (R16, R349, R356) -/

/-- A lane that takes frames of its own: not a lane of a running round, whose cells are classified together (R314). -/
def State.takesFrame (n : Fin 16) (s : State) : Bool := s.inFrame n && s.rx.lanes[n].holder != .round

/-- A frame's end on a lane (R16): one whose FCS fails is counted and goes no further (R17, R243). -/
def execFrameReceived (f : Frame) (r : RxInfo) (fcsOk : Bool) (s : State) : Ans :=
  .next (
    if !fcsOk then (if s.inFrame r.lane then (s.onLane r.lane Lane.idle).count .lanes "phy.fcs.bad" else s)
    else if s.takesFrame r.lane then (s.airRx r.lane r.psduLen).arrive r.lane f r.psduLen false else s)

/-- A JOIN's end on a lane (R356). -/
def execJoinReceived (f : Frame) (r : RxInfo) (s : State) : Ans :=
  .next (if s.takesFrame r.lane && f.kind == .join then (s.airRx r.lane r.psduLen).arrive r.lane f r.psduLen false else s)

/-- A Jomen answer's end on a lane (R286, R324, R335). -/
def execAnswerReceived (f : Frame) (r : RxInfo) (s : State) : Ans :=
  .next (if s.takesFrame r.lane && f.kind == .answer then (s.airRx r.lane r.psduLen).arrive r.lane f r.psduLen false else s)

/-- The spill write of the entry evicted first completes: lookups no longer come from the staged copy (R354). -/
def execSpillWriteComplete (s : State) : Ans :=
  .next (s.onRoster (fun r => { r with staged := r.staged.drop 1 }))

/-! ## Acknowledgements received (R300, R321, R335) -/

/-- The flight whose frame an acknowledgement on a lane may answer: sent on the lane, waiting, with the counter that the
acknowledgement names, within 1,000 µs ± 20 µs. -/
def State.ackedFlight (n : Fin 16) (ctr : BitVec 32) (delay : Ticks) (s : State) : Option Flight :=
  if us 980 ≤ delay && delay ≤ us 1020 then
    s.work.table.find? (fun f => f.awaiting && f.lane == some n && f.ctr == ctr && (f.st == .air || f.st == .lastchance))
  else none

/-- An acknowledgement is received (R300): its nonce takes the ID of the frame it answers (R342), and its counter is checked
like any other (R362). An EXCHANGE succeeds by its response, but in LASTCHANCE by an acknowledgement too (R321, R326). -/
def execAckReceived (f : Frame) (r : RxInfo) (delay : Ticks) (s : State) : Ans :=
  .next (
    if !s.takesFrame r.lane || f.kind != .ack then s
    else
      let at_ := s.frameStart r.lane
      let info := s.rxInfo r.lane r.psduLen
      let seen : Probe := { rssiA := s.laneRssi r.lane .a, rssiB := s.laneRssi r.lane .b, qualityA := info.qualityA, qualityB := info.qualityB }
      let s := (s.airRx r.lane r.psduLen).onLane r.lane Lane.idle
      if f.sync.toNat ≠ s.pnat Obj.sync then s.count .cc "mac.sync.other"
      else
        match s.ackedFlight r.lane f.ackCtr delay with
        | none => s
        | some fl =>
          let i := fl.handle.index
          match s.byHandle fl.handle with
          | none => s
          | some e =>
            let f := { f with id := e.id, temp := 0x80 }
            match s.roster.netKey with
            | none => s.rejected e.id .keeper "sec.nokey"
            | some nk =>
              if f.micLen ≠ 1 || !micOk nk f then s.rejected e.id .keeper "sec.mic.bad"
              else
                match replay e.rxCtr e.window f.ctr with
                | none => s.rejected e.id .cc "sec.replay"
                | some (l, w) =>
                  let x : RxFrame := { f := f, r := info, at_ := at_, time := s.stampBack (s.now - at_), flooded := false,
                                       round := none, cell := (0, 0) }
                  let s := s.acceptEntry i l w x
                  match fl.kind with
                  | .exchange => if fl.st == .lastchance then s.flightDone fl else s
                  | .push => s.pushAcked fl
                  | .probe => (s.onFlight fl.id (fun g => { g with probe := some seen })).flightDone fl
                  | .data => s.flightDone fl)

/-! ## Acknowledgements sent (R300 to R304, R342, R357) -/

/-- The transmit counter for the next frame to an ID: of its entry, or of its spill record when it is served unattached
(R359, R363). -/
def State.nextTxFor (id : Eui) (s : State) : Option (BitVec 32) × State :=
  match s.indexOf id with
  | some i => s.nextTx i
  | none =>
    match s.spillOf id with
    | none => (none, s)
    | some x =>
      if ctrEnd ≤ x.entry.txCtr.toNat then (none, s.count .cc "sec.ctr.end")
      else
        let c := x.entry.txCtr + 1
        (some c, s.onRoster (fun r =>
          { r with spill := assocSet id { x with entry := { x.entry with txCtr := c, txSaved := c } } r.spill }))

/-- The codes an ADMIT gives an ID (R357, R359). -/
def State.admitCodes (id : Eui) (s : State) : Nat × List Nat :=
  match s.sender id with
  | .entry _ e => (e.code, e.groups)
  | .spilled e => (0, e.groups)
  | .unknown => (0, [])

/-- The transmission of an acknowledgement that a lane owes: in a cell 28 µs on, where its turn has been taken, else as an
unscheduled claim (R180, R300). -/
def State.ackTx (inCell : Bool) (tx : Tx) (s : State) : State := if inCell then s.launch (us 28) tx else s.transmit tx

/-- Send the acknowledgement a lane owes, or the ADMIT in its place. -/
def State.sendAck (n : Fin 16) (inCell : Bool) (a : AckDue) (s : State) : State :=
  match s.roster.netKey with
  | none => s
  | some nk =>
    let l := s.rx.lanes[n]
    match s.nextTxFor a.id with
    | (none, s) => s
    | (some c, s) =>
      if a.admission then
        let (code, groups) := s.admitCodes a.id
        let f := s.securedFrame nk .admission (s.indexOf a.id) a.id c 0 false (admitPayload code groups)
        let f := { f with dir := true }
        let s := match s.indexOf a.id with
          | some i => s.onEntry i (fun e => { e with admitOwed := false })
          | none => s
        s.ackTx inCell (s.frameTx (.ack n a.chain) (.frame (secure nk f (admitPayload code groups))) false
          (psduOctets 8 s.micCode.val) l.rate l.chan)
      else
        let got := { s.madeFrame .data none a.id a.ctr 0 true with dir := false }
        s.ackTx inCell (s.frameTx (.ack n a.chain) (.frame (ackFrame nk got c a.channel)) false ackOctets l.rate l.chan)

/-- A lane is held by a cell. -/
def State.laneInCell (n : Fin 16) (s : State) : Bool := match s.rx.lanes[n].holder with | .cell _ => true | _ => false

/-- A calibration in a gap, or the relock after it, holds the radio (R181). -/
def State.gapHolds (s : State) : Bool :=
  match s.radio.cal with
  | some c => c.why == .gap
  | none => s.radio.st == .cal && s.radio.trans.isSome

/-- 972 µs after a frame's end its acknowledgement is sent, withheld, late or cut (R300, R301, R304). Outside a cell it
waits for a calibration in a gap and the relock that follows (R181); in a cell it is a scheduled transmission. -/
def execAckSend (lane : Fin 16) (s : State) : Ans :=
  .next (
    match s.rx.lanes[lane].ack with
    | none => s
    | some a =>
      if s.now < a.frameEnd + us 972 || (!s.laneInCell lane && s.gapHolds) then s
      else
        let s := s.onLane lane (fun l => { l with ack := none })
        if s.txBarred then s
        else if s.rx.high then s.count .lanes "rx.buf.withhold"
        else if !a.recorded then s.count .cc "ack.late"
        else if (List.finRange 16).any (fun n => n ≠ lane && s.receiving s.rx.lanes[n]) then s.count .lanes "ack.cut"
        else if s.laneInCell lane then
          match s.takeAir (bandOf s.rx.lanes[lane].rate) (us 28) with
          | (.go, s) => s.sendAck lane true a
          | (_, s) => s
        else if s.txFree then s.sendAck lane false a
        else s)

/-! ## Floods (R366 to R372) -/

/-- The key of the seen cache (R368). -/
def Seen.isFor (f : Frame) (x : Seen) : Bool := x.id == f.id && x.dir == f.dir && x.ctr == f.ctr

/-- A new key enters the seen cache; at 256 it replaces the oldest, which is counted (R370). -/
def State.seenPut (f : Frame) (s : State) : State :=
  let k : Seen := { id := f.id, dir := f.dir, ctr := f.ctr, copies := 1, at_ := s.now }
  if s.roster.seen.length < 256 then s.onRoster (fun r => { r with seen := k :: r.seen })
  else (s.onRoster (fun r => { r with seen := k :: r.seen.take 255 })).count .cc "relay.evict"

/-- The classes that may be flooded, while flooding is allowed at all (R366, R371). -/
def State.floodClass (c : Nat) (s : State) : Bool := (s.pnat Obj.relayClasses).testBit c

/-- The inner kinds of a FLOOD (R345). -/
def floodKind (k : FrameKind) : Bool :=
  match k with
  | .data => true
  | .reply => true
  | .answer => true
  | _ => false

/-- The inner frame as rebuilt (R368). -/
def Flood.rebuilt (f : Flood) : Frame := { f.inner with kind := f.innerKind }

/-- Plan the rebroadcast of a FLOOD: d of 0 to 3 slots, and its hop limit one less (R369), while flooding is allowed (R366,
log 153). -/
def State.planFlood (f : Flood) (s : State) : State :=
  if f.hops = 0 || s.pint Obj.relayFlood != 1 then s
  else
    let (d, s) := s.drawTo 3
    s.onRoster (fun r =>
      { r with replays := r.replays ++ [{ flood := { f with hops := f.hops - 1 }, from_ := s.time.slot + 1 + d, own := false }] })

/-- A FLOOD is received (R368): class and kind, the seen cache, the inner MIC, the sighting and the rebroadcast. -/
def execFloodReceived (f : Flood) (r : RxInfo) (s : State) : Ans :=
  .next (
    if !s.takesFrame r.lane then s
    else
      let s := (s.airRx r.lane r.psduLen).fire .flood
      let inner := Flood.rebuilt f
      if f.hopClass ≠ inner.reason || !s.floodClass inner.reason.toNat || !floodKind f.innerKind then
        s.onLane r.lane Lane.idle
      else if s.roster.seen.any (Seen.isFor inner) then
        (s.onLane r.lane Lane.idle).onRoster (fun k =>
          { k with seen := replaceFirst (Seen.isFor inner) (fun x => { x with copies := x.copies + 1 }) k.seen })
      else
        match s.micFault inner with
        | some name => (s.onLane r.lane Lane.idle).count .keeper name
        | none =>
          let s := s.seenPut inner
          let known := match s.sender inner.id with | .unknown => false | _ => true
          let s := if inner.sync.toNat = s.pnat Obj.sync && known then s.arrive r.lane inner r.psduLen true
            else s.onLane r.lane Lane.idle
          s.planFlood f)

/-- The octets of a FLOOD: 2 more than its inner frame's (R345). -/
def floodOctets (f : Flood) : Nat := psduOctets f.inner.payload.length f.inner.micLen.val + 2

/-- A planned rebroadcast goes out in a RELAY cell, or is suppressed after a second copy; a flood of this unit's own enters
the cache when it is sent (R369, R370). -/
def execFloodRebroadcast (lane : Fin 16) (s : State) : Ans :=
  .next (
    let l := s.rx.lanes[lane]
    let relays := match l.holder with | .cell i => (assoc i s.sched.run).isSome && l.program = 5 | _ => false
    if !relays || s.txBarred || !s.txFree || s.anyPayload || s.pint Obj.relayFlood != 1 then s
    else
      match s.roster.replays.find? (fun p => decide (p.from_ ≤ s.time.slot)) with
      | none => s
      | some p =>
        let inner := Flood.rebuilt p.flood
        let copies := ((s.roster.seen.find? (Seen.isFor inner)).map Seen.copies).getD 0
        let s := s.onRoster (fun r => { r with replays := r.replays.erase p })
        if !p.own && 2 ≤ copies then s.count .cc "relay.suppress"
        else
          let s := if p.own && copies = 0 then s.seenPut inner else s
          let s := if p.own then s else s.count .cc "relay.sent"
          s.transmit (s.frameTx (.flood p.flood.hops) (.flood p.flood) (p.flood.hopClass == 7)
            (floodOctets p.flood) l.rate l.chan))

/-- Entries of the seen cache age out after 60 s, and with them the rebroadcasts still unsent (R369, R370). -/
def execSeenCacheAgeOut (s : State) : Ans :=
  .next (
    let old := s.roster.seen.filter (fun x => decide (x.at_ + secs 60 ≤ s.now))
    let gone (p : Replay) : Bool := !p.own && old.any (Seen.isFor (Flood.rebuilt p.flood))
    let n := (s.roster.replays.filter gone).length
    (s.onRoster (fun r =>
      { r with seen := r.seen.filter (fun x => !decide (x.at_ + secs 60 ≤ s.now)),
               replays := r.replays.filter (fun p => !gone p) })).countN .cc "relay.expire" n)

end Sys2Proof.Machine
end

