-- ==== Sys2Proof/Machine/Rounds.lean ====
section
/-!
DEFINITION. Sys2Proof/Machine/Rounds.lean: the commands and events of inventory rounds (R307 to R317).
-/

namespace Sys2Proof.Machine

/-! ## Commands (R308) -/

/-- `DO round.start code [r]` (R308): a group code or the all-call code, a reason of 0 to 7. Without a network key the
part runs no round (R346). -/
def runDoRoundStart (h : Hdr) (code : Int) (r : Option Int) : State → Done :=
  actionRun 524 .operator (fun s aud =>
    let reason := argOr 1 r
    if !(s.isGroup code || code == 8191) then bad s .range 3 (some 524) aud
    else if !inRange 0 7 reason then bad s .range 4 (some 524) aud
    else if s.roster.netKey.isNone then bad s .state 0 (some 524) aud
    else
      match s.requestRound code.toNat reason.toNat false 0 true with
      | (some id, s) => good s [.roundId id] (some 524) aud
      | (none, s) => bad s .busy 0 (some 524) aud)

/-- The line of `runDoRoundStart`. -/
def execDoRoundStart (h : Hdr) (code : Int) (r : Option Int) (s : State) : Ans :=
  .next (s.change (.doRoundStart h code r) h .do_ true false (runDoRoundStart h code r))

/-- `DO round.stop` (R308, R316): the two sub-slots that follow close the running round. A round that waits for its
burst closes as soon as it opens. -/
def runDoRoundStop (h : Hdr) : State → Done :=
  actionRun 525 .operator (fun s aud =>
    match s.work.round with
    | none => bad s .state 0 (some 525) aud
    | some r => good (s.onRound (fun r => { r with stop := true })) [.roundId r.req.id] (some 525) aud)

/-- The line of `runDoRoundStop`. -/
def execDoRoundStop (h : Hdr) (s : State) : Ans :=
  .next (s.change (.doRoundStop h) h .do_ true false (runDoRoundStop h))

/-! ## Opening and sub-slots (R307 to R313) -/

/-- A burst of the round's own, or of its sweep, is still to end. -/
def State.roundBurst (r : Round) (s : State) : Bool :=
  s.burstPending (if r.req.sweep then .sweep r.req.reason else .round r.req.id)

/-- The round opens at the first slot boundary after its burst, or after its request when no burst runs (R307); the
slot's channels and lanes become the round's (R309, R310). -/
def execRoundOpen (s : State) : Ans :=
  .next (
    match s.work.round with
    | none => s
    | some r =>
      if r.opened || !s.atBoundary || s.time.slot == r.openSlot || s.roundBurst r then s
      else
        let s := s.onRound (fun r => { r with opened := true, openSlot := s.time.slot })
        let (_, s) := s.slotSpan []
        s.roundSlot)

/-- The bits of a call: those of the sub-slot two before whose record or repeat stands, none above high water
(R304, R314). -/
def State.callAcks (r : Round) (s : State) : List Bool :=
  r.prev2.map (fun k => !s.rx.high && (match k with | some k => r.acked.any (fun x => x.1 == k) | none => false))

/-- The call of a sub-slot (R312, R343). -/
def State.callBody (r : Round) (last : Bool) (s : State) : CallBody :=
  { round := r.req.id, sub := r.sub % 256, q := s.callQ r, w := r.chans.length, reason := r.req.reason,
    withhold := s.rx.high, last := last, acks := s.callAcks r, check := r.req.code % 256 }

/-- The PSDU octets of a call: 9 bytes and the FCS (R343). -/
abbrev callOctets : Nat := 13

/-- The next sub-slot of the slot has come, and its round has not closed. -/
def State.subDue (r : Round) (s : State) : Bool :=
  s.roundRuns && s.ccOn && s.slotNow == s.time.slot && decide (r.inSlot < s.subSlots)
    && decide (s.time.slotAt + r.inSlot * us 2500 ≤ s.now) && decide (r.closing < 2)

/-- A round ends after four empty sub-slots at Q 4, after `round.max` slots, or at a stop (R316). -/
def State.roundDone (r : Round) (s : State) : Bool :=
  r.stop || decide (4 ≤ r.quiet) || decide (r.openSlot + s.pnat Obj.roundMax ≤ s.time.slot)

/-- A sub-slot starts (R311 to R316): Q moves on, and the call goes out on the call channel, its first symbol 28 µs on; a
closing call has the end flag and no reply window. Nothing is sent while transmission is barred, or when no channel remains. -/
def execSubSlotStart (s : State) : Ans :=
  .next (
    match s.work.round with
    | none => s
    | some r =>
      if !s.subDue r then s
      else
        let last := s.roundDone r
        let r := { r with q := r.q1, q1 := qOf r.qf }
        let body := s.callBody r last
        let keys := (r.prev ++ r.prev2).filterMap id
        let s := s.onRound (fun _ =>
          { r with sub := r.sub + 1, inSlot := r.inSlot + 1, subAt := s.now, qCall := body.q, stop := last,
                   window := !last && !r.chans.isEmpty, closing := if last then r.closing + 1 else r.closing,
                   prev := [], prev2 := r.prev, acked := r.acked.filter (fun x => keys.contains x.1) })
        if r.chans.isEmpty then s
        else
          match s.takeAir .sub (us 28) with
          | (.go, s) => s.launch (us 28) (s.frameTx .call (.call body) (r.req.reason == 7) callOctets 200 (s.callChannel r))
          | (_, s) => s)

/-! ## Reply windows (R314, R315) -/

/-- The lane of a channel index of the round. -/
def State.roundLane (k : Nat) (s : State) : Option (Fin 16) := s.roundLanes[k]?

/-- A single cell (R314): its frame enters the receive buffer, or is dropped when the buffer is full (R305). The answer
is the cell, by its sub-slot and its channel index, whose acknowledgement bit waits for the frame to be judged (R17). -/
def State.singleCell (id sub k : Nat) (f : Frame) (r : RxInfo) (s : State) : Option (Nat × Nat) × State :=
  match s.roundLane k with
  | none => (none, s)
  | some n =>
    let l := s.rx.lanes[n]
    let at_ := if l.payload then s.frameStart n else s.now
    let x : RxFrame :=
      { f := f, r := s.rxInfo n r.psduLen, at_ := at_,
        time := s.stampBack (s.now - at_), flooded := false, round := some id, cell := (sub, k) }
    let s := s.airRx n r.psduLen
    if 1024 ≤ s.rx.buf.length then (none, s.bufDrop)
    else (some (sub, k), (s.onRx (fun r => { r with buf := r.buf ++ [x] })).bufCheck)

/-- One cell of a sub-slot is classified and counted (R314). -/
def State.classify (id sub k : Nat) (c : CellSeen) (s : State) : Option (Nat × Nat) × State :=
  match c with
  | .empty => (none, (s.onRound (fun r => { r with empties := r.empties + 1 })).count .lanes "round.empty")
  | .collided => (none, (s.onRound (fun r => { r with collided := r.collided + 1 })).count .lanes "round.collide")
  | .single f r => ((s.onRound (fun r => { r with singles := r.singles + 1 })).count .lanes "round.single").singleCell id sub k f r

/-- The cells of a sub-slot in channel order. -/
def State.classifyAll (id sub : Nat) : Nat → List CellSeen → State → List (Option (Nat × Nat)) × State
  | _, [], s => ([], s)
  | k, c :: cs, s =>
    let (x, s) := s.classify id sub k c
    let (xs, s) := State.classifyAll id sub (k + 1) cs s
    (x :: xs, s)

/-- The cells of a class. -/
def cellsOf (p : CellSeen → Bool) (l : List CellSeen) : Nat := (l.filter p).length

/-- A reply window ends (R314, R315): each lane classifies its cell, a channel that no operand speaks of counts as empty,
Qf moves, and the frames go on to their records. -/
def execReplyWindowEnd (cells : List CellSeen) (s : State) : Ans :=
  .next (
    match s.work.round with
    | none => s
    | some r =>
      if !r.window || s.now < r.subAt + us 2470 then s
      else
        let w := r.chans.length
        let cells := (cells ++ List.replicate (w - cells.length) CellSeen.empty).take w
        let e := cellsOf (· == .empty) cells
        let c := cellsOf (· == .collided) cells
        let quiet := e == w && r.qCall == 4
        let (keys, s) := s.classifyAll r.req.id r.sub 0 cells
        let s := s.onRound (fun r =>
          { r with window := false, prev := keys, qf := qfNext r.qf c e, quiet := if quiet then r.quiet + 1 else 0 })
        let s := s.each (s.roundLanes.take w) (fun n s => s.onLane n Lane.idle)
        s.drainBuf s.rx.buf.length)

/-! ## The end and pauses (R316, R317) -/

/-- The second closing sub-slot ends, and the round with it (R316). -/
def execRoundEnd (s : State) : Ans :=
  .next (
    match s.work.round with
    | some r => if 2 ≤ r.closing && decide (r.subAt + us 2500 ≤ s.now) then s.endRound else s
    | none => s)

/-- A last-chance burst that is due stops the round at a sub-slot boundary: no calls, and the lanes are free (R317). -/
def execRoundPause (s : State) : Ans :=
  .next (
    match s.work.round with
    | none => s
    | some r =>
      let wants := (s.jomen.due ++ s.jomen.queue).any (fun b => match b.purpose with | .lastChance _ => true | _ => false)
      if s.roundRuns && wants && !r.window && decide (r.subAt + us 2500 ≤ s.now) && decide (r.closing < 2) then
        let s := s.roundLose (s.subSlots - r.inSlot)
        ((s.onRound (fun r => { r with pausing := true })).releaseAll (fun h => h == .round)).moveRadio
      else s)

end Sys2Proof.Machine
end

