-- ==== Sys2Proof/Machine/ParamOps.lean ====
section
/-!
DEFINITION. Sys2Proof/Machine/ParamOps.lean: what a write of a parameter checks beyond its range, and what it does beside
the value (R48, R49, R106, R282, R304, R374, R397, R505, R513, R515 to R518).
-/

namespace Sys2Proof.Machine

/-! ## The check of `jomen.group.count` (R106) -/

/-- A group code that would leave the group range is in use: an endpoint holds it, `roster.join.groups` or a ROUND cell
names it, or its mask is not 0. -/
def State.groupInUse (c : Nat) (s : State) : Bool :=
  let names (v : PVal) : Bool := (PVal.groupList v).contains c
  let cell (x : Cell) : Bool := x.kind == .round && x.n == c
  (assoc c s.jomen.holders).isSome || names (s.pval Obj.joinGroups) || ((s.pnext Obj.joinGroups).map names).getD false
    || s.sched.cells.any (fun x => cell x.2)
    || s.sched.changes.any (fun x => match x.2 with | .cell _ y => cell y | _ => false)
    || s.maskOf c != 0

/-- A group count that would move a code in use from one range to the other (R106). -/
def State.groupCountBlocked (n : Nat) (s : State) : Bool :=
  let old := s.pnat Obj.groupCount
  if old < n then
    s.roster.entries.any (fun x => x.2.active && decide (8192 - n ≤ x.2.code) && decide (x.2.code < 8192 - old))
  else (List.range (old - n)).any (fun k => s.groupInUse (8192 - old + k))

/-- A write that the present state does not allow (R106, R523). -/
def State.setBlocked (obj : Nat) (v : PVal) (s : State) : Bool :=
  obj == Obj.groupCount && s.groupCountBlocked v.toInt.toNat

/-! ## What a write does beside the value -/

/-- Set a counter to 0 and clear its overflow bit. -/
def State.zeroCtr (b : Block) (name : String) (s : State) : State :=
  s.onTally (fun t => { t with ctrs := t.ctrs.filter (fun c => !(c.block == b && c.name == name)) })

/-- The monitor whose set-up a parameter belongs to. -/
def wmOf (obj : Nat) : Option (Fin 8) :=
  if Obj.wmInput ≤ obj && obj < Obj.pgMask then some (Fin.ofNat 8 ((obj - Obj.wmInput) % 8)) else none

/-- A written rate comes into force, on trial for 10 s (R48). -/
def State.newRate (s : State) : State :=
  let s := s.fire .lineRate
  s.onLine (fun l =>
    { l with rate := s.pnat Obj.lineRate, rateAt := none,
             trial := some ((match l.trial with | some (r, _) => r | none => l.rate), s.now + secs 10) })

/-- What the write of a parameter does at once beside the value; `before` is the state it was written in. -/
def State.written (obj : Nat) (s before : State) : State :=
  match wmOf obj with
  | some n => if (s.pnext obj).isNone then ((s.wmChanged n before).relatch n).pgFallAll else s
  | none =>
    if obj = Obj.lineRate then s.onLine (fun l => { l with rateAt := some (s.now + 2 * s.charTime) })
    else if obj = Obj.linePullup then
      s.onLine (fun l => { l with pullup := s.pint Obj.linePullup == 1 && l.stuckAt.isNone })
    else if obj = Obj.lineHostVaux then (if s.mon.vaux == .off then s.hostDeaf else s)
    else if obj = Obj.hopMask then
      s.onSched (fun k => { k with rebuild := (s.pnext Obj.hopMask).map (fun _ => effSlot s.slotNow) })
    else if obj = Obj.bufHigh then s.bufCheck
    else if obj = Obj.coexOverride then s.coexOverride
    else if Obj.pgMask ≤ obj && obj < Obj.vauxRamp then s.pgFallAll
    else if Obj.occSrc ≤ obj && obj < Obj.bwWindow then s.zeroCtr .tally ("occ." ++ dec ((obj - Obj.occSrc) % 8))
    else if obj = Obj.bwWindow then s.onTally (fun t => { t with bwFrom := s.now, bwBytes := [], bwLast := [] })
    else s

/-- The audit record of a write (R89, R453). -/
def State.setAud (obj : Nat) (v : PVal) (s : State) : Aud :=
  { action := 1, obj := obj, old := avalOf (s.pval obj), new := avalOf v }

/-- The line that shows a parameter (R516). -/
def State.valueLine (obj : Nat) (s : State) : OutLine := .value obj (s.pval obj) (s.pnext obj)

/-- Apply a write that passed its checks (R516 to R518). A rate waits for the end of its reply, or for 2 character
times after a broadcast (R48). -/
def State.applySet (o : Origin) (obj : Nat) (v : PVal) (s : State) : Done :=
  let a := s.setAud obj v
  let w := (s.journal s.auditSeq (.param obj (s.prow obj))).writeParam obj v (originNum o) s.stamp
  good (w.written obj s) [w.valueLine obj] (some obj) (some a)

end Sys2Proof.Machine
end

