-- ==== Sys2Proof/Machine/Store.lean ====
section
/-!
DEFINITION. Sys2Proof/Machine/Store.lean: the commands and events of the store: LOG, the write cache, the emergency
flush, the rings and failing blocks (R440 to R463, R479).
-/

namespace Sys2Proof.Machine

/-! ## What the write cache holds -/

/-- A record of AUDIT. -/
def CRec.isAudit : CRec → Bool
  | .ledger _ _ => false
  | .audit _ _ => true

/-- When a record entered. -/
def CRec.entered : CRec → Ticks
  | .ledger _ t => t
  | .audit _ t => t

/-- The ledger record of a cache record. -/
def CRec.ledger? : CRec → Option LRec
  | .ledger r _ => some r
  | .audit _ _ => none

/-- The audit record of a cache record. -/
def CRec.audit? : CRec → Option ARec
  | .ledger _ _ => none
  | .audit r _ => some r

/-- The records of a partition in the cache, in order of arrival. -/
def Store.part (aud : Bool) (c : Store) : List CRec := c.cache.filter (fun r => r.isAudit == aud)

/-- Every ledger record that LOG reads: ARCHIVE, LEDGER and the cache (R462). -/
def Store.allLedger (c : Store) : List LRec := c.archive ++ c.ledger ++ c.cache.filterMap CRec.ledger?

/-- Every audit record that LOG reads. -/
def Store.allAudits (c : Store) : List ARec := c.audits ++ c.cache.filterMap CRec.audit?

/-- A ledger record is still in the write cache. -/
def Store.inCache (seq : Nat) (c : Store) : Bool := c.cache.any (fun x => (x.ledger?.map LRec.seq) == some seq)

/-- `n` records are read from the flash, `per` at most in a codeword (R455, R512): how many codewords hold them depends on the
fillers between, a free value within these bounds (log 157). -/
def State.readWords (per n : Nat) (s : State) : State :=
  let least := (n + per - 1) / per
  let (k, s) := s.drawTo (n - least)
  s.bytes .storeRd (2048 * (least + k))

/-! ## LOG (R462) -/

/-- LOG INFO: the first and the last sequence of LEDGER with the cache before it, the mark, and the range of ARCHIVE. -/
def execLogInfo (h : Hdr) (s : State) : Ans :=
  .next (s.verb h .log false false (fun s =>
    let l := s.store.ledger ++ s.store.cache.filterMap CRec.ledger?
    let ends (l : List LRec) : Option (Nat × Nat) :=
      match l.head?, l.getLast? with
      | some a, some b => some (a.seq, b.seq)
      | _, _ => none
    good s [.logInfo ((ends l).map Prod.fst) ((ends l).map Prod.snd) s.store.mark (ends s.store.archive)] none none))

/-- A ledger record as LOG READ writes it: `=L`, or `=X` when it is lost (R462). -/
def LRec.line (r : LRec) : OutLine := if r.lost then .lostRecord r.seq else .ledger r

/-- An audit record as LOG AUDIT writes it: `=A`, or `=X` when it is lost (R462). -/
def ARec.line (r : ARec) : OutLine := if r.lost then .lostRecord r.seq else .audit r

/-- What a READ lists (R462), and the sequence of the last record it examined: `left` records may still be examined and
`count` counted; `follow` lists the CONTINUATION records behind a listed record of a filter's kind. A lost record has no
kind to filter: it is listed and does not count (log 76). -/
def readLog (kind : Option Nat) : Nat → Nat → Bool → Option Nat → List LRec → List LRec × Option Nat
  | _, _, _, last, [] => ([], last)
  | 0, _, _, last, _ => ([], last)
  | left + 1, count, follow, last, r :: rs =>
    match kind with
    | none =>
      if count = 0 then ([], last)
      else
        let (l, e) := readLog kind left (count - 1) false (some r.seq) rs
        (r :: l, e)
    | some k =>
      if r.lost && count ≠ 0 then
        let (l, e) := readLog kind left count false (some r.seq) rs
        (r :: l, e)
      else if follow && r.body.kind == 2 && k != 2 then
        let (l, e) := readLog kind left count true (some r.seq) rs
        (r :: l, e)
      else if count = 0 then ([], last)
      else if r.body.kind == k then
        let (l, e) := readLog kind left (count - 1) true (some r.seq) rs
        (r :: l, e)
      else readLog kind left count false (some r.seq) rs

/-- LOG READ seq [count] [kind=k]. -/
def execLogRead (h : Hdr) (seq : Int) (count kind : Option Int) (s : State) : Ans :=
  .next (s.verb h .log false false (fun s =>
    let n := argOr 16 count
    if !inRange 0 (2 ^ 40 - 1) seq then bad s .range 3 none none
    else if !inRange 1 256 n then bad s .range 4 none none
    else if !inRange 0 31 (argOr 0 kind) then bad s .range 5 none none
    else
      let l := s.store.allLedger.filter (fun r => decide (seq.toNat ≤ r.seq))
      let (out, last) := readLog (kind.map Int.toNat) 16384 n.toNat false none l
      let next := match last with | some k => k + 1 | none => s.store.nextSeq
      let s := s.readWords 32 ((l.take 16384).filter (fun r => decide (r.seq < next) && !s.store.inCache r.seq)).length
      good (s.countN .cc "log.bad" (out.filter LRec.lost).length) (out.map LRec.line ++ [.dotNext next]) none none))

/-- LOG AUDIT seq [count]: from the first audit record held at or after a sequence. -/
def execLogAudit (h : Hdr) (seq : Int) (count : Option Int) (s : State) : Ans :=
  .next (s.verb h .log false false (fun s =>
    let n := argOr 16 count
    if !inRange 0 0xFFFFFE seq then bad s .range 3 none none
    else if !inRange 1 256 n then bad s .range 4 none none
    else
      let l := (s.store.allAudits.dropWhile (fun r => decide (r.seq < seq.toNat))).take n.toNat
      let next := match l.getLast? with | some r => auditNext r.seq | none => s.store.nextAudit
      let s := s.readWords 42 (l.filter (fun r => !s.store.auditCached r.seq)).length
      good (s.countN .cc "log.bad" (l.filter ARec.lost).length) (l.map ARec.line ++ [.dotNext next]) none none))

/-- LOG MARK seq: the host's mark, stored (R460, R462). -/
def runLogMark (h : Hdr) (seq : Int) (s : State) : Done :=
  let aud : Option Aud := some { action := 4, obj := 545, old := .num s.store.mark, new := .num seq }
  needs .operator s (some 545) aud (
    if inRange 0 (2 ^ 40 - 1) seq then
      let s := s.journal s.auditSeq (.mark s.store.mark)
      good (s.onStore (fun c => { c with mark := seq.toNat })) [.num seq] (some 545) aud
    else bad s .range 3 (some 545) aud)

/-- The line of `runLogMark`. -/
def execLogMark (h : Hdr) (seq : Int) (s : State) : Ans :=
  .next (s.change (.logMark h seq) h .log false false (runLogMark h seq))

/-! ## Programs (R455) -/

/-- Records in a codeword of a partition. -/
def perWord (aud : Bool) : Nat := if aud then 42 else 32

/-- The acknowledgement of a record's frame is owed: by its lane, or by a later call of the running round (R16, R300, R314). -/
def State.ackOwed (r : CRec) (s : State) : Bool :=
  match r with
  | .ledger { body := .sighting b, .. } _ =>
    (List.finRange 16).any (fun n =>
        match s.rx.lanes[n].ack with
        | some a => a.recorded && a.id == b.id && a.ctr == b.ctr
        | none => false)
      || (match s.work.round with
          | some q => q.acked.any (fun x => x.2 == (b.id, b.ctr) && (q.prev ++ q.prev2).contains (some x.1))
          | none => false)
  | _ => false

/-- The records of a partition that are due, up to one whose acknowledgement is still owed (R16): full codewords, and a
partly filled one whose oldest record has waited `store.flush.age`, or any while WM0's event output stands (R455, R456). -/
def State.dueRecords (aud : Bool) (s : State) : Nat :=
  let l := (s.store.part aud).takeWhile (fun r => !s.ackOwed r)
  let full := l.length / perWord aud * perWord aud
  match (l.drop full).head? with
  | some r => if r.entered + ms (s.pnat Obj.flushAge) ≤ s.now || s.mon.mons[0].event then l.length else full
  | none => full

/-- The codewords left in the head page of a partition: a page holds 8 (R441). -/
def Store.pageWords (aud : Bool) (c : Store) : Nat :=
  8 - (if aud then c.auditUsed else c.headUsed) / perWord aud % 8

/-- The codewords left in the head peck of a partition: a peck holds 512 (R441). -/
def Store.roomWords (aud : Bool) (c : Store) : Nat :=
  512 - (if aud then c.auditUsed else c.headUsed) / perWord aud

/-- The records of the page program that starts for a partition: the codewords of one page, which are those
that are left in the head page (R441, R455). -/
def State.pageRecords (aud : Bool) (s : State) : Nat :=
  min (s.dueRecords aud) (s.store.pageWords aud * perWord aud)

/-- STORE works: CC's side of the part is powered. -/
def State.storeOn (s : State) : Bool := s.ccOn && s.store.flush.isNone

/-- A codeword is due: its program starts when none runs, LEDGER's before AUDIT's (R455). -/
def execCodewordDue (s : State) : Ans :=
  .next (
    if !s.storeOn || s.store.running.isSome then s
    else if 0 < s.pageRecords false then s.onStore (fun c => { c with running := some (false, s.pageRecords false) })
    else if 0 < s.pageRecords true then s.onStore (fun c => { c with running := some (true, s.pageRecords true) })
    else s)

/-- The first `n` records of a partition leave the cache. -/
def takePart (aud : Bool) : Nat → List CRec → List CRec
  | _, [] => []
  | 0, l => l
  | n + 1, r :: rs => if r.isAudit = aud then takePart aud n rs else r :: takePart aud (n + 1) rs

/-- Records with a sequence above the host's mark that are dropped are announced (R460). -/
def State.ledgerLoss (gone : List LRec) (s : State) : State :=
  let n := (gone.filter (fun r => decide (s.store.mark < r.seq))).length
  if n = 0 then s else s.queue (.ledgerLoss n)

/-- Ledger records are in the flash: places with their fillers are used, and a full peck makes way for the next
(R441, R459). -/
def Store.putLedger (l : List LRec) (words : Nat) (c : Store) : Store :=
  let c := { c with ledger := c.ledger ++ l, headRecs := c.headRecs + l.length, headUsed := c.headUsed + 32 * words }
  if c.headUsed < 16384 then c
  else { c with pecks := c.pecks ++ [c.headRecs], headRecs := 0, headUsed := 0, free := c.free - 1 }

/-- Audit records are in the flash: the ring of 64 pecks overwrites its oldest (R442, R454). -/
def Store.putAudits (l : List ARec) (words : Nat) (c : Store) : Store :=
  let c := { c with audits := c.audits ++ l, auditRecs := c.auditRecs + l.length, auditUsed := c.auditUsed + 42 * words,
                    auditCount := c.auditCount + (42 * words - l.length) }
  if c.auditUsed < 21504 then c
  else
    let full := c.auditPecks ++ [c.auditRecs]
    if full.length < 64 then { c with auditPecks := full, auditRecs := 0, auditUsed := 0 }
    else
      let c := { c with audits := c.audits.drop (full.headD 0), auditPecks := full.drop 1, auditRecs := 0, auditUsed := 0 }
      { c.erasePeck (auditPeck0 + c.auditTail) with auditTail := (c.auditTail + 1) % 64 }

/-- Records are programmed and read back without error (R455): they leave the cache, fillers complete their codewords. -/
def State.programmed (aud : Bool) (n : Nat) (s : State) : State :=
  let l := (s.store.part aud).take n
  let words := (l.length + perWord aud - 1) / perWord aud
  let s := s.countN .store "store.filler" (words * perWord aud - l.length)
  let s := (s.bytes .storeWr (2048 * words)).bytes .storeRd (2048 * words)
  s.onStore (fun c =>
    let c := Store.saved { c with cache := takePart aud n c.cache }
    if aud then c.putAudits (l.filterMap CRec.audit?) words else c.putLedger (l.filterMap CRec.ledger?) words)

/-- A program with its read-back ends (R455), or a relocation in the background does (R445). Records whose read-back
failed stay in the cache and are programmed again (R446). -/
def execStoreOperationDone (ok : Bool) (s : State) : Ans :=
  .next (
    match s.store.running with
    | some (aud, n) =>
      let s := s.onStore (fun c => { c with running := none })
      if ok then (s.programmed aud n).drainBuf s.rx.buf.length
      else
        let words := (n + perWord aud - 1) / perWord aud
        (s.bytes .storeWr (2048 * words)).bytes .storeRd (2048 * words)
    | none =>
      match s.store.moves with
      | b :: l => s.onStore (fun c => { (c.relocate b) with moves := l })
      | [] => s)

/-! ## The emergency flush (R456) -/

/-- Every record of a partition is programmed: those that fit in the head peck, then the rest. -/
def State.programAll (aud : Bool) (s : State) : State :=
  let n := (s.store.part aud).length
  let k := min n (s.store.roomWords aud * perWord aud)
  (s.programmed aud k).programmed aud (n - k)

/-- The write cache goes to the flash (R432, R456, R458). -/
def State.flushCache (s : State) : State := (s.programAll false).programAll true

/-- The flush ends: the cache is programmed with the FLUSH record last, the records that waited follow. -/
def State.flushEnd (s : State) : State :=
  let n := s.store.cache.length
  let s := ((s.onStore (fun c => { c with flush := none, running := none })).ledger (.flush n)).flushCache
  s.onStore (fun c => { c.writeSystem with cache := c.cache ++ c.held, held := [] })

/-- The emergency flush ends, and frames move on. -/
def execEmergencyFlushEnd (s : State) : Ans :=
  .next (
    if s.store.flush.isNone || !s.ccOn then s
    else
      let s := s.flushEnd
      s.drainBuf s.rx.buf.length)

/-! ## Failing blocks (R445, R446, R488) -/

/-- A physical block is retired at once (R488): a replacement block takes its peck, and with none left a peck of LEDGER or
ARCHIVE is lost (R446, log 38). -/
def State.retireBlock (o : Origin) (block cause : Nat) (s : State) : State :=
  let id : ResId := { kind := .block, num := block }
  if s.isRetired .block block then s
  else
    let lost := s.store.lost
    let s := (s.retire o id cause).onStore (Store.replaceBlock block)
    if s.store.lost = lost then s else s.queue (.storeLow s.store.lost)

/-- A page program or an erase fails (R446): counted, and the block is retired; the program is repeated from the cache. -/
def execProgramFailure (erase : Bool) (block : Nat) (s : State) : Ans :=
  .next (
    if !s.ccOn then s
    else (s.count .store (if erase then "store.erase.fail" else "store.prog.fail")).retireBlock (.self .faultBlock) block 6)

/-- The records of an uncorrectable codeword are lost (R445, R462): up to 32 of LEDGER or ARCHIVE that follow one another,
up to 42 of AUDIT, or up to 16 spill records, whose CRC then fails (R355); a codeword of another partition holds none.
Which partition and which records a codeword held is free (log 76). -/
def State.codewordLost (s : State) : State :=
  let (p, s) := s.drawTo 3
  let (n, s) := s.drawTo 42
  let (k, s) := s.draw
  let first := Config.freeDraw k
  let hit (m i : Nat) : Bool := decide (first ≤ i) && decide (i < first + min n m)
  match p with
  | 0 =>
    let mark (r : LRec) : LRec := { r with lost := r.lost || hit 32 r.seq }
    s.onStore (fun c => { c with ledger := c.ledger.map mark, archive := c.archive.map mark })
  | 1 => s.onStore (fun c => { c with audits := c.audits.map (fun r => { r with lost := r.lost || hit 42 r.seq }) })
  | 2 => s.onRoster (fun r =>
      { r with spill := r.spill.zipIdx.map (fun x => (x.1.1, { x.1.2 with crcOk := x.1.2.crcOk && !hit 16 x.2 })) })
  | _ => s

/-- A codeword is read with corrected bits (R445): beyond 48 its peck is relocated, beyond 72 it is uncorrectable. -/
def execPeckRefresh (corrected : Nat) (block : Nat) (s : State) : Ans :=
  .next (
    if !s.ccOn || corrected ≤ 48 then s
    else if corrected ≤ 72 then
      (s.count .store "store.refresh").onStore (fun c => { c with moves := c.moves ++ [block] })
    else ((s.count .store "store.ecc.fail").codewordLost).retireBlock (.self .faultBlock) block 7)

/-! ## The rings (R459, R460) -/

/-- The oldest peck of ARCHIVE is erased when ARCHIVE needs one. -/
def State.archiveRoom (s : State) : State :=
  if 0 < s.store.freeArch then s.onStore (fun c => { c with freeArch := c.freeArch - 1 })
  else
    let n := s.store.archPecks.headD 0
    let gone := s.store.archive.take n
    let s := s.onStore (fun c =>
      let c := { c with archive := c.archive.drop n, archPecks := c.archPecks.drop 1 }
      { c.erasePeck (archivePeck0 + c.archTail) with archTail := (c.archTail + 1) % 3072 })
    (s.countN .store "store.archive.drop" n).ledgerLoss gone

/-- With fewer than 4 erased pecks ahead of the head, the oldest peck of LEDGER is dropped, or copied to ARCHIVE and
erased. -/
def execLedgerRingAdvance (s : State) : Ans :=
  .next (
    if !s.storeOn || 4 ≤ s.store.free || s.store.pecks.isEmpty then s
    else
      let s := s.fire .ledgerPeck
      let n := s.store.pecks.headD 0
      let gone := s.store.ledger.take n
      let erase (s : State) : State :=
        s.onStore (fun c =>
          let c := c.erasePeck (ledgerPeck0 + c.ledgerTail)
          { c with ledger := c.ledger.drop n, pecks := c.pecks.drop 1, free := c.free + 1, ledgerTail := (c.ledgerTail + 1) % 3836 })
      if s.pint Obj.archive == 1 then
        let s := (s.archiveRoom.bytes .storeRd (2 * 512 * 2048)).bytes .storeWr (512 * 2048)
        erase (s.onStore (fun c => { c with archive := c.archive ++ gone, archPecks := c.archPecks ++ [n] }))
      else ((erase s).countN .store "store.ledger.drop" n).ledgerLoss gone)

/-! ## The push directory (R479) -/

/-- A full half of the push directory is compacted into the other half: a header, the newest entry of every pair, and an
end marker. -/
def execPushDirectoryCompaction (s : State) : Ans :=
  .next (
    if !s.storeOn || s.store.pushUsed < 262144 then s
    else
      s.onStore (fun c =>
        let half := libraryPeck0 + (if c.pushGen % 2 = 0 then 1016 else 1008)
        { c.erasePecks ((List.range 8).map (half + ·)) with pushGen := c.pushGen + 1, pushUsed := c.pushDir.length + 2 }))

end Sys2Proof.Machine
end

