-- ==== Sys2Proof/Machine/WakeOps.lean ====
section
/-!
DEFINITION. Sys2Proof/Machine/WakeOps.lean: the wake branches and the matcher: blanking, settling, the judgement of a
completed code word, records, folds and closings (R128 to R170).
-/

namespace Sys2Proof.Machine

/-! ## Branches (R134 to R138, R155) -/

/-- The detector that `wur.detector` selects (R137). -/
def State.detector (s : State) : WakeDet :=
  match s.pnat Obj.detector with
  | 0 => .envelope
  | 1 => .superregen
  | _ => .direct

/-- PG1 has enabled the PA on the way to a sub-GHz transmission: the ramp is the last 4 µs of that transition (R120, R196),
and an active trip input of PG1 bars it (R398). -/
def State.ramping (s : State) : Bool :=
  match s.radio.trans, s.radio.next with
  | some t, some tx => t.dest == .tx && tx.band == .sub && decide (t.at_ ≤ s.now + us 4) && !s.pgInput 1
  | _, _ => false

/-- A scheduled sub-GHz transmission that may start has its T_air within the 4 µs of the ramp (R120, R178). -/
def State.rampAhead (s : State) : Bool :=
  !s.txBarred && !s.pgInput 1
    && s.claims.any (fun c => c.band == .sub && decide (s.now < c.air) && decide (c.air ≤ s.now + us 4)
        && (!s.coexOn .sub || s.claimFree c || (s.radio.granted && s.radio.ahead.isSome)))

/-- The matcher is blanked: from PA enable of a sub-GHz transmission until 250 µs after its drive is off (R120). -/
def State.blanked (s : State) : Bool :=
  s.ramping || s.rampAhead || (s.radio.paOn && (match s.radio.tx with | some t => t.band == .sub | none => false))
    || (match s.wake.blankUntil with | some t => decide (s.now < t) | none => false)

/-- The end of SETTLING that starts at a moment (R155); DIRECT settles at the end of its first sniff, which is still to
come. -/
def settleEnd (now : Ticks) : WakeDet → Option Ticks
  | .envelope => some (now + ms 1)
  | .superregen => some (now + ms 2)
  | _ => none

/-- A branch goes to SETTLING with the detector in force (R137, R155). -/
def State.settle (sd : Side) (s : State) : State :=
  let d := s.detector
  s.onWake (Wake.onBr sd (fun b =>
    { b with st := .settling, det := d, align := none, hold := none, tap := false, settleAt := settleEnd s.now d,
             nextSniff := s.wclk }))

/-- A branch stops listening for good or for now: no power, no word. -/
def Branch.stop (st : BranchSt) (b : Branch) : Branch := { b with st := st, align := none, hold := none, tap := false }

/-- The matcher arms at a cold start: branches in use that are not retired settle, the others are OFF (R155, R429). -/
def State.armBranches (s : State) : State :=
  (s.onWake (fun w => { w with det := s.detector })).each [Side.a, Side.b] (fun sd s =>
    if s.isRetired .branch (Side.num sd) then s.onWake (Wake.onBr sd (Branch.stop .retired))
    else if s.branchUsed sd then s.settle sd
    else s.onWake (Wake.onBr sd (Branch.stop .off)))

/-- The chip time of a detector (R93, R129). -/
def chipTicks : WakeDet → Ticks
  | .direct => 125000
  | .tap => 125000
  | _ => 500000

/-- The wake tap delivers chips on a chain (R135, R226): no retune runs, and its invalid samples are over. -/
def State.tapOk (s : State) (sd : Side) : Bool :=
  s.tapTerms sd && s.radio.trans.isNone && decide (s.rx.tapFrom ≤ s.now)

/-- A chain is in chain sleep, where a DIRECT branch may sniff (R134, R176). -/
def State.chainFree (s : State) (sd : Side) : Bool :=
  !(s.rx.chain sd).on && s.radio.st != .tx && s.radio.st != .cal

/-- The branch's detector delivers level readings: always, but for DIRECT only by the tap or in a sniff hold (R134, R135). -/
def State.reads (s : State) (sd : Side) : Bool :=
  let b := s.wake.br sd
  b.decides && (b.det != .direct || s.tapOk sd || (b.hold.isSome && s.chainFree sd))

/-- A branch goes on receiving the frame it aligned on: its detector reads, and for DIRECT by the path of the alignment
(R134, R135). -/
def State.receives (s : State) (sd : Side) : Bool :=
  let b := s.wake.br sd
  s.reads sd && (b.det != .direct || b.tap == s.tapOk sd)

/-! ## Readings and chips (R131, R132) -/

/-- The unit of the tracked floor, 2^-36 dB. -/
abbrev dB : Int := 2 ^ 36

/-- The slicer threshold of a branch (R131): floor plus 9 dB, and the midpoint of the preamble's levels while it is
aligned. -/
def Branch.threshold (b : Branch) : Int :=
  match b.align with
  | some a => a.threshold * (dB / 2)
  | none => b.floor + 9 * dB

/-- The floor after a reading that stands for `n` WCLK cycles: it follows with a time constant of 1 s, 2^18 cycles (R131;
log 124). -/
def trackFloor (n : Nat) (level floor : Int) : Int := floor + (level * dB - floor) * n / 2 ^ 18

/-- The readings of the middle half of a chip: 8 to 23 of 32, or 2 to 5 of 8 (R132). -/
def middleHalf (d : WakeDet) (l : List Int) : List Int :=
  match d with
  | .envelope => (l.drop 8).take 16
  | .superregen => (l.drop 8).take 16
  | _ => (l.drop 2).take 4

/-- A chip from its level readings, one per WCLK cycle: sliced at the threshold, by majority over the middle half, 0 on a tie
(R131, R132). -/
def sliceChip (d : WakeDet) (threshold : Int) (l : List Int) : Bool :=
  let m := middleHalf d l
  decide (m.length < 2 * (m.filter (fun x => decide (threshold < x * dB))).length)

/-- The chips a branch decides from their readings (R131, R132, R530): of a sum of carriers too, only the level counts. -/
def Branch.chips (b : Branch) (l : List (List Int)) : List Bool := l.map (sliceChip b.det b.threshold)

/-- A WCLK cycle of a branch: an alignment whose path is gone is dropped (R135), and the reading of a branch that is not
aligned moves its floor (R131). The reading is a level on the air that no command carries: a free value (log 6). -/
def State.trackBranch (sd : Side) (s : State) : State :=
  if (s.wake.br sd).align.isSome && !s.receives sd then s.onWake (Wake.onBr sd (fun b => { b with align := none }))
  else if s.reads sd && (s.wake.br sd).align.isNone then
    let (k, s) := s.draw
    s.onWake (Wake.onBr sd (fun b => { b with floor := trackFloor 1 (Config.freeLevel k) b.floor }))
  else s

/-- The WCLK edge that ends the `n`-th chip after alignment, as the held grid times it (R140, R141). -/
def Align.edge (n : Nat) (a : Align) : Nat := (a.at_ + n * a.period + wclkTicks - 1) / wclkTicks

/-- P of R134, in WCLK cycles. -/
def State.sniffPeriod (s : State) : Nat := 504 * s.pnat Obj.sniff + 104

/-! ## Judging a code word (R142 to R153) -/

/-- F of R150 for a detector. -/
def frameCycles : WakeDet → Nat
  | .direct => 504
  | .tap => 504
  | _ => 2016

/-- The detector delay of R159. -/
def detDelay : WakeDet → Ticks
  | .envelope => us 18
  | .superregen => us 25
  | .direct => us 6
  | .tap => us 12

/-- The RSSI of R160 within its detector's range. -/
def clampWake (d : WakeDet) (rssi : Int) : Int :=
  match d with
  | .envelope => max (-90) (min (-40) rssi)
  | .superregen => max (-100) (min (-50) rssi)
  | _ => max (-110) (min (-40) rssi)

/-- The name of a side in a counter. -/
def sideText : Side → String
  | .a => "a"
  | .b => "b"

/-- A record names a branch. -/
def WakeRec.names (r : WakeRec) : Side → Bool
  | .a => r.aNamed
  | .b => r.bNamed

/-- The other branch agrees with an open record (R147): its completion lies in the window, and its received chips differ
from the record's word in no more than `t` chips. -/
def WakeRec.agrees (sd : Side) (tick w t : Nat) (r : WakeRec) : Bool :=
  r.isOpen && !r.agreed && r.first != sd && r.t1 ≤ tick && tick ≤ r.t1 + r.window
    && chipDiff 31 w r.word.toNat ≤ t

/-- The record after an agreement (R149): it names both branches and is closed (log 3). DESIGN CHOICE (log 125): its last
match stays that of the first branch, T1; R151 does not say whether T2 counts. -/
def WakeRec.agree (sd : Side) (tick : Nat) (rssi : Int) (r : WakeRec) : WakeRec :=
  { r with
    agreed := true
    isOpen := false
    aNamed := true
    bNamed := true
    skew := tick - r.t1
    closeAt := max (r.t1 + 3) (tick + 1)
    rssiA := if sd = .a then rssi else r.rssiA
    rssiB := if sd = .b then rssi else r.rssiB }

/-- Branch A is the first branch of a word that both complete at one tick, whichever was told of first (R148). -/
def WakeRec.aFirst (det : WakeDet) (errors syncErr : Nat) (stamp : Stamp) (r : WakeRec) : WakeRec :=
  { r with first := .a, det := det, errors := errors, syncErr := syncErr, stamp := stamp }

/-- The queue with a record behind it; of different words that both branches complete at one tick, branch A's is pushed
first (R152). -/
def pushRec (r : WakeRec) (q : List WakeRec) : List WakeRec :=
  match q.getLast? with
  | some x =>
    if r.first = .a && x.first == .b && x.isOpen && x.t1 == r.t1 then
      q.dropLast ++ [{ r with seq := x.seq }, { x with seq := r.seq }]
    else q ++ [r]
  | none => q ++ [r]

/-- What a match of a record in the queue is (R150, R151): none of the three makes a new wake. -/
inductive Match where
  | late | again | absorbed
  deriving DecidableEq, Repr

/-- Judge a match of the same code and reason against a record in the queue: late on the branch not named, a repeat from
F/2 to 2 F after the last match, or the other branch's copy of a match less than F/2 old (log 20). None after 2 F: the
word is new. -/
def WakeRec.judge (sd : Side) (tick : Nat) (r : WakeRec) : Option Match :=
  if !r.agreed && !r.names sd && r.t1 + r.window < tick && 2 * (tick - r.t1) < r.frameLen then some .late
  else if r.frameLen ≤ 2 * (tick - r.lastMatch) && tick - r.lastMatch ≤ 2 * r.frameLen then some .again
  else if 2 * (tick - r.lastMatch) < r.frameLen then some .absorbed
  else none

/-- Judge a match against the windows that folds opened (R165). -/
def FoldWin.judge (sd : Side) (tick : Nat) (f : FoldWin) : Option Match :=
  if f.first == sd then none
  else if tick ≤ f.t1 + f.window then some .absorbed
  else if 2 * (tick - f.t1) < f.frameLen then some .late
  else none

/-- The first judgement that a list of records or windows gives. -/
def firstJudged {α : Type} (judge : α → Option Match) : List α → Option (α × Match)
  | [] => none
  | x :: xs => match judge x with | some m => some (x, m) | none => firstJudged judge xs

/-- Set the seen bit of a code and reason (R166). -/
def State.setSeen (code reason : Nat) (s : State) : State :=
  s.onWake (fun w =>
    { w with seen := Mem.write w.seen code (Mem.read w.seen code ||| BitVec.ofNat 8 (2 ^ reason)) })

/-- A fold arms an alarm sweep (R169, R170): the first fold of a class fixes its earliest moment, and while a sweep of
the class waits for its turn or its burst nothing more is armed. `wur.sweep.mask` and `wur.sweep.delay` are taken at each
fold (R172, R173). -/
def State.armSweep (reason : Nat) (s : State) : State :=
  let s := (s.fire .fold).fire .sweepArm
  if (s.pnat Obj.sweepMask).testBit reason && s.wake.sweeping != some (reason, false)
      && (assoc reason s.wake.sweeps).isNone && !s.work.rounds.any (fun q => q.sweep && q.reason == reason) then
    s.onWake (fun w => { w with sweeps := w.sweeps ++ [(reason, s.now + ms (s.pnat Obj.sweepDelay))] })
  else s

/-- An armed word that finds 16 records folds (R165, R168, R169). -/
def State.fold (sd : Side) (det : WakeDet) (code reason : Nat) (s : State) : State :=
  let t1 := s.wclk
  let win : FoldWin :=
    { code := code, reason := reason, first := sd, t1 := t1, window := s.pnat Obj.discWindow,
      frameLen := frameCycles det }
  let first := !s.wake.folded
  let s := s.setSeen code reason
  let s := s.onWake (fun w =>
    { w with foldFlag := true, folded := true,
             foldWins := w.foldWins.filter (fun f => decide (t1 ≤ f.t1 + f.window) || decide (2 * (t1 - f.t1) < f.frameLen)) ++ [win] })
  let s := s.count .matcher ("matcher.fold." ++ dec reason)
  let s := if first then s.queue (.fold reason) else s
  (s.armSweep reason).driveWake.wakeEvent

/-- The time-stamp of a word that completes at the present WCLK edge: that edge less the detector's delay (R159). -/
def State.wordStamp (det : WakeDet) (s : State) : Stamp := s.stampBack (s.now - s.wclk * wclkTicks + detDelay det)

/-- An armed word opens a record (R146, R158, R166). -/
def State.record (sd : Side) (det : WakeDet) (d : Decoded) (syncErr : Nat) (rssi : Int) (s : State) : State :=
  let t1 := s.wclk
  let window := s.pnat Obj.discWindow
  let r : WakeRec :=
    { seq := s.wake.seq, code := d.code, reason := d.reason, aNamed := sd == .a, bNamed := sd == .b, first := sd,
      agreed := false, isOpen := true, det := det, errors := d.errors, syncErr := syncErr, skew := 0, repeats := 0,
      rssiA := if sd = .a then rssi else -128, rssiB := if sd = .b then rssi else -128,
      syncIdx := s.pnat Obj.sync, stamp := s.wordStamp det, t1 := t1, window := window, lastMatch := t1,
      closeAt := max (t1 + 3) (t1 + window + 1), frameLen := frameCycles det, word := BitVec.ofNat 31 d.word }
  let s := s.setSeen d.code d.reason
  let s := s.onWake (fun w => { w with queue := pushRec r w.queue, seq := w.seq + 1 })
  s.driveWake.wakeEvent

/-- The record that branch B's word opened at the present edge, when it took the last entry and branch A completes a different
word at that edge: A's record is pushed first, and B's word is the one that folds (R152, R165). -/
def State.lastOfB (sd : Side) (s : State) : Option WakeRec :=
  match s.wake.queue.getLast? with
  | some x => if sd = .a && x.first == .b && x.isOpen && x.t1 == s.wclk then some x else none
  | none => none

/-- Judge a code word that no open record agrees with: armed or not, late, a repeat, a record or a fold (R142 to R151,
R165). -/
def State.judgeWord (sd : Side) (det : WakeDet) (d : Decoded) (syncErr : Nat) (rssi : Int) (s : State) : State :=
  let tick := s.wclk
  if d.code = 0 then s.count .matcher "matcher.code0"
  else if (Mem.read s.wake.masks d.code).getLsbD d.reason = false then s.count .matcher "matcher.unarmed"
  else
    match firstJudged (WakeRec.judge sd tick)
        (s.wake.queue.filter (fun r => r.code == d.code && r.reason == d.reason)).reverse with
    | some (_, .late) => s.count .matcher "matcher.late"
    | some (r, .again) =>
      (s.onWake (fun w =>
        { w with queue := replaceFirst (fun x => x.seq == r.seq)
                   (fun x => { x with repeats := min 255 (x.repeats + 1), lastMatch := tick }) w.queue })).count
        .matcher "matcher.repeat"
    | some (_, .absorbed) => s
    | none =>
      match firstJudged (FoldWin.judge sd tick)
          (s.wake.foldWins.filter (fun f => f.code == d.code && f.reason == d.reason)) with
      | some (_, .late) => s.count .matcher "matcher.late"
      | some (_, _) => s
      | none =>
        if s.wake.queue.length < 16 then s.record sd det d syncErr rssi
        else
          match s.lastOfB sd with
          | some x =>
            ((s.onWake (fun w => { w with queue := w.queue.dropLast, seq := w.seq - 1 })).record sd det d syncErr rssi).fold
              .b x.det x.code x.reason
          | none => s.fold sd det d.code d.reason

/-- A branch has received the 31 chips of a code word, of a frame it aligned on by the tap or by its own path (R101, R142,
R147). -/
def State.matchWord (sd : Side) (w syncErr : Nat) (rssi : Int) (s : State) : State :=
  let b := s.wake.br sd
  let det := if b.det = .direct && b.tap then WakeDet.tap else b.det
  let t := s.pnat Obj.correct
  let tick := s.wclk
  let rssi := clampWake det rssi
  let s := s.onWake (Wake.onBr sd (fun b => { b with align := none, hold := none }))
  let s := s.count .matcher ("matcher.sync." ++ sideText sd)
  if s.blanked then s.count .matcher "matcher.blanked"
  else if s.wake.queue.any (WakeRec.agrees sd tick w t) then
    let stamp := s.wordStamp det
    let agree (r : WakeRec) : WakeRec :=
      let r := WakeRec.agree sd tick rssi r
      if sd = .a && r.t1 == tick then r.aFirst det (chipDiff 31 w r.word.toNat) syncErr stamp else r
    (s.onWake (fun k =>
      { k with queue := replaceFirst (WakeRec.agrees sd tick w t) agree k.queue,
               a := { k.a with disc := 0 }, b := { k.b with disc := 0 } })).count .matcher "matcher.agreed"
  else
    match bchDecode w t with
    | none => s.count .matcher "matcher.reject"
    | some d => s.judgeWord sd det d syncErr rssi

/-! ## Closings (R149, R153, R154) -/

/-- Both branches were LISTEN from T1 − F to the close (R153). -/
def State.bothListened (r : WakeRec) (s : State) : Bool :=
  let ok (b : Branch) : Bool := b.st == .listen && b.listenFrom + r.frameLen ≤ r.t1
  ok s.wake.a && ok s.wake.b

/-- A counter that reached its limit retires its branch (R154), unless no branch would listen (R491). -/
def State.branchLimit (sd : Side) (s : State) : State :=
  if s.pnat Obj.branchLimit ≤ (s.wake.br sd).disc then
    let id : ResId := { kind := .branch, num := Side.num sd }
    if s.lastOne id then s.floorSaid id
    else (s.retire (.self .faultBranch) id 3).onWake (Wake.onBr sd (Branch.stop .retired))
  else s

/-- A single-branch record closes: the counter of the branch not named rises when both listened (R149, R153). -/
def State.closeRecord (r : WakeRec) (s : State) : State :=
  let other := Side.other r.first
  let rises := s.bothListened r
  let s := s.onWake (fun w =>
    { w with queue := replaceFirst (fun x => x.seq == r.seq) (fun x => { x with isOpen := false }) w.queue })
  let s := s.count .matcher ("matcher.single." ++ sideText r.first)
  if rises then
    ((s.fire .counterRise).onWake (Wake.onBr other (fun b => { b with disc := b.disc + 1 }))).branchLimit other
  else s

/-- The closed records of the queue (R161, R162). -/
def Wake.closed (w : Wake) : List WakeRec := w.queue.filter (fun r => !r.isOpen)

/-- The queue has a free entry again: the next fold is the first (R168). -/
def Wake.freed (w : Wake) : Wake := { w with folded := w.folded && 16 ≤ w.queue.length }

end Sys2Proof.Machine
end

