-- ==== Sys2Proof/Machine/Faults.lean ====
section
/-!
DEFINITION. Sys2Proof/Machine/Faults.lean: the commands and events of the fault model (R486 to R499).
-/

namespace Sys2Proof.Machine

/-! ## DO fault.list (R497) -/

/-- A moment that lies ahead, as a time. -/
def State.timeOf (t : Ticks) (s : State) : Stamp := s.stampAhead (t - s.now)

/-- The line of a resource that is resting or retired; a block's with the logical peck that it held (R495; DESIGN CHOICE,
log 149: as `peck=` after its number). -/
def State.resLine (r : Res) (s : State) : OutLine :=
  .fault r.id (if r.id.kind == .block then assoc r.id.num s.store.wear.was else none) r.retired r.rests
    (if r.retired then some r.cause else none) (r.until_.map (fun t => s.timeOf t))

/-- The line of a transmit aerial that rests: its chain's (R488). -/
def State.aerialLine (sd : Side) (s : State) : List OutLine :=
  let (excl, rests) := match sd with | .a => (s.radio.exclA, s.radio.restsA) | .b => (s.radio.exclB, s.radio.restsB)
  match excl with
  | some t =>
    if s.now < t then [.fault { kind := .chain, num := Side.num sd } none false rests none (some (s.timeOf t))] else []
  | none => []

/-- The records of a kind in rising order of their numbers. -/
def State.resOfKind (k : ResKind) (s : State) : List Res :=
  (s.faults.filter (fun r => r.id.kind == k && (r.retired || r.resting))).foldl
    (fun l r => insertBy (fun x => x.id.num) r l) []

/-- Every line of a kind. -/
def State.kindLines (k : ResKind) (s : State) : List OutLine :=
  (s.resOfKind k).map (fun r => s.resLine r) ++ (if k == .chain then s.aerialLine .a ++ s.aerialLine .b else [])

/-- `DO fault.list [kind]`: kind by kind in the order of R495. -/
def execDoFaultList (h : Hdr) (kind : Option ResKind) (s : State) : Ans :=
  .next (s.report h 543 .observer (fun s =>
    let kinds := match kind with | some k => [k] | none => [.chan, .bb, .branch, .lane, .chain, .block, .peer]
    good s (kinds.flatMap (fun k => s.kindLines k) ++ [.dot]) (some 543) none))

/-! ## DO fault.retire (R486, R491 to R493, R497) -/

/-- A resource that the part has (R495). -/
def State.resFits (r : ResId) (s : State) : Bool :=
  match r.kind with
  | .chan => (planChannels s.part.variant).contains r.num
  | .bb => decide (r.num < 20)
  | .branch => decide (r.num < 2)
  | .lane => decide (r.num < 16)
  | .chain => decide (r.num < 2)
  | .block => decide (r.num < 8192 + Config.spareBlocks)
  | .peer => decide (r.num < 65536)

/-- The side of a number. -/
def sideOf (n : Nat) : Side := if n = 0 then .a else .b

/-- What both commands check (R489, R495, R496): the resource, a live handle, and for a channel the network state. -/
def State.faultCheck (a : ResArg) (s : State) : Option (Err × Nat) :=
  let r := a.id
  if !a.fits || !s.resFits r then some (.range, 4)
  else if r.kind == .peer && (s.byHandle (handleOf r.num)).isNone then some (.handle, 0)
  else if (r.kind == .chan || r.kind == .bb) && (s.net.st == .member || s.net.st == .holdover) then some (.state, 0)
  else none

/-- Retire a resource with its exclusion (R488, R492). -/
def State.retireAny (o : Origin) (r : ResId) (cause : Nat) (s : State) : State :=
  match r.kind with
  | .chan => (s.retire o r cause).chanChange r true (effSlot s.slotNow)
  | .bb => (s.retire o r cause).chanChange r true (effSlot s.slotNow)
  | .branch => (s.retire o r cause).onWake (Wake.onBr (sideOf r.num) (Branch.stop .retired))
  | .lane => s.retire o r cause
  | .chain => s.retire o r cause
  | .block => s.retireBlock o r.num cause
  | .peer => s.retirePeer o (handleOf r.num).index cause

/-- `DO fault.retire kind id`: cause 10. The retirement writes its own record (R493); one that R491 forbids, or of a
resource already retired, fails with `!STATE` (log 39). -/
def runDoFaultRetire (h : Hdr) (x : ResArg) (s : State) : Done :=
  let r := x.id
  let obj : Option Nat := some (880 + kindPos r.kind)
  let a : Aud := { action := 9, obj := 880 + kindPos r.kind, old := .num 10, new := .num x.value }
  needs .custodian s obj (some a) (
    match s.faultCheck x with
    | some (e, tok) => bad s e tok obj (some a)
    | none =>
      if (s.res r).retired || s.lastOne r then bad s .state 0 obj (some a)
      else good (s.retireAny (s.lineOrigin h) r 10) [.word "RETIRE"] obj (s.lateAudit h a))

/-- The line of `runDoFaultRetire`. -/
def execDoFaultRetire (h : Hdr) (r : ResArg) (s : State) : Ans :=
  .next (s.change (.doFaultRetire h r) h .do_ true false (runDoFaultRetire h r))

/-! ## DO fault.reinstate (R492, R497) -/

/-- The reinstatement of a resource whose step has passed, but for a chain, whose calibration comes later. -/
def State.reinstateAny (o : Origin) (r : ResId) (s : State) : State :=
  match r.kind with
  | .chan => channel s
  | .bb => channel s
  | .branch =>
    let sd := sideOf r.num
    let s := (s.reinstate o r).onWake (Wake.onBr sd (fun b => { b with disc := 0 }))
    if s.wake.armed && s.branchUsed sd then s.settle sd else s.onWake (Wake.onBr sd (Branch.stop .off))
  | .lane => s.reinstate o r
  | .chain => s
  | .block => (s.reinstate o r).onStore (Store.blockBack r.num)
  | .peer =>
    let i := (handleOf r.num).index
    let s := s.reinstate o r
    match s.entry i with
    | some e => (s.onEntry i (fun e => { e with retired := false, fails := 0, rejects := 0 })).writeMask (codeOf i e)
        (BitVec.ofNat 8 e.maskSaved)
    | none => s
where
  /-- A channel leaves the retired set at its effective slot, or at once when its retirement still waits (R492). -/
  channel (s : State) : State :=
    if s.sched.pending.any (fun p => p.1 == r && p.2.1) then (s.reinstate o r).chanCancel r
    else (s.reinstate o r).chanChange r false (effSlot s.slotNow)

/-- The reinstatement step can fail: a test of a lane or a block (R497). -/
def ResKind.tested (k : ResKind) : Bool := k == .lane || k == .block

/-- `DO fault.reinstate kind id`: `testPassed` is what a lane's memory test or a block's erase and program test finds. A
chain is answered when its calibration ends. -/
def runDoFaultReinstate (h : Hdr) (x : ResArg) (testPassed : Bool) (s : State) : Done :=
  let r := x.id
  let obj : Option Nat := some (900 + kindPos r.kind)
  let a : Aud := { action := 10, obj := 880 + kindPos r.kind, old := .num (s.res r).cause, new := .num x.value }
  needs .custodian s obj (some a) (
    match s.faultCheck x with
    | some (e, tok) => bad s e tok obj (some a)
    | none =>
      if !(s.res r).retired then bad s .state 0 obj (some a)
      else if ResKind.tested r.kind && !testPassed then bad s .fault 0 obj (some a)
      else if r.kind == .chain then
        let o := s.lineOrigin h
        good (s.onRadio (fun k => { k with calAsked := k.calAsked ++ [(.reinstate h o (sideOf r.num), .all, .both)] })) []
          obj (s.lateAudit h a)
      else good (s.reinstateAny (s.lineOrigin h) r) [.word "REINSTATE"] obj (s.lateAudit h a))

/-- The line of `runDoFaultReinstate`. -/
def execDoFaultReinstate (h : Hdr) (r : ResArg) (testPassed : Bool) (s : State) : Ans :=
  .next (s.change (.doFaultReinstate h r testPassed) h .do_ true false (runDoFaultReinstate h r testPassed))

/-! ## Rests and windows (R486 to R488) -/

/-- A rest period ends: the resource is offered again; a chain's calibration is repeated (R488). -/
def execRestPeriodEnd (r : ResId) (s : State) : Ans :=
  .next (
    let k := s.res r
    match k.until_ with
    | some t =>
      if k.resting && !k.retired && decide (t ≤ s.now) then
        let s := s.onRes r (fun k => { k with resting := false, until_ := none })
        if r.kind == .chain then
          s.onRadio (fun q => { q with calAsked := q.calAsked ++ [(.rest (sideOf r.num), .all, .both)] })
        else s
      else s
    | none => s)

/-- The rests of a transmit aerial return to 0 after 60 s without a trip (R487, R488). -/
def Radio.aerialWindow (sd : Side) (now : Ticks) (r : Radio) : Radio :=
  match sd with
  | .a => if r.tripA + secs 60 ≤ now then { r with restsA := 0 } else r
  | .b => if r.tripB + secs 60 ≤ now then { r with restsB := 0 } else r

/-- One window without a transient fault has passed: the rest count and the strikes return to 0 (R487). -/
def execRestWindowExpiry (r : ResId) (s : State) : Ans :=
  .next (
    let s := if r.kind == .chain then s.onRadio (Radio.aerialWindow (sideOf r.num) s.now) else s
    let k := s.res r
    if 0 < restWindow r.kind && !k.resting && decide (k.lastFault + restWindow r.kind ≤ s.now) then
      s.onRes r (fun k => { k with rests := 0, times := [] })
    else s)

/-- A judging window of 256 cells of a channel ends, and a new one starts (R488, R489): a strike when half or more of 32 or
more preambles ended without a passing FCS. The fourth within an hour retires the channel in ROOT, unless 4 channels of H0
would not remain, and is announced in MEMBER and HOLDOVER. The preambles and the bad ones among them are those that the part
has counted: a window with other counts is not its own. -/
def execChannelJudgingWindow (r : ResId) (preambles bad : Nat) (s : State) : Ans :=
  .next (
    let j := s.judgeOf r
    if !s.ccOn || j.cells < 256 || preambles ≠ j.pre || bad ≠ j.pre - j.passed then s
    else
    let s := s.judgeEnd r
    if !s.resFits r || (s.res r).retired || preambles < 32 || 2 * bad < preambles then s
    else if s.faultsInWindow r < 4 then s.strike r
    else
      match s.net.st with
      | .root =>
        if s.chanFloor r then (s.strike r).count .cc "fault.chan.floor"
        else s.retireAny (.self (kindRule r.kind)) r 2
      | .member => (s.strike r).queue (.chanBad r.num)
      | .holdover => (s.strike r).queue (.chanBad r.num)
      | _ => s.strike r)

/-- The hourly comparison of `peer.retire.after` (R488, R498): an entry unreachable that long without a break is
retired. -/
def execPeerRetireHourly (s : State) : Ans :=
  .next (
    if !s.ccOn then s
    else
      let s := s.fire .hourly
      let hours := s.pnat Obj.retireAfter
      if hours = 0 then s
      else
        s.each (s.roster.entries.filter (fun x =>
          x.2.active && x.2.unreach
            && (match x.2.unreachAt with | some t => decide (t + secs (3600 * hours) ≤ s.now) | none => false)))
          (fun x s => s.retirePeer (.self .faultPeer) x.1 9))

end Sys2Proof.Machine
end

