-- ==== Sys2Proof/Machine/Flights.lean ====
section
/-!
DEFINITION. Sys2Proof/Machine/Flights.lean: the commands and events of flights, of the last chance and of reacquisition
(R286, R320 to R337, R366).
-/

namespace Sys2Proof.Machine

/-! ## Commands (R322, R327) -/

/-- The endpoint's transmit counter has ended (R362, R523). -/
def Entry.ctrEnded (e : Entry) : Bool := decide (ctrEnd ≤ e.txCtr.toNat)

/-- The reply to an entered flight (R322). -/
def enteredLine : Entered → List OutLine
  | .table id => [.flightId id]
  | .waiting id pos => [.waitId id pos]
  | .busy => []

/-- Checks that SEND and IMAGE PUSH share, past their ranges (R322, R331, R346, R523): the error, or none. -/
def State.sendFault (h : Handle) (p : Nat) (s : State) : Option Err :=
  if s.roster.netKey.isNone then some .state
  else
    match s.byHandle h with
    | none => some .handle
    | some e =>
      if Entry.ctrEnded e then some .state
      else if e.unreach && p < 7 then some .unreach
      else none

/-- What a fault of these checks counts (R523). -/
def State.sendFaultCount (h : Handle) (s : State) : State :=
  match s.roster.netKey, s.byHandle h with
  | some _, some e => if Entry.ctrEnded e then s.count .cc "sec.ctr.end" else s
  | _, _ => s

/-- SEND (R322). The default deadline is that of `flight.deadline`, whose range `dl` shares (log 34). -/
def execSend (h : Hdr) (handle : HandleArg) (kind : FlightKind) (p dl r call : Option Int) (data : List Byte) (s : State) :
    Ans :=
  .next (s.verb h .send false false (fun s =>
    needs .operator s none none (
      let prio := argOr 3 p
      let s := s.fire .send
      let len := argOr (s.pint Obj.flightDeadline) dl
      let reason := argOr 0 r
      let called := argOr 0 call
      let hd := handle.get
      if !handle.fits then bad s .range 2 none none
      else if kind == .push then bad s .range 3 none none
      else if !inRange 0 7 prio || !inRange 10 1000000 len || !inRange 0 7 reason || !inRange 0 1 called
          || 32 < data.length || (called == 1 && handle.index == 0) then bad s .range 4 none none
      else
        match s.sendFault hd prio.toNat with
        | some e => bad (s.sendFaultCount hd) e 0 none none
        | none =>
          let f := Flight.make hd kind prio.toNat (called == 1) (s.slotNow + len.toNat) reason.toNat data none none
          match s.newFlight f with
          | (.busy, s) => bad s .busy 0 none none
          | (x, s) => good s (enteredLine x) none none)))

/-- A flight's line (R327). -/
def flightLine (f : Flight) : OutLine :=
  .flight f.id f.handle f.kind f.prio f.st f.deadline f.attempts f.lane

/-- The waiting list in the order in which it will be admitted (R323). -/
def admissionOrder (l : List Flight) : List Flight := l.foldl (fun l f => insertBy (fun g => 7 - g.prio) f l) []

/-- `DO flight.list` (R327). -/
def execDoFlightList (h : Hdr) (s : State) : Ans :=
  .next (s.report h 526 .observer (fun s =>
    good s ((s.work.table ++ admissionOrder s.work.waiting).map flightLine ++ [.dot]) (some 526) none))

/-- An attempt of a flight is in progress: in the air, or a burst, listening period or frame of its last chance. -/
def State.midAttempt (f : Flight) (s : State) : Bool :=
  match f.st with
  | .air => true
  | .lastchance =>
    f.awaiting || f.frameAt.isSome || s.burstPending (.lastChance f.handle.index)
      || (match s.lcOf f.handle.index with | some q => q.listen.isSome | none => false)
  | _ => false

/-- Cancel a flight: at once, or when its attempt ends (R326). -/
def State.cancelFlight (f : Flight) (s : State) : State :=
  if s.midAttempt f then s.onFlight f.id (fun f => { f with cancel := true })
  else
    let s := s.endFlight f.id .cancel
    if f.st == .lastchance && (s.lcFlights f.handle.index).isEmpty then s.lcOver f.handle.index else s

/-- `DO flight.cancel id` (R327). An ID that no flight has is out of range. -/
def runDoFlightCancel (h : Hdr) (id : Int) : State → Done :=
  actionRun 527 .operator (fun s aud =>
    match (if inRange 1 65535 id then s.flight id.toNat else none) with
    | none => bad s .range 3 (some 527) aud
    | some f => good (s.cancelFlight f) [.flightId f.id] (some 527) aud)

/-- The line of `runDoFlightCancel`. -/
def execDoFlightCancel (h : Hdr) (id : Int) (s : State) : Ans :=
  .next (s.change (.doFlightCancel h id) h .do_ true false (runDoFlightCancel h id))

/-! ## Sending a flight's frame (R206, R212, R324, R363, R366) -/

/-- The kind of a flight's frame: an ADMIT for group codes (R353, R357), PROBE for a probe, DATA else. -/
def Flight.frameKind (f : Flight) : FrameKind :=
  if f.groups.isSome then .admission else match f.kind with | .probe => .probe | _ => .data

/-- The part floods, as its origin, the frame of an allowed class that it sends to an endpoint (R366, R370): in its next
RELAY cell (log 31). -/
def State.originate (f : Frame) (reason : Nat) (s : State) : State :=
  if s.pint Obj.relayFlood == 1 && s.floodClass reason && f.kind == .data then
    let s := s.fire .floodOrigin
    s.onRoster (fun r =>
      { r with replays := r.replays ++
          [{ flood := { hops := s.pnat Obj.relayHops, hopClass := BitVec.ofNat 3 reason, innerKind := .data, inner := f },
             from_ := s.time.slot, own := true }] })
  else s

/-- Send the frame of a flight on a lane, a channel and a rate: the counter is raised first, and a counter that has ended
sends nothing and fails the attempt (R362, R363). A scheduled frame stands at its T_air. -/
def State.sendFlight (f : Flight) (n : Fin 16) (rate ch : Nat) (scheduled : Bool) (s : State) : State :=
  let i := f.handle.index
  match s.roster.netKey, s.entry i with
  | some nk, some e =>
    match s.nextTx i with
    | (none, s) => if f.st == .lastchance then s.lcFail i .noAck else s.failAttempt f.id false
    | (some c, s) =>
      let s := s.fire .frame
      let fr := s.securedFrame nk f.frameKind (some i) e.id c f.reason true f.payload
      let s := s.onFlight f.id (fun g => { g with ctr := c, lane := some n, awaiting := false, frameAt := none })
      let s := if 16 ≤ i then s.originate fr f.reason else s
      let tx := s.frameTx (.flight f.id) (.frame fr) (Flight.class7 f) (psduOctets f.payload.length s.micCode.val) rate ch
      if scheduled then s.launch 0 tx else s.transmit tx
  | _, _ => s

/-! ## Attempts (R323 to R325) -/

/-- The frames that go out 8 ms after an answer or after the acknowledgement of the one before (R324, R335, R337): on the
start channel, or on C_i. -/
def State.sendDue (f : Flight) (s : State) : State :=
  match f.frameAt, f.lane with
  | some t, some n =>
    if s.now < t || s.txBarred || !s.txFree || s.anyPayload then s
    else if f.st == .lastchance then
      let ch := s.lcChannel (((s.lcOf f.handle.index).map LcSeq.attempt).getD 1)
      if (s.chanHolder n s.phyRate ch).isSome then s
      else (s.listenOn n (.lastChance f.handle.index) ch 3).sendFlight f n s.phyRate ch false
    else s.sendFlight f n s.phyRate s.startChannel false
  | _, _ => s

/-- A flight's attempt is on its way on a lane. -/
def State.flightAir (id : Nat) (n : Fin 16) (s : State) : State := s.onFlight id (fun g => { g with st := .air, lane := some n })

/-- The attempt of a flight in a TX cell at its turn: it goes on the air, waits, or has lost the cell (R178, R209, R325). -/
def State.cellTurn (f : Flight) (i : Nat) (n : Fin 16) (rate ch : Nat) (s : State) : State :=
  match s.takeAir (bandOf rate) 0 with
  | (.go, s) => ((s.cellUsed i).flightAir f.id n).sendFlight { f with st := .air } n rate ch true
  | (.busy, s) => s
  | (.denied, s) => s.cellUsed i
  | (.lost, s) => ((s.cellUsed i).flightAir f.id n).failAttempt f.id false

/-- The attempt of a flight in a TX cell that has started on its lane (R273, R324): at its turn it goes out at once, without
grant the cell is skipped, and where the grant is lost the attempt is abandoned (R208 to R210, R325). -/
def State.cellAttempt (f : Flight) (i : Nat) (s : State) : State :=
  match assoc i s.sched.run, assoc i s.sched.cells with
  | some ch, some c =>
    let n : Fin 16 := Fin.ofNat 16 c.lane
    if c.kind == .tx && s.rx.lanes[n].holder == .cell i && (bestWaiting (s.cellFlights c)).map Flight.id == some f.id then
      s.cellTurn f i n (s.cellRate c.rate) ch
    else s
  | _, _ => s

/-- A called attempt takes the highest-numbered free lane and asks for its burst (R299, R324); without a lane it waits,
which is counted once for the attempt, and an endpoint without a code cannot be called (R111). -/
def State.calledAttempt (f : Flight) (s : State) : State :=
  let ready := f.st == .ready || (f.st == .backoff && decide (f.nextTry ≤ s.now))
  if !f.called || !ready then s
  else
    let code := ((s.entry f.handle.index).map (codeOf f.handle.index)).getD 0
    let d := (s.makeBurst code 6 (s.pnat Obj.sync) (s.pnat Obj.txRepeat) (.called f.id)).length + ms 100
    match s.listenLane d s.startChannel with
    | none => if f.waits then s else (s.onFlight f.id (fun g => { g with waits := true })).count .lanes "lane.wait"
    | some n =>
      let s := s.onFlight f.id (fun g => { g with st := .air, lane := some n, frameAt := none, awaiting := false, waits := false })
      if code = 0 then s.failAttempt f.id true
      else (s.listenOn n (.called f.id) s.startChannel 3).scheduleBurst code 6 (.called f.id)

/-- An attempt begins: in a TX cell, or with a called burst (R324). A frame that is due after an answer goes out. -/
def execFlightAttempt (id : Nat) (cell : Option Nat) (s : State) : Ans :=
  .next (
    match s.work.table.find? (fun f => f.id == id) with
    | none => s
    | some f =>
      if s.txBarred || s.roundRuns then s
      else if f.frameAt.isSome then s.sendDue f
      else
        match cell with
        | some i => s.cellAttempt f i
        | none => s.calledAttempt f)

/-- A flight's frame has gone unanswered: 1,020 µs after its end no acknowledgement has begun, or the cell of an EXCHANGE
is over (R300, R321, R325). -/
def State.unanswered (f : Flight) (s : State) : Bool :=
  f.awaiting && (match f.lane with | some n => !s.receiving s.rx.lanes[n] | none => true)
    && (match f.kind with
        | .exchange => decide (f.sentEnd < s.time.slotAt)
        | _ => decide (f.sentEnd + us 1020 ≤ s.now))

/-- An attempt ends without success (R325, R335): in silence, or abandoned for a cause in the anchor. -/
def execAttemptFail (id : Nat) (cause : FailCause) (s : State) : Ans :=
  .next (
    match s.work.table.find? (fun f => f.id == id) with
    | none => s
    | some f =>
      match cause with
      | .silence =>
        if !s.unanswered f then s
        else if f.st == .lastchance then s.lcFail f.handle.index .noAck
        else if f.st == .air then s.failAttempt id true
        else s
      | .abandoned => if f.st == .air then s.failAttempt id false else s)

/-- No answer came within 100 ms of the burst's end: a called attempt fails, or an attempt of the last chance
(R324, R335). -/
def execCalledListenTimeout (id : Nat) (s : State) : Ans :=
  .next (
    match s.work.table.find? (fun f => f.id == id) with
    | none => s
    | some f =>
      match f.st with
      | .air =>
        if f.called && f.frameAt.isNone && !f.awaiting && !s.burstPending (.called id) && decide (f.nextTry ≤ s.now)
            && (match f.lane with | some n => s.rx.lanes[n].holder == .called id | none => false) then
          s.failAttempt id true
        else s
      | .lastchance =>
        match s.lcOf f.handle.index with
        | some q =>
          match q.listen with
          | some t => if !q.answered && decide (t ≤ s.now) then s.lcFail q.index .noAnswer else s
          | none => s
        | none => s
      | _ => s)

/-! ## The last chance (R334 to R337) -/

/-- Burst i is requested (i − 1) s after the trigger; an entry without a code fails all three attempts at once (R335). -/
def execLastChanceBurst (index : Nat) (s : State) : Ans :=
  .next (
    match s.lcOf index with
    | none => s
    | some q =>
      let code := ((s.entry index).map (codeOf index)).getD 0
      if 3 < q.attempt || q.listen.isSome || q.answered || s.burstPending (.lastChance index)
          || s.now < q.trigger + secs (q.attempt - 1) then s
      else if code = 0 then s.each (List.range (4 - q.attempt)) (fun _ s => s.lcFail index .noAnswer)
      else s.scheduleBurst code 6 (.lastChance index))

/-- The frame of a flight as a class 7 flood with this unit as its origin (R336); none when it cannot be flooded. -/
def State.floodFlight (f : Flight) (s : State) : Option State :=
  match s.roster.netKey, s.entry f.handle.index with
  | some nk, some e =>
    if s.pint Obj.relayFlood == 1 && s.floodClass 7 && f.frameKind == .data && f.kind != .push then
      match s.nextTx f.handle.index with
      | (some c, s) =>
        let fr := s.securedFrame nk .data (some f.handle.index) e.id c 7 false f.payload
        some (s.originate fr 7)
      | (none, _) => none
    else none
  | _, _ => none

/-- After the third failed attempt each flight of the sequence is flooded, or ends UNREACH (R336, R337). -/
def execLastChanceFlood (index : Nat) (s : State) : Ans :=
  .next (
    match s.lcOf index with
    | none => s
    | some q =>
      if q.attempt < 4 then s
      else
        let s := s.each (s.lcFlights index) (fun f s =>
          match s.floodFlight f with
          | some s => s.endFlight f.id .flood
          | none => s.endFlight f.id .unreach)
        s.lcOver index)

/-! ## Reacquisition (R286) -/

/-- A reacquisition has failed: the partner stays lost, and the failure counts against its entry (R286, R325). -/
def State.reacqFailed (i : Nat) (s : State) : State :=
  let s := s.onNet (fun n => { n with reacq := n.reacq.filter (fun q => q.index ≠ i) })
  let s := s.onEntry i (fun e => { e with fails := min 255 (e.fails + 1) })
  let s := s.fire .failedAttempt
  if !s.unreachable i && s.pnat Obj.failLimit ≤ ((s.entry i).map Entry.fails).getD 0 then s.markUnreach i else s

/-- A listening period of 200 ms is over, or the second after a burst: the next burst, at most three in all (R286). -/
def execReacquireTimeout (s : State) : Ans :=
  .next (
    s.each (s.net.reacq.filter (fun q => decide (q.nextAt ≤ s.now))) (fun q s =>
      if s.burstPending (.reacquire q.index) then s
      else if q.listening then
        let s := s.releaseAll (fun h => h == .reacquire q.index)
        let s := s.onNet (fun n =>
          { n with reacq := replaceFirst (fun x => x.index == q.index)
                     (fun x => { x with tries := x.tries + 1, listening := false, nextAt := x.reqAt + secs 1 }) n.reacq })
        if 3 ≤ q.tries + 1 then s.reacqFailed q.index else s
      else if 3 ≤ q.tries then s.reacqFailed q.index
      else s.reacqBurst q.index))

end Sys2Proof.Machine
end

