-- ==== Sys2Proof/Machine/Images.lean ====
section
/-!
DEFINITION. Sys2Proof/Machine/Images.lean: the IMAGE verb, verification, the trial of a self-image, and PUSH flights
(R464 to R485).
-/

namespace Sys2Proof.Machine

/-! ## Shared by the forms of IMAGE (R467) -/

/-- The audit record of a stage that a line asks for (R89, R476, R521). -/
def State.imgAud (r : ImageRef) (to_ : Stage) (s : State) : Option Aud :=
  some { action := 7, obj := imgObj r, old := .num (stageNum (s.stageOf r)), new := .num (stageNum to_) }

/-- What a form of IMAGE that changes a stage does, at CUSTODIAN. -/
def imageRun (aud : State → Option Aud) (run : State → Option Aud → Done) (s : State) : Done :=
  needs .custodian s none (aud s) (run s (aud s))

/-- A form of IMAGE that changes no stage, at CUSTODIAN. -/
def State.imageVerb (h : Hdr) (run : State → Done) (s : State) : Ans :=
  .next (s.verb h .image false false (fun s => needs .custodian s none none (run s)))

/-- The line of this command becomes the origin of the stages it leads to (log 43). -/
def State.imageBy (h : Hdr) (s : State) : State := s.onImage (fun m => { m with lastBy := s.lineOrigin h })

/-- A library slot number (R467). -/
def slotOk (n : Int) : Bool := inRange 0 62 n

/-- The image a form names: the self-image, or a library slot. -/
def refOf (lib : Option Int) : ImageRef := match lib with | some n => .lib n.toNat | none => .self

/-- The slot argument of a form is in range. -/
def refOk (lib : Option Int) : Bool := match lib with | some n => slotOk n | none => true

/-- A slot that a download or a verification uses. -/
def State.imgBusy (r : ImageRef) (s : State) : Bool :=
  (s.image.download.map Download.what) == some r || s.image.verify == some r

/-- A PUSH flight uses a library slot (R467). -/
def State.pushUses (k : Nat) (s : State) : Bool :=
  (s.work.table ++ s.work.waiting).any (fun f => (f.push.map PushSess.lib) == some k)

/-! ## Downloads (R467 to R469) -/

/-- The pecks of an image's slot (R442, R479): the image area of the inactive slot, or 16 of LIBRARY. -/
def State.slotPecks (r : ImageRef) (s : State) : List Nat :=
  match r with
  | .self => (List.range 24).map (fun k => (if s.image.boot.activeB then 0 else 32) + k)
  | .lib n => (List.range 16).map (fun k => libraryPeck0 + 16 * n + k)

/-- A download opens: the slot is erased. -/
def State.openImage (h : Hdr) (r : ImageRef) (len : Nat) (s : State) : State :=
  let s := s.onStore (Store.erasePecks (s.slotPecks r))
  let s := ((s.putImg r (some { len := len, bytes := [], head := none, pecks := 0, ok := false })).setStage r .download).imageBy h
  s.onImage (fun m => { m with download := some { what := r, times := [], last := s.now, stalled := false } })

/-- IMAGE BEGIN SELF: from IDLE and VERIFIED, while no download runs. -/
def runImageBeginSelf (h : Hdr) (len : Int) : State → Done :=
  imageRun (State.imgAud .self .download) (fun s aud =>
    if !inRange 4097 25165824 len then bad s .range 4 none aud
    else if s.image.download.isSome || !(s.image.stage == .idle || s.image.stage == .verified) then bad s .state 0 none aud
    else good (s.openImage h .self len.toNat) [.num 0] none aud)

/-- The line of `runImageBeginSelf`. -/
def execImageBeginSelf (h : Hdr) (len : Int) (s : State) : Ans :=
  .next (s.change (.imageBeginSelf h len) h .image false false (runImageBeginSelf h len))

/-- IMAGE BEGIN LIB. -/
def runImageBeginLib (h : Hdr) (slot len : Int) : State → Done :=
  imageRun (State.imgAud (.lib slot.toNat) .download) (fun s aud =>
    if !slotOk slot then bad s .range 4 none aud
    else if !inRange 4097 16777216 len then bad s .range 5 none aud
    else if s.image.download.isSome || s.imgBusy (.lib slot.toNat) then bad s .state 0 none aud
    else good (s.openImage h (.lib slot.toNat) len.toNat) [.num 0] none aud)

/-- The line of `runImageBeginLib`. -/
def execImageBeginLib (h : Hdr) (slot len : Int) (s : State) : Ans :=
  .next (s.change (.imageBeginLib h slot len) h .image false false (runImageBeginLib h slot len))

/-- The pecks of payload that the bytes complete, one after another: each is hashed (R468). The answer says whether all
of them held; a bad one takes the bytes back to its start. -/
def checkPecks (payload : Nat) : Nat → Img → Bool × Img
  | 0, i => (true, i)
  | n + 1, i =>
    let start := hdrLen + peckLen * i.pecks
    let stop := min (start + peckLen) (hdrLen + payload)
    if start < stop && stop ≤ i.bytes.length then
      if peckGood i.pecks i.bytes then checkPecks payload n { i with pecks := i.pecks + 1 }
      else (false, { i with bytes := i.bytes.take start })
    else (true, i)

/-- What becomes of a DATA line's bytes: more are wanted, the header is bad, a peck is bad, or the image is complete. -/
inductive Taken where
  | more | badHead | badPeck | complete
  deriving DecidableEq, Repr

/-- Bytes are taken at the next place (R468). -/
def Img.take (r : ImageRef) (data : List Byte) (i : Img) : Taken × Img :=
  let i := { i with bytes := i.bytes ++ data }
  if i.bytes.length < hdrLen then (.more, i)
  else if i.head.isNone && !headGood r i.len i.bytes then (.badHead, i)
  else
    let i := { i with head := some (i.head.getD (headOf i.bytes)) }
    let (good, i) := checkPecks ((i.head.map ImgHead.payload).getD 0) 2 i
    (if !good then .badPeck else if i.bytes.length = i.len then .complete else .more, i)

/-- A DATA line was taken: its time is kept for the expected interval (R469). -/
def Download.taken (now : Ticks) (d : Download) : Download :=
  { d with times := (now :: d.times).take 16, last := now, stalled := false }

/-- Verification begins (R470). -/
def State.beginVerify (r : ImageRef) (s : State) : State := s.onImage (fun m => { m with verify := some r })

/-- The octets of the pages that fill when an image of a length grows (R468, R512): whole pages of 16 KiB, and at its end the
codewords of the last one. -/
def imageWritten (len old new : Nat) : Nat :=
  if new < len then (new / 16384 - old / 16384) * 16384 else (new + 2047) / 2048 * 2048 - old / 16384 * 16384

/-- IMAGE DATA: bytes at the offset expected; the reply says where the next are expected. -/
def execImageData (h : Hdr) (offset : Int) (data : List Byte) (s : State) : Ans :=
  s.imageVerb h (fun s =>
    match s.image.download with
    | none => bad s .state 0 none none
    | some d =>
      match s.img d.what with
      | none => bad s .state 0 none none
      | some i =>
        if offset < 0 then bad s .range 3 none none
        else if data.isEmpty || 64 < data.length || i.len < i.bytes.length + data.length then bad s .range 4 none none
        else if offset ≠ i.bytes.length then bad s .order 3 none none
        else
          let s := (s.imageBy h).onImage (fun m => { m with download := some (d.taken s.now) })
          let s := s.bytes .storeWr (imageWritten i.len i.bytes.length (i.bytes.length + data.length))
          match i.take d.what data with
          | (.more, i) => good (s.putImg d.what (some i)) [.num i.bytes.length] none none
          | (.badPeck, i) => bad ((s.putImg d.what (some i)).count .cc "image.hash.bad") .hash 4 none none
          | (.badHead, _) =>
            let s := (s.putImg d.what none).onImage (fun m => { m with download := none })
            bad (s.stageNow d.what .idle) .format 4 none none
          | (.complete, i) =>
            let s := (s.putImg d.what (some i)).onImage (fun m => { m with download := none })
            good ((s.stageNow d.what .verifying).beginVerify d.what) [.num i.bytes.length] none none)

/-- Three times the expected interval (R469): the mean time between the last 16 taken lines, 1 s at least. -/
def Download.patience (d : Download) : Ticks :=
  match d.times.head?, d.times.getLast? with
  | some a, some b => 3 * max (secs 1) ((a - b) / max 1 (d.times.length - 1))
  | _, _ => 3 * secs 1

/-- No DATA line for that long: the download stalls, and the bytes after the last verified peck are discarded. -/
def execImageStall (s : State) : Ans :=
  .next (
    match s.image.download with
    | none => s
    | some d =>
      if !s.running || d.stalled || s.now < d.last + d.patience then s
      else
        match s.img d.what with
        | none => s
        | some i =>
          let s := (s.putImg d.what (some i.cutBack)).onImage (fun m => { m with download := some { d with stalled := true, times := [] } })
          (s.count .cc "image.stall").queue (.imageStall i.cutBack.bytes.length))

/-- IMAGE STATUS. -/
def execImageStatus (h : Hdr) (lib : Option Int) (s : State) : Ans :=
  s.imageVerb h (fun s =>
    if !refOk lib then bad s .range 4 none none
    else
      let r := refOf lib
      let i := s.img r
      let hd := i.bind Img.head
      let ver := match r with | .self => s.image.activeVer | .lib _ => (hd.map ImgHead.ver).getD (0, 0, 0)
      good s [.imageStatus (s.stageOf r) ((i.map (fun i => i.bytes.length)).getD 0) ((i.map Img.pecks).getD 0)
        ((hd.map ImgHead.pecks).getD 0) s.image.boot.activeB ver s.image.boot.boots] none none)

/-! ## Verification (R470) -/

/-- The error of a complete image, none when every check passes: signature, security counter, pecks. -/
def State.verifyFault (r : ImageRef) (i : Img) (s : State) : Option Err :=
  let hd := headOf i.bytes
  let key := match r with | .self => some Config.vendorKey | .lib _ => s.roster.libKey
  if !((key.map (fun k => signed k i.bytes)).getD false) then some .sign
  else if r == .self && hd.counter < s.image.boot.floor then some .version
  else if !(List.range hd.pecks).all (fun k => peckGood k i.bytes) then some .hash
  else none

/-- IMAGE VERIFY: a complete image is verified again. -/
def runImageVerify (h : Hdr) (lib : Option Int) : State → Done :=
  imageRun (State.imgAud (refOf lib) .verifying) (fun s aud =>
    let r := refOf lib
    if !refOk lib then bad s .range 4 none aud
    else
      match s.img r with
      | none => bad s .state 0 none aud
      | some i =>
        if i.head.isNone || i.bytes.length ≠ i.len || s.image.verify.isSome || s.imgBusy r
            || (s.stageOf r == .trial) then bad s .state 0 none aud
        else good (((s.setStage r .verifying).beginVerify r).imageBy h) [.bare] none aud)

/-- The line of `runImageVerify`. -/
def execImageVerify (h : Hdr) (lib : Option Int) (s : State) : Ans :=
  .next (s.change (.imageVerify h lib) h .image false false (runImageVerify h lib))

/-- The verification ends: the result is queued, and the image is VERIFIED or back to IDLE. -/
def execImageVerifyDone (s : State) : Ans :=
  .next (
    match s.image.verify with
    | none => s
    | some r =>
      if !s.ccOn then s
      else
        let s := s.onImage (fun m => { m with verify := none })
        match s.img r with
        | none => s
        | some i =>
          let s := s.bytes .storeRd ((i.bytes.length + 2047) / 2048 * 2048)
          match s.verifyFault r i with
          | none => ((s.putImg r (some { i with ok := true })).stageNow r .verified).queue (.image .verified r)
          | some e => ((s.putImg r (some { i with ok := false })).stageNow r .idle).queue (.image (.failed e) r))

/-! ## Activation, trial, confirmation (R471 to R478) -/

/-- IMAGE ACTIVATE: the boot selector names the new slot on trial, and a warm start follows 1 ms after the reply
(log 44). -/
def runImageActivate (h : Hdr) : State → Done :=
  imageRun (State.imgAud .self .trial) (fun s aud =>
    match s.image.selfImg with
    | some i =>
      if s.image.stage != .verified || !i.ok || s.image.boot.trial || s.work.table.any (fun f => f.st == .lastchance) then
        bad s .state 0 none aud
      else
        let s := (s.imageBy h).onImage (fun m => { m with stage := .trial })
        let s := s.writeBoot (fun b =>
          { seq := b.seq + 1, activeB := !b.activeB, trial := true, prevOk := true, boots := 0, active := digestOf i.bytes,
            prev := b.active, floor := b.floor })
        good (s.onPm (fun p => { p with resetAt := some (s.now + ms 1, .warm .activate) })) [.word "ACTIVATE"] none aud
    | none => bad s .state 0 none aud)

/-- The line of `runImageActivate`. -/
def execImageActivate (h : Hdr) (s : State) : Ans :=
  .next (s.change (.imageActivate h) h .image false false (runImageActivate h))

/-- The images of the two slots change places: the other one runs. -/
def Images.swap (m : Images) : Images :=
  let other := m.selfImg.bind Img.head
  { m with
    selfImg := m.activeImg
    activeImg := m.selfImg
    activeVer := (other.map ImgHead.ver).getD m.prevVer
    activeCtr := (other.map ImgHead.counter).getD m.prevCtr
    prevVer := m.activeVer
    prevCtr := m.activeCtr }

/-- The loader reverts to the previous image (R474). -/
def State.revertImage (s : State) : State :=
  let s := s.onImage (fun m =>
    { m.swap with confirmAt := none })
  let s := s.writeBoot (fun b =>
    { b with seq := b.seq + 1, activeB := !b.activeB, trial := false, prevOk := false, boots := 0, active := b.prev, prev := b.active })
  ((s.stageNow .self .idle).count .cc "image.revert").queue (.image .reverted .self)

/-- The loader at a start (R474, R475): a trial counts its boot, runs its self-test, and is given its time; after three
boots, or when the self-test fails, it is reverted. -/
def State.loader (selfTest : Bool) (s : State) : State :=
  if !s.image.boot.trial then s
  else if 3 ≤ s.image.boot.boots then s.revertImage
  else
    let first := s.image.boot.boots = 0
    let s := s.onImage (fun m => if first then m.swap else m)
    let s := s.writeBoot (fun b => { b with seq := b.seq + 1, boots := b.boots + 1 })
    if !selfTest then s.revertImage
    else
      let s := s.fire .trialStart
      s.onImage (fun m => { m with confirmAt := some (s.now + secs (60 * s.pnat Obj.imageConfirm)) })

/-- What any start does to downloads (R477): bytes after the last verified peck are lost. -/
def State.downloadLoss (s : State) : State :=
  match s.image.download with
  | none => s
  | some d =>
    let s := match s.img d.what with | some i => s.putImg d.what (some i.cutBack) | none => s
    s.onImage (fun m => { m with download := some { d with times := [], last := s.now, stalled := false } })

/-- IMAGE CONFIRM: the trial ends, and the floor rises to the image's security counter (R475). -/
def runImageConfirm (h : Hdr) : State → Done :=
  imageRun (State.imgAud .self .idle) (fun s aud =>
    if s.image.stage != .trial then bad s .state 0 none aud
    else
      let ctr := s.image.activeCtr
      good (((s.imageBy h).onImage (fun m => { m with stage := .idle, confirmAt := none })).writeBoot (fun b =>
          { b with seq := b.seq + 1, trial := false, boots := 0, floor := max b.floor ctr }))
        [.word "CONFIRM"] none aud)

/-- The line of `runImageConfirm`. -/
def execImageConfirm (h : Hdr) (s : State) : Ans :=
  .next (s.change (.imageConfirm h) h .image false false (runImageConfirm h))

/-- What IMAGE ABORT ends: a download, else a verification, else a verified self-image (R467, R476). -/
def State.abortRef (s : State) : Option ImageRef :=
  match s.image.download, s.image.verify with
  | some d, _ => some d.what
  | none, some r => some r
  | none, none => if s.image.stage == .verified then some .self else none

/-- IMAGE ABORT: the slot is marked empty. -/
def runImageAbort (h : Hdr) : State → Done :=
  imageRun (fun s => s.imgAud (s.abortRef.getD .self) .idle) (fun s aud =>
    match s.abortRef with
    | none => bad s .state 0 none aud
    | some r =>
      let s := ((s.putImg r none).setStage r .idle).imageBy h
      good (s.onImage (fun m => { m with download := if s.image.download.isSome then none else m.download,
                                          verify := if s.image.download.isSome then m.verify else none }))
        [.word "ABORT"] none aud)

/-- The line of `runImageAbort`. -/
def execImageAbort (h : Hdr) (s : State) : Ans :=
  .next (s.change (.imageAbort h) h .image false false (runImageAbort h))

/-- IMAGE DROP LIB. -/
def runImageDropLib (h : Hdr) (slot : Int) : State → Done :=
  imageRun (State.imgAud (.lib slot.toNat) .idle) (fun s aud =>
    let r := ImageRef.lib slot.toNat
    if !slotOk slot then bad s .range 4 none aud
    else if s.pushUses slot.toNat || s.imgBusy r || (s.img r).isNone then bad s .state 0 none aud
    else good (((s.putImg r none).setStage r .idle).imageBy h) [.word "DROP"] none aud)

/-- The line of `runImageDropLib`. -/
def execImageDropLib (h : Hdr) (slot : Int) (s : State) : Ans :=
  .next (s.change (.imageDropLib h slot) h .image false false (runImageDropLib h slot))

/-- IMAGE LIST: the library slots that hold an image, by slot. -/
def execImageList (h : Hdr) (s : State) : Ans :=
  s.imageVerb h (fun s =>
    let l := s.image.lib.foldl (fun l x => insertBy (fun y => y.1) x l) []
    good s (l.filterMap (fun x => x.2.head.map (fun hd => OutLine.imageSlot x.1 hd.ver hd.target hd.digest x.2.ok)) ++ [.dot])
      none none)

/-! ## PUSH flights (R479 to R485) -/

/-- Where the push of an image to an endpoint goes on (R484): the newest record the directory names, while a ring or the
cache holds it. -/
def State.pushResume (lib : Nat) (id : Eui) (hd : ImgHead) (s : State) : PushSess :=
  let fresh := PushSess.from_ lib hd hdrPeck 0 0 false
  match s.store.pushDir.find? (fun x => x.1 == id && x.2.1 == hd.digest) with
  | none => fresh
  | some x =>
    match s.store.allLedger.find? (fun r => r.seq == x.2.2 && !r.lost) with
    | some r =>
      match r.body with
      | .push _ _ _ _ _ _ _ peck block bitmap header _ _ => PushSess.from_ lib hd peck block bitmap header
      | _ => fresh
    | none => fresh

/-- A flight of the entry that pushes an image. -/
def State.hasPush (h : Handle) (s : State) : Bool :=
  (s.work.table ++ s.work.waiting).any (fun f => f.handle == h && f.kind == .push)

/-- IMAGE PUSH (R480). A push with nothing left to send is DONE at once. -/
def execImagePush (h : Hdr) (slot : Int) (handle : HandleArg) (p dl : Option Int) (s : State) : Ans :=
  s.imageVerb h (fun s =>
    let prio := argOr 2 p
    let to_ := handle.get
    if !slotOk slot then bad s .range 3 none none
    else if !handle.fits then bad s .range 4 none none
    else if !inRange 0 6 prio then bad s .range 5 none none
    else if !inRange 10 1000000 (argOr 10 dl) then bad s .range 6 none none
    else
      match s.sendFault to_ prio.toNat with
      | some e => bad (s.sendFaultCount to_) e 0 none none
      | none =>
        match assoc slot.toNat s.image.lib, s.byHandle to_ with
        | some i, some e =>
          match i.head with
          | some hd =>
            if !i.ok || s.stageOf (.lib slot.toNat) != .verified || e.model = 0 || hd.target ≠ e.model || s.hasPush to_ then
              bad s .state 0 none none
            else
              let dead := match dl with | some d => s.slotNow + d.toNat | none => 2 ^ 40 - 1
              let x := s.pushResume slot.toNat e.id hd
              match s.newFlight (Flight.make to_ .push prio.toNat false dead 0 [] none (some x)) with
              | (.busy, s) => bad s .busy 0 none none
              | (.table id, s) => good (if x.complete then s.endFlight id .done else s) [.flightId id] none none
              | (y, s) => good s (enteredLine y) none none
          | none => bad s .state 0 none none
        | _, _ => bad s .state 0 none none)

/-- A PUSH cell that has started on its lane, with its channel. -/
def State.pushCell (i : Nat) (s : State) : Option (Cell × Nat) :=
  match assoc i s.sched.run, assoc i s.sched.cells with
  | some ch, some c =>
    if c.kind == .lane && c.arg = 4 && s.rx.lanes[(Fin.ofNat 16 c.lane)].holder == .cell i then some (c, ch) else none
  | _, _ => none

/-- A block and its acknowledgement end before the slot does (R480): the acknowledgement begins 1 ms after the block. -/
def State.blockFits (rate : Nat) (s : State) : Bool :=
  let pre := s.pnat Obj.phyPreamble + 2 + 2
  let block := airTicks rate (pre + psduOctets 67 s.micCode.val)
  let ack := airTicks rate (pre + ackOctets)
  decide (s.now + block + ms 1 + ack ≤ s.time.slotAt + s.slotTicks)

/-- Send the next block of a flight (R481): at its T_air, or by a path. -/
def State.sendBlock (f : Flight) (p : PushSess) (img : Img) (n : Fin 16) (rate ch : Nat) (go : Tx → State → State)
    (s : State) : State :=
  let i := f.handle.index
  match s.roster.netKey, s.entry i with
  | some nk, some e =>
    match s.nextTx i with
    | (none, s) => s.failAttempt f.id false
    | (some c, s) =>
      let s := s.fire .frame
      let fr := s.securedFrame nk .data (some i) e.id c 0 true (PushSess.payloadOf img p)
      let s := s.onFlight f.id (fun g => { g with st := .air, ctr := c, lane := some n, awaiting := false, frameAt := none })
      go (s.frameTx (.push f.id) (.frame fr) (Flight.class7 f) (psduOctets 67 s.micCode.val) rate ch) s
  | _, _ => s

/-- A PUSH block is due at its cell's start, as a scheduled transmission at its T_air; later in the cell, as soon as the radio
has turned to TX (R480). -/
def State.blockPath (c : Cell) (s : State) : Ticks :=
  if s.now = max (s.time.slotAt + c.offset * cclkTicks) s.sched.notBefore then 0 else us 28

/-- A PUSH cell sends its flight's next block (R480): at its start, and after each acknowledgement while the slot has
room. A block after the first has no T_air to ask for ahead: with coexistence it waits for its grant (DESIGN CHOICE, log
129). -/
def execPushBlock (cell : Nat) (s : State) : Ans :=
  .next (
    match s.pushCell cell with
    | none => s
    | some (c, ch) =>
      let rate := s.cellRate c.rate
      if !s.ccOn || s.txBarred || s.roundRuns || !s.blockFits rate then s
      else
        match s.pushFlight c with
        | none => s
        | some f =>
          match f.push.bind (fun p => (s.pushImg p).map (fun i => (p, i))) with
          | some (p, img) =>
            let n : Fin 16 := Fin.ofNat 16 c.lane
            let path := s.blockPath c
            if path ≠ 0 && s.coexOn (bandOf rate) then
              (if s.txFree && !s.anyPayload then s.sendBlock f p img n rate ch State.transmit else s)
            else
              match s.takeAir (bandOf rate) path with
              | (.go, s) => s.sendBlock f p img n rate ch (State.launch path)
              | (.busy, s) => s
              | (.denied, s) => s.cellUsed cell
              | (.lost, s) =>
                ((s.cellUsed cell).onFlight f.id (fun g => { g with st := .air, lane := some n })).failAttempt f.id false
          | none => s)

end Sys2Proof.Machine
end

