-- ==== Sys2Proof/Machine/Jomen.lean ====
section
/-!
DEFINITION. Sys2Proof/Machine/Jomen.lean: the commands and events of Jomen codes: armed masks and wake bursts
(R103 to R127).
-/

namespace Sys2Proof.Machine

/-! ## Armed masks (R113 to R117) -/

/-- A code that lies in the group range of the value in force or of the pending value, but not in both (R106). -/
def State.codeBetween (s : State) (code : Int) : Bool :=
  let top := match s.pnext Obj.groupCount with
    | some v => max (s.pnat Obj.groupCount) v.toInt.toNat
    | none => s.pnat Obj.groupCount
  decide ((8192 - top : Nat) ≤ code) && decide (code ≤ 8190) && !s.isGroup code

/-- A reply that follows the edge at which the mask changes that wait take effect (R116). -/
def State.afterEdge (h : Hdr) (o : OutLine) (s : State) : State :=
  s.onWake (fun w => { w with armOwed := w.armOwed ++ [(h, o)] })

/-- `DO jomen.arm code [mask]` (R115): with a mask it is audited, and the change and its reply wait for the change's WCLK edge
(R116); without one it reports the mask in force. -/
def runDoJomenArm (h : Hdr) (code : Int) (mask : Option Int) (s : State) : Done :=
  match mask with
  | none =>
    needs .operator s (some 512) none
      (if inRange 1 8191 code then good s [.mask (Mem.read s.wake.masks code.toNat).toNat] (some 512) none
       else bad s .range 3 (some 512) none)
  | some m =>
    let aud : Option Aud :=
      some { action := 4, obj := 512, old := .num (code * 256 + (s.maskOf code.toNat).toNat),
             new := .num (code * 256 + m) }
    needs .operator s (some 512) aud
      (if !inRange 1 8191 code then bad s .range 3 (some 512) aud
       else if !inRange 0 255 m then bad s .range 4 (some 512) aud
       else if m != 0 && s.codeBetween code then bad s .range 3 (some 512) aud
       else good ((s.writeMask code.toNat (BitVec.ofNat 8 m.toNat)).afterEdge h (.mask m.toNat)) [] (some 512) aud)

/-- The line of `runDoJomenArm`. -/
def execDoJomenArm (h : Hdr) (code : Int) (mask : Option Int) (s : State) : Ans :=
  .next (if mask.isSome then s.change (.doJomenArm h code mask) h .do_ true false (runDoJomenArm h code mask)
    else s.verb h .do_ true false (runDoJomenArm h code mask))

/-- The infrastructure codes, bound or not, and the assigned individual codes (R115). -/
def State.assignedCodes (s : State) : List Nat :=
  (List.range 15).map (· + 1)
    ++ ((s.roster.entries.filter (fun x => decide (16 ≤ x.1) && x.2.active)).map (fun x => x.2.code)).filter (· ≠ 0)

/-- A mask with one reason bit cleared or set. -/
def reasonBit (r : Nat) (on : Bool) (m : Byte) : Byte :=
  if on then m ||| BitVec.ofNat 8 (2 ^ r) else m &&& ~~~(BitVec.ofNat 8 (2 ^ r))

/-- `DO jomen.reason r 0|1` (R115): the number of codes whose mask changes, told after the edge of the changes (R116). -/
def runDoJomenReason (h : Hdr) (r on : Int) : State → Done :=
  actionRun 513 .operator (fun s aud =>
    if !inRange 0 7 r then bad s .range 3 (some 513) aud
    else if !inRange 0 1 on then bad s .range 4 (some 513) aud
    else
      let new (c : Nat) : Byte := reasonBit r.toNat (on == 1) (s.maskOf c)
      let changed := s.assignedCodes.filter (fun c => new c ≠ s.maskOf c)
      good ((s.each changed (fun c t => t.writeMask c (new c))).afterEdge h (.num changed.length)) [] (some 513) aud)

/-- The line of `runDoJomenReason`. -/
def execDoJomenReason (h : Hdr) (r on : Int) (s : State) : Ans :=
  .next (s.change (.doJomenReason h r on) h .do_ true false (runDoJomenReason h r on))

/-- The mask changes that wait take effect at a WCLK edge, in the table and in its stored copy (R116), codes freed return to
the pool at the same edge (R110), and the replies that wait for it go out; while a flush runs they wait for its end
(R518). -/
def execMaskChangeEffect (s : State) : Ans :=
  .next (
    if s.store.flush.isSome then s
    else
      let s := s.each s.wake.maskWrites (fun x s => s.journal s.auditLast (.mask x.1 (Mem.read s.wake.stored x.1)))
      let owed := s.wake.armOwed
      let s := s.onWake (fun w =>
        { w with masks := Mem.writeAll w.masks w.maskWrites, stored := Mem.writeAll w.stored w.maskWrites,
                 maskWrites := [], armOwed := [] })
      (s.onJomen (fun j => { j with pool := j.pool ++ j.freed, freed := [] })).each owed (fun x s => s.reply x.1 [x.2]))

/-! ## Bursts (R118 to R127) -/

/-- `DO jomen.burst code reason [sync] [repeat]` (R122): checked against the airtime total and accepted at once. The settings
that wait for a burst come into force with the one that is accepted, which they govern; a request refused leaves them waiting
(R121, R124 to R127). -/
def runDoJomenBurst (h : Hdr) (code reason : Int) (sync rep : Option Int) : State → Done :=
  actionRun 514 .operator (fun s aud =>
    let y := argOr (s.pint Obj.sync) sync
    let u := s.fire .burst
    let n := argOr (u.pint Obj.txRepeat) rep
    if !inRange 1 8191 code then bad s .range 3 (some 514) aud
    else if !inRange 0 7 reason then bad s .range 4 (some 514) aud
    else if !inRange 0 63 y then bad s .range 5 (some 514) aud
    else if !inRange 1 64 n then bad s .range 6 (some 514) aud
    else
      let b := u.makeBurst code.toNat reason.toNat y.toNat n.toNat .command
      if u.dutyOk b then good (u.acceptBurst b) [.burstOk] (some 514) aud else bad s .duty 0 (some 514) aud)

/-- The line of `runDoJomenBurst`. -/
def execDoJomenBurst (h : Hdr) (code reason : Int) (sync rep : Option Int) (s : State) : Ans :=
  .next (s.change (.doJomenBurst h code reason sync rep) h .do_ true false (runDoJomenBurst h code reason sync rep))

/-- A burst that R121 stops: skipped and counted; a last-chance attempt and an attempt to reacquire fail, other work goes
ahead without its burst (R121, R286, R335). -/
def State.burstSkipped (p : BurstFor) (s : State) : State :=
  let s := s.count .cc "jomen.duty.skip"
  match p with
  | .lastChance i => s.lcFail i .noAnswer
  | .reacquire i =>
    s.onNet (fun n =>
      { n with reacq := replaceFirst (fun q => q.index == i)
                 (fun q => { q with tries := q.tries + 1, listening := false, nextAt := q.reqAt + secs 1 }) n.reacq })
  | .sweep cls => (s.onWake (fun w => { w with sweeping := some (cls, true) })).burstWork p
  | p => s.burstWork p

/-- A burst the part schedules falls due: it is checked with the settings in force, and accepted or skipped (R121). -/
def execScheduledBurstDue (s : State) : Ans :=
  .next (
    match s.jomen.due with
    | [] => s
    | b :: rest =>
      let s := s.onJomen (fun j => { j with due := rest })
      let u := s.fire .burst
      let b := u.makeBurst b.code b.reason (u.pnat Obj.sync) (u.pnat Obj.txRepeat) b.purpose
      if u.dutyOk b then u.acceptBurst b else s.burstSkipped b.purpose)

/-- A burst leaves the airtime total 3,600 s after it entered (R121). -/
def execAirtimeEntryExpiry (s : State) : Ans :=
  .next (s.onJomen (fun j => { j with airtime := j.airtime.filter (fun x => s.now < x.2) }))

/-- A burst may start: during a round only a last-chance burst, in the round's pause (R317). -/
def State.burstAllowed (s : State) (b : Burst) : Bool :=
  match s.work.round, b.purpose with
  | some r, .lastChance _ => !r.opened || r.pausing
  | some r, _ => !r.opened
  | none, _ => true

/-- The first accepted burst starts as soon as the radio does not transmit and no lane receives a payload (R119). -/
def execBurstStart (s : State) : Ans :=
  .next (
    if s.txBarred || !s.txFree || s.anyPayload || s.jomen.onAir.isSome then s
    else
      match s.jomen.queue.find? s.burstAllowed with
      | none => s
      | some b =>
        let s := s.onJomen (fun j => { j with queue := j.queue.erase b, onAir := some b })
        s.transmit (s.burstTx b))

/-- The last chip of the burst on the air has been sent (R118, R122): the drive goes off, and `~BURST sent` is queued
for a command; the part's own work goes on. -/
def execBurstEnd (s : State) : Ans :=
  .next (
    match s.jomen.onAir, s.radio.tx with
    | some b, some tx =>
      if tx.kind = .burst && s.radio.paFrom + us 4 + b.length ≤ s.now then
        let s := (s.endTx tx).onJomen (fun j => { j with onAir := none })
        match b.purpose with
        | .command => s.queue (.burst b.code b.reason .sent)
        | p => s.burstWork p
      else s
    | _, _ => s)

end Sys2Proof.Machine
end

