-- ==== Sys2Proof/Machine/Line.lean ====
section
/-!
DEFINITION. Sys2Proof/Machine/Line.lean: the verbs of the line itself (parameters, sessions, enumeration, ROLL, WHY,
EVENTS) and the events of the wire (R42 to R91, R515 to R525).
-/

namespace Sys2Proof.Machine

/-! ## Parameters (R77, R515 to R518) -/

/-- GET path (R516). -/
def execGet (h : Hdr) (obj : Nat) (s : State) : Ans :=
  .next (s.verb h .get false false (fun s =>
    match cardOf obj with
    | none => bad s .object 2 none none
    | some _ => good s [s.valueLine obj] (some obj) none))

/-- The value that a SET asks for (R517). -/
def State.asked (obj : Nat) (arg : PArg) (s : State) : PVal :=
  match arg with
  | .val v => v
  | .dflt => s.pdefault obj

/-- SET path value (R89, R516 to R518). A path the part does not have is recorded with object 0. -/
def runSet (h : Hdr) (obj : Nat) (arg : PArg) (s : State) : Done :=
  let v := s.asked obj arg
  match cardOf obj with
  | none => bad s .object 2 none (some { action := 1, obj := 0, old := .num 0, new := avalOf v })
  | some c =>
    let aud : Option Aud := some (s.setAud obj v)
    needs c.level s (some obj) aud (
      if !s.rangeOk obj v then bad s .range 3 (some obj) aud
      else if s.setBlocked obj v then bad s .state 0 (some obj) aud
      else s.applySet (s.lineOrigin h) obj v)

/-- The line of `runSet`. -/
def execSet (h : Hdr) (obj : Nat) (arg : PArg) (s : State) : Ans :=
  .next (s.change (.set h obj arg) h .set true false (runSet h obj arg))

/-- SHOW PART (R77). -/
def execShowPart (h : Hdr) (s : State) : Ans :=
  .next (s.verb h .show false false (fun s =>
    good s [.part s.part.variant s.part.eui s.image.activeVer s.line.address s.line.chainMark s.line.solo
      (s.pnat Obj.lineMode == 1) s.line.level] none none))

/-- The objects whose paths begin with a text, rising (R515). -/
def matchingObjs (pre : String) : List Nat :=
  (List.range cards.length).filterMap (fun k =>
    match cards[k]? with
    | some c => if pre.toList.isPrefixOf c.name.toList then some (k + 1) else none
    | none => none)

/-- SHOW with the beginning of a path (R515); one that matches no path names no object. -/
def execShowPrefix (h : Hdr) (pre : String) (s : State) : Ans :=
  .next (s.verb h .show false false (fun s =>
    let l := matchingObjs pre
    if l.isEmpty then bad s .object 2 none none
    else good s (l.map (fun k => OutLine.pathValue k (s.pval k) (s.pnext k)) ++ [.dot]) none none))

/-! ## Sessions (R70 to R74) -/

/-- The lockout of R72 runs. -/
def State.lockedOut (s : State) : Bool := match s.line.lockout with | some t => decide (s.now < t) | none => false

/-- The audit record of an AUTH: the level before, and the level after or asked for (R521). -/
def State.authAud (asked after : Level) (s : State) : Aud :=
  { action := 2, obj := 768 + levelNum asked, old := .num (levelNum s.line.level), new := .num (levelNum after) }

/-- A failed AUTH (R72): the third in a row locks AUTH out for 60 s. DESIGN CHOICE (log 117): only a right response ends a
row of failures; a challenge asked for, a lower level entered and an AUTH KEY that succeeds leave it as it is, and an AUTH KEY
whose key cannot be unwrapped adds to it. -/
def State.authFailed (s : State) : State :=
  (s.count .keeper "auth.fail").onLine (fun l =>
    if s.lockedOut then l
    else if 3 ≤ l.authFails + 1 then { l with authFails := 0, lockout := some (s.now + secs 60) }
    else { l with authFails := l.authFails + 1 })

/-- AUTH level (R71): a challenge for a higher level; a level no higher than the session's is entered at once
(log 40). -/
def runAuthChallenge (h : Hdr) (level : Level) (s : State) : Done :=
  let t := s.count .keeper "auth.try"
  if s.lockedOut then bad t.authFailed .auth 0 none (some (s.authAud level level))
  else if s.allowed level then
    good (t.onLine (fun l => { l with level := level })) [.level level] none (some (s.authAud level level))
  else
    let (k, t) := t.draw
    let c : Challenge := { level := level, value := Config.freeChallenge k, at_ := s.now }
    good (t.onLine (fun l => { l with challenge := some c })) [.chal c.value] none
      (some (s.authAud level s.line.level))

/-- The line of `runAuthChallenge`. -/
def execAuthChallenge (h : Hdr) (level : Level) (s : State) : Ans :=
  .next (s.change (.authChallenge h level) h .auth false false (runAuthChallenge h level))

/-- The key of a level (R73). -/
def State.levelKey (l : Level) (s : State) : Key :=
  match l with
  | .custodian => s.roster.cuKey
  | _ => s.roster.opKey

/-- The response that a challenge asks for (R71). -/
def State.authAnswer (c : Challenge) (s : State) : BitVec 64 :=
  (Config.cmac (s.levelKey c.level)
    (beBytes 16 c.value.toNat ++ leBytes 1 (levelNum c.level) ++ leBytes 1 s.line.address
      ++ beBytes 8 s.part.eui.toNat)).extractLsb' 64 64

/-- A response is right: its challenge is outstanding, for its level, and 10 s old at most (R71, R72). -/
def State.authOk (level : Level) (resp : BitVec 64) (s : State) : Bool :=
  match s.line.challenge with
  | some c => c.level == level && decide (s.now ≤ c.at_ + secs 10) && resp == s.authAnswer c
  | none => false

/-- AUTH level response (R71, R72): a challenge is good for one response. -/
def runAuthResponse (h : Hdr) (level : Level) (resp : BitVec 64) (s : State) : Done :=
  let aud : Option Aud := some (s.authAud level level)
  let t := (s.count .keeper "auth.try").onLine (fun l => { l with challenge := none })
  if !s.lockedOut && s.authOk level resp then
    good (t.onLine (fun l => { l with level := level, authFails := 0 })) [.level level] none aud
  else bad t.authFailed .auth 0 none aud

/-- The line of `runAuthResponse`. -/
def execAuthResponse (h : Hdr) (level : Level) (resp : BitVec 64) (s : State) : Ans :=
  .next (s.change (.authResponse h level resp) h .auth false true (runAuthResponse h level resp))

/-- AUTH KEY level wrapped (R73). OBSERVER has no key (log 41). -/
def runAuthKey (h : Hdr) (level : Level) (wrapped : BitVec 192) (s : State) : Done :=
  let new := Config.unwrap s.roster.cuKey wrapped
  let aud : Option Aud := some
    { action := 3, obj := 768 + levelNum level, old := keyVal (some (s.levelKey level)), new := keyVal new }
  let t := s.count .keeper "auth.try"
  needs .custodian (if s.allowed .custodian then t else t.count .keeper "auth.fail") none aud (
    if s.lockedOut then bad t.authFailed .auth 0 none aud
    else if level == .observer then bad t .syntaxErr 3 none aud
    else
      match new with
      | none => bad t.authFailed .auth 0 none aud
      | some k =>
        good (t.onRoster (fun r => if level == .custodian then { r with cuKey := k } else { r with opKey := k }))
          [.key level] none aud)

/-- The line of `runAuthKey`. -/
def execAuthKey (h : Hdr) (level : Level) (wrapped : BitVec 192) (s : State) : Ans :=
  .next (s.change (.authKey h level wrapped) h .auth false false (runAuthKey h level wrapped))

/-- LOGOUT (R74). -/
def execLogout (h : Hdr) (s : State) : Ans :=
  .next (s.verb h .logout true false (fun s => good (s.onLine Line.endSession) [.level .observer] none none))

/-! ## Enumeration (R79 to R83, R490) -/

/-- The audit record of an address that is asked for (R89, R521). -/
def State.addrAsk (n : Int) (s : State) : Aud :=
  { action := 5, obj := 771, old := .num s.line.address, new := .num n }

/-- The audit record of an address change (R521), none when the address stays. -/
def State.addrAud (n : Nat) (s : State) : Option Aud :=
  if s.line.address = n then none else some (s.addrAsk n)

/-- A verb that only a broadcast may carry (R76, log 8); an address change that is refused is recorded (R89). -/
def onlyBroadcast (h : Hdr) (s : State) (aud : Option Aud) (k : Done) : Done :=
  if h.addr == some 0 then k else bad s .state 0 none aud

/-- `@0 ENUM START` (R79): address, CHAIN_OUT, chain mark, session, the last error (R525) and a fault of the mark. -/
def runEnumStart (h : Hdr) (s : State) : Done :=
  onlyBroadcast h s (some (s.addrAsk 0)) (
    good (s.onLine (fun l =>
      { l.endSession with address := 0, chainOut := false, chainMark := false, lastErr := none, chainInLow := false,
                          sawNext := false, faults := l.faults.filter (· ≠ .mark) })) [] none (s.addrAud 0))

/-- The line of `runEnumStart`. -/
def execEnumStart (h : Hdr) (s : State) : Ans :=
  .next (s.change (.enumStart h) h .enum true false (runEnumStart h))

/-- The answer of a unit that takes an address: its CHAIN_OUT rises (R80, R82, R83). DESIGN CHOICE (log 121): a `!CHAIN`
answer is recorded as an address change that succeeded, and is no last error. -/
def State.takeAddress (marked : Bool) (n : Nat) (s : State) : Done :=
  let t := s.onLine (fun l => { l with address := n, chainOut := true, sending := some (.enumAnswer marked n) })
  good t [if marked then .chainAns n s.part.eui else .enumAns n s.part.eui] none (s.addrAud n)

/-- `@0 ENUM NEXT n` (R80, R82): taken by a unit with address 0 that reads CHAIN_IN high; what CHAIN_IN reads settles the
`chainin` fault (R490). -/
def runEnumNext (h : Hdr) (n : Int) (chainIn : Bool) (s : State) : Done :=
  onlyBroadcast h s (some (s.addrAsk n)) (
    if !inRange 1 16 n then bad s .range 3 none (some (s.addrAsk n))
    else if s.line.address ≠ 0 then good s [] none none
    else
      let s := s.onLine (fun l =>
        { l with sawNext := true, chainInLow := !chainIn && (l.chainInLow || !l.sawNext),
                 faults := if chainIn then l.faults.filter (· ≠ .chainin) else l.faults })
      if chainIn then s.takeAddress s.line.chainMark n.toNat else good s [] none none)

/-- The line of `runEnumNext`. -/
def execEnumNext (h : Hdr) (n : Int) (chainIn : Bool) (s : State) : Ans :=
  .next (s.change (.enumNext h n chainIn) h .enum true false (runEnumNext h n chainIn))

/-- `@0 ENUM CLAIM eui n` (R83): the unit of that EUI, unless it has another address; with CHAIN_IN low at every ENUM NEXT it
records a line fault (R490). -/
def runEnumClaim (h : Hdr) (eui : Eui) (n : Int) (s : State) : Done :=
  onlyBroadcast h s (some (s.addrAsk n)) (
    if !inRange 1 16 n then bad s .range 4 none (some (s.addrAsk n))
    else if eui ≠ s.part.eui then good s [] none none
    else if s.line.address ≠ 0 && s.line.address ≠ n.toNat then good s [] none none
    else
      let d := s.takeAddress false n.toNat
      { d with s := if s.line.sawNext && s.line.chainInLow then d.s.lineFault .chainin else d.s })

/-- The line of `runEnumClaim`. -/
def execEnumClaim (h : Hdr) (eui : Eui) (n : Int) (s : State) : Ans :=
  .next (s.change (.enumClaim h eui n) h .enum true false (runEnumClaim h eui n))

/-! ## ROLL (R84) -/

/-- `@0 ROLL` (R84): the slots run from the stop bit of the line's CR. -/
def execRoll (h : Hdr) (s : State) : Ans :=
  .next (s.verb h .roll true false (fun s =>
    onlyBroadcast h s none (good (s.onLine (fun l => { l with rollAt := some s.now })) [] none none)))

/-- The slot of the unit's address begins (R84): `W` for a wake record or the fold flag, else `E` for a queued event. -/
def execRollSlotAnswer (s : State) : Ans :=
  .next (
    match s.line.rollAt with
    | none => s
    | some t =>
      let k := s.line.address
      let start := t + 2 * k * s.charTime
      if k = 0 || s.now < start || start + 2 * s.charTime ≤ s.now then s
      else
        let w := !s.wake.queue.isEmpty || s.wake.foldFlag
        let s := s.onLine (fun l => { l with rollAt := none, tx := [] })
        if w || !s.line.events.isEmpty then (s.bytes .line 1).sendBare (.rollChar w) .roll 1 else s)

/-! ## WHY and EVENTS (R65 to R67, R525) -/

/-- WHY (R525). -/
def execWhy (h : Hdr) (s : State) : Ans :=
  .next (s.verb h .why false false (fun s => good s [.why s.line.lastErr] none none))

/-- WHY path (R525). -/
def execWhyPath (h : Hdr) (obj : Nat) (s : State) : Ans :=
  .next (s.verb h .why false false (fun s =>
    match cardOf obj with
    | none => bad s .object 2 none none
    | some _ =>
      good s [.whyPath obj (s.pval obj) (s.pnext obj) ((s.prow obj).map PRow.src) ((s.prow obj).map PRow.time)]
        (some obj) none))

/-- EVENTS [max] (R65, R66): the lost count first, as a line of its own that counts towards max (log 42). -/
def execEvents (h : Hdr) (max : Option Int) (s : State) : Ans :=
  .next (s.verb h .events false false (fun s =>
    let n := argOr 16 max
    if !inRange 1 64 n then bad s .range 2 none none
    else
      let lost := s.line.lost
      let first : List OutLine := if lost = 0 then [] else [.lost s.stamp lost]
      let k := n.toNat - first.length
      let l := s.line.events.take k
      let s := s.onLine (fun l => { l with events := l.events.drop k, lost := 0 })
      good s (first ++ l.map OutLine.event ++ [.num s.line.events.length]) none none))

/-- A reply is owed or being sent (R67): the answer of a ROLL, of a `DO vaux on`, of a calibration that a line asked for, of a
change that waits. -/
def State.replyOwed (s : State) : Bool :=
  decide (s.now < s.line.sendEnd + 2 * s.charTime) || s.line.rollAt.isSome || s.changeOpen || !s.store.heldLines.isEmpty
    || s.radio.calAsked.any (fun c => c.1.answers) || (s.radio.cal.map (fun c => c.why.answers)).getD false

/-- In push mode the oldest event line goes out, after any `~LOST` (R65, R67). One that collided waits for the next reply. -/
def execEventPush (s : State) : Ans :=
  .next (
    if !s.hears || !s.line.solo || s.pnat Obj.lineEvents ≠ 1 || !s.line.partialLine.isEmpty || s.replyOwed
        || s.line.pushHeld then s
    else
      let cc := s.pnat Obj.lineMode == 1
      let push (o : OutLine) (what : Sending) (s : State) : State :=
        let (k, s) := s.draw
        (s.bytes .line (Config.freeChars k)).send [o] cc what
      if 0 < s.line.lost then
        (push (.lost s.stamp s.line.lost) (.lost s.line.lost) s).onLine (fun l => { l with lost := 0 })
      else
        match s.line.events with
        | [] => s
        | e :: rest => (push (.event e) (.push e) s).onLine (fun l => { l with events := rest }))

/-! ## What is being sent is cut short (R43, R85) -/

/-- What was being sent is abandoned (R43, R67, R82, R167): seen bits come back, and a pushed event stays queued. Nothing is
abandoned once its last character has gone. -/
def State.abandon (s : State) : State :=
  let what := s.onWire
  let s := s.onLine (fun l => { l with sending := none, tx := [], sendEnd := min l.sendEnd s.now })
  match what with
  | some (.seen _ _) => (s.seenBack what).driveWake
  | some (.push e) => s.onLine (fun l =>
      if l.events.length < 64 then { l with events := e :: l.events, pushHeld := true }
      else { l with lost := l.lost + 1, pushHeld := true })
  | some (.lost n) => s.onLine (fun l => { l with lost := l.lost + n, pushHeld := true })
  | _ => s

/-- The loser of an enumeration (R82). -/
def State.loseEnum (n : Nat) (s : State) : State :=
  let o : Origin := .line s.line.level 0 true
  let s := s.onLine (fun l => { l with address := 0, chainOut := false, chainMark := true })
  (s.audit o 5 771 0 (.num n) (.num 0)).lineFault .mark

/-- The loser of two units on one address (R83, R490): a unit whose reply collides while it has an address. The part cannot
tell another unit from a host that sends during the reply (R64): either sets the mark (log 118). -/
def State.loseReply (s : State) : State :=
  if s.line.address = 0 then s else (s.onLine (fun l => { l with chainMark := true })).lineFault .mark

/-- A read-back mismatch of what is on the wire: the line is abandoned and nothing is received until LINE has idled (R43). -/
def State.collide (what : Sending) (s : State) : State :=
  let s := (s.abandon.count .line "line.collide").onLine (fun l => { l with deafUntilIdle := true })
  match what with
  | .enumAnswer _ n => s.loseEnum n
  | .reply => s.loseReply
  | .seen _ _ => s.loseReply
  | _ => s

/-- A read-back mismatch (R43). -/
def execLineCollision (s : State) : Ans :=
  .next (match s.onWire with | none => s | some what => s.collide what)

/-! ## Characters (R51, R55, R56) -/

/-- A character arrives (R55, R56): it joins the partial line, BS and DEL delete in typed mode, and a solo unit in typed
mode echoes a line that does not begin with `@`. An LF directly after a CR is ignored (R51). A line's first character brings
the parameters of the next line into force (R57). A character whose first bit falls on an echo collides with it and is lost. -/
def execCharacterEcho (c : Byte) (s : State) : Ans :=
  .next (
    if !s.hears then s.lineEdge
    else if s.line.sending == some .echo && decide (s.now < s.line.sendEnd + s.charTime) then
      ((s.onLine (fun l => { l with sendEnd := s.now + 1 })).collide .echo)
    else if c == 0x0A && s.line.afterCr then s.onLine (fun l => { l with afterCr := false })
    else
      let s := s.rouse
      let s := if s.pm.entering.isSome then s.wakeEvent else s
      let old := s.line.partialLine
      let s := if old.isEmpty then s.fire .nextLine else s
      let typed := s.pnat Obj.lineMode == 0
      let deletes := typed && (c == 0x08 || c == 0x7F)
      let ends := c == 0x0D || c == 0x0A
      let new := if deletes then old.dropLast else if ends then old else if 200 < old.length then old else old ++ [c]
      let echoes := typed && s.line.solo && (if old.isEmpty then c else old.headD 0) != 0x40
      let out : List Byte := if deletes then [0x08, 0x20, 0x08] else if ends then [0x0D, 0x0A] else [c]
      let s := s.onLine (fun l =>
        { l with partialLine := new, partialAt := s.now, afterCr := c == 0x0D, tx := [], sending := none })
      if echoes then (s.bytes .line out.length).sendBare (.echo out) .echo out.length else s)

/-- The time after which a partial line is discarded (R55). -/
def State.partialTime (s : State) : Ticks := if s.pnat Obj.lineMode == 0 then secs 30 else ms 20

/-- A partial line is discarded (R55, R58). -/
def execPartialLineTimeout (s : State) : Ans :=
  .next (
    if !s.line.partialLine.isEmpty && decide (s.line.partialAt + s.partialTime ≤ s.now) then
      s.onLine (fun l => { l with partialLine := [] })
    else s)

/-! ## Breaks (R85) -/

/-- A low is a break: longer than 2 character times. -/
def State.isBreak (low : Ticks) (s : State) : Bool := decide (2 * s.charTime < low)

/-- A break discards the partial line and is counted. -/
def State.takeBreak (s : State) : State :=
  let s := s.rouse
  (s.onLine (fun l => { l with partialLine := [] })).count .line "line.break"

/-- A short break: under 1 ms. -/
def execShortBreak (low : Ticks) (s : State) : Ans :=
  .next (if !s.hears then s.lineEdge else if s.isBreak low && decide (low < ms 1) then s.takeBreak else s)

/-- Attention: 1 ms to 500 ms. Session, mode, rate and address are kept. -/
def execAttention (low : Ticks) (s : State) : Ans :=
  .next (
    if !s.hears then s.lineEdge
    else if s.isBreak low && decide (ms 1 ≤ low) && decide (low ≤ ms 500) then
      (s.rouse.abandon).onLine (fun l => { l with partialLine := [], challenge := none, rollAt := none })
    else s)

/-- A long break: over 500 ms and up to 1 s. -/
def execLongBreak (low : Ticks) (s : State) : Ans :=
  .next (if !s.hears then s.lineEdge else if decide (ms 500 < low) && decide (low ≤ secs 1) then s.takeBreak else s)

/-! ## Stuck line (R86, R87) -/

/-- LINE has been low for 1 s (R86), whether the receiver is open or not: released, the session ended, a line fault recorded.
A part that sleeps wakes at the falling edge. -/
def execStuckLine (s : State) : Ans :=
  .next (
    if !s.running || s.resetting || s.line.stuckAt.isSome || s.lineIgnored then s.lineEdge
    else if !(s.pm.power == .active || s.pm.power == .loft) then s.lineEdge
    else
      let s := s.rouse.abandon.onLine (fun l =>
        { l.endSession with stuckAt := some (s.now - secs 1), pullup := false, partialLine := [], rollAt := none,
                            checkAt := s.now + secs 1, highAt := none })
      s.lineFault .stuck)

/-- A check of a stuck line, once a second (R87): the pull-up is on for 200 µs if `line.pullup` is 1, and the part reads
LINE. -/
def execStuckLineCheck (high : Bool) (s : State) : Ans :=
  .next (
    if s.line.stuckAt.isSome && s.running && decide (s.line.checkAt ≤ s.now) then
      let pulse := s.pint Obj.linePullup == 1
      s.onLine (fun l =>
        { l with checkAt := l.checkAt + secs 1, highAt := if high then some s.now else none, pullup := pulse,
                 pulseEnd := if pulse then some (s.now + us 200) else none })
    else s)

/-- A written rate comes into force (R48), and the time of a stuck line passes (R87): the pulse of a check ends, and LINE is
restored once it has idled for 2 character times after a check read it high. DESIGN CHOICE (log 119): the stuck period
counts from the falling edge, 1 s before the fault, and its seconds are whole ones. -/
def State.lineTick (s : State) : State :=
  let s := match s.line.rateAt with
    | some t => if max t s.line.sendEnd ≤ s.now then s.newRate else s
    | none => s
  let s := match s.line.pulseEnd with
    | some t => if t ≤ s.now then s.onLine (fun l => { l with pulseEnd := none, pullup := l.stuckAt.isNone && l.pullup }) else s
    | none => s
  match s.line.stuckAt, s.line.highAt with
  | some t, some h =>
    if h + 2 * s.charTime ≤ s.now then
      let s := s.onLine (fun l =>
        { l with stuckAt := none, highAt := none, pulseEnd := none, pullup := s.pint Obj.linePullup == 1,
                 faults := l.faults.filter (· ≠ .stuck) })
      s.queue (.lineUp ((s.now - t) / secs 1))
    else s
  | _, _ => s

/-! ## Timers of the line -/

/-- No valid line in 10 s at a new rate (R48): the previous rate returns, recorded under `line.rate.revert`. -/
def execLineRateTrialExpiry (s : State) : Ans :=
  .next (
    match s.line.trial with
    | none => s
    | some (r, t) =>
      if s.now < t then s
      else
        let now := s.pval Obj.lineRate
        let s := (s.journal s.auditSeq (.param Obj.lineRate (s.prow Obj.lineRate))).writeParam Obj.lineRate (.int r) 2 s.stamp
        let s := (s.fire .lineRate).onLine (fun l => { l with rate := r, trial := none })
        (s.audit (.self .lineRateRevert) 1 Obj.lineRate 0 (avalOf now) (.num r)).queue (.rate r))

/-- The session has had no line for `line.session.idle` seconds (R74). -/
def execSessionIdleTimeout (s : State) : Ans :=
  .next (
    if s.line.level != .observer && decide (s.line.lastLine + secs (s.pnat Obj.sessionIdle) ≤ s.now) then
      s.onLine Line.endSession
    else s)

/-- A challenge lapses after 10 s (R72). -/
def execChallengeExpiry (s : State) : Ans :=
  .next (
    match s.line.challenge with
    | some c => if c.at_ + secs 10 < s.now then s.onLine (fun l => { l with challenge := none }) else s
    | none => s)

/-- The lockout of AUTH ends after 60 s (R72). -/
def execAuthLockoutEnd (s : State) : Ans :=
  .next (
    match s.line.lockout with
    | some t => if t ≤ s.now then s.onLine (fun l => { l with lockout := none }) else s
    | none => s)

/-- LINE has idled for 2 character times: the receiver opens after an exit (R46), after VAUX came on (R47) or after a
collision (R43). -/
def execLineReceiverOpen (s : State) : Ans :=
  .next (
    if s.ccOn && s.line.stuckAt.isNone && !(s.pint Obj.lineHostVaux == 1 && s.mon.vaux != .on) then
      s.onLine (fun l => { l with isOpen := true, deafUntilIdle := false })
    else s)

end Sys2Proof.Machine
end

