-- ==== Sys2Proof/Machine/Net.lean ====
section
/-!
DEFINITION. Sys2Proof/Machine/Net.lean: beacons and the states of the network (R280, R288 to R292, R344, R367, R489).
-/

namespace Sys2Proof.Machine

/-! ## The checks of a beacon (R346, R367) -/

/-- The last beacon counter held for a sender: of peers 0 to 15 in their entries, of others in the cache. -/
def State.lastBeacon (e : Eui) (s : State) : Option (BitVec 32) :=
  match s.indexOf e with
  | some i => if i ≤ 15 then assoc i s.net.peerCtrs else assoc e s.net.cache
  | none => assoc e s.net.cache

/-- Hold a sender's counter; the cache replaces the least recently heard of 16. -/
def State.holdBeacon (e : Eui) (c : BitVec 32) (s : State) : State :=
  let cache (n : Net) : Net := { n with cache := ((e, c) :: n.cache.filter (fun x => x.1 ≠ e)).take 16 }
  match s.indexOf e with
  | some i => if i ≤ 15 then s.onNet (fun n => { n with peerCtrs := assocSet i c n.peerCtrs }) else s.onNet cache
  | none => s.onNet cache

/-- The failure of a beacon's checks, none when it is accepted. -/
def State.beaconFault (b : Beacon) (s : State) : Option (Block × String) :=
  match s.roster.netKey with
  | none => some (.keeper, "sec.nokey")
  | some nk =>
    if b.mic ≠ beaconMic nk b then some (.cc, "mac.beacon.bad")
    else if b.slotLen ≠ s.pnat Obj.slotLength then some (.cc, "mac.beacon.bad")
    else if b.planCheck ≠ s.planCheck then some (.cc, "mac.beacon.plan")
    else
      match s.lastBeacon b.sender with
      | some c => if b.ctr.toNat ≤ c.toNat then some (.cc, "mac.beacon.bad") else none
      | none => none

/-! ## Ranks (R290) -/

/-- A rank is above another: higher priority, then higher EUI. -/
def rankAbove (p : Nat) (e : Eui) (q : Nat) (g : Eui) : Bool := q < p || (p == q && g.toNat < e.toNat)

/-- The rank that counts against a beacon: a candidate's own, else the partition's. -/
def State.ownRank (s : State) : Nat × Eui :=
  if s.net.st == .candidate || s.net.st == .unsynced then (s.pnat Obj.netRank, s.part.eui)
  else (s.net.rankPrio, s.net.rankEui)

/-! ## Tracking time (R291, R292) -/

/-- A sender's time at the start of frame of its beacon, in 2^-39 ns: the slot and the offset it carries, and the preamble
and SFD that follow the cell's start time (R266; log 32). -/
def State.beaconTimeQ (b : Beacon) (rate : Nat) (s : State) : Nat :=
  b.slot * s.slotQ + b.offset * 125 * 2 ^ 39 / 16 + airTicks rate (s.pnat Obj.phyPreamble + 2) * 1000 * 2 ^ 39 / 4096

/-- The offset of a beacon from local time, in nanoseconds. -/
def State.beaconOffset (b : Beacon) (rate : Nat) (at_ : Ticks) (s : State) : Int :=
  ((s.beaconTimeQ b rate : Int) - (s.readingQ - (s.now - at_) * 1000 * 2 ^ 39 / 4096 : Nat)) / 2 ^ 39

/-- Follow a parent's beacon (R291): a slew of offset ÷ 16 s within `time.slew.max`, and a quarter of the offset over the
time since the last parent beacon in the learned rate; or a step when the offset exceeds one slot. -/
def State.track (parent : Eui) (offset : Int) (s : State) : State :=
  let s := s.fire .parentBeacon
  let since := s.now - s.net.parentAt
  let s := if offset.natAbs ≤ s.slotMs * 1000000 then
      let limit : Int := s.pnat Obj.slewMax * 2 ^ 32 / 1000000
      let slew := max (-limit) (min limit (offset * 2 ^ 32 / 16000000000))
      let move : Int := if s.net.parent.isSome && 0 < since then offset * 2 ^ 30 * 4096 / (since * 1000) else 0
      s.onTime (fun t => { (t.setSlew s.now slew) with rate := t.rate + move })
    else
      s.onTime (fun t =>
        { (t.setSlew s.now 0) with step := some (offset, .air parent
            (match s.indexOf parent with | some i => s.handleAt i | none => { index := 0, epoch := 0 })) })
  s.onNet (fun n => { n with parentAt := s.now, parentSlot := s.slotNow, holdCellar := none })

/-! ## The retired set of a parent (R280, R489) -/

/-- Take one channel's state from the parent's set. -/
def State.adoptChannel (eff set : Nat) (id : ResId) (s : State) : State :=
  let have_ := (s.res id).retired
  if set.testBit id.num && !have_ then
    if s.chanFloor id then s.count .cc "fault.chan.floor"
    else (s.retire (.self .faultChan) id 11).chanChange id true eff
  else if !set.testBit id.num && have_ then (s.reinstate (.self .faultChan) id).chanChange id false eff
  else s

/-- Take the retired set and its effective slot from the parent's beacon. -/
def State.adoptSet (b : Beacon) (s : State) : State :=
  match b.retired with
  | none => s
  | some (eff, chans, bbs) =>
    let s := s.each (List.range 129) (fun k => State.adoptChannel eff chans { kind := .chan, num := k })
    s.each (List.range 20) (fun k => State.adoptChannel eff bbs { kind := .bb, num := k })

/-! ## What a beacon does (R288) -/

/-- The part becomes MEMBER at the next slot boundary with the sender as its time parent; a counter-mode time folds
there (R260, R288). -/
def State.joinSender (b : Beacon) (offset : Option Int) (s : State) : State :=
  let s := s.onNet (fun n => { n with joining := some { parent := b.sender, prio := b.rankPrio, root := b.rankEui } })
  let s := match offset with
    | some d => s.track b.sender d
    | none => s
  if s.time.counterMode then s.onTime (fun t => { t with fold := some .timeFoldJoin }) else s

/-- The wait for a beacon begins afresh (R288). -/
def State.waitAgain (s : State) : State := s.onNet (fun n => { n with waitFrom := none })

/-- An accepted beacon and the network state (R288, R291). A start beacon is nothing to a part of a partition
(log 33). -/
def State.beaconActs (b : Beacon) (offset : Option Int) (s : State) : State :=
  let (p, e) := s.ownRank
  match s.net.st with
  | .unsynced => s.joinSender b offset
  | .candidate =>
    if !b.isStart || rankAbove b.rankPrio b.rankEui p e then s.joinSender b offset
    else s.count .cc "net.start.low"
  | st =>
    if b.isStart then (if st == .holdover then s.waitAgain else s)
    else if b.rankEui = e then
      if st == .root then s
      else if st == .holdover then s.joinSender b offset
      else if s.net.parent == some b.sender then
        let s := s.onNet (fun n => { n with rankPrio := b.rankPrio })
        match offset with
        | some d => s.track b.sender d
        | none => s
      else s
    else if rankAbove b.rankPrio b.rankEui p e then s.joinSender b offset
    else
      let s := s.count .cc "net.other.low"
      if st == .holdover then s.waitAgain else s

/-- A BEACON or START is received (R367): checked, its counter held, a contact when its sender is a peer of the roster
(R283), and then time and network state follow. A beacon with its invalid flag set is not used for time (R268). -/
def execBeaconReceived (b : Beacon) (r : RxInfo) (s : State) : Ans :=
  .next (
    if !s.inFrame r.lane || s.rx.lanes[r.lane].holder == .round then s
    else
      let at_ := s.frameStart r.lane
      let info := s.rxInfo r.lane r.psduLen
      let s := (s.airRx r.lane r.psduLen).onLane r.lane Lane.idle
      match s.beaconFault b with
      | some (k, name) => s.count k name
      | none =>
        let s := s.holdBeacon b.sender b.ctr
        let offset := if info.invalid then none else some (s.beaconOffset b info.rate at_)
        let s := match s.indexOf b.sender with
          | some i =>
            let s := if info.invalid then s else s.contactAt i at_ 0x80 (s.lateness r.lane i at_)
            (s.heardFrom i).found i
          | none => s
        let s := if s.net.parent == some b.sender && (s.net.st == .member || s.net.st == .holdover) then s.adoptSet b
          else s
        s.beaconActs b offset)

/-! ## Waits, start rounds, ROOT (R288, R289, R346) -/

/-- A start round begins: its slots and the slot drawn in it (R289). -/
def State.beginRound (n at_ : Nat) (s : State) : State :=
  let (d, s) := s.drawTo 15
  s.onNet (fun k => { k with roundNo := n, roundAt := at_, drawn := d })

/-- The reacquisition of the time parent has failed, or none runs (R288). -/
def State.parentGone (s : State) : Bool :=
  match s.net.parent.bind s.indexOf with
  | some i => !s.net.reacq.any (fun q => q.index == i)
  | none => true

/-- A wait of 2 × L0 slots ends at a slot boundary with no beacon: CANDIDATE, or another wait (R288, R294, R346). -/
def execNetworkWaitEnd (s : State) : Ans :=
  .next (
    match s.net.waitFrom with
    | none => s
    | some w =>
      if !s.ccOn || !s.net.started || !s.net.joining.isNone || s.time.slotAt < w + s.net.waitSlots * s.slotTicks
          || !(s.net.st == .unsynced || (s.net.st == .holdover && s.parentGone)) then s
      else
        let s := s.fire .waitEnd
        if s.pint Obj.netRoot == 1 && s.roster.netKey.isSome then
          let s := s.fire .candidacy
          let s := s.onNet (fun n => { n with rounds := s.pnat Obj.startRounds })
          (s.setNet .candidate).beginRound 1 s.time.slot
        else (s.count .cc "net.nobeacon").beginWait)

/-- The mark of a start beacon that has been sent in its round. -/
abbrev startSent : Nat := 16

/-- The last slot of a start round has passed. -/
def State.roundPast (s : State) : Bool := decide (s.net.roundAt + 16 ≤ s.time.slot)

/-- A candidate's slot (R289): the next round begins when one is past, one without its start beacon does not count, and
the start beacon goes out at offset 0 of the slot drawn. -/
def execStartRoundSlot (s : State) : Ans :=
  .next (
    if !s.ccOn || s.net.st != .candidate || s.net.joining.isSome then s
    else
      let s := if s.roundPast && (s.net.roundNo < s.net.rounds || s.net.drawn ≠ startSent) then
          s.beginRound (if s.net.drawn = startSent then s.net.roundNo + 1 else s.net.roundNo) s.time.slot
        else s
      if s.time.slot = s.net.roundAt + s.net.drawn then
        match s.takeAir .sub 0 with
        | (.go, s) => (s.onNet (fun n => { n with drawn := startSent })).sendBeacon true 0 s.phyRate s.startChannel
        | (_, s) => s
      else s)

/-- The last start round is past and nothing of higher rank was heard: ROOT; a counter-mode time folds at the slot boundary
that ends the last round, or where that is past at the next (R260, R288). -/
def execBecomeRoot (s : State) : Ans :=
  .next (
    if s.ccOn && s.net.st == .candidate && s.net.joining.isNone && s.roundPast && s.net.drawn = startSent
        && decide (s.net.rounds ≤ s.net.roundNo) then
      let s := s.setNet .root
      let s := s.onNet (fun n => { n with rankPrio := s.pnat Obj.netRank, rankEui := s.part.eui, parent := none })
      if !s.time.counterMode then s
      else if s.atBoundary then s.foldNow (some .timeFoldRoot) none
      else s.onTime (fun t => { t with fold := some .timeFoldRoot })
    else s)

end Sys2Proof.Machine
end

