-- ==== Sys2Proof/Machine/TallyCmds.lean ====
section
/-!
DEFINITION. Sys2Proof/Machine/TallyCmds.lean: the counters of the part by name, and the TALLY verb (R500 to R514).
-/

namespace Sys2Proof.Machine

/-! ## The names of the counters (R503, and the tables of counted events) -/

/-- Counters numbered from 0. -/
def numbered (head tail : String) (n : Nat) : List String := (List.range n).map (fun k => head ++ dec k ++ tail)

/-- The counters of each block. Residency is read from PMU's own registers (R438). -/
def blockCounters : Block → List String
  | .matcher =>
    ["matcher.agreed", "matcher.blanked", "matcher.code0", "matcher.late", "matcher.reject", "matcher.repeat",
     "matcher.single.a", "matcher.single.b", "matcher.sweep", "matcher.sync.a", "matcher.sync.b", "matcher.unarmed"]
    ++ numbered "matcher.fold." "" 8
  | .wur => ["wur.hold.a", "wur.hold.b", "wur.suspend.a", "wur.suspend.b"]
  | .rfe =>
    ["coex.deny", "coex.loss", "coex.override", "coex.starve", "radio.cal.gap", "radio.cal.slot", "radio.pa.limit",
     "radio.rx.cut", "radio.trip.refl.a", "radio.trip.refl.b", "radio.tx.a", "radio.tx.b", "rx.agc.defer.a",
     "rx.agc.defer.b", "rx.agc.forced.a", "rx.agc.forced.b"]
  | .time => ["time.fold", "time.step"]
  | .sched => ["hop.skip", "round.skip", "sched.burst.skip", "sched.conflict"]
  | .cc =>
    ["ack.late", "fault.chan.floor", "fault.floor", "fault.line", "fault.reinstate"]
    ++ ["chan", "bb", "branch", "lane", "chain", "block", "peer"].map ("fault.rest." ++ ·)
    ++ ["chan", "bb", "branch", "lane", "chain", "block", "peer"].map ("fault.retire." ++ ·)
    ++ ["flight.busy", "flight.done", "flight.tries", "flight.deadline", "flight.unreach", "flight.cancel", "flight.flood",
        "flight.unknown", "flight.lastchance", "guard.lost", "guard.reacq", "image.hash.bad", "image.stall",
        "image.revert", "jomen.burst.cut", "jomen.duty.skip", "jomen.nocode", "log.bad", "mac.kind.bad",
        "mac.sync.other", "mac.beacon.bad", "mac.beacon.plan", "net.nobeacon", "net.other.low", "net.start.low"]
    ++ ["peer.unreach", "push.dir.drop", "push.peck.bad", "relay.sent", "relay.suppress", "relay.expire", "relay.evict",
        "roster.unknown", "roster.stale", "roster.unattached", "roster.join.refused", "round.drop", "round.dup",
        "round.pause", "sec.replay", "sec.ctr.end"]
  | .lanes =>
    ["ack.cut", "lane.skip", "lane.wait", "phy.fcs.bad", "phy.phr.bad", "push.block", "round.single", "round.collide",
     "round.empty", "rx.buf.drop", "rx.buf.withhold", "rx.choice.a", "rx.choice.b", "rx.choice.held"]
    ++ numbered "rx.invalid." "" 16
  | .mon => ["wm.discard", "wm.skip"] ++ numbered "wm." ".event" 8
  | .pg => numbered "pg." ".trip" 4 ++ ["vaux.trip", "vaux.lockout"]
  | .store =>
    ["spill.full", "spill.crc", "store.ecc.fail", "store.filler", "store.ledger.drop", "store.archive.drop",
     "store.prog.fail", "store.erase.fail", "store.refresh"]
  | .keeper => ["auth.try", "auth.fail", "sec.mic.bad", "sec.mic.short", "sec.nokey"]
  | .line => ["line.collide", "line.break", "line.refuse"]
  | .chz => ["chz.span.skip", "chz.span.cut", "chz.bind.skip"]
  | .pmu => ["pm.watchdog", "pm.start.cold", "pm.start.warm", "pm.retain.fail", "pm.cache.lost"]
  | .tally => numbered "occ." "" 8 ++ ["tally.frozen"]

/-- The residency counters with their values and overflow bits (R438). -/
def State.residency (s : State) : List Ctr :=
  let ovf (k : Nat) : Bool := s.pm.ovf.contains k
  ["active", "loft", "larder", "cellar"].zipIdx.map (fun (w, k) =>
    { block := .pmu, name := "pm.res." ++ w, value := s.pm.ticks.toList.getD k 0, ovf := ovf k })
  ++ ["active", "loft", "larder", "cellar", "shelf"].zipIdx.map (fun (w, k) =>
    { block := .pmu, name := "pm.entry." ++ w, value := s.pm.entries.toList.getD k 0, ovf := ovf (4 + k) })

/-- A counter among those that are not 0, else 0. -/
def ctrIn (b : Block) (name : String) (l : List Ctr) : Ctr :=
  match l.find? (fun c => c.block == b && c.name == name) with
  | some c => c
  | none => { block := b, name := name, value := 0, ovf := false }

/-- Every counter of a block from a list of those that are not 0, and for PMU the residency given with it. -/
def blockValues (b : Block) (l res : List Ctr) : List Ctr :=
  (blockCounters b).map (fun n => ctrIn b n l) ++ (if b == .pmu then res else [])

/-! ## Reading (R508, R514) -/

/-- An open form: OBSERVER with `tally.open`, OPERATOR otherwise (R508, R514). -/
def openForm (s : State) (k : Done) : Done :=
  if s.pint Obj.tallyOpen == 1 then k else needs .operator s none none k

/-- A name begins with a text; without one every name does. -/
def nameMatches (pre : Option String) (name : String) : Bool :=
  match pre with
  | none => true
  | some p => p.toList.isPrefixOf name.toList

/-- The lines of a READ: a head for each block with a matching counter, and its counters. -/
def readLines (pre : Option String) (ctrs res : List Ctr) (since : List (Block × Stamp)) (snap : Option Stamp) :
    List OutLine :=
  allBlocks.flatMap (fun b =>
    match (blockValues b ctrs res).filter (fun c => nameMatches pre c.name) with
    | [] => []
    | l => .tallyHead b ((assoc b since).getD (.c 0)) snap :: l.map (fun c => OutLine.tally c.name c.value c.ovf))

/-- The residency counters' names (R438). -/
def residencyNames : List String :=
  ["active", "loft", "larder", "cellar"].map ("pm.res." ++ ·)
    ++ ["active", "loft", "larder", "cellar", "shelf"].map ("pm.entry." ++ ·)

/-- Some counter begins with the text of a READ; without one every counter does. A text that none begins with names no
object, whatever the session's level (R508, R522, R524). -/
def someCounter (pre : Option String) : Bool := (allBlocks.flatMap blockCounters ++ residencyNames).any (nameMatches pre)

/-- TALLY READ. -/
def execTallyRead (h : Hdr) (pre : Option String) (s : State) : Ans :=
  .next (s.verb h .tally false false (fun s =>
    if someCounter pre then
      openForm s (good s (readLines pre s.tally.ctrs s.residency s.tally.since none ++ [.dot]) none none)
    else bad s .object 3 none none))

/-- TALLY READ SNAP. -/
def execTallyReadSnap (h : Hdr) (pre : Option String) (s : State) : Ans :=
  .next (s.verb h .tally false false (fun s =>
    if someCounter pre then
      openForm s (
        match s.tally.snap with
        | none => bad s .state 0 none none
        | some x =>
          let res := x.ctrs.filter (fun c => c.block == .pmu && (s.residency.any (fun r => r.name == c.name)))
          good s (readLines pre x.ctrs res x.since (some x.at_) ++ [.dot]) none none)
    else bad s .object 4 none none))

/-! ## Occupancies (R504, R505) -/

/-- Store operations queued or running. -/
def State.storeQueue (s : State) : Nat :=
  min 64 ((if s.store.running.isSome then 1 else 0) + s.store.moves.length
    + (if 0 < s.pageRecords false then 1 else 0) + (if 0 < s.pageRecords true then 1 else 0))

/-- The six occupancies, in the order of R504. -/
def State.occupancies (s : State) : List Nat :=
  [s.rx.buf.length, s.work.table.length, s.work.waiting.length, s.storeQueue, s.boundLanes, s.wake.queue.length]

/-- TALLY OCC: one line per source, numbered from 1 as in `tally.occ.n.src`. -/
def execTallyOcc (h : Hdr) (s : State) : Ans :=
  .next (s.verb h .tally false false (fun s =>
    openForm s (
      good s (s.occupancies.zipIdx.map (fun (n, k) => OutLine.occ (k + 1) n (max n (s.tally.peaks.toList.getD k 0)))
        ++ [.dot]) none none)))

/-! ## Bandwidth (R512, R513) -/

/-- The ports of R512. -/
def allPorts : List Port := [.line, .storeRd, .storeWr, .airTx] ++ (List.finRange 16).map Port.airRx

/-- A port's line. -/
def State.bwLine (p : Port) (s : State) : OutLine :=
  .bw p (portValue p s.tally.bwLast) (portValue p s.tally.bwPeak) (s.pnat Obj.bwWindow)

/-- TALLY BW [port]. -/
def execTallyBw (h : Hdr) (port : Option Port) (s : State) : Ans :=
  .next (s.verb h .tally false false (fun s =>
    openForm s (
      let l := match port with | some p => [p] | none => allPorts
      good s (l.map (fun p => s.bwLine p) ++ [.dot]) none none)))

/-- A bandwidth window ends: its bytes over its length, in whole B/s, and the peaks. -/
def State.windowEnd (s : State) : State :=
  let len := s.pnat Obj.bwWindow
  s.onTally (fun t =>
    let last := allPorts.map (fun p => (p, portValue p t.bwBytes * 1000 / len))
    { t with bwFrom := t.bwFrom + ms len, bwBytes := [], bwLast := last,
             bwPeak := last.map (fun x => (x.1, max x.2 (portValue x.1 t.bwPeak))) })

/-- The end of a bandwidth window, in every state except SHELF. -/
def execBandwidthWindowEnd (s : State) : Ans :=
  .next (if s.cellarOn && decide (s.tally.bwFrom + ms (s.pnat Obj.bwWindow) ≤ s.now) then s.windowEnd else s)

/-! ## Snapshot, freeze and clear (R509 to R511) -/

/-- Needs OPERATOR. -/
def State.tallyDo (h : Hdr) (run : State → Done) (s : State) : Ans :=
  .next (s.verb h .tally false false (fun s => needs .operator s none none (run s)))

/-- TALLY SNAP (R509). -/
def execTallySnap (h : Hdr) (s : State) : Ans :=
  s.tallyDo h (fun s =>
    let x : Snap := { ctrs := s.tally.ctrs ++ s.residency, since := s.tally.since, at_ := s.stamp }
    good (s.onTally (fun t => { t with snap := some x })) [.tallyAt 0 s.stamp] none none)

/-- TALLY FREEZE (R510): a second one changes nothing. -/
def execTallyFreeze (h : Hdr) (s : State) : Ans :=
  s.tallyDo h (fun s =>
    match s.tally.frozen with
    | some (_, at_) => good s [.tallyAt 1 at_] none none
    | none => good (s.onTally (fun t => { t with frozen := some (s.now, s.stamp) })) [.tallyAt 1 s.stamp] none none)

/-- The counters run again: `tally.frozen` takes the CCLK cycles of the freeze (R510). -/
def State.thaw (s : State) : State :=
  match s.tally.frozen with
  | none => s
  | some (t, _) =>
    (s.onTally (fun k => { k with frozen := none })).countN .tally "tally.frozen" ((s.now - t) / cclkTicks)

/-- TALLY THAW (R510). -/
def execTallyThaw (h : Hdr) (s : State) : Ans :=
  s.tallyDo h (fun s => good s.thaw [.tallyAt 2 s.stamp] none none)

/-- A freeze ends 60 s after its edge (R510). -/
def execTallyFreezeExpiry (s : State) : Ans :=
  .next (
    match s.tally.frozen with
    | some (t, _) => if t + secs 60 ≤ s.now then s.thaw else s
    | none => s)

/-- Set every counter of a block to 0 with its time (R511); TALLY with the peaks. -/
def State.clearBlock (b : Block) (s : State) : State :=
  s.onTally (fun t =>
    let t := { t with ctrs := t.ctrs.filter (fun c => c.block ≠ b), since := assocSet b s.stamp t.since }
    if b == .tally then { t with peaks := Vector.replicate 6 0, bwPeak := [] } else t)

/-- TALLY CLEAR block, or ALL (R511), audited (R520). -/
def runTallyClear (h : Hdr) (block : Option Block) (s : State) : Done :=
  let (a, s) := s.argHash
  let aud : Option Aud := some { action := 4, obj := 544, old := .num 0, new := a }
  needs .operator s (some 544) aud (
    let l := match block with | some b => [b] | none => allBlocks
    good (s.each l State.clearBlock) [.word "CLEAR"] (some 544) aud)

/-- The line of `runTallyClear`. -/
def execTallyClear (h : Hdr) (block : Option Block) (s : State) : Ans :=
  .next (s.change (.tallyClear h block) h .tally false false (runTallyClear h block))

end Sys2Proof.Machine
end

