-- ==== Sys2Proof/Machine/PowerOps.lean ====
section
/-!
DEFINITION. Sys2Proof/Machine/PowerOps.lean: what a reset does at its edge, the cold and the warm start, the conditions
and steps of the entries to the sleeping states (R32, R258, R365, R409 to R438, R477, R496, R501).
-/

namespace Sys2Proof.Machine

/-! ## The reset edge (R433) -/

/-- What a reset does to the bursts (R118, R122): the one on the air is cut and counted, those accepted are dropped, and
those that DO asked for are owed a line after a warm start. -/
def State.resetBursts (s : State) : State :=
  let told (how : BurstEnd) (b : Burst) : Option Ev :=
    if b.purpose = .command then some (.burst b.code b.reason how) else none
  let s := if s.jomen.onAir.isSome then s.count .cc "jomen.burst.cut" else s
  s.onJomen (fun j =>
    { j with queue := [], due := [], onAir := none,
             afterWarm := j.onAir.toList.filterMap (told .cut) ++ j.queue.filterMap (told .dropped) })

/-- What a reset does to the work that a burst or a frame was part of: an attempt of a last chance under way has no
answer, a reacquisition has used a try, a sweep whose burst has not started is armed again (log 45). -/
def State.resetWork (s : State) : State :=
  let waiting := (s.work.rounds.filter RoundReq.sweep).map (fun q => (q.reason, s.now))
  let air := match s.radio.tx.map Tx.kind with | some (.flight id) => some id | some (.push id) => some id | _ => none
  let s := s.onWork (fun w =>
    { w with
      round := none
      rounds := []
      lc := w.lc.map (fun q => if s.burstPending (.lastChance q.index) then { q with listen := some s.now } else q)
      table := w.table.map (fun f =>
        { f with st := if air = some f.id then .air else f.st, lane := none, awaiting := false, frameAt := none }) })
  let s := s.onNet (fun n =>
    { n with
      started := false
      joining := none
      waitFrom := none
      holdCellar := none
      reacq := n.reacq.map (fun q =>
        if q.listening || s.burstPending (.reacquire q.index) then { q with listening := false, tries := q.tries + 1 } else q) })
  s.onWake (fun w =>
    match w.sweeping with
    | some (cls, false) => { w with sweeping := none, sweeps := (cls, s.now) :: waiting ++ w.sweeps }
    | _ => { w with sweeping := none, sweeps := waiting ++ w.sweeps })

/-- The radio at rest: SLEEP, COEX_REQ low, nothing under way; the chains, the lanes and a capture with it (R175, R250,
R433). DESIGN CHOICE (log 132): a coexistence fault stands over a warm reset, and the starvation timer starts from 0. -/
def State.quiet (s : State) : State :=
  let s := match s.radio.tx with | some tx => s.paOff tx.band 0 | none => s
  let s := s.onRadio (fun r =>
    { r with
      st := .sleep, trans := none, idleHeld := false, next := none, tx := none, paOn := false, deafFrom := none,
      limited := false, cal := none, calAsked := [], taken := none, coexReq := false, coexOff := none, ahead := none,
      coexWait := none, yielded := none, granted := false, starved := 0 })
  s.onRx (fun r =>
    { r with a := { r.a with on := false, want := none }, b := { r.b with on := false, want := none },
             lanes := Vector.replicate 16 .reset, capture := none,
             centre := legalCentre s.part.variant r.band r.centre })

/-- The reinstatement of a chain that a reset cuts short has failed (R497; log 116). -/
def State.cutCal (c : CalWhy) (s : State) : State :=
  match c with
  | .reinstate _ o sd =>
    let id : ResId := { kind := .chain, num := Side.num sd }
    s.audit o 10 (880 + kindPos id.kind) (errNum .fault) (.num (s.res id).cause) (.num id.num)
  | _ => s

/-- A change that a reset cuts short is recorded there and then (R89; log 116): a `DO vaux on`, whose request stands, without
an error, the reinstatement of a chain with `!FAULT`. Lines that wait are lost. -/
def State.cutChanges (s : State) : State :=
  let s := match s.mon.onOwed with
    | some (_, o, before) => s.audit o 4 539 0 (vauxAud before true).old (vauxAud before true).new
    | none => s
  let s := s.each (s.radio.calAsked.map Prod.fst ++ (s.radio.cal.map CalRun.why).toList) State.cutCal
  ((s.onMon (fun m => { m with onOwed := none })).onRadio (fun r =>
      { r with calAsked := r.calAsked.filter (fun c => !c.1.isChange),
               cal := if (r.cal.map (fun c => c.why.isChange)).getD false then none else r.cal })).onStore
    (fun c => { c with heldLines := [] })

/-- Bit 9 of the trip masks (R397): PG0, PG1 and PG3 trip, and a ramp of VAUX stops. R398 counts moves by a monitor or by
COEX_GNT loss, not these. -/
def State.resetPgs (s : State) : State :=
  s.onMon (fun m =>
    { m with tripped := ((m.tripped.set 0 true).set 1 true).set 3 true,
             vaux := match m.vaux with | .ramp _ => .off | v => v, excite := none })

/-- The reset edge: the outputs of R433 and everything that no start keeps; a WAKE SEEN reply that it cuts gives its bits back
(R167). -/
def State.resetEdge (s : State) : State :=
  let s := (s.seenBack s.onWire).cutChanges.resetWork.resetBursts.quiet.resetPgs.thaw.downloadLoss
  let s := s.onWake (fun w => { w with low := false, armOwed := [] })
  let s := s.onLine (fun l =>
    { l.endSession with
      isOpen := false, trial := none, partialLine := [], pullup := false, deafUntilIdle := false, rollAt := none,
      lastErr := none, tx := [], sending := none })
  let s := s.onTime (fun t => { t with ask := none, fold := none, step := none })
  let s := s.onSched (fun k => { k with active := [], run := [], bitmapOk := false })
  let s := s.onStore (fun c => { c with cache := c.cache ++ c.held, held := [], flush := none, flushOwed := none, running := none })
  let s := s.onTally (fun t => { t with snap := none })
  s.onPm (fun p =>
    { p with entering := none, exiting := none, held := false, thenCellar := false, idleFrom := none, loftFrom := none,
             resetAt := none, reload := [] })

/-- The wake receiver loses its power. -/
def State.wakeDark (s : State) : State :=
  s.onWake (fun w => { w with armed := false, low := false, a := Branch.stop .off w.a, b := Branch.stop .off w.b })

/-- A warm reset's edge: a program of the die completes on its own supply (R458). -/
def State.warmEdge (c : WarmCause) (s : State) : State := (s.onImage Images.bootSettle).resetEdge.onPm (fun p => { p with run := .warmReset c })

/-- A cold reset's edge; `until_` is the earliest moment of the start that follows. -/
def State.coldEdge (c : ColdCause) (until_ : Option Ticks) (s : State) : State :=
  let s := s.onImage (match c with | .brownout => Images.bootCut | _ => Images.bootSettle)
  s.resetEdge.wakeDark.onPm (fun p =>
    { p with run := .coldReset c, resetAt := until_.map (fun t => (t, .cold c)) })

/-! ## Residency and starts -/

/-- A stored copy that was lost with the cache is as it was before (R456, R518). -/
def State.undo (u : Undo) (s : State) : State :=
  match u with
  | .param obj (some r) => { s with params := putRow { r with pending := none } s.params }
  | .param obj none => { s with params := s.params.filter (fun r => r.obj ≠ obj) }
  | .mask code m => s.onWake (fun w => { w with stored := Mem.write w.stored code m })
  | .mark n => s.onStore (fun c => { c with mark := n })

/-- The cache loses its power: every record still in it is lost, and the stored copies that had entered with them
(R456). -/
def State.cacheLoss (s : State) : State :=
  let l := (s.store.unsaved.filter (fun u => s.store.auditCached u.1)).reverse
  let s := s.each l (fun u s => s.undo u.2)
  s.onStore (fun c => { c with auditCount := c.auditCount - (c.cache.filter CRec.isAudit).length, cache := [], unsaved := [] })

/-- The sequences found by the tail scans (R457). -/
def Store.scanned (c : Store) : Store :=
  { c with
    nextSeq := match (c.archive ++ c.ledger).getLast? with | some r => r.seq + 1 | none => 1
    nextAudit := match c.audits.getLast? with | some r => auditNext r.seq | none => 0
    moves := [] }

/-- An entry after a start that lost the roster bins (R365): persisted counters, a full window. -/
def Entry.cold (e : Entry) : Entry :=
  { e with rxCtr := e.rxSaved, window := 0xFFFFFFFF, txCtr := e.txSaved + 16, accepts := 0, sends := 0, rejects := 0,
           admitOwed := false, retireOwed := none }

/-- The roster is loaded from the store (R365). -/
def State.coldRoster (s : State) : State :=
  s.onRoster (fun r => { r with entries := r.entries.map (fun x => (x.1, Entry.cold x.2)), staged := [], loaded := true })

/-- The channels whose retirement the store holds (R280, R496). -/
def State.retiredChans (s : State) : List ResId :=
  (s.faults.filter (fun r => r.retired && (r.id.kind == .chan || r.id.kind == .bb))).map Res.id

/-- What a start that lost bin 15 finds of the fault model: retirements, and nothing else (R496). -/
def keptRes (l : List Res) : List Res :=
  (l.filter Res.retired).map (fun r => { Res.clean r.id with retired := true, cause := r.cause })

/-- A new size of the group range comes into force at a start (R106): codes that leave the range join the pool at its end,
codes that enter it leave the pool. -/
def regroup (old new : Nat) (pool : List Nat) : List Nat :=
  if new < old then pool ++ (List.range (old - new)).map (fun k => 8192 - old + k)
  else pool.filter (fun c => decide (c < 8192 - new))

/-- The values that wait for the next start come into force (R9): every stored one at a cold start. -/
def State.startValues (cold : Bool) (s : State) : State :=
  let old := s.pnat Obj.groupCount
  let s := if cold then s.fireAll else s.fire .nextStart
  let new := s.pnat Obj.groupCount
  let s := s.onJomen (fun j => { j with pool := if old = new then j.pool else regroup old new j.pool })
  s.onPm (fun p => { p with ioLow := s.pint Obj.ioRail == 1 })

/-- What outlasts a loss of power, and everything else as it is at power-on: parameters, masks, code pool, schedule,
roster, keys, rings, images and retirements are stored (R10, R107, R110, R365, R443, R477, R496); the time and the residency
counters go on from their last save (R258, R438). -/
def State.stored (s : State) : State :=
  let s := s.cacheLoss
  let s := s.coldRoster
  let m := Mem.writeAll s.wake.stored (s.jomen.freed.map (fun c => (c, 0)))
  { State.reset with
    pending := s.pending
    now := s.now
    fresh := s.fresh
    part := s.part
    params := s.params
    wake := { Wake.reset with masks := m, stored := m }
    jomen := { Jomen.reset with pool := s.jomen.pool ++ s.jomen.freed, holders := s.jomen.holders }
    time := { Time.reset with offset := ((s.time.saved.getD 0 : Nat) : Int), saved := s.time.saved, savedAt := s.now, upTo := s.now }
    sched := { Sched.reset with frames := s.schedNext.frames, cells := s.schedNext.cells, retired := s.retiredChans }
    net := { Net.reset with beaconCtr := s.net.beaconSaved + 16, beaconSaved := s.net.beaconSaved, peerCtrs := s.net.peerCtrs }
    roster := { s.roster with full := false, spillFullAt := none, seen := [], replays := [] }
    mon := { Mons.reset with gridFrom := s.now }
    pm := { Pm.reset with ticks := s.pm.savedTicks, entries := s.pm.savedEntries, savedTicks := s.pm.savedTicks,
                          savedEntries := s.pm.savedEntries, ovf := s.pm.ovf }
    store := s.store.scanned
    image := s.image
    faults := keptRes s.faults
    tally := { Tally.reset with bwFrom := s.now } }

/-- A full calibration at a die temperature (R187): every table of DC offsets is new (R194). -/
def State.calibrated (temp : Int) (s : State) : State :=
  let s := s.each [Side.a, Side.b] (fun sd s => (s.dcTaken sd .sub).dcTaken sd .g24)
  s.onRadio (fun r =>
    { r with temp := temp, synthCorr := Config.xoModel temp, lastFull := s.seconds,
             subCal := { BandCal.reset with tcal := temp, drives := r.subCal.drives },
             g24Cal := { BandCal.reset with tcal := temp, drives := r.g24Cal.drives } })

/-- LINE opens with the pull-up of `line.pullup` (R45, R433). -/
def State.openLine (s : State) : State :=
  let s := s.onLine (fun l => { l with isOpen := l.stuckAt.isNone, pullup := s.pint Obj.linePullup == 1 && l.stuckAt.isNone })
  if s.mon.vaux == .off then s.hostDeaf else s

/-- The part is in service after a start. -/
def State.inService (c : StartCause) (s : State) : State :=
  s.onPm (fun p => { p with run := .running, start := some c, lineIdle := s.now })

/-- A lane or a chain that fails BIST is retired (R431, R488, R491). -/
def State.bistRetire (b : Bist) (s : State) : State :=
  let s := s.each b.lanes (fun n s =>
    if s.isRetired .lane n.val then s else s.retireOrRest { kind := .lane, num := n.val } 1)
  s.each b.chains (fun sd s =>
    if s.isRetired .chain (Side.num sd) then s else s.retireOrRest { kind := .chain, num := Side.num sd } 1)

/-- A cold start from normal service changes the mode to counter (R260): the row of that rule names no rule for the record
(log 51). -/
def State.coldMode (wasNormal : Bool) (s : State) : State :=
  if wasNormal then (s.audit (.self .timeCold) 8 864 0 (.num 0) (.num 1)).queue (.timeMode true) else s

/-- The cold start (R429), in one step (log 3). -/
def State.coldStart (cause : ColdCause) (b : Bist) (temp : Int) (s : State) : State :=
  let wasNormal := !s.time.counterMode
  let s := (s.stored.startValues true).inService (.cold cause)
  let s := s.enterPower .active
  let s := s.onLine (fun l => { l with rate := s.pnat Obj.lineRate })
  let s := s.openLine.buildHops (PVal.maskBits (s.pval Obj.hopMask))
  let s := s.calibrated temp
  let s := s.onTime (fun t => { t with slot := s.slotNow, slotAt := s.now, temps := [(s.now, temp)], xoTemp := temp })
  let s := (s.onWake (fun w => { w with armed := true })).armBranches
  let s := s.onNet (fun n => { n with started := true })
  let s := if s.pint Obj.vauxDefault == 1 then (s.onMon (fun m => { m with wanted := true })).vauxAttempt else s
  let s := s.loader (b.lanes.isEmpty && b.chains.isEmpty)
  ((((s.bistRetire b).count .pmu "pm.start.cold").queue (.start (.cold cause) [])).coldMode wasNormal).driveWake

/-- A cold start begins: TEST is sampled, BIST runs (R28, R429, R431). -/
def State.powerOn (cause : ColdCause) (test : Bool) (b : Bist) (temp : Int) (fails : Nat) (s : State) : State :=
  if test then s.stored.onPm (fun p => { p with run := .testWait })
  else if b.fatal then
    s.stored.onPm (fun p =>
      { p with run := .bistHalt (fails + 1) (if fails + 1 < 3 then some (s.now + secs 10) else none) })
  else s.coldStart cause b temp

/-! ## Escalation (R428, R432) -/

/-- The failed items of a check: the pointers are part of the keeping bin, and fail with it (log 46). -/
def failedItems (l : List Item) : List Item :=
  let l := l.map (fun i => if i = .ptr then .keep else i)
  [Item.keep, .map, .ptr, .masks, .wakeq, .seen, .roster, .flights, .sched, .rxbuf, .cache, .events, .cal].filter
    (fun i => l.contains (if i = .ptr then .keep else i))

/-- The names of R528: the wake queue and the seen bitmap are one item. -/
def itemNames (l : List Item) : List Item := (l.map (fun i => if i = .seen then .wakeq else i)).eraseDups

/-- The keeping bin is lost (R258, R260, R432): counter mode at the time last saved, UNSYNCED, address 0, solo, the line
rate that is stored, residency from the store. DESIGN CHOICE (log 120): the chain mark is lost with it and reads clear. -/
def State.keepLost (s : State) : State :=
  let wasNormal := !s.time.counterMode
  let s := s.onTime (fun t =>
    { (t.setSlew s.now 0) with
      counterMode := true, rate := 0, fold := none, step := none
      offset := match t.saved with | some q => (q : Int) - (t.cq / 4 : Nat) * 1000 * 2 ^ 32 | none => 0 })
  let s := s.onLine (fun l =>
    { l with address := 0, chainOut := false, chainMark := false, solo := true, rate := s.pnat Obj.lineRate })
  let s := s.onNet (fun n => { n with parent := none, rankPrio := 0, rankEui := 0, joining := none, waitFrom := none })
  let s := s.onMon (fun m => { m with wanted := m.vaux != .off })
  let s := s.onPm (fun p => { p with ticks := p.savedTicks, entries := p.savedEntries })
  if wasNormal then s.audit (.self .timeKeepLost) 8 864 0 (.num 0) (.num 1) else s

/-- The cold step of one item (R432). A failed item of several records loses them all (log 47). -/
def State.escalate (i : Item) (s : State) : State :=
  match i with
  | .keep => s.keepLost
  | .map => s
  | .ptr => s
  | .masks => s.onWake (fun w => { w with masks := w.stored })
  | .wakeq => s.onWake (fun w => { w with queue := [], foldWins := [], folded := false })
  | .seen => s.onWake (fun w => { w with seen := [], foldFlag := true })
  | .roster => s.coldRoster
  | .flights => s.onWork (fun w => { w with table := [], waiting := [], lc := [] })
  | .sched =>
    let kept (b : Block) : Bool := b == .matcher || b == .wur || b == .mon || b == .pg
    let s := s.onSched (fun k =>
      { k with frames := s.schedNext.frames, cells := s.schedNext.cells, changes := [], retired := s.retiredChans,
               pending := [], carry := none })
    let s := (s.onFaults keptRes).onNet (fun n => { n with cache := [] })
    let s := s.onRoster (fun r => { r with seen := [], replays := [] })
    s.onTally (fun t =>
      { t with ctrs := t.ctrs.filter (fun c => kept c.block), peaks := Vector.replicate 6 0, bwPeak := [],
               since := t.since.map (fun x => if kept x.1 then x else (x.1, s.stamp)) })
  | .rxbuf => s.onRx (fun r => { r with buf := [], high := false })
  | .cache =>
    let n := s.store.cache.length
    (s.onStore (fun c => { c with cache := [], unsaved := [], auditCount := c.auditCount - (c.cache.filter CRec.isAudit).length })).countN .pmu "pm.cache.lost" n
  | .events => s.onLine (fun l => { l with lost := l.lost + l.events.length, events := [] })
  | .cal => s

/-- The calibration of a band is still good (R187). -/
def BandCal.fits (limit : Nat) (temp : Int) (c : BandCal) : Bool := decide ((temp - c.tcal).natAbs ≤ 4 * limit)

/-- A stored calibration of 24 h or less, made near the present temperature, is used again (R187). -/
def State.calFits (temp : Int) (s : State) : Bool :=
  let limit := s.pnat Obj.calDtemp
  decide (s.seconds ≤ s.radio.lastFull + 86400) && s.radio.subCal.fits limit temp && s.radio.g24Cal.fits limit temp

/-- The end of the flights and attempts that the reset cut (R326, R432). -/
def State.endCut (s : State) : State :=
  let s := s.each (s.work.table.filter (fun f => f.st == .air)) (fun f s =>
    let s := s.endFlight f.id .unknown
    if (s.lcOf f.handle.index).isSome && (s.lcFlights f.handle.index).isEmpty then s.lcOver f.handle.index else s)
  s.each (s.work.lc.filter (fun q => q.listen.isSome || q.answered)) (fun q s =>
    s.lcFail q.index (if q.answered then .noAck else .noAnswer))

/-- The checks of a warm start, with the cold steps of the failed items (R428, R432): the items that failed, and the
state. -/
def State.warmChecks (failed : List Item) (temp : Int) (s : State) : List Item × State :=
  let s := (s.startValues false).onRadio (fun r => { r with temp := temp })
  let calOk := s.calFits temp && !failed.contains .cal
  let failed := failedItems (if calOk then failed else failed ++ [.cal])
  let s := s.each failed State.escalate
  (failed, if calOk then s else s.calibrated temp)

/-- The part is in service again: outputs, hopping, the slot, the schedule, the roster and the windows of TALLY. -/
def State.warmService (cause : WarmCause) (s : State) : State :=
  let s := s.inService (.warm cause)
  let s := if s.pm.power == .active then s else s.enterPower .active
  let s := s.openLine.buildHops s.sched.maskNow
  let s := s.onTime (fun t => { t with slot := s.slotNow, slotAt := s.now })
  let s := (s.onNet (fun n => { n with started := true })).onRoster (fun r => { r with loaded := true })
  s.onTally (fun t => { t with bwFrom := s.now, bwBytes := [] })

/-- What a warm start counts and announces: the bursts the reset cut, the flights it ended, `~START` and, when the keeping
bin is lost, the change to counter mode (R118, R326, R427, R428, R432). -/
def State.warmNews (cause : WarmCause) (failed : List Item) (wasNormal selfTest : Bool) (s : State) : State :=
  let told := s.jomen.afterWarm
  let s := (s.onJomen (fun j => { j with afterWarm := [] })).queueAll told
  let s := (s.endCut.loader selfTest).countN .pmu "pm.retain.fail" (itemNames failed).length
  let s := (s.count .pmu "pm.start.warm").queue (.start (.warm cause) (itemNames failed))
  if failed.contains .keep && wasNormal then s.queue (.timeMode true) else s

/-- The warm start (R432), in one step (log 3). -/
def State.warmStart (cause : WarmCause) (failed : List Item) (temp : Int) (selfTest : Bool) (s : State) : State :=
  let wasNormal := !s.time.counterMode
  let (failed, s) := s.warmChecks failed temp
  let s := if failed.contains .keep then s.onNet (fun n => { n with st := .unsynced }) else s
  let s := (s.warmService cause).warmNews cause failed wasNormal selfTest
  let s := if s.mon.wanted && s.mon.vaux == .off && !s.mon.lockout && s.mon.retryAt.isNone && !s.mon.tripOwed then s.vauxAttempt else s
  s.flushCache.driveWake.drainBuf s.rx.buf.length

/-! ## Idle and the conditions of the entries (R413 to R415) -/

/-- The part has no work (R413). -/
def State.noWork (s : State) : Bool :=
  s.boundLanes = 0 && s.radio.st == .sleep && s.radio.trans.isNone && s.radio.cal.isNone && s.storeQueue = 0
    && s.store.flush.isNone && decide (s.line.sendEnd ≤ s.now) && s.mon.onOwed.isNone && s.wake.armOwed.isEmpty && s.store.heldLines.isEmpty
    && s.work.round.isNone && s.work.rounds.isEmpty && (s.jomen.due ++ s.jomen.queue ++ s.jomen.onAir.toList).isEmpty
    && s.rx.buf.isEmpty && s.line.rollAt.isNone && s.image.verify.isNone && s.pm.resetAt.isNone && s.pm.reload.isEmpty

/-- The active cells of a slot: in UNSYNCED and CANDIDATE only CONV and CAPT (R289). -/
def State.activeCells (slot : Nat) (s : State) : List Cell :=
  let free := s.noNetwork
  ((s.cellsAt (slot % 2 ^ 40)).map (·.2)).filter (fun c => !free || c.kind == .conv || c.kind == .capt)

/-- The moment the present slot began. -/
def State.slotStart (s : State) : Ticks := s.now - s.slotOffset * cclkTicks

/-- A cell is active, or starts within a time. -/
def State.cellSoon (d : Ticks) (s : State) : Bool :=
  !s.sched.run.isEmpty
    || (List.range (d / s.slotTicks + 2)).any (fun k =>
        (s.activeCells (s.slotNow + k)).any (fun c =>
          let t := s.slotStart + k * s.slotTicks + c.offset * cclkTicks
          decide (s.now ≤ t) && decide (t ≤ s.now + d)))

/-- A burst is on its way, or falls due within a time. -/
def State.burstSoon (d : Ticks) (s : State) : Bool :=
  !(s.jomen.due ++ s.jomen.queue ++ s.jomen.onAir.toList).isEmpty || s.wake.sweeping.isSome
    || s.wake.sweeps.any (fun x => decide (x.2 ≤ s.now + d)) || s.net.reacq.any (fun q => decide (q.nextAt ≤ s.now + d))

/-- No round runs or is requested. -/
def State.roundIdle (s : State) : Bool := s.work.round.isNone && s.work.rounds.isEmpty

/-- The conditions of R414 for LARDER. -/
def State.larderOk (s : State) : Bool :=
  !s.cellSoon (ms 50) && !s.burstSoon (ms 50) && s.roundIdle && s.rx.buf.isEmpty
    && !s.work.table.any (fun f => f.st == .air || f.st == .lastchance) && s.pm.crystal && s.store.flush.isNone

/-- The conditions of R415 for CELLAR, without the timers. -/
def State.cellarOk (s : State) : Bool :=
  s.work.table.isEmpty && s.work.waiting.isEmpty && s.roundIdle && s.wake.sweeps.isEmpty && s.wake.sweeping.isNone
    && s.rx.buf.isEmpty && s.pm.crystal && s.store.flush.isNone
    && (s.jomen.due ++ s.jomen.queue ++ s.jomen.onAir.toList).isEmpty

/-! ## Entries (R414 to R416, R436) -/

/-- The entry steps of a state begin; they count towards ACTIVE (R438). -/
def State.beginEntry (p : Power) (d : Ticks) (s : State) : State :=
  s.onPm (fun m => { m with power := .active, entering := some (p, s.now + d), idleFrom := none, loftFrom := none })

/-- Every bin of a span of bins is kept in LARDER (R421). -/
def State.binsKept (s : State) (from_ n : Nat) : Bool :=
  (List.range n).all (fun k => (s.pnat Obj.larderBins).testBit (from_ + k))

/-- The LARDER entry begins: 1 ms, or 12 ms when the roster bins are left out (R412). -/
def State.enterLarder (s : State) : State :=
  let s := s.fire .larderEntry
  s.beginEntry .larder (if s.binsKept 0 12 then ms 1 else ms 12)

/-- The time of the CELLAR entry steps (R415). -/
abbrev cellarSteps : Ticks := us 20100

/-- Queued events move to the ledger, and the next event line is `~LOST` with their number (R69). -/
def State.moveEvents (s : State) : State :=
  let l := s.line.events
  let s := s.each l (fun e s => s.ledgerAt e.time (.event e))
  s.onLine (fun k => { k with events := [], lost := k.lost + l.length })

/-- Everything that stops with the XO: the radio, the lanes, a capture, LINE's receiver (R46, R250, R409). -/
def State.xoStops (s : State) : State :=
  let s := s.stopTx.quiet
  (s.onLine (fun l => { l with isOpen := false, partialLine := [] })).onSched (fun k => { k with active := [], run := [], bitmapOk := false })

/-- The commit edge of a LARDER entry, with the steps before it (R410, R414): with bin 18 left out, the events move and the
roster image is written. -/
def State.commitLarder (s : State) : State :=
  let s := if s.binsKept 0 12 then s else (s.persistAll).onRoster (fun r => { r with loaded := false })
  let s := if s.binsKept 18 1 then s else (s.moveEvents.onStore Store.writeSystem).onLine Line.endSession
  let items := (if s.binsKept 19 3 then [] else [Item.map]) ++ (if s.binsKept 0 12 then [] else [Item.roster])
  (s.saveTime.xoStops.onPm (fun p => { p with reload := items })).enterPower .larder

/-- The commit edge of a CELLAR entry (R415): event lines queued since the steps began go the way of the others (R69),
what is left in the cache is programmed before its bins lose power, and the roster image is in the system area (R443). -/
def State.commitCellar (s : State) : State :=
  let s := (s.moveEvents.flushCache.onStore Store.writeSystem).xoStops.fire .cellarEntry
  let s := s.onLine Line.endSession
  let n := s.pnat Obj.cellarPeriod
  (s.onPm (fun p => { p with cellarAt := if n = 0 then none else some (s.now + secs n) })).enterPower .cellar

/-- The entry to SHELF (R436): everything but the two detectors is off; its steps are those of CELLAR (R415). -/
def State.commitShelf (s : State) : State :=
  let s := if s.store.flush.isSome then s.flushEnd else s
  let s := ((s.moveEvents.flushCache.onStore Store.writeSystem).xoStops.wakeDark.vauxOff).onLine (fun l => { l.endSession with pullup := false })
  (s.onPm (fun p => { p with shelfFrom := some s.now, shelfArmed := false })).enterPower .shelf

/-- The entry steps that fall on the present moment (R414, R415); they begin when the reply of the command that asked for them
has gone (R422). -/
def State.entrySteps (s : State) : State :=
  match s.pm.entering with
  | none => s
  | some (p, t) =>
    if s.onWire == some .reply then s.onPm (fun m => { m with entering := some (p, t + 1) }) else
    match p with
    | .larder => if t ≤ s.now then s.commitLarder else s
    | .loft => s
    | .active => s
    | p =>
      let s := if s.now + us 15100 = t then s.flushCache else s
      let s := if s.now + us 12100 = t then s.persistAll.moveEvents.saveTime else s
      let s := if s.now + us 100 = t && s.pnat Obj.vauxPolicy == 1 then s.vauxOff else s
      if t ≤ s.now then (if p = .shelf then s.commitShelf else s.commitCellar) else s

end Sys2Proof.Machine
end

