-- ==== Sys2Proof/Machine/Power.lean ====
section
/-!
DEFINITION. Sys2Proof/Machine/Power.lean: the commands and events of PMU (R28 to R32, R409 to R439), and the edges that
fall on a tick.
-/

namespace Sys2Proof.Machine

/-! ## DO pm.sleep, DO pm.shelf, DO pm.residency (R422, R436, R439) -/

/-- `DO pm.sleep larder|cellar`: it ignores `pm.floor` and the timers (R412); its record names the state (R520). -/
def runDoPmSleep (h : Hdr) (cellar : Bool) (s : State) : Done :=
  let aud : Option Aud := some { action := 4, obj := 540, old := .num 0, new := .num (if cellar then 3 else 2) }
  needs .operator s (some 540) aud (
    if cellar then
      if s.cellarOk then good (s.beginEntry .cellar cellarSteps) [.word "CELLAR"] (some 540) aud
      else bad s .state 0 (some 540) aud
    else if s.larderOk then good s.enterLarder [.word "LARDER"] (some 540) aud
    else bad s .state 0 (some 540) aud)

/-- The line of `runDoPmSleep`. -/
def execDoPmSleep (h : Hdr) (cellar : Bool) (s : State) : Ans :=
  .next (s.change (.doPmSleep h cellar) h .do_ true false (runDoPmSleep h cellar))

/-- `DO pm.shelf`: refused until the sleep crystal is good (R430). -/
def runDoPmShelf (h : Hdr) : State → Done :=
  actionRun 541 .custodian (fun s a =>
    if s.pm.crystal then good (s.beginEntry .shelf cellarSteps) [.word "SHELF"] (some 541) a
    else bad s .state 0 (some 541) a)

/-- The line of `runDoPmShelf`. -/
def execDoPmShelf (h : Hdr) (s : State) : Ans :=
  .next (s.change (.doPmShelf h) h .do_ true false (runDoPmShelf h))

/-- The line of a state; SHELF has no ticks (R439). -/
def State.resLineOf (s : State) (p : Power) : OutLine :=
  match p with
  | .active => .residency p (some s.pm.ticks[0]) s.pm.entries[0]
  | .loft => .residency p (some s.pm.ticks[1]) s.pm.entries[1]
  | .larder => .residency p (some s.pm.ticks[2]) s.pm.entries[2]
  | .cellar => .residency p (some s.pm.ticks[3]) s.pm.entries[3]
  | .shelf => .residency p none s.pm.entries[4]

/-- `DO pm.residency`. -/
def execDoPmResidency (h : Hdr) (s : State) : Ans :=
  .next (s.report h 542 .observer (fun s =>
    good s ([Power.active, .loft, .larder, .cellar, .shelf].map s.resLineOf ++ [.dot]) (some 542) none))

/-! ## RESET (R427) -/

/-- The record of R520 of a RESET. -/
def resetAud (obj : Nat) : Aud := { action := 6, obj := obj, old := .num 0, new := .num 0 }

/-- A reset is asked for; one that already waits stands. -/
def State.askReset (t : Ticks) (c : StartCause) (s : State) : State :=
  if s.pm.resetAt.isSome then s else s.onPm (fun p => { p with resetAt := some (t, c) })

/-- `RESET WARM`: the edge falls 1 ms after the reply (`State.resetDue`). -/
def runResetWarm (h : Hdr) (s : State) : Done :=
  let aud : Option Aud := some (resetAud 772)
  needs .operator s (some 772) aud (good (s.askReset (s.now + ms 1) (.warm .warm)) [.word "WARM"] (some 772) aud)

/-- The line of `runResetWarm`. -/
def execResetWarm (h : Hdr) (s : State) : Ans :=
  .next (s.change (.resetWarm h) h .reset true false (runResetWarm h))

/-- `RESET COLD`: closed wake records go into the cache (R161), and the edge falls when the store is done, 5.0 ms at
most. -/
def runResetCold (h : Hdr) (s : State) : Done :=
  let aud : Option Aud := some (resetAud 773)
  needs .custodian s (some 773) aud (
    let s := s.each (s.wake.queue.filter (fun r => !r.isOpen)) (fun r s => s.ledgerAt r.stamp (.wake r))
    good (s.askReset (s.now + ms 5) (.cold .cold)) [.word "COLD"] (some 773) aud)

/-- The line of `runResetCold`. -/
def execResetCold (h : Hdr) (s : State) : Ans :=
  .next (s.change (.resetCold h) h .reset true false (runResetCold h))

/-- The reset edge of a reset that was asked for (R427): 1 ms after the end of the reply, or 5 ms after it for a cold one,
which first flushes the store; a broadcast has no reply. -/
def State.resetDue (s : State) : State :=
  match s.pm.resetAt, s.pm.run with
  | some (t, .warm c), .running => if max t (s.line.sendEnd + ms 1) ≤ s.now then s.warmEdge c else s
  | some (t, .cold c), .running =>
    if max t (s.line.sendEnd + ms 5) ≤ s.now then ((s.cutChanges.flushCache).onStore Store.writeSystem).coldEdge c (some (s.now + ms 10)) else s
  | _, _ => s

/-! ## Descent on idle (R412 to R416) -/

/-- The part sleeps no further: no exit and no entry runs. -/
def State.steady (s : State) : Bool := s.running && s.pm.exiting.isNone && s.pm.entering.isNone

/-- ACTIVE descends to LOFT after `pm.idle.loft` without work. -/
def execIdleToLoft (s : State) : Ans :=
  .next (
    let t := if s.steady then s.fire .timerCompare else s
    match t.pm.idleFrom with
    | some f =>
      if t.steady && t.pm.power == .active && t.noWork && decide (1 ≤ t.pnat Obj.pmFloor)
          && decide (f + ms (t.pnat Obj.idleLoft) ≤ t.now) then (t.fire .loftEntry).enterPower .loft
      else t
    | none => t)

/-- LOFT descends towards LARDER after `pm.idle.larder` (R414). -/
def execLoftToLarder (s : State) : Ans :=
  .next (
    let t := if s.steady then s.fire .timerCompare else s
    match t.pm.loftFrom with
    | some f =>
      if t.steady && t.pm.power == .loft && decide (2 ≤ t.pnat Obj.pmFloor)
          && decide (f + ms (t.pnat Obj.idleLarder) ≤ t.now) && t.larderOk then t.enterLarder
      else t
    | none => t)

/-- The hold-off of R426 has ended. -/
def State.holdOver (s : State) : Bool := match s.net.holdCellar with | some t => decide (t ≤ s.now) | none => true

/-- The entry to CELLAR from LOFT or LARDER (R415); from LARDER the LARDER exit runs first (R412). -/
def execCellarEntry (s : State) : Ans :=
  .next (
    let t := if s.steady then s.fire .timerCompare else s
    if t.steady && decide (3 ≤ t.pnat Obj.pmFloor) && decide (t.pm.lineIdle + secs (t.pnat Obj.idleCellar) ≤ t.now)
        && t.cellarOk && t.holdOver then
      match t.pm.power with
      | .loft => t.beginEntry .cellar cellarSteps
      | .larder => t.onPm (fun p => { p with exiting := some (.larder, t.now + exitTime .larder), thenCellar := true })
      | _ => t
    else t)

/-! ## Wake events and exits (R423 to R426) -/

/-- The states that a wake event wakes from (R423); every one raises the part from LOFT. -/
def WakeCause.wakes (c : WakeCause) (p : Power) : Bool :=
  match p with
  | .active => false
  | .shelf => false
  | .loft => true
  | .larder => c != .cellarPeriod
  | .cellar => c != .schedule

/-- The part takes note of LINE (R47, R86). -/
def State.lineHeeded (s : State) : Bool :=
  s.line.stuckAt.isNone && !(s.pint Obj.lineHostVaux == 1 && s.mon.vaux == .off)

/-- A wake event: it cancels an entry, or starts an exit (R416, R424). -/
def execWakeEventExit (cause : WakeCause) (s : State) : Ans :=
  .next (
    if (cause == .line && !s.lineHeeded) || !(s.pm.entering.isSome || WakeCause.wakes cause s.pm.power) then s
    else s.wakeEvent)

/-- What a CELLAR exit checks (R428): the keeping bin and the cellar bins. -/
def cellarItems (l : List Item) : List Item :=
  (failedItems l).filter (fun i => i == .keep || i == .ptr || i == .masks || i == .wakeq || i == .seen)

/-- The end of a CELLAR exit: failed bins are escalated alone, the roster is loaded (R424, R428). -/
def State.cellarExit (failed : List Item) (s : State) : State :=
  let l := cellarItems failed
  let wasNormal := !s.time.counterMode
  let s := (s.each l State.escalate).countN .pmu "pm.retain.fail" (itemNames l).length
  let s := s.onRoster (fun r => { r with loaded := true })
  if l.contains .keep then
    let s := s.onNet (fun n => { n with st := .unsynced, started := true })
    if wasNormal then s.queue (.timeMode true) else s
  else s

/-- The slot is taken from TIME; the schedule resumes at the next boundary (R424, R425). -/
def State.slotTaken (s : State) : State :=
  s.onTime (fun t => { t with slot := s.slotNow, slotAt := s.now - s.slotOffset * cclkTicks })

/-- Where a LARDER or CELLAR exit leaves the radio: the XO has started and the references are on (R177). -/
def State.radioStandby (s : State) : State :=
  s.onRadio (fun r => if r.st = .sleep && r.trans.isNone then { r with st := .standby } else r)

/-- The part is in ACTIVE at the end of an exit from a state. -/
def State.exitFrom (failed : List Item) (p : Power) (s : State) : State :=
  match p with
  | .larder =>
    let s := (s.enterPower .active).slotTaken.radioStandby
    match s.store.flushOwed with
    | some t => s.stopTx.startFlush t
    | none => s
  | .cellar => ((s.enterPower .active).slotTaken.cellarExit failed).radioStandby
  | _ => s.enterPower .active

/-- An exit reaches its fixed delay. An exit on the way to CELLAR leads on to its entry steps, unless a wake event came. -/
def execExitComplete (failed : List Item) (s : State) : Ans :=
  .next (
    match s.pm.exiting with
    | some (p, t) =>
      if s.running && decide (t ≤ s.now) then
        let on := s.pm.thenCellar && !s.pm.held
        let s := (s.exitFrom failed p).onPm (fun m => { m with held := false, thenCellar := false })
        if on && s.store.flush.isNone then s.beginEntry .cellar cellarSteps else s
      else s
    | none => s)

/-- How far ahead the schedule timer wakes the part: 200 µs in LOFT; in LARDER 1,520 µs, at a sleep tick. -/
def wakeLead : Power → Ticks
  | .loft => us 200
  | .larder => us 1520 + sleepTicks
  | _ => 0

/-- The next slot holds an active cell, or lanes that listen for a network (R289), and its boundary is near. -/
def State.slotSoon (d : Ticks) (s : State) : Bool :=
  let listens := s.net.started && s.noNetwork
  decide (s.slotStart + s.slotTicks ≤ s.now + d) && ((!(s.activeCells (s.slotNow + 1)).isEmpty) || listens)

/-- The schedule timer wakes the part before a slot with an active cell, or before a due burst (R425). -/
def execScheduleTimerWake (s : State) : Ans :=
  .next (
    if s.steady && WakeCause.wakes .schedule s.pm.power && (s.slotSoon (wakeLead s.pm.power) || s.burstSoon (wakeLead s.pm.power))
    then s.wakeEvent
    else s)

/-- The timer of `pm.cellar.period` ends; MEMBER and HOLDOVER then hold off CELLAR for 2 × L0 slots (R426). -/
def execCellarPeriodWake (s : State) : Ans :=
  .next (
    match s.pm.cellarAt with
    | some t =>
      if s.running && s.pm.power == .cellar && decide (t ≤ s.now) then
        let s := s.onPm (fun p => { p with cellarAt := none })
        let s := if s.net.st == .member || s.net.st == .holdover then
            s.onNet (fun n => { n with holdCellar := some (s.now + 2 * s.l0 * s.slotTicks) }) else s
        s.wakeEvent
      else s
    | none => s)

/-- After a LARDER exit the bins left out are loaded again, and the frame checks that waited go on (R424). -/
def execBackgroundReload (s : State) : Ans :=
  .next (
    if s.ccOn && !s.pm.reload.isEmpty then
      let s := (s.onRoster (fun r => { r with loaded := true })).onPm (fun p => { p with reload := [] })
      s.drainBuf s.rx.buf.length
    else s)

/-! ## Starts (R427 to R432) -/

/-- VBAT has stood above the start threshold for 1 ms (R31), or the regulator is back after a cold reset. -/
def execPowerOnStart (cause : ColdCause) (test : Bool) (bist : Bist) (temp : Int) (s : State) : Ans :=
  .next (
    match s.pm.run with
    | .unpowered => s.powerOn cause test bist temp 0
    | .coldReset c =>
      match s.pm.resetAt with
      | some (t, _) => if t ≤ s.now then s.powerOn c test bist temp 0 else s
      | none => s.powerOn c test bist temp 0
    | _ => s)

/-- VBAT falls below the brown-out level: reset at once, in whatever state the part is (R32). -/
def execBrownOut (s : State) : Ans :=
  .next (
    match s.pm.run with
    | .unpowered => s
    | _ => s.coldEdge .brownout none)

/-- A low of 1 ms on LINE with the SHELF detector armed (R437). -/
def execShelfWake (s : State) : Ans :=
  .next (if s.running && s.pm.power == .shelf && s.pm.shelfArmed then s.coldEdge .shelf none else s)

/-- LINE has been high for 10 ms since the entry to SHELF (R437). -/
def execShelfDetectorArm (s : State) : Ans :=
  .next (
    match s.pm.shelfFrom with
    | some t =>
      if s.running && s.pm.power == .shelf && decide (t + ms 10 ≤ s.now) then s.onPm (fun p => { p with shelfArmed := true })
      else s
    | none => s)

/-- CC has been silent for 1 s (R427): CC runs in ACTIVE. -/
def execWatchdog (s : State) : Ans :=
  .next (if s.running && s.pm.power == .active then (s.count .pmu "pm.watchdog").warmEdge .watchdog else s)

/-- The warm start (R432): `failed` are the items whose check fails, `selfTestOk` the result of the self-test a trial
needs. -/
def execWarmStart (failed : List Item) (temp : Int) (selfTestOk : Bool) (s : State) : Ans :=
  .next (
    match s.pm.run with
    | .warmReset c => s.warmStart c failed temp selfTestOk
    | _ => s)

/-- The sleep crystal is good (R430). -/
def execSleepCrystalGood (s : State) : Ans :=
  .next (if s.running then s.onPm (fun p => { p with crystal := true }) else s)

/-- The cold start is tried again 10 s after a BIST failure (R431). -/
def execBistRetry (bist : Bist) (temp : Int) (s : State) : Ans :=
  .next (
    match s.pm.run with
    | .bistHalt n (some t) => if t ≤ s.now then s.powerOn .bist false bist temp n else s
    | _ => s)

/-- The confirmation time of an image on trial ends: the next boot of the trial (R475). -/
def execConfirmTimerExpiry (s : State) : Ans :=
  .next (
    match s.image.confirmAt with
    | some t => if s.cellarOn && s.running && decide (t ≤ s.now) then s.warmEdge .trial else s
    | none => s)

end Sys2Proof.Machine
end

