-- ==== Sys2Proof/Machine/Radio.lean ====
section
/-!
DEFINITION. Sys2Proof/Machine/Radio.lean: the commands and events of the main radio: transitions, the end of a
transmission, calibration, the PA loop, the aerials and coexistence (R175 to R217).
-/

namespace Sys2Proof.Machine

/-! ## Transitions (R177 to R179) -/

/-- The state a transition reaches. Below SYNTH no synthesiser is powered (R175). -/
def State.reach (dest : RadioSt) (s : State) : State :=
  match dest with
  | .tx => s.beginTx
  | .rx => (((s.onRadio (fun r => { r with st := .rx })).chainsOn.valid).moveRadio).resume
  | .synth => (((s.onRadio (fun r => { r with st := .synth })).chainsOff).moveRadio).resume
  | d => (((s.onRadio (fun r => { r with st := d, idleHeld := false })).chainsOff).moveRadio).resume

/-- A transition reaches its maximum time and what follows begins (R177, R178). The die temperature is read on the way
from STANDBY to SYNTH (R188). -/
def execRadioTransitionDone (temp : Int) (s : State) : Ans :=
  .next (
    match s.radio.trans with
    | none => s
    | some t =>
      if s.now < t.at_ then s
      else
        let reads := s.radio.st == .standby && t.dest == .synth
        let s := s.onRadio (fun r => { r with trans := none })
        let s := match t.tune with
          | some (b, khz) => s.tuned b khz temp
          | none => s
        let s := if reads then s.readTemp temp else s
        s.reach t.dest)

/-- The time a frame is on the air: preamble, SFD, PHR and PSDU (R242, R243, R246, R311). -/
def Tx.frameTicks (tx : Tx) : Ticks := airTicks tx.rate ((tx.head.map AirHead.preamble).getD 0 + 4 + tx.octets)

/-- The flight whose frame a transmission carries waits for its answer from now on (R300, R321). -/
def State.frameSent (k : TxKind) (s : State) : State :=
  match k with
  | .flight id => s.onFlight id (fun f => { f with sentEnd := s.now, awaiting := true })
  | .push id => s.onFlight id (fun f => { f with sentEnd := s.now, awaiting := true })
  | _ => s

/-- The end of a frame: the PA ramps down and the radio returns to SYNTH, or after a call to RX (R177, R311). The first
symbol goes out at the end of the PA's ramp (R196). -/
def execTxEndOfFrame (s : State) : Ans :=
  .next (
    match s.radio.tx with
    | some tx =>
      if tx.kind != .burst && decide (s.radio.paFrom + us 4 + tx.frameTicks ≤ s.now) then
        (s.endTx tx).frameSent tx.kind
      else s
    | none => s)

/-! ## Temperature and calibration (R186 to R193) -/

/-- Every 250 ms in ACTIVE and LOFT the die temperature is read (R253), and judged while the radio is out of SLEEP
(R188). -/
def execDieTemperatureReading (temp : Int) (s : State) : Ans :=
  .next (if s.running && (s.pm.power == .active || s.pm.power == .loft) then s.readTemp temp else s)

/-- The bands of a band. -/
def selOf : Band → BandSel
  | .sub => .sub
  | .g24 => .g24

/-- The radio is free for a calibration in a gap: no claim above rank 5 holds it (R180). -/
def State.calFree (s : State) : Bool :=
  s.ccOn && (s.radio.st == .rx || s.radio.st == .synth) && s.radio.trans.isNone && s.radio.tx.isNone && s.txFree
    && !s.anyPayload && s.jomen.onAir.isNone && !s.roundRuns

/-- A schedule gap of 400 µs or more: the most recently used stale group in use of a due band is calibrated (R189). -/
def execGapCalibration (band : Band) (gap : Ticks) (s : State) : Ans :=
  .next (
    if s.calFree && (s.radio.cal' band).due.isSome && decide (us 400 ≤ gap) then
      match s.staleInUse band with
      | g :: _ => s.startCal .gap .osc (selOf band) [(band, g)]
      | [] => s
    else s)

/-- The stale groups in use of every band that is due 2 s or more before the present slot (R190). -/
def State.overdueGroups (s : State) : List (Band × Nat) :=
  let late (b : Band) : Bool := match (s.radio.cal' b).due with | some t => decide (t + secs 2 ≤ s.time.slotAt) | none => false
  if late .sub || late .g24 then
    [Band.sub, Band.g24].flatMap (fun b =>
      if (s.radio.cal' b).due.isSome then (s.staleInUse b).map (fun g => (b, g)) else [])
  else []

/-- The groups that fit in what remains of the slot, with 200 µs left at its end (R190). -/
def State.groupsThatFit (s : State) : Nat :=
  (s.time.slotAt + s.slotTicks - s.now - us 200) / us 262

/-- The first slot that begins 2 s or more after the trigger is taken as a whole, and so is the next while groups remain
(R190): the calibration starts at the slot's boundary. -/
def execCalibrationDeadline (s : State) : Ans :=
  .next (
    let l := s.overdueGroups.take s.groupsThatFit
    if s.atBoundary && s.radio.cal.isNone && !l.isEmpty then (s.startCal .slot .osc .both l).takenSlot else s)

/-- A calibration ends: its results are taken, and the working band is relocked (R177, R189 to R192, R488). -/
def execCalibrationComplete (temp : Int) (out : List Side) (s : State) : Ans :=
  .next (
    match s.radio.cal with
    | some c =>
      if c.endAt ≤ s.now then (s.endCal c temp out).trans .synth (us 60) none else s
    | none => s)

/-- The idle band's synthesiser goes off when no cell for its band falls within the next 20 ms (R179). -/
def execIdleSynthOff (s : State) : Ans :=
  .next (if s.radio.idleHeld && !s.otherBandSoon then s.onRadio (fun r => { r with idleHeld := false }) else s)

/-- `DO radio.cal [kind] [band]` (R192): kind `all` and band `both` where none is given; audited at once, run from the next
slot boundary, and answered when the calibration ends. -/
def runDoRadioCal (h : Hdr) (kind : Option CalKind) (band : Option BandSel) : State → Done :=
  actionRun 515 .operator (fun s aud =>
    good (s.onRadio (fun r => { r with calAsked := r.calAsked ++ [(.command h, kind.getD .all, band.getD .both)] })) []
      (some 515) aud)

/-- The line of `runDoRadioCal`. -/
def execDoRadioCal (h : Hdr) (kind : Option CalKind) (band : Option BandSel) (s : State) : Ans :=
  .next (s.change (.doRadioCal h kind band) h .do_ true false (runDoRadioCal h kind band))

/-! ## The PA loop and the aerials (R196, R197, R202) -/

/-- A value held between two limits. -/
def clampInt (lo hi i : Int) : Int := max lo (min hi i)

/-- A correction of the loop is due (R196): in a frame 10 µs after PG1 enabled the PA and every 64 µs after that; in a burst
10 µs into a 1 chip, 2 µs after its reading, once in each. -/
def State.loopDue (tx : Tx) (s : State) : Bool :=
  s.radio.paOn
    && (match tx.body with
        | .chips fast _ =>
          let (n, on) := s.chipNow
          on && s.radio.loopChip != some n
            && decide (s.radio.paFrom + us 14 + n * (if fast then 125000 else 500000) ≤ s.now)
        | _ => decide (s.radio.loopNext ≤ s.now))

/-- The forward detector is read, in 0.25 dBm, and the drive corrected by at most 1 dB, within 3 dB below and 1.5 dB above
its calibrated value; a frame held at a limit is counted once (R196, R197). -/
def execPaLoopCorrection (forward : Int) (s : State) : Ans :=
  .next (
    match s.radio.tx with
    | some tx =>
      if s.loopDue tx then
        let want := s.radio.drive + clampInt (-4) 4 (s.radio.target - forward)
        let lo := s.radio.drive0 - 12
        let hi := s.radio.drive0 + 6
        let held := decide (want < lo) || decide (hi < want)
        let s' := s.onRadio (fun r =>
          { r with drive := clampInt lo hi want, limited := r.limited || held, loopNext := r.loopNext + us 64,
                   loopChip := some s.chipNow.1 })
        if held && !s.radio.limited then s'.count .rfe "radio.pa.limit" else s'
      else s
    | none => s)

/-- The exclusion of a transmit aerial ends (R202, R488). -/
def execAerialRestEnd (aerial : Side) (s : State) : Ans :=
  .next (
    s.onRadio (fun r =>
      let ended (x : Option Ticks) : Option Ticks :=
        match x with | some t => if t ≤ s.now then none else some t | none => none
      match aerial with
      | .a => { r with exclA := ended r.exclA }
      | .b => { r with exclB := ended r.exclB }))

/-! ## Coexistence (R205 to R212) -/

/-- A request rises (R207): its priority and its lead time are those in force now. -/
def State.coexRise (high : Bool) (air : Ticks) (c : Option Claim) (s : State) : State :=
  s.onRadio (fun r =>
    { r with coexReq := true, coexAt := s.now, coexHi := high, coexAir := air, ahead := c, granted := false, coexOff := none })

/-- The transmission that owns the standing request is on the air, or on its way. -/
def State.coexOwned (s : State) : Bool := (s.radio.tx.toList ++ s.radio.next.toList).any Tx.coex

/-- A request for a scheduled transmission may stand from now on (R208): none stands for another, COEX_REQ is not on its way
down, and a transmission that owns the standing request has the same priority. -/
def State.mayClaim (c : Claim) (s : State) : Bool :=
  s.radio.ahead.isNone && s.radio.coexOff.isNone
    && (!s.coexOwned || (s.radio.coexReq && (c.high || s.claimFree c) == s.radio.coexHi))

/-- The request for a scheduled transmission: the standing one is held for it without a new edge (R208), else its own rises,
and one that waits yields (R209). -/
def State.claimRequest (c : Claim) (s : State) : State :=
  if s.coexOwned then s.onRadio (fun r => { r with coexAir := c.air, ahead := some c })
  else (s.onRadio Radio.yieldWait).coexRise (c.high || s.claimFree c) c.air (some c)

/-- COEX_REQ rises (R207): for the scheduled transmission whose T_air is `coex.lead` ahead, else for one that waits. -/
def execCoexRequest (s : State) : Ans :=
  .next (
    let t := s.fire .coexRequest
    let air := t.now + us (t.pnat Obj.coexLead)
    match t.claims.find? (fun c => c.air == air && t.coexOn c.band), t.radio.coexWait with
    | some c, _ => if t.mayClaim c then t.claimRequest c else s
    | none, some w => if s.radio.coexReq then s else t.coexRise (t.txHigh w) air none
    | none, none => s)

/-- COEX_GNT has been sampled high: the starvation timer is zero, and a fault ends (R211). -/
def State.coexHigh (s : State) : State :=
  let was := s.radio.coexFault
  let s := s.onRadio (fun r => { r with starved := 0, coexLow := false, coexFault := false })
  if was then s.queue .coexUp else s

/-- An unscheduled transmission that waits goes ahead, with its T_air 30 µs on (R209) or at the T_air of its request; it still
waits for payloads, for a claim above it, and while transmission is barred (R34, R180, R400). -/
def State.coexGo (granted : Bool) (w : Tx) (s : State) : State :=
  if s.anyPayload || s.txBarred || s.calSlot || s.radio.tx.isSome || s.radio.next.isSome || s.radio.cal.isSome then s
  else
    let air := max s.radio.coexAir (s.now + us 30)
    (s.onRadio (fun r => { r with granted := granted, coexWait := none, coexAir := air })).goTx { w with air := air }

/-- The grant's sample: 30 µs before the T_air of the request (R207). -/
def State.sampleDue (s : State) : Bool := s.radio.coexReq && decide (s.radio.coexAir ≤ s.now + us 30)

/-- COEX_GNT is sampled 30 µs before T_air: a scheduled transmission is granted, or will be skipped at its T_air; an
unscheduled one goes ahead or waits (R207 to R209). Under the override of R212 it is not sampled. -/
def execCoexGrantSample (gnt : Bool) (s : State) : Ans :=
  .next (
    if !s.sampleDue then s
    else
      match s.radio.ahead, s.radio.coexWait with
      | some c, _ =>
        if s.claimFree c || c.lost || s.radio.granted && s.coexOwned || c.air ≤ s.now then s
        else if gnt then s.coexHigh.onRadio (fun r => { r with granted := true })
        else s.onRadio (fun r => { r with coexLow := true })
      | none, some w =>
        if s.coexFree w then s
        else if gnt then s.coexHigh.coexGo true w
        else s.onRadio (fun r => { r with coexLow := true })
      | none, none => s)

/-- COEX_GNT rises. While a denied transmission waits, the edge is its grant sample (R209). -/
def execCoexGrantRise (s : State) : Ans :=
  .next (
    let up := s.onRadio (fun r => { r with coexLow := false })
    match s.radio.ahead, s.radio.coexWait with
    | none, some w => if s.sampleDue && !s.coexFree w then s.coexHigh.coexGo true w else up
    | _, _ => up)

/-- COEX_GNT low for 250 ns. From the grant sample to PA drive off the loss trips the generators whose mask selects it, and
the frame is abandoned and counted; what was still on its way is abandoned too (R210, R397). -/
def execCoexGrantLoss (s : State) : Ans :=
  .next (
    let down := s.onRadio (fun r => { r with coexLow := true })
    if s.radio.granted then
      let s := down.count .rfe "coex.loss"
      match s.radio.tx, s.radio.next, s.radio.ahead with
      | some _, _, _ =>
        ((s.onMon (fun m => { m with coexLoss := true })).pgFallAll).onMon (fun m => { m with coexLoss := false })
      | none, some tx, _ =>
        let s := s.onRadio (fun r =>
          { r with granted := false, next := none, coexOff := some (s.now + us 5),
                   trans := match r.trans with | some t => if t.dest = .tx then none else some t | none => none })
        ((s.txLost tx).moveRadio).resume
      | none, none, some c => s.onRadio (fun r => { r with granted := false, ahead := some { c with lost := true } })
      | none, none, none => s
    else down)

/-- The starvation timer reaches `coex.starve`: a coexistence fault (R211). -/
def execCoexStarvation (s : State) : Ans :=
  .next (
    let s := s.fire .coexTimer
    if !s.radio.coexFault && decide (secs (s.pnat Obj.coexStarve) ≤ s.radio.starved) then
      ((s.onRadio (fun r => { r with coexFault := true })).queue .coexStarve).count .rfe "coex.starve" |>.coexOverride
    else s)

/-- The request of a scheduled transmission whose T_air has passed without it ends (R209). -/
def State.aheadGone (s : State) : State :=
  match s.radio.ahead with
  | some c =>
    if c.air < s.now && !s.retuning then
      s.onRadio (fun r =>
        { r with ahead := none, granted := r.granted && s.coexOwned, coexOff := if s.coexOwned then r.coexOff else some s.now })
    else s
  | none => s

/-- What the coexistence wires do of themselves (R207, R209 to R212): the starvation timer runs while COEX_REQ is high and
COEX_GNT low, COEX_REQ falls when its time has come, and under the override a class 7 transmission goes ahead at its T_air. -/
def State.coexTick (s : State) : State :=
  let s := if s.coexPin && s.radio.coexLow then s.onRadio (fun r => { r with starved := r.starved + 1 }) else s
  let s := s.aheadGone
  let s := match s.radio.coexOff with
    | some t => if t ≤ s.now then s.onRadio Radio.coexDrop else s
    | none => s
  match s.radio.coexWait with
  | some w =>
    if s.coexFree w && s.radio.coexHi && s.sampleDue then
      let t := s.coexGo false w
      if t.radio.coexWait.isNone then t.count .rfe "coex.override" else s
    else s
  | none => s

/-- The offset that is left on a chain in RX follows its loop, with a time constant of 1 ms, 128,000 CCLK cycles, and stands
still while a lane of the chain receives a payload (R194, R195). -/
def State.dcLoop (sd : Side) (s : State) : State :=
  if (s.rx.chain sd).on && s.radio.st == .rx && !s.chainPayload sd then
    s.onChain sd (fun c => { c with residue := c.residue - c.residue / 128000 })
  else s

end Sys2Proof.Machine
end

