-- ==== Sys2Proof/Machine/RosterCmds.lean ====
section
/-!
DEFINITION. Sys2Proof/Machine/RosterCmds.lean: the commands of the roster and of KEEPER's keys (R346, R352 to R354,
R465).
-/

namespace Sys2Proof.Machine

/-! ## Showing an entry (R352) -/

/-- Three group codes, 0 for an unused place (R350). -/
def threeGroups (l : List Nat) : List Nat := [l.getD 0 0, l.getD 1 0, l.getD 2 0]

/-- The flags of byte 32 of an entry, in bit order (R350, R352). -/
def State.entryFlags (i : Nat) (e : Entry) (s : State) : List Bool :=
  [e.active, e.unreach, e.pinned, e.retired, e.bestB, s.alarmHeld i e]

/-- The line of an active entry (R352). -/
def State.entryLine (i : Nat) (e : Entry) (s : State) : OutLine :=
  .roster (some (s.handleAt i)) e.id (codeOf i e) (threeGroups e.groups) e.rxCtr.toNat e.txCtr.toNat e.fails
    (s.entryFlags i e) false e.sightT

/-- The line of an endpoint known only in the spill directory (R352). -/
def spillLine (e : Entry) : OutLine :=
  .roster none e.id 0 (threeGroups e.groups) e.rxCtr.toNat e.txCtr.toNat e.fails [] true e.sightT

/-- `DO roster.show` (R352). -/
def execDoRosterShow (h : Hdr) (ref : RosterRef) (s : State) : Ans :=
  .next (s.report h 528 .observer (fun s =>
    match ref with
    | .handle k =>
      if !k.fits then bad s .range 3 (some 528) none
      else
        match s.byHandle k.get with
        | some e => good s [s.entryLine k.get.index e] (some 528) none
        | none => bad s .handle 0 (some 528) none
    | .eui id =>
      let s := s.spillCrc id
      match (s.indexOf id).bind (fun i => (s.entry i).map (fun e => (i, e))) with
      | some (i, e) => good s [s.entryLine i e] (some 528) none
      | none =>
        match s.spillOf id with
        | some x => good s [spillLine x.entry] (some 528) none
        | none => bad s .handle 0 (some 528) none))

/-! ## Changing an entry (R353, R354) -/

/-- An endpoint entry that a handle names (R350): the error, or the entry. Entries 0 to 15 are peers, out of the range of
these actions (log 35). -/
def State.endpointOf (k : HandleArg) (s : State) : Except Err (Handle × Entry) :=
  if !k.fits || k.index ≤ 15 then .error .range
  else
    match s.byHandle k.get with
    | some e => .ok (k.get, e)
    | none => .error .handle

/-- The token of an error: a range names the argument. -/
def errToken (e : Err) (tok : Nat) : Nat := if e = .range then tok else 0

/-- `DO roster.pin h 0|1` (R353). -/
def runDoRosterPin (h : Hdr) (handle : HandleArg) (on : Int) : State → Done :=
  actionRun 529 .operator (fun s aud =>
    match s.endpointOf handle with
    | .error e => bad s e (errToken e 3) (some 529) aud
    | .ok (k, _) =>
      if !inRange 0 1 on then bad s .range 4 (some 529) aud
      else good ((s.onEntry k.index (fun e => { e with pinned := on == 1 })).rosterCheck) [.bare] (some 529) aud)

/-- The line of `runDoRosterPin`. -/
def execDoRosterPin (h : Hdr) (handle : HandleArg) (on : Int) (s : State) : Ans :=
  .next (s.change (.doRosterPin h handle on) h .do_ true false (runDoRosterPin h handle on))

/-- `DO roster.drop h` (R353): the entry is evicted at once, unless it has a flight or holds an alarm. -/
def runDoRosterDrop (h : Hdr) (handle : HandleArg) : State → Done :=
  actionRun 530 .operator (fun s aud =>
    match s.endpointOf handle with
    | .error e => bad s e (errToken e 3) (some 530) aud
    | .ok (k, e) =>
      if s.hasFlight k.index || s.alarmHeld k.index e then bad s .state 0 (some 530) aud
      else good ((s.evict k.index).rosterCheck) [.bare] (some 530) aud)

/-- The line of `runDoRosterDrop`. -/
def execDoRosterDrop (h : Hdr) (handle : HandleArg) (s : State) : Ans :=
  .next (s.change (.doRosterDrop h handle) h .do_ true false (runDoRosterDrop h handle))

/-- The place of the first group code out of the group range, or of the list itself when it is empty or too long. -/
def State.badGroup (groups : List Int) (s : State) : Option Nat :=
  if groups.isEmpty || 3 < groups.length then some 4 else (groups.findIdx? (fun g => !s.isGroup g)).map (· + 4)

/-- `DO roster.groups h g1 [g2] [g3]` (R353): an ADMIT of priority 3 carries the codes, which the entry takes when it ends
DONE. The checks are those of SEND (R322). -/
def runDoRosterGroups (h : Hdr) (handle : HandleArg) (groups : List Int) : State → Done :=
  actionRun 531 .operator (fun s aud =>
    match s.endpointOf handle with
    | .error e => bad s e (errToken e 3) (some 531) aud
    | .ok (hd, e) =>
      match s.badGroup groups with
      | some k => bad s .range k (some 531) aud
      | none =>
        match s.sendFault hd 3 with
        | some x => bad (s.sendFaultCount hd) x 0 (some 531) aud
        | none =>
          let gs := groups.map Int.toNat
          let s := s.fire .send
          let f := Flight.make hd .data 3 false (s.slotNow + s.pnat Obj.flightDeadline) 0 (admitPayload e.code gs)
            (some gs) none
          match s.newFlight f with
          | (.busy, s) => bad s .busy 0 (some 531) aud
          | (x, s) => good s (enteredLine x) (some 531) aud)

/-- The line of `runDoRosterGroups`. -/
def execDoRosterGroups (h : Hdr) (handle : HandleArg) (groups : List Int) (s : State) : Ans :=
  .next (s.change (.doRosterGroups h handle groups) h .do_ true false (runDoRosterGroups h handle groups))

/-! ## Peers (R109, R114, R353) -/

/-- The peer entry that holds an EUI. -/
def State.peerIndex (id : Eui) (s : State) : Option Nat :=
  (s.roster.entries.find? (fun x => x.1 ≤ 15 && x.2.active && x.2.id == id)).map Prod.fst

/-- What goes with a peer that moves (R353): counters, window, last contact, drift model and last-best branch. -/
def Entry.movedPeer (e : Entry) : Entry :=
  { Entry.fresh e.id 0 with
    rxCtr := e.rxCtr, window := e.window, txCtr := e.txCtr, txSaved := e.txSaved, rxSaved := e.rxSaved,
    contact := e.contact, contactSlot := e.contactSlot, contactOff := e.contactOff, tpLast := e.tpLast, drift := e.drift, bestB := e.bestB }

/-- Put a peer into an entry: the epoch rises, its code is armed with 0xFF, and with a move the old entry becomes
inactive and its code's mask is cleared at the same edge (R114, R351, R353). -/
def State.admitPeer (i : Nat) (id : Eui) (old : Option Nat) (s : State) : State :=
  let epoch := (((s.entry i).map Entry.epoch).getD 0 + 1) % 8
  let base := match old.bind s.entry with | some e => Entry.movedPeer e | none => Entry.fresh id 0
  let ctr := old.bind (fun j => assoc j s.net.peerCtrs)
  let s := match old with
    | some j => if j = i then s else (s.onEntry j (fun e => { e with active := false })).writeMask j 0
    | none => s
  let s := s.onRoster (fun r => { r with entries := assocSet i { base with epoch := epoch, keySlot := i } r.entries })
  let s := s.onNet (fun n =>
    let l := (match old with | some j => assocDel j n.peerCtrs | none => n.peerCtrs)
    { n with peerCtrs := match ctr with | some c => assocSet i c l | none => assocDel i l,
             lost := n.lost.filter (fun k => k ≠ i && some k ≠ old),
             reacq := n.reacq.filter (fun q => q.index ≠ i && some q.index ≠ old) })
  s.writeMask i 0xFF

/-- `DO roster.peer index eui` (R353). An entry whose holder still has a flight is not given away (R351, log 36). -/
def runDoRosterPeer (h : Hdr) (index : Int) (eui : Eui) : State → Done :=
  actionRun 532 .custodian (fun s aud =>
    if !inRange 0 15 index then bad s .range 3 (some 532) aud
    else
      let i := index.toNat
      let old := s.peerIndex eui
      if s.hasFlight i || (match old with | some j => s.hasFlight j | none => false) then bad s .state 0 (some 532) aud
      else
        let s := s.admitPeer i eui old
        good s [.handle (s.handleAt i)] (some 532) aud)

/-- The line of `runDoRosterPeer`. -/
def execDoRosterPeer (h : Hdr) (index : Int) (eui : Eui) (s : State) : Ans :=
  .next (s.change (.doRosterPeer h index eui) h .do_ true false (runDoRosterPeer h index eui))

/-- `DO roster.forget eui` (R353): the spill record of an endpoint that is not active; its group codes are given up. A
record whose CRC fails is no record (R355). -/
def runDoRosterForget (h : Hdr) (eui : Eui) : State → Done :=
  actionRun 533 .custodian (fun s aud =>
    if (s.indexOf eui).isSome then bad s .state 0 (some 533) aud
    else
      let s := s.spillCrc eui
      match s.spillOf eui with
      | none => bad s .handle 0 (some 533) aud
      | some x =>
        let s := s.holdGroups x.entry.groups false
        let s := s.onRoster (fun r => { r with spill := assocDel eui r.spill, staged := r.staged.filter (· ≠ eui) })
        good s [.bare] (some 533) aud)

/-- The line of `runDoRosterForget`. -/
def execDoRosterForget (h : Hdr) (eui : Eui) (s : State) : Ans :=
  .next (s.change (.doRosterForget h eui) h .do_ true false (runDoRosterForget h eui))

/-! ## Keys (R73, R346, R465) -/

/-- `DO keeper.netkey wrapped` (R346): the key is unwrapped under the CUSTODIAN key; one whose integrity check fails is out
of range (log 37). -/
def runDoKeeperNetkey (h : Hdr) (wrapped : BitVec 192) (s : State) : Done :=
  let new := Config.unwrap s.roster.cuKey wrapped
  let aud : Option Aud := some { action := 4, obj := 534, old := keyVal s.roster.netKey, new := keyVal new }
  needs .custodian s (some 534) aud (
    match new with
    | none => bad s .range 3 (some 534) aud
    | some k => good (s.onRoster (fun r => { r with netKey := some k })) [.bare] (some 534) aud)

/-- The line of `runDoKeeperNetkey`. -/
def execDoKeeperNetkey (h : Hdr) (wrapped : BitVec 192) (s : State) : Ans :=
  .next (s.change (.doKeeperNetkey h wrapped) h .do_ true false (runDoKeeperNetkey h wrapped))

/-- A library key as an audit record holds it. -/
def libKeyVal (k : Option (BitVec 512)) : AVal :=
  match k with
  | some k => .hash (sha8 (beBytes 64 k.toNat))
  | none => .num 0

/-- `DO keeper.libkey` (R465). -/
def runDoKeeperLibkey (h : Hdr) (key : BitVec 512) (s : State) : Done :=
  let aud : Option Aud := some { action := 4, obj := 535, old := libKeyVal s.roster.libKey, new := libKeyVal (some key) }
  needs .custodian s (some 535) aud
    (good (s.onRoster (fun r => { r with libKey := some key })) [.bare] (some 535) aud)

/-- The line of `runDoKeeperLibkey`. -/
def execDoKeeperLibkey (h : Hdr) (key : BitVec 512) (s : State) : Ans :=
  .next (s.change (.doKeeperLibkey h key) h .do_ true false (runDoKeeperLibkey h key))

end Sys2Proof.Machine
end

