-- ==== Sys2Proof/Machine/RawLine.lean ====
section
/-!
DEFINITION. Sys2Proof/Machine/RawLine.lean: a line that fails before its verb is run (R51 to R54, R61, R88, R89, R524).
-/

namespace Sys2Proof.Machine

/-! ## What a line with a wrong checksum asked for (R61, R89) -/

/-- A number of a line as an argument, with its minus sign (R52), within the signed 64-bit range (R453). -/
def intArg (t : List Byte) : Option Int :=
  let i : Option Int := match t with
    | 0x2D :: l => (digits 10 l).map (fun n => -(n : Int))
    | l => (number l).map (fun n => (n : Int))
  i.bind (fun i => if inRange (-2 ^ 63) (2 ^ 63 - 1) i then some i else none)

/-- Hexadecimal digits in groups (R3, R73). -/
def groupArg (t : List Byte) : Option Nat := digits 16 (t.filter (· != 0x2D))

/-- A token without enclosing double quotes (R453). -/
def unquoted (t : List Byte) : List Byte := if t.head? == some 0x22 then (t.drop 1).filter (· != 0x22) else t

/-- The object of a path. -/
def objectOf (path : List Byte) : Option Nat := (cards.findIdx? (fun c => c.name == tokenText path)).map (· + 1)

/-- The value that a SET names, as its card's type reads it, or as its token (R453, R517). -/
def State.rawValue (obj : Option Nat) (t : List Byte) (s : State) : PVal :=
  let t := unquoted t
  let num : PVal := match intArg t with | some i => .int i | none => .text t
  match obj.bind cardOf with
  | none => num
  | some c =>
    if tokenText t == "default" then c.dflt s.part
    else
      match c.kind with
      | .enum words => match words.findIdx? (· == tokenText t) with | some k => .int k | none => .text t
      | .mask => .text t
      | .groups => .text t
      | .filt => .text t
      | _ => num

/-- The level a word names (R71). -/
def levelArg (t : List Byte) : Option Level :=
  match tokenText t with
  | "OBSERVER" => some .observer
  | "OPERATOR" => some .operator
  | "CUSTODIAN" => some .custodian
  | _ => none

/-- A handle as it is written, `index:epoch` (R351). -/
def handleArg (t : List Byte) : Option HandleArg :=
  match intArg (t.takeWhile (· != 0x3A)), intArg ((t.dropWhile (· != 0x3A)).drop 1) with
  | some i, some e => some { index := i, epoch := e }
  | _, _ => none

/-- A resource as it is written (R495). -/
def resArg (kind id : List Byte) : Option ResArg :=
  let of (k : ResKind) (n : Option Int) : Option ResArg := n.map (ResArg.num k)
  let side : Option Int := match tokenText id with | "a" => some 0 | "b" => some 1 | _ => none
  match tokenText kind with
  | "chan" => of .chan (intArg id)
  | "bb" => of .bb (intArg id)
  | "branch" => of .branch side
  | "lane" => of .lane (intArg id)
  | "chain" => of .chain side
  | "block" => of .block (intArg id)
  | "peer" => (handleArg id).map ResArg.peer
  | _ => none

/-- The time argument `t=s.n` in nanoseconds (R12). -/
def timeArg (t : List Byte) : Option Int :=
  let l := t.drop 2
  match digits 10 (l.takeWhile (· != 0x2E)), digits 10 ((l.dropWhile (· != 0x2E)).drop 1) with
  | some s, some n => some (s * 1000000000 + n)
  | _, _ => none

/-- The actions of R520 whose record holds the hash of their argument text, with their objects. -/
def textActions : List (String × Nat) :=
  [("jomen.reason", 513), ("jomen.burst", 514), ("radio.cal", 515), ("rx.capture", 516), ("rx.capture.drop", 517),
    ("sched.frame", 520), ("sched.cell", 521), ("sched.drop", 522), ("round.start", 524), ("round.stop", 525),
    ("flight.cancel", 527), ("roster.pin", 529), ("roster.drop", 530), ("roster.groups", 531), ("roster.peer", 532),
    ("roster.forget", 533), ("wm.clear", 538), ("pm.shelf", 541)]

/-- The record of a DO action (R520, R521): `a` is the hash of its argument text. -/
def State.rawDo (a : AVal) (w : List (List Byte)) (s : State) : Option Aud :=
  let x := w.getD 2 []
  match tokenText (w.getD 1 []) with
  | "jomen.arm" =>
    match intArg x, intArg (w.getD 3 []) with
    | some c, some m =>
      some { action := 4, obj := 512, old := .num (c * 256 + (s.maskOf c.toNat).toNat), new := .num (c * 256 + m) }
    | _, _ => none
  | "time.set" =>
    (timeArg x).map (fun ns =>
      if s.time.counterMode then { action := 8, obj := 864, old := .num 1, new := .num 0 }
      else { action := 8, obj := 865, old := .num 0, new := .num (ns - s.readingNs) })
  | "time.counter" => some { action := 8, obj := 864, old := .num s.modePos, new := .num 1 }
  | "keeper.netkey" =>
    (groupArg x).map (fun n =>
      { action := 4, obj := 534, old := keyVal s.roster.netKey,
        new := keyVal (Config.unwrap s.roster.cuKey (BitVec.ofNat 192 n)) })
  | "keeper.libkey" =>
    (groupArg x).map (fun n =>
      { action := 4, obj := 535, old := libKeyVal s.roster.libKey, new := libKeyVal (some (BitVec.ofNat 512 n)) })
  | "vaux" =>
    match tokenText x with
    | "on" => some (vauxAud s.mon.wanted true)
    | "off" => some (vauxAud s.mon.wanted false)
    | _ => none
  | "pm.sleep" =>
    match tokenText x with
    | "larder" => some { action := 4, obj := 540, old := .num 0, new := .num 2 }
    | "cellar" => some { action := 4, obj := 540, old := .num 0, new := .num 3 }
    | _ => none
  | "fault.retire" =>
    (resArg x (w.getD 3 [])).map (fun r =>
      { action := 9, obj := 880 + kindPos r.kind, old := .num 10, new := .num r.value })
  | "fault.reinstate" =>
    (resArg x (w.getD 3 [])).map (fun r =>
      { action := 10, obj := 880 + kindPos r.kind, old := .num (s.res r.id).cause, new := .num r.value })
  | name => (assoc name textActions).map (fun o => { action := 4, obj := o, old := .num 0, new := a })

/-- The record of an IMAGE stage (R476, R521). -/
def State.rawImage (w : List (List Byte)) (s : State) : Option Aud :=
  let lib : Option Int := if tokenText (w.getD 2 []) == "LIB" then intArg (w.getD 3 []) else none
  match tokenText (w.getD 1 []) with
  | "BEGIN" => s.imgAud (refOf lib) .download
  | "VERIFY" => s.imgAud (refOf lib) .verifying
  | "ACTIVATE" => s.imgAud .self .trial
  | "CONFIRM" => s.imgAud .self .idle
  | "ABORT" => s.imgAud (s.abortRef.getD .self) .idle
  | "DROP" => s.imgAud (refOf lib) .idle
  | _ => none

/-- The record of a line that fails before its verb is run: a SET, an AUTH, a state-changing DO, an address change, a RESET
or an IMAGE stage is recorded though it fails (R61, R89; log 68). What the line does not name is recorded as 0. The tokens run
from the verb on. -/
def State.rawAud (a : AVal) (w : List (List Byte)) (s : State) : Option Aud :=
  let word := tokenText (w.getD 1 [])
  match verbOf (w.headD []) with
  | .set =>
      let obj := objectOf (w.getD 1 [])
      let v := if w.length < 3 then .int 0 else s.rawValue obj (w.getD 2 [])
      match obj with
      | some o => some (s.setAud o v)
      | none => some { action := 1, obj := 0, old := .num 0, new := avalOf v }
  | .auth =>
    if word == "KEY" then
      let l := (levelArg (w.getD 2 [])).getD .observer
      let new := (groupArg (w.getD 3 [])).bind (fun n => Config.unwrap s.roster.cuKey (BitVec.ofNat 192 n))
      some { action := 3, obj := 768 + levelNum l, old := keyVal (some (s.levelKey l)), new := keyVal new }
    else
      let l := (levelArg (w.getD 1 [])).getD .observer
      some (s.authAud l l)
  | .enum =>
    match word with
    | "START" => s.addrAud 0
    | "NEXT" => if s.line.address = 0 then (intArg (w.getD 2 [])).map (fun n => s.addrAsk n) else none
    | "CLAIM" =>
      if groupArg (w.getD 2 []) = some s.part.eui.toNat && s.line.address = 0 then
        (intArg (w.getD 3 [])).map (fun n => s.addrAsk n)
      else none
    | _ => none
  | .do_ => s.rawDo a w
  | .reset =>
    match word with
    | "WARM" => some (resetAud 772)
    | "COLD" => some (resetAud 773)
    | _ => none
  | .image => s.rawImage w
  | .log =>
    if word == "MARK" then
      (intArg (w.getD 2 [])).map (fun n => { action := 4, obj := 545, old := .num s.store.mark, new := .num n })
    else none
  | .tally => if word == "CLEAR" then some { action := 4, obj := 544, old := .num 0, new := a } else none
  | _ => none

/-! ## Faulty lines (R88, R524) -/

/-- What a raw line names (R60): none for a line that no unit can take. -/
def rawHdr (l : List Byte) : Option Hdr :=
  let cc := checkOf l != .absent
  match lineAddr l with
  | none => some { addr := none, cc := cc }
  | some (some n) => some { addr := some n, cc := cc }
  | some none => none

/-- The verbs a broadcast may carry (R61). -/
def broadcastVerb (v : Verb) : Bool :=
  match v with
  | .enum => true
  | .roll => true
  | .set => true
  | .do_ => true
  | .reset => true
  | .logout => true
  | _ => false

/-- The syntax of a line is valid, whatever its verb and object (R48). -/
def validSyntax (malformed : Bool) (l : List Byte) : Bool :=
  match rawError false malformed l with
  | some (.long, _) => false
  | some (.check, _) => false
  | some (.syntaxErr, _) => false
  | _ => true

/-- The object that a line names (R525): a path, or an action of R520. -/
def lineObject (v : Verb) (w : List (List Byte)) : Option Nat :=
  match v with
  | .get => objectOf (w.getD 1 [])
  | .set => objectOf (w.getD 1 [])
  | .do_ =>
    match tokenText (w.getD 1 []) with
    | "time.counter" => some 864
    | "time.set" => some 865
    | "fault.retire" => some 880
    | "fault.reinstate" => some 900
    | name => (actionObjects.findIdx? (· == name)).map (· + 512)
  | _ => none

/-- A line that fails before its verb is run (R51 to R54, R88, R524). An empty line is ignored. A line whose syntax is valid
confirms a rate, whoever it is for (R48). -/
def execLineError (chars : List Byte) (malformed : Bool) (s : State) : Ans :=
  .next (
    if !s.hears then s.lineEdge
    else
      let (k, s) := (s.fire .nextLine).draw
      let s := (s.rouse).bytes .line (chars.length + 1 + Config.freeChars k)
      let s := if s.pm.entering.isSome then s.wakeEvent else s
      let blank := (tokens chars).isEmpty
      let valid := validSyntax malformed chars && !blank
      let s := s.onLine (fun l =>
        { l with solo := l.solo && (lineAddr chars).isNone, partialLine := [], tx := [], sending := none,
                 trial := if valid then none else l.trial })
      match rawHdr chars with
      | none => s
      | some h =>
        let w := bodyTokens chars
        let v := verbOf (w.headD [])
        if !s.forUnit h || blank || (h.addr == some 0 && !broadcastVerb v) then s
        else
          let s := s.beginLine false
          match rawError (s.pnat Obj.lineMode == 1) malformed chars with
          | none => s
          | some (e, tok) =>
            let (a, s) := s.argHash
            let aud := if e == .check || e == .syntaxErr || e == .long then s.rawAud a w else none
            State.finish (s.lineOrigin h) h v { s := s, err := some (e, tok), out := [], obj := lineObject v w, aud := aud })

end Sys2Proof.Machine
end

