-- ==== Sys2Proof/Machine/Rx.lean ====
section
/-!
DEFINITION. Sys2Proof/Machine/Rx.lean: the commands and events of concurrent reception: gain, lanes, preambles, and I/Q
captures (R223 to R251, R488).
-/

namespace Sys2Proof.Machine

/-! ## Shared gain (R232 to R235) -/

/-- The name of a side in the counters of gain. -/
def agcText : Side → String
  | .a => "a"
  | .b => "b"

/-- Set a chain's step, the step it will take at its next start on this band (R232), and with it the offset stored for it
(R194). -/
def State.setStep (sd : Side) (n : Nat) (s : State) : State :=
  (s.onChain sd (fun c => { (Chain.hold s.radio.band n c) with want := none })).applyDc sd

/-- The step a chain wants after a window whose peak is `peak`, in 0.25 dBFS (R233): the smallest step down that brings
the peak to −12 dBFS, or one step up after 40 quiet windows. -/
def wantStep (step quiet : Nat) (peak : Int) : Nat :=
  if -24 < peak then step - ((peak + 48 + 15) / 16).toNat
  else if 40 ≤ quiet then min 15 (step + 1)
  else step

/-- A window of 64 ADC samples ends (R233, R234): the chain judges its peak, and applies the step it wants unless a lane
of the chain receives a payload. -/
def execAgcWindowEnd (chain : Side) (peak : Int) (s : State) : Ans :=
  .next (
    let c := s.rx.chain chain
    if !c.on || s.radio.st != .rx then s
    else
      let quiet := if peak < -96 then min 40 (c.quiet + 1) else 0
      let want := wantStep c.step quiet peak
      let s := s.onChain chain (fun c => { c with quiet := quiet })
      if want = c.step then s.onChain chain (fun c => { c with want := none })
      else if s.chainPayload chain then
        (s.onChain chain (fun c => { c with want := some want })).count .rfe ("rx.agc.defer." ++ agcText chain)
      else (s.setStep chain want).spoilAll (chain == .a) (chain == .b) s.now 6)

/-- A forced step spoils a lane's samples of a chain from the one that holds the first of the 16 clipped samples to the sixth
that begins at or after the step (R235). -/
def State.spoilForced (sd : Side) (n : Fin 16) (s : State) : State :=
  let r := s.rx.lanes[n].rate
  s.spoilSpan n (sd == .a) (sd == .b) (gridDown r (s.now - 6553)) (gridUp r s.now + samplesTicks r 6)

/-- 16 consecutive clipped ADC samples: the chain steps down by 4, payloads or not, and a lane in a payload on it sets its
gain flag (R235). DESIGN CHOICE (log 140): at step 0 too it is a forced step, counted and with invalid samples, to step 0.
-/
def execForcedAgcStep (chain : Side) (s : State) : Ans :=
  .next (
    let c := s.rx.chain chain
    if !c.on || s.radio.st != .rx then s
    else
      let s := (s.setStep chain (c.step - 4)).count .rfe ("rx.agc.forced." ++ agcText chain)
      s.each (List.finRange 16) (fun n s =>
        let s := s.spoilForced chain n
        if s.receiving s.rx.lanes[n] && s.rx.lanes[n].chain == chain then s.onLane n (fun l => { l with gain := true })
        else s))

/-! ## Lanes (R225, R228 to R230, R234) -/

/-- A lane that waited with its retune changes now; a cell whose time has passed meanwhile is skipped on that lane
(R225). -/
def State.lateRetune (n : Fin 16) (ch rate : Nat) (s : State) : State :=
  let l := s.rx.lanes[n]
  if l.late then (s.release n).count .chz "chz.bind.skip"
  else ((s.onLane n (fun l => { l with retune := none })).bind n l.holder ch rate l.program).onLane n (fun k => { k with window := l.window })

/-- A lane retune falls due: at once, or after the payload that runs (R225), to a channel of the plan and of the span (R224)
that no other lane holds. -/
def execLaneRetune (lane : Fin 16) (chan rate : Nat) (s : State) : Ans :=
  .next (
    let l := s.rx.lanes[lane]
    if !l.bound || l.holder == .capture then s
    else
      match l.retune with
      | some (c, r) => if s.receiving l then s else s.lateRetune lane c r
      | none =>
        if planHas s.part.variant rate chan && s.covers s.rx.band s.rx.centre rate chan && (s.chanHolder lane rate chan).isNone
        then s.bind lane l.holder chan rate l.program
        else s)

/-- The endpoint or peer that the lane's cell names (R229). -/
def State.laneNames (n : Fin 16) (s : State) : Option Entry :=
  match s.rx.lanes[n].holder with
  | .cell i => ((assoc i s.sched.cells).bind Cell.handle).bind s.byHandle
  | _ => none

/-- The symbols of the last 8 that are wholly valid on a chain (R228): a symbol is four lane samples. -/
def State.validSymbols (n : Fin 16) (sd : Side) (s : State) : Nat :=
  let l := s.rx.lanes[n]
  ((List.range 8).filter (fun k =>
    !l.hasBad sd (s.now - samplesTicks l.rate (4 * (k + 1))) (s.now - samplesTicks l.rate (4 * k)))).length

/-- The choice of a chain for a frame (R229): the chain, and whether rule 3 went against the higher figure. -/
def chooseChain (onA onB : Bool) (qa qb : Int) (validA validB : Nat) (best : Option Side) : Side × Bool :=
  if !onB then (.a, false)
  else if !onA then (.b, false)
  else if 4 ≤ validA && validB < 4 then (.a, false)
  else if 4 ≤ validB && validA < 4 then (.b, false)
  else if validA < 4 && validB < 4 then (if validA < validB then .b else .a, false)
  else
    match best with
    | some .a => if qa + 4 < qb then (.b, false) else (.a, decide (qa < qb))
    | some .b => if qb + 4 < qa then (.a, false) else (.b, decide (qb < qa))
    | none => (if qa < qb then .b else .a, false)

/-- A lane declares a preamble and chooses its chain (R228 to R230, R240), unless it receives a payload: a search for the
SFD that found none has ended. `first` is the chain that declares first; quality figures in 0.25 dB, and the mean power of
each chain's valid samples. -/
def execPreambleDeclared (lane : Fin 16) (first : Side) (qa qb rssiA rssiB : Int) (s : State) : Ans :=
  .next (
    let l := s.rx.lanes[lane]
    let (a, b) := (s.rx.a.on, s.rx.b.on)
    if s.radio.st != .rx || !(s.rx.chain first).on || !l.bound || l.holder == .capture || s.receiving l then s
    else
      let best := (s.laneNames lane).map (fun e => if e.bestB then Side.b else Side.a)
      let (validA, validB) := (s.validSymbols lane .a, s.validSymbols lane .b)
      let (sd, held) := chooseChain a b qa qb validA validB best
      let (valid, rssi) := match sd with | .a => (validA, rssiA) | .b => (validB, rssiB)
      let s := s.onLane lane (fun l =>
        { l with pre := true, payload := false, badPhr := false, chain := sd, held := held, gain := false, invalid := false,
                 qa := if a && 0 < validA then some qa else none
                 qb := if b && 0 < validB then some qb else none
                 rssi := if valid = 0 then -128 else clampRssi rssi })
      let s := s.count .lanes (match sd with | .a => "rx.choice.a" | .b => "rx.choice.b")
      let s := s.judgeLane lane (fun j => { j with pre := j.pre + 1 })
      if held then s.count .lanes "rx.choice.held" else s)

/-- A PHR whose frame is discarded (R243): a mode switch, a 16-bit FCS, or a length under 5 or over 127. -/
def phrBad (modeSwitch fcs16 : Bool) (length : Nat) : Bool :=
  modeSwitch || fcs16 || decide (length < 5) || decide (127 < length)

/-- A lane listens for a start of frame at a moment: within the window of R284, where its cell has one. -/
def Lane.hears (t : Ticks) (l : Lane) : Bool :=
  match l.window with
  | some (a, b) => decide (a ≤ t) && decide (t ≤ b)
  | none => true

/-- An SFD is found on the chosen chain, the one of `phy.sfd`: a lane detects no other (R242, R245). A payload runs from
here for the octets its PHR gives (R234, R243); the gain step is noted (R241), and invalid samples of the chain within the
two octets of the SFD mark the frame (R239). A frame whose PHR R243 discards is abandoned at the PHR's end. -/
def execSfdFound (lane : Fin 16) (sfd : Nat) (phr : PhrBits) (length : Nat) (s : State) : Ans :=
  .next (
    let l := s.rx.lanes[lane]
    if l.pre && !l.payload && sfd == s.sfdWord && Lane.hears (s.now - s.rxDelay lane l.chain) l then
      let bad := phrBad phr.modeSwitch phr.fcs16 length
      s.onLane lane (fun l =>
        { l with payload := true, badPhr := bad, whiten := phr.whiten,
                 payloadEnd := s.now + airTicks l.rate (2 + (if bad then 0 else length)), sfdAt := s.now - s.rxDelay lane l.chain,
                 sfdStep := (s.rx.chain l.chain).step,
                 invalid := !(s.rx.chain l.chain).on || l.hasBad l.chain (s.now - airTicks l.rate 2) s.now })
    else s)

/-- What falls due on a lane of itself: the end of a bad PHR abandons its frame (R243), the end of a payload lets its retune
through (R225). -/
def State.laneTick (n : Fin 16) (s : State) : State :=
  let l := s.rx.lanes[n]
  let s := if l.payload && l.badPhr && decide (l.payloadEnd ≤ s.now) then (s.onLane n Lane.idle).count .lanes "phy.phr.bad" else s
  match s.rx.lanes[n].retune with
  | some (c, r) => if s.rx.lanes[n].bound && !s.receiving s.rx.lanes[n] then s.lateRetune n c r else s
  | none => s

/-- What falls due on the lanes and a capture. -/
def State.rxTick (s : State) : State := (s.each (List.finRange 16) State.laneTick).captureTick

/-- A program exception, a parity error or no progress for 2 slots (R488): the lane is reset, its attempt is abandoned,
and it rests, or at the fourth rest within the window is retired. -/
def execLaneEngineFault (lane : Fin 16) (s : State) : Ans :=
  .next (
    let id : ResId := { kind := .lane, num := lane.val }
    if (s.res id).retired || (s.res id).resting then s
    else
      let s := s.each (s.work.table.filter (fun f => f.lane == some lane && f.st == .air)) (fun f s =>
        s.failAttempt f.id false)
      let s := if s.rx.lanes[lane].holder == .capture then s.dropCapture else s
      let s := (s.onLane lane Lane.idle).release lane
      let s := if 4 ≤ s.faultsInWindow id then s.retireOrRest id 4 else s.transient id
      s.moveRadio)

/-! ## I/Q captures (R248 to R251) -/

/-- A rate in kb/s that a capture may name for a position: 1 Mb/s is for the backbone outputs, 0 and 1 on the 2.4 GHz span, and
they have no other (R248). -/
def capRateOk (b : Band) (src : CapSrc) (rate : Option Int) : Bool :=
  match src, rate with
  | .chan p, some r => if b == .g24 && inRange 0 1 p then r == 1000 else r == 50 || r == 100 || r == 200
  | .chan _, none => true
  | .chain _, none => true
  | .chain _, some _ => false

/-- `DO rx.capture` (R248, R250): the capture held before is dropped; the reply comes at once. -/
def runDoRxCapture (h : Hdr) (src : CapSrc) (at_ count rate : Option Int) : State → Done :=
  actionRun 516 .operator (fun s aud =>
    let n := argOr 8192 count
    let place := match src with | .chan p => inRange 0 39 p | .chain _ => true
    if !place then bad s .range 4 (some 516) aud
    else if !(match at_ with | some a => inRange 0 (2 ^ 40 - 1) a | none => true) then bad s .range 5 (some 516) aud
    else if !inRange 1 8192 n then bad s .range 6 (some 516) aud
    else if !capRateOk s.rx.band src rate then bad s .range 7 (some 516) aud
    else
      let slot := at_.map Int.toNat
      let t := s.dropCapture
      match t.captureLane slot with
      | none => bad s .busy 0 (some 516) aud
      | some l =>
        let c : Capture :=
          { lane := l, src := src, rate := rate.map Int.toNat, slot := slot, count := n.toNat, words := [], stepA := 0,
            stepB := 0, startT := s.stamp, started := false, startAt := s.now, inSpan := false, traceA := [], traceB := [],
            ended := none }
        let t := if slot.isNone then t.runCapture c else t.onRx (fun r => { r with capture := some c })
        good t [.bare] (some 516) aud)

/-- The line of `runDoRxCapture`. -/
def execDoRxCapture (h : Hdr) (src : CapSrc) (at_ count rate : Option Int) (s : State) : Ans :=
  .next (s.change (.doRxCapture h src at_ count rate) h .do_ true false (runDoRxCapture h src at_ count rate))

/-- The chain of a word of a capture: A and B in turn, or the chain whose raw samples they are (R249). -/
def wordChain (src : CapSrc) (i : Nat) : Side :=
  match src with
  | .chan _ => if i % 2 = 0 then .a else .b
  | .chain sd => sd

/-- A word in the form of R249, from the samples `w` has: its chain and gain step, the mark on the first, whether it is valid,
and for a chain outside the mask I and Q at 0. -/
def captureWord (mask valid : Bool) (step : Nat) (sd : Side) (first : Bool) (w : BitVec 32) : BitVec 32 :=
  (if mask then w &&& 0x40FFFFFF else 0) ||| (if mask && valid then 0x01000000 else 0)
    ||| (match sd with | .a => 0 | .b => 0x02000000) ||| BitVec.ofNat 32 (step % 16 * 2 ^ 26)
    ||| (if first then 0x80000000 else 0)

/-- What holds of a chain at a moment of a capture. -/
def Capture.chainAt (c : Capture) (sd : Side) (t : Ticks) : Option ChainTrace :=
  (match sd with | .a => c.traceA | .b => c.traceB).find? (fun x => decide (x.at_ ≤ t))

/-- The word of a capture at a place: it is valid where its chain delivers samples and no span of R238 holds its own (R239). -/
def State.wordAt (c : Capture) (i : Nat) (w : BitVec 32) (s : State) : BitVec 32 :=
  let sd := wordChain c.src i
  let rate := c.rate.getD 0
  let k := match c.src with | .chan _ => i / 2 | .chain _ => i
  let t := c.startAt + samplesTicks rate k
  match c.chainAt sd t with
  | some x => captureWord x.mask (x.live && !s.rx.lanes[c.lane].hasBad sd t (t + 1)) x.step sd (i == 0) w
  | none => captureWord false false 0 sd (i == 0) w

/-- The time a capture takes: a word a sample for raw samples, two a sample instant for a channel (R249). -/
def captureTicks (c : Capture) : Ticks :=
  match c.src with
  | .chain _ => samplesTicks 0 c.count
  | .chan _ => samplesTicks (c.rate.getD 100) ((c.count + 1) / 2)

/-- A capture ends (R248, R249): its words are held, and `~CAPTURE` gives the time of the first and their number, 0 when
the channel was outside the span. -/
def execCaptureEnd (words : List (BitVec 32)) (s : State) : Ans :=
  .next (
    match s.rx.capture with
    | some c =>
      if c.started && c.ended.isNone && (!c.inSpan || decide (c.startAt + captureTicks c ≤ s.now)) then
        let ws := if c.inSpan then words.take c.count else []
        let ws := ws.zipIdx.map (fun (w, i) => s.wordAt c i w)
        (s.onRx (fun r => { r with capture := some { c with words := ws, ended := some s.now } })).queue
          (.capture c.startT ws.length)
      else s
    | none => s)

/-- `DO rx.capture.drop` (R250). -/
def runDoRxCaptureDrop (h : Hdr) : State → Done :=
  actionRun 517 .operator (fun s aud => good s.dropCapture [.bare] (some 517) aud)

/-- The line of `runDoRxCaptureDrop`. -/
def execDoRxCaptureDrop (h : Hdr) (s : State) : Ans :=
  .next (s.change (.doRxCaptureDrop h) h .do_ true false (runDoRxCaptureDrop h))

/-- 600 s after it ended a capture is dropped (R250). -/
def execCaptureHoldExpiry (s : State) : Ans :=
  .next (
    match s.rx.capture.bind Capture.ended with
    | some t => if t + secs 600 ≤ s.now then s.dropCapture else s
    | none => s)

/-- Lines of 8 words (R251). -/
def wordLines : Nat → Nat → List (BitVec 32) → List OutLine
  | 0, _, _ => []
  | n + 1, off, ws => if ws.isEmpty then [] else .capData off (ws.take 8) :: wordLines n (off + 8) (ws.drop 8)

/-- The sample rate of a capture in samples per second (R223, R251). -/
def captureHz (c : Capture) : Nat :=
  match c.src with
  | .chain _ => 10000000
  | .chan _ => 4000 * c.rate.getD 100

/-- `DO rx.capture.read [offset] [count]` (R251). -/
def execDoRxCaptureRead (h : Hdr) (offset count : Option Int) (s : State) : Ans :=
  .next (s.report h 518 .operator (fun s =>
    let o := argOr 0 offset
    let n := argOr 512 count
    if !inRange 0 8191 o then bad s .range 3 (some 518) none
    else if !inRange 1 512 n then bad s .range 4 (some 518) none
    else
      match s.rx.capture with
      | some c =>
        if c.ended.isSome then
          good s (.capHead c.src (captureHz c) c.words.length c.stepA c.stepB c.startT
            :: wordLines 64 o.toNat ((c.words.drop o.toNat).take n.toNat) ++ [.dot]) (some 518) none
        else bad s .state 0 (some 518) none
      | none => bad s .state 0 (some 518) none))

end Sys2Proof.Machine
end

