-- ==== Sys2Proof/Machine/Wake.lean ====
section
/-!
DEFINITION. Sys2Proof/Machine/Wake.lean: the commands and events of the wake receiver and of the matcher (R128 to R174).
-/

namespace Sys2Proof.Machine

/-! ## Reports -/

/-- WAKE [max] (R162): closed records, oldest first; nothing is removed. -/
def execWakeList (h : Hdr) (max : Option Int) (s : State) : Ans :=
  .next (s.verb h .wake false false (fun s =>
    let n := argOr 16 max
    if inRange 1 16 n then good s ((s.wake.closed.take n.toNat).map OutLine.wakeRec ++ [.dot]) none none
    else bad s .range 2 none none))

/-- The records that WAKE ACK removes: the closed ones up to the first closed record with the sequence (R163). -/
def ackSplit (seq : BitVec 16) : List WakeRec → Option (List WakeRec × List WakeRec)
  | [] => none
  | r :: rs =>
    if r.isOpen then (ackSplit seq rs).map (fun x => (x.1, r :: x.2))
    else if r.seq = seq then some ([r], rs)
    else (ackSplit seq rs).map (fun x => (r :: x.1, x.2))

/-- Write wake records to the ledger under their own time-stamps (R449). -/
def State.wakeLedger (l : List WakeRec) (s : State) : State := s.each l (fun r s => s.ledgerAt r.stamp (.wake r))

/-- WAKE ACK seq (R163): the removal, the WAKE ledger records, and WAKE's level (R143). -/
def execWakeAck (h : Hdr) (seq : Int) (s : State) : Ans :=
  .next (s.verb h .wake false false (fun s =>
    match (if inRange 0 65535 seq then ackSplit (BitVec.ofNat 16 seq.toNat) s.wake.queue else none) with
    | none => bad s .range 3 none none
    | some (gone, rest) =>
      let s := (s.onWake (fun w => { w with queue := rest })).onWake Wake.freed
      good ((s.wakeLedger gone).driveWake.rosterCheck) [.num gone.length] none none))

/-- WAKE BRANCH (R164). -/
def execWakeBranch (h : Hdr) (s : State) : Ans :=
  .next (s.verb h .wake false false (fun s =>
    good s [.branch .a s.wake.a.st s.wake.a.disc s.wake.a.det, .branch .b s.wake.b.st s.wake.b.disc s.wake.b.det, .dot]
      none none))

/-- The bits that WAKE SEEN copies: all, or those of one reason. -/
def seenBits (r : Option Nat) (m : Mem) : Mem :=
  match r with
  | none => m
  | some k => (m.map (fun c => (c.1, c.2 &&& BitVec.ofNat 8 (2 ^ k)))).filter (fun c => c.2 ≠ 0)

/-- The bits that stay. -/
def seenRest (r : Option Nat) (m : Mem) : Mem :=
  match r with
  | none => []
  | some k => (m.map (fun c => (c.1, c.2 &&& ~~~(BitVec.ofNat 8 (2 ^ k))))).filter (fun c => c.2 ≠ 0)

/-- WAKE SEEN [r] (R167): the copied bits are cleared, without r the fold flag too. -/
def execWakeSeen (h : Hdr) (r : Option Int) (s : State) : Ans :=
  .next (s.verb h .wake false false (fun s =>
    match r with
    | some k => if inRange 0 7 k then take s (some k.toNat) else bad s .range 3 none none
    | none => take s none))
where
  /-- Copy and clear at one edge. -/
  take (s : State) (r : Option Nat) : Done :=
    let bits := seenBits r s.wake.seen
    let fold := r.isNone && s.wake.foldFlag
    let s := s.onWake (fun w =>
      { w with seen := seenRest r w.seen, foldFlag := w.foldFlag && !fold })
    let s := s.onLine (fun l => { l with sending := some (.seen bits fold) })
    good (s.driveWake.rosterCheck) (bits.map (fun c => OutLine.seen c.1 c.2.toNat) ++ [.dot]) none none

/-- A WAKE SEEN reply is abandoned before its last character has gone (R167): bits and fold flag come back. -/
def execSeenReadAbandoned (s : State) : Ans :=
  .next (
    match s.onWire with
    | some (.seen bits fold) =>
      ((s.seenBack (some (.seen bits fold))).onLine
        (fun l => { l with sending := none, tx := [], sendEnd := min l.sendEnd s.now })).driveWake
    | _ => s)

/-! ## The branches -/

/-- A code word completes on a branch (R96, R142): `readings` are the level readings of the chips from the chip after alignment
to chip 62 (R131, R140), from which the branch decides the chips (R132). The word completes at the WCLK edge that ends chip 62
by the held alignment (R141), and at no other. -/
def execCodeWordComplete (br : Side) (readings : List (List Int)) (rssi : Int) (s : State) : Ans :=
  .next (
    let b := s.wake.br br
    match b.align with
    | some a =>
      if s.wake.armed && s.receives br && a.edge readings.length == s.wclk then
        match codeWordOf (b.chips readings) (syncWord (s.pnat Obj.sync)) (s.pnat Obj.syncErrors) with
        | some (w, d) => s.matchWord br w d rssi
        | none => s
      else s
    | none => s)

/-- No sync match within 40 chips of alignment (R140): the branch drops alignment. -/
def execSyncSearchTimeout (br : Side) (s : State) : Ans :=
  .next (
    match (s.wake.br br).align with
    | some a =>
      if a.at_ + 40 * a.period ≤ s.now then s.onWake (Wake.onBr br (fun b => { b with align := none })) else s
    | none => s)

/-- Records whose time has come close (R149). -/
def execDiscrepancyWindowClose (s : State) : Ans :=
  .next (s.each (s.wake.queue.filter (fun r => r.isOpen && decide (r.closeAt ≤ s.wclk))) State.closeRecord)

/-- A settling branch becomes LISTEN, or BLANKED while the matcher is blanked, with a valid slicer floor (R120, R155): that of
the first sniff of DIRECT, else the level that the detector finds on its aerial, a free value (log 124). -/
def execBranchSettleComplete (br : Side) (s : State) : Ans :=
  .next (
    let b := s.wake.br br
    match b.settleAt with
    | some t =>
      if b.st == .settling && decide (t ≤ s.now) then
        let (k, s) := s.draw
        s.onWake (Wake.onBr br (fun b =>
          { b with st := if s.blanked then .blanked else .listen, listenFrom := s.wclk,
                   floor := if b.det == .direct then b.floor else Config.freeLevel k * dB }))
      else s
    | none => s)

/-- PG1 enables the PA for a sub-GHz transmission, 4 µs before it is on the air: both branches are blanked, and a word in
progress is dropped (R120, R155). -/
def execBlankingStart (s : State) : Ans :=
  .next (
    if s.blanked then
      s.each [Side.a, Side.b] (fun sd s =>
        if (s.wake.br sd).st == .listen then
          s.onWake (Wake.onBr sd (fun b => { b with st := .blanked, align := none, hold := none }))
        else s)
    else s)

/-- 250 µs after the PA drive went off the branches return to LISTEN (R120, R155). -/
def execBlankingEnd (s : State) : Ans :=
  .next (
    if s.blanked then s
    else
      (s.each [Side.a, Side.b] (fun sd s =>
        if (s.wake.br sd).st == .blanked then
          s.onWake (Wake.onBr sd (fun b => { b with st := .listen, listenFrom := s.wclk }))
        else s)).onWake (fun w => { w with blankUntil := none }))

/-- RFE takes a DIRECT branch's chain outside the terms of R135: the branch is suspended (R135, R155). A retune within the
terms only stops the chips of the tap. -/
def execDirectSuspend (br : Side) (s : State) : Ans :=
  .next (
    let b := s.wake.br br
    if b.det == .direct && b.st == .listen && !s.chainFree br && !s.tapTerms br then
      s.onWake (Wake.onBr br (Branch.stop .suspended))
    else s)

/-- A suspended branch resumes: by sniffing when its chain sleeps, by the wake tap when its span holds the wake channel and has
settled (R135, R155). -/
def execDirectResume (br : Side) (s : State) : Ans :=
  .next (
    if (s.wake.br br).st == .suspended && (s.chainFree br || s.tapOk br) then
      s.onWake (Wake.onBr br (fun b =>
        { b with st := .listen, listenFrom := s.wclk, nextSniff := s.wclk }))
    else s)

/-- A DIRECT sniff (R134): the level in the window against the slicer threshold (R131), and one step of the floor, which stands
for the whole sniff period. The first sniff of a settling branch gives its floor, and SETTLING ends with its window
(R155). -/
def execDirectSniff (br : Side) (level : Int) (s : State) : Ans :=
  .next (
    let b := s.wake.br br
    let first := b.st == .settling && b.settleAt.isNone
    if b.det == .direct && (b.decides || first) && b.hold.isNone && s.chainFree br && decide (b.nextSniff ≤ s.wclk) then
      let s := (s.fire .sniff).sniffDc br
      let p := s.sniffPeriod
      if first then
        s.onWake (Wake.onBr br (fun b =>
          { b with settleAt := some (s.now + 16 * wclkTicks), floor := level * dB, nextSniff := s.wclk + p }))
      else
        let hit := decide (b.threshold < level * dB)
        let s := s.onWake (Wake.onBr br (fun b =>
          { b with floor := trackFloor p level b.floor, nextSniff := s.wclk + p, hold := if hit then some s.wclk else none }))
        if hit then s.count .wur ("wur.hold." ++ sideText br) else s
    else s)

/-- A sniff hold ends after 128 chips, 1,024 WCLK cycles, without a code word (R134). -/
def execSniffHoldTimeout (br : Side) (s : State) : Ans :=
  .next (
    match (s.wake.br br).hold with
    | some t =>
      if t + 1024 ≤ s.wclk then s.onWake (Wake.onBr br (fun b => { b with hold := none, align := none })) else s
    | none => s)

/-- A change of `wur.detector` or `wur.branches` takes effect (R137, R138, R155): another detector resets both counters,
whatever the branches do (R153). -/
def execBranchConfigChange (s : State) : Ans :=
  .next (
    if s.wake.armed then
      let s := if s.wake.det != s.detector then
          s.onWake (fun w => { w with det := s.detector, a := { w.a with disc := 0 }, b := { w.b with disc := 0 } })
        else s
      s.each [Side.a, Side.b] (fun sd s =>
        let b := s.wake.br sd
        if b.st == .retired then s
        else if !s.branchUsed sd then
          (if b.st == .off then s else s.onWake (Wake.onBr sd (Branch.stop .off)))
        else if b.st == .off || b.det != s.detector then s.settle sd
        else s)
    else s)

/-- Eight edges, each within 1/8 chip of the place the edge before it gives (R140). -/
def edgesOk (chip : Ticks) : List Ticks → Bool
  | a :: b :: l => decide (a + chip ≤ b + chip / 8) && decide (b ≤ a + chip + chip / 8) && edgesOk chip (b :: l)
  | _ => true

/-- A branch decides 10101010 from the level readings of 8 chips and aligns (R131, R132, R140): a chip comes as its first
edge and its readings. The edges give the period and the phase, and the levels are those of preamble chips 4 to 11, whose
midpoint becomes the slicer threshold. A sniffing branch needs its hold (R134). -/
def execBranchAlignment (br : Side) (chips : List (Ticks × List Int)) (onLevel offLevel : Int) (s : State) : Ans :=
  .next (
    let edges := chips.map Prod.fst
    let b := s.wake.br br
    if s.wake.armed && s.reads br && b.align.isNone && edges.length == 8 && edgesOk (chipTicks b.det) edges
        && b.chips (chips.map Prod.snd) == [true, false, true, false, true, false, true, false] then
      let first := edges.headD 0
      let last := edges.getLastD 0
      let period := (last - first) / 7
      s.onWake (Wake.onBr br (fun b =>
        { b with tap := s.tapOk br,
                 align := some { at_ := last + period, period := period, threshold := onLevel + offLevel } }))
    else s)

/-! ## The alarm sweep -/

/-- The highest class of a list of armed sweeps whose moment has come by a slot boundary (R169). -/
def dueSweep (at_ : Ticks) (l : List (Nat × Ticks)) : Option Nat :=
  (l.filter (fun x => x.2 ≤ at_)).foldl (fun m x => some (max x.1 (m.getD 0))) none

/-- A sweep of a class is requested: the burst of the all-call code with its class, and the round that follows it (R169,
R170). A request beyond the queue is dropped and counted (R307). -/
def State.sweepDue (cls : Nat) (s : State) : State :=
  match (s.onWake (fun w => { w with sweeps := assocDel cls w.sweeps })).requestRound 8191 cls true 0 false with
  | (some _, s) => s
  | (none, s) => s.count .cc "round.drop"

/-- At the first slot boundary after its delay a sweep starts, or takes its turn among the rounds that wait; of several classes
due together the highest is first (R169). -/
def execSweepStart (s : State) : Ans :=
  .next (
    if s.ccOn then
      match dueSweep s.time.slotAt s.wake.sweeps with
      | none => s
      | some cls => s.sweepDue cls
    else s)

end Sys2Proof.Machine
end

