-- ==== Sys2Proof/Machine/Dispatch.lean ====
section
/-! DEFINITION. Sys2Proof/Machine/Dispatch.lean: one arm for each command. -/

namespace Sys2Proof.Machine

def exec (i : Instr) (s : State) : Host.Outcome State Fault Refusal :=
  match i with
  | .get h obj => Sys2Proof.Machine.execGet h obj s
  | .set h obj arg => Sys2Proof.Machine.execSet h obj arg s
  | .showPart h => Sys2Proof.Machine.execShowPart h s
  | .showPrefix h pre => Sys2Proof.Machine.execShowPrefix h pre s
  | .authChallenge h level => Sys2Proof.Machine.execAuthChallenge h level s
  | .authResponse h level resp => Sys2Proof.Machine.execAuthResponse h level resp s
  | .authKey h level wrapped => Sys2Proof.Machine.execAuthKey h level wrapped s
  | .logout h => Sys2Proof.Machine.execLogout h s
  | .enumStart h => Sys2Proof.Machine.execEnumStart h s
  | .enumNext h n chainIn => Sys2Proof.Machine.execEnumNext h n chainIn s
  | .enumClaim h eui n => Sys2Proof.Machine.execEnumClaim h eui n s
  | .roll h => Sys2Proof.Machine.execRoll h s
  | .rollSlotAnswer => Sys2Proof.Machine.execRollSlotAnswer s
  | .why h => Sys2Proof.Machine.execWhy h s
  | .whyPath h obj => Sys2Proof.Machine.execWhyPath h obj s
  | .events h max => Sys2Proof.Machine.execEvents h max s
  | .eventPush => Sys2Proof.Machine.execEventPush s
  | .wakeList h max => Sys2Proof.Machine.execWakeList h max s
  | .wakeAck h seq => Sys2Proof.Machine.execWakeAck h seq s
  | .wakeBranch h => Sys2Proof.Machine.execWakeBranch h s
  | .wakeSeen h r => Sys2Proof.Machine.execWakeSeen h r s
  | .seenReadAbandoned => Sys2Proof.Machine.execSeenReadAbandoned s
  | .send h handle kind p dl r call data => Sys2Proof.Machine.execSend h handle kind p dl r call data s
  | .logInfo h => Sys2Proof.Machine.execLogInfo h s
  | .logRead h seq count kind => Sys2Proof.Machine.execLogRead h seq count kind s
  | .logAudit h seq count => Sys2Proof.Machine.execLogAudit h seq count s
  | .logMark h seq => Sys2Proof.Machine.execLogMark h seq s
  | .tallyRead h pre => Sys2Proof.Machine.execTallyRead h pre s
  | .tallyReadSnap h pre => Sys2Proof.Machine.execTallyReadSnap h pre s
  | .tallyOcc h => Sys2Proof.Machine.execTallyOcc h s
  | .tallyBw h port => Sys2Proof.Machine.execTallyBw h port s
  | .tallySnap h => Sys2Proof.Machine.execTallySnap h s
  | .tallyFreeze h => Sys2Proof.Machine.execTallyFreeze h s
  | .tallyThaw h => Sys2Proof.Machine.execTallyThaw h s
  | .tallyFreezeExpiry => Sys2Proof.Machine.execTallyFreezeExpiry s
  | .tallyClear h block => Sys2Proof.Machine.execTallyClear h block s
  | .bandwidthWindowEnd => Sys2Proof.Machine.execBandwidthWindowEnd s
  | .imageBeginSelf h len => Sys2Proof.Machine.execImageBeginSelf h len s
  | .imageBeginLib h slot len => Sys2Proof.Machine.execImageBeginLib h slot len s
  | .imageData h offset data => Sys2Proof.Machine.execImageData h offset data s
  | .imageStatus h lib => Sys2Proof.Machine.execImageStatus h lib s
  | .imageVerify h lib => Sys2Proof.Machine.execImageVerify h lib s
  | .imageVerifyDone => Sys2Proof.Machine.execImageVerifyDone s
  | .imageActivate h => Sys2Proof.Machine.execImageActivate h s
  | .imageConfirm h => Sys2Proof.Machine.execImageConfirm h s
  | .imageAbort h => Sys2Proof.Machine.execImageAbort h s
  | .imageDropLib h slot => Sys2Proof.Machine.execImageDropLib h slot s
  | .imageList h => Sys2Proof.Machine.execImageList h s
  | .imagePush h slot handle p dl => Sys2Proof.Machine.execImagePush h slot handle p dl s
  | .imageStall => Sys2Proof.Machine.execImageStall s
  | .confirmTimerExpiry => Sys2Proof.Machine.execConfirmTimerExpiry s
  | .resetWarm h => Sys2Proof.Machine.execResetWarm h s
  | .resetCold h => Sys2Proof.Machine.execResetCold h s
  | .doJomenArm h code mask => Sys2Proof.Machine.execDoJomenArm h code mask s
  | .doJomenReason h r on => Sys2Proof.Machine.execDoJomenReason h r on s
  | .maskChangeEffect => Sys2Proof.Machine.execMaskChangeEffect s
  | .doJomenBurst h code reason sync rep => Sys2Proof.Machine.execDoJomenBurst h code reason sync rep s
  | .doRadioCal h kind band => Sys2Proof.Machine.execDoRadioCal h kind band s
  | .doRxCapture h src at_ count rate => Sys2Proof.Machine.execDoRxCapture h src at_ count rate s
  | .captureEnd words => Sys2Proof.Machine.execCaptureEnd words s
  | .doRxCaptureDrop h => Sys2Proof.Machine.execDoRxCaptureDrop h s
  | .captureHoldExpiry => Sys2Proof.Machine.execCaptureHoldExpiry s
  | .doRxCaptureRead h offset count => Sys2Proof.Machine.execDoRxCaptureRead h offset count s
  | .doTimeNow h => Sys2Proof.Machine.execDoTimeNow h s
  | .doTimeSet h seconds nanos => Sys2Proof.Machine.execDoTimeSet h seconds nanos s
  | .doTimeCounter h => Sys2Proof.Machine.execDoTimeCounter h s
  | .doSchedFrame h f length => Sys2Proof.Machine.execDoSchedFrame h f length s
  | .doSchedCell h idx args => Sys2Proof.Machine.execDoSchedCell h idx args s
  | .doSchedDrop h idx => Sys2Proof.Machine.execDoSchedDrop h idx s
  | .doSchedList h f => Sys2Proof.Machine.execDoSchedList h f s
  | .doRoundStart h code r => Sys2Proof.Machine.execDoRoundStart h code r s
  | .doRoundStop h => Sys2Proof.Machine.execDoRoundStop h s
  | .doFlightList h => Sys2Proof.Machine.execDoFlightList h s
  | .doFlightCancel h id => Sys2Proof.Machine.execDoFlightCancel h id s
  | .doRosterShow h ref => Sys2Proof.Machine.execDoRosterShow h ref s
  | .doRosterPin h handle on => Sys2Proof.Machine.execDoRosterPin h handle on s
  | .doRosterDrop h handle => Sys2Proof.Machine.execDoRosterDrop h handle s
  | .doRosterGroups h handle groups => Sys2Proof.Machine.execDoRosterGroups h handle groups s
  | .doRosterPeer h index eui => Sys2Proof.Machine.execDoRosterPeer h index eui s
  | .doRosterForget h eui => Sys2Proof.Machine.execDoRosterForget h eui s
  | .doKeeperNetkey h wrapped => Sys2Proof.Machine.execDoKeeperNetkey h wrapped s
  | .doKeeperLibkey h key => Sys2Proof.Machine.execDoKeeperLibkey h key s
  | .doWmRead h n => Sys2Proof.Machine.execDoWmRead h n s
  | .doWmConv h n code => Sys2Proof.Machine.execDoWmConv h n code s
  | .doWmClear h n => Sys2Proof.Machine.execDoWmClear h n s
  | .doVaux h on => Sys2Proof.Machine.execDoVaux h on s
  | .vauxRampEnd => Sys2Proof.Machine.execVauxRampEnd s
  | .doPmSleep h cellar => Sys2Proof.Machine.execDoPmSleep h cellar s
  | .doPmShelf h => Sys2Proof.Machine.execDoPmShelf h s
  | .doPmResidency h => Sys2Proof.Machine.execDoPmResidency h s
  | .doFaultList h kind => Sys2Proof.Machine.execDoFaultList h kind s
  | .doFaultRetire h r => Sys2Proof.Machine.execDoFaultRetire h r s
  | .doFaultReinstate h r testPassed => Sys2Proof.Machine.execDoFaultReinstate h r testPassed s
  | .lineCollision => Sys2Proof.Machine.execLineCollision s
  | .partialLineTimeout => Sys2Proof.Machine.execPartialLineTimeout s
  | .shortBreak low => Sys2Proof.Machine.execShortBreak low s
  | .attention low => Sys2Proof.Machine.execAttention low s
  | .longBreak low => Sys2Proof.Machine.execLongBreak low s
  | .stuckLine => Sys2Proof.Machine.execStuckLine s
  | .stuckLineCheck high => Sys2Proof.Machine.execStuckLineCheck high s
  | .lineRateTrialExpiry => Sys2Proof.Machine.execLineRateTrialExpiry s
  | .sessionIdleTimeout => Sys2Proof.Machine.execSessionIdleTimeout s
  | .challengeExpiry => Sys2Proof.Machine.execChallengeExpiry s
  | .authLockoutEnd => Sys2Proof.Machine.execAuthLockoutEnd s
  | .lineReceiverOpen => Sys2Proof.Machine.execLineReceiverOpen s
  | .codeWordComplete br readings rssi => Sys2Proof.Machine.execCodeWordComplete br readings rssi s
  | .syncSearchTimeout br => Sys2Proof.Machine.execSyncSearchTimeout br s
  | .discrepancyWindowClose => Sys2Proof.Machine.execDiscrepancyWindowClose s
  | .branchSettleComplete br => Sys2Proof.Machine.execBranchSettleComplete br s
  | .blankingStart => Sys2Proof.Machine.execBlankingStart s
  | .blankingEnd => Sys2Proof.Machine.execBlankingEnd s
  | .directSuspend br => Sys2Proof.Machine.execDirectSuspend br s
  | .directResume br => Sys2Proof.Machine.execDirectResume br s
  | .directSniff br level => Sys2Proof.Machine.execDirectSniff br level s
  | .sniffHoldTimeout br => Sys2Proof.Machine.execSniffHoldTimeout br s
  | .branchConfigChange => Sys2Proof.Machine.execBranchConfigChange s
  | .sweepStart => Sys2Proof.Machine.execSweepStart s
  | .burstStart => Sys2Proof.Machine.execBurstStart s
  | .burstEnd => Sys2Proof.Machine.execBurstEnd s
  | .scheduledBurstDue => Sys2Proof.Machine.execScheduledBurstDue s
  | .airtimeEntryExpiry => Sys2Proof.Machine.execAirtimeEntryExpiry s
  | .radioTransitionDone temp => Sys2Proof.Machine.execRadioTransitionDone temp s
  | .txEndOfFrame => Sys2Proof.Machine.execTxEndOfFrame s
  | .dieTemperatureReading temp => Sys2Proof.Machine.execDieTemperatureReading temp s
  | .gapCalibration band gap => Sys2Proof.Machine.execGapCalibration band gap s
  | .calibrationDeadline => Sys2Proof.Machine.execCalibrationDeadline s
  | .calibrationComplete temp outOfLimits => Sys2Proof.Machine.execCalibrationComplete temp outOfLimits s
  | .idleSynthOff => Sys2Proof.Machine.execIdleSynthOff s
  | .paLoopCorrection forward => Sys2Proof.Machine.execPaLoopCorrection forward s
  | .aerialRestEnd aerial => Sys2Proof.Machine.execAerialRestEnd aerial s
  | .coexRequest => Sys2Proof.Machine.execCoexRequest s
  | .coexGrantSample gnt => Sys2Proof.Machine.execCoexGrantSample gnt s
  | .coexGrantRise => Sys2Proof.Machine.execCoexGrantRise s
  | .coexGrantLoss => Sys2Proof.Machine.execCoexGrantLoss s
  | .coexStarvation => Sys2Proof.Machine.execCoexStarvation s
  | .slotBoundary => Sys2Proof.Machine.execSlotBoundary s
  | .cellStart idx conv => Sys2Proof.Machine.execCellStart idx conv s
  | .agcWindowEnd chain peak => Sys2Proof.Machine.execAgcWindowEnd chain peak s
  | .forcedAgcStep chain => Sys2Proof.Machine.execForcedAgcStep chain s
  | .laneRetune lane chan rate => Sys2Proof.Machine.execLaneRetune lane chan rate s
  | .frameReceived f r fcsOk => Sys2Proof.Machine.execFrameReceived f r fcsOk s
  | .joinReceived f r => Sys2Proof.Machine.execJoinReceived f r s
  | .spillWriteComplete => Sys2Proof.Machine.execSpillWriteComplete s
  | .ackReceived f r delay => Sys2Proof.Machine.execAckReceived f r delay s
  | .beaconReceived b r => Sys2Proof.Machine.execBeaconReceived b r s
  | .floodReceived f r => Sys2Proof.Machine.execFloodReceived f r s
  | .floodRebroadcast lane => Sys2Proof.Machine.execFloodRebroadcast lane s
  | .seenCacheAgeOut => Sys2Proof.Machine.execSeenCacheAgeOut s
  | .ackSend lane => Sys2Proof.Machine.execAckSend lane s
  | .roundOpen => Sys2Proof.Machine.execRoundOpen s
  | .subSlotStart => Sys2Proof.Machine.execSubSlotStart s
  | .replyWindowEnd cells => Sys2Proof.Machine.execReplyWindowEnd cells s
  | .roundEnd => Sys2Proof.Machine.execRoundEnd s
  | .roundPause => Sys2Proof.Machine.execRoundPause s
  | .flightAttempt id cell => Sys2Proof.Machine.execFlightAttempt id cell s
  | .attemptFail id cause => Sys2Proof.Machine.execAttemptFail id cause s
  | .calledListenTimeout id => Sys2Proof.Machine.execCalledListenTimeout id s
  | .answerReceived f r => Sys2Proof.Machine.execAnswerReceived f r s
  | .lastChanceBurst index => Sys2Proof.Machine.execLastChanceBurst index s
  | .lastChanceFlood index => Sys2Proof.Machine.execLastChanceFlood index s
  | .reacquireTimeout => Sys2Proof.Machine.execReacquireTimeout s
  | .networkWaitEnd => Sys2Proof.Machine.execNetworkWaitEnd s
  | .startRoundSlot => Sys2Proof.Machine.execStartRoundSlot s
  | .becomeRoot => Sys2Proof.Machine.execBecomeRoot s
  | .sleepClockMeasure ppmQ => Sys2Proof.Machine.execSleepClockMeasure ppmQ s
  | .sleepClockTempRead temp => Sys2Proof.Machine.execSleepClockTempRead temp s
  | .timeSave => Sys2Proof.Machine.execTimeSave s
  | .monitorSample n code => Sys2Proof.Machine.execMonitorSample n code s
  | .comparatorCrossing n active => Sys2Proof.Machine.execComparatorCrossing n active s
  | .latchPeriodClear n => Sys2Proof.Machine.execLatchPeriodClear n s
  | .pgTrip n => Sys2Proof.Machine.execPgTrip n s
  | .earlyWarning => Sys2Proof.Machine.execEarlyWarning s
  | .emergencyFlushEnd => Sys2Proof.Machine.execEmergencyFlushEnd s
  | .vauxTrip => Sys2Proof.Machine.execVauxTrip s
  | .vauxRetry => Sys2Proof.Machine.execVauxRetry s
  | .idleToLoft => Sys2Proof.Machine.execIdleToLoft s
  | .loftToLarder => Sys2Proof.Machine.execLoftToLarder s
  | .cellarEntry => Sys2Proof.Machine.execCellarEntry s
  | .wakeEventExit cause => Sys2Proof.Machine.execWakeEventExit cause s
  | .exitComplete failed => Sys2Proof.Machine.execExitComplete failed s
  | .scheduleTimerWake => Sys2Proof.Machine.execScheduleTimerWake s
  | .cellarPeriodWake => Sys2Proof.Machine.execCellarPeriodWake s
  | .powerOnStart cause test bist temp => Sys2Proof.Machine.execPowerOnStart cause test bist temp s
  | .brownOut => Sys2Proof.Machine.execBrownOut s
  | .shelfWake => Sys2Proof.Machine.execShelfWake s
  | .shelfDetectorArm => Sys2Proof.Machine.execShelfDetectorArm s
  | .watchdog => Sys2Proof.Machine.execWatchdog s
  | .warmStart failed temp selfTestOk => Sys2Proof.Machine.execWarmStart failed temp selfTestOk s
  | .sleepCrystalGood => Sys2Proof.Machine.execSleepCrystalGood s
  | .bistRetry bist temp => Sys2Proof.Machine.execBistRetry bist temp s
  | .codewordDue => Sys2Proof.Machine.execCodewordDue s
  | .storeOperationDone ok => Sys2Proof.Machine.execStoreOperationDone ok s
  | .programFailure erase block => Sys2Proof.Machine.execProgramFailure erase block s
  | .peckRefresh corrected block => Sys2Proof.Machine.execPeckRefresh corrected block s
  | .ledgerRingAdvance => Sys2Proof.Machine.execLedgerRingAdvance s
  | .pushBlock cell => Sys2Proof.Machine.execPushBlock cell s
  | .pushDirectoryCompaction => Sys2Proof.Machine.execPushDirectoryCompaction s
  | .restPeriodEnd r => Sys2Proof.Machine.execRestPeriodEnd r s
  | .restWindowExpiry r => Sys2Proof.Machine.execRestWindowExpiry r s
  | .channelJudgingWindow r preambles bad => Sys2Proof.Machine.execChannelJudgingWindow r preambles bad s
  | .peerRetireHourly => Sys2Proof.Machine.execPeerRetireHourly s
  | .branchAlignment br chips onLevel offLevel => Sys2Proof.Machine.execBranchAlignment br chips onLevel offLevel s
  | .preambleDeclared lane first qa qb rssiA rssiB => Sys2Proof.Machine.execPreambleDeclared lane first qa qb rssiA rssiB s
  | .sfdFound lane sfd phr length => Sys2Proof.Machine.execSfdFound lane sfd phr length s
  | .laneEngineFault lane => Sys2Proof.Machine.execLaneEngineFault lane s
  | .characterEcho c => Sys2Proof.Machine.execCharacterEcho c s
  | .lineError chars malformed => Sys2Proof.Machine.execLineError chars malformed s
  | .backgroundReload => Sys2Proof.Machine.execBackgroundReload s

end Sys2Proof.Machine
end

