-- ==== Sys2Proof/Machine/Held.lean ====
section
/-!
DEFINITION. Sys2Proof/Machine/Held.lean: the changes that waited for a flush or for an earlier change are judged, in their
order of arrival (R91, R518).
-/

namespace Sys2Proof.Machine

/-- A line that waited is judged: no other command ever waits. -/
def State.runHeld (c : Instr) (s : State) : State :=
  match c with
  | .set h obj arg => s.judge h .set (runSet h obj arg)
  | .authChallenge h level => s.judge h .auth (runAuthChallenge h level)
  | .authResponse h level resp => s.judge h .auth (runAuthResponse h level resp)
  | .authKey h level wrapped => s.judge h .auth (runAuthKey h level wrapped)
  | .enumStart h => s.judge h .enum (runEnumStart h)
  | .enumNext h n chainIn => s.judge h .enum (runEnumNext h n chainIn)
  | .enumClaim h eui n => s.judge h .enum (runEnumClaim h eui n)
  | .logMark h seq => s.judge h .log (runLogMark h seq)
  | .tallyClear h block => s.judge h .tally (runTallyClear h block)
  | .imageBeginSelf h len => s.judge h .image (runImageBeginSelf h len)
  | .imageBeginLib h slot len => s.judge h .image (runImageBeginLib h slot len)
  | .imageVerify h lib => s.judge h .image (runImageVerify h lib)
  | .imageActivate h => s.judge h .image (runImageActivate h)
  | .imageConfirm h => s.judge h .image (runImageConfirm h)
  | .imageAbort h => s.judge h .image (runImageAbort h)
  | .imageDropLib h slot => s.judge h .image (runImageDropLib h slot)
  | .resetWarm h => s.judge h .reset (runResetWarm h)
  | .resetCold h => s.judge h .reset (runResetCold h)
  | .doJomenArm h code mask => s.judge h .do_ (runDoJomenArm h code mask)
  | .doJomenReason h r on => s.judge h .do_ (runDoJomenReason h r on)
  | .doJomenBurst h code reason sync rep => s.judge h .do_ (runDoJomenBurst h code reason sync rep)
  | .doRadioCal h kind band => s.judge h .do_ (runDoRadioCal h kind band)
  | .doRxCapture h src at_ count rate => s.judge h .do_ (runDoRxCapture h src at_ count rate)
  | .doRxCaptureDrop h => s.judge h .do_ (runDoRxCaptureDrop h)
  | .doTimeSet h seconds nanos => s.judge h .do_ (runDoTimeSet h seconds nanos)
  | .doTimeCounter h => s.judge h .do_ (runDoTimeCounter h)
  | .doSchedFrame h f length => s.judge h .do_ (runDoSchedFrame h f length)
  | .doSchedCell h i args => s.judge h .do_ (runDoSchedCell h i args)
  | .doSchedDrop h i => s.judge h .do_ (runDoSchedDrop h i)
  | .doRoundStart h code r => s.judge h .do_ (runDoRoundStart h code r)
  | .doRoundStop h => s.judge h .do_ (runDoRoundStop h)
  | .doFlightCancel h id => s.judge h .do_ (runDoFlightCancel h id)
  | .doRosterPin h handle on => s.judge h .do_ (runDoRosterPin h handle on)
  | .doRosterDrop h handle => s.judge h .do_ (runDoRosterDrop h handle)
  | .doRosterGroups h handle groups => s.judge h .do_ (runDoRosterGroups h handle groups)
  | .doRosterPeer h index eui => s.judge h .do_ (runDoRosterPeer h index eui)
  | .doRosterForget h eui => s.judge h .do_ (runDoRosterForget h eui)
  | .doKeeperNetkey h wrapped => s.judge h .do_ (runDoKeeperNetkey h wrapped)
  | .doKeeperLibkey h key => s.judge h .do_ (runDoKeeperLibkey h key)
  | .doWmClear h n => s.judge h .do_ (runDoWmClear h n)
  | .doVaux h on => s.judge h .do_ (runDoVaux h on)
  | .doPmSleep h cellar => s.judge h .do_ (runDoPmSleep h cellar)
  | .doPmShelf h => s.judge h .do_ (runDoPmShelf h)
  | .doFaultRetire h r => s.judge h .do_ (runDoFaultRetire h r)
  | .doFaultReinstate h r testPassed => s.judge h .do_ (runDoFaultReinstate h r testPassed)
  | _ => s

/-- The oldest change that waits is judged once nothing keeps it: no flush, no earlier change (log 116). -/
def State.releaseHeld (s : State) : State :=
  match s.store.heldLines with
  | [] => s
  | c :: rest =>
    if s.ccOn && s.store.flush.isNone && !s.changeOpen then
      (s.onStore (fun x => { x with heldLines := rest })).runHeld c
    else s

end Sys2Proof.Machine
end

