-- ==== Sys2Proof/Machine/Tick.lean ====
section
/-!
DEFINITION. Sys2Proof/Machine/Tick.lean: one tick of the model's clock, 1/4.096 GHz: the edges of CCLK, WCLK and the
sleep clock that fall on it and what they do (R257, R258, R413, R438, R504, R505; log 1).
-/

namespace Sys2Proof.Machine

/-- The occupancy counters of one clock's sources count the edges at which the source stands above its threshold; `wake`
selects the WCLK source (R505). -/
def State.occEdge (wake : Bool) (s : State) : State :=
  s.each (List.range 8) (fun n s =>
    let src := s.pnat (Obj.occSrc + n)
    if src ≠ 0 && decide (src = 6) == wake && decide (s.pnat (Obj.occAbove + n) < s.occupancies.getD (src - 1) 0) then
      s.count .tally ("occ." ++ dec n)
    else s)

/-- The peaks of the occupancies (R504). -/
def State.occPeaks (s : State) : State :=
  let o := s.occupancies
  s.onTally (fun t => { t with peaks := Vector.ofFn (fun k : Fin 6 => max t.peaks[k] (o.getD k.val 0)) })

/-- Local time advances to the present edge (R257, R258): 7.8125 ns for each CCLK cycle since the edge before, 30,517.578125
ns for each sleep tick, at 1 and the rate in force, and as much less for the part of one in which the clocks change, so that
no time is lost (log 143). -/
def Time.advance (now : Ticks) (corr : Int) (t : Time) : Time :=
  let d := now - t.upTo
  { t with cq := t.cq + d / 8, upTo := now
           q := if t.counterMode then t.q else t.q + d * 1000 * (2 ^ 32 + t.rate + t.slew + corr).toNat / 32 }

/-- A CCLK edge: local time advances (R257, R258), the chains' offsets are followed (R194), occupancies are compared. -/
def State.cclkEdge (s : State) : State :=
  let s := s.onTime (Time.advance s.now 0)
  ((s.dcLoop .a).dcLoop .b).occEdge false

/-- A sleep tick while CCLK is stopped: local time advances on the sleep clock (R257, R258). -/
def State.slowTick (s : State) : State :=
  s.onTime (fun t => { (t.advance s.now (t.sleepComp + t.sleepCorr)) with slowFrom := some s.now })

/-- A sleep tick counts towards the present state, but for SHELF (R438). -/
def Pm.residencyTick (p : Pm) : Pm :=
  match p.power with
  | .active => count p 0
  | .loft => count p 1
  | .larder => count p 2
  | .cellar => count p 3
  | .shelf => p
where
  /-- 48 bits with a sticky overflow bit. -/
  count (p : Pm) (k : Fin 4) : Pm :=
    let n := p.ticks[k] + 1
    { p with ticks := p.ticks.set k (n % 2 ^ 48),
             ovf := if n < 2 ^ 48 || p.ovf.contains k.val then p.ovf else p.ovf ++ [k.val] }

/-- A WCLK edge: the suspended branches and the wake queue's occupancy count, the slicer floors follow, and WAKE follows (R131,
R143, R155, R433, R505). -/
def State.wclkEdge (s : State) : State :=
  let s := if s.wake.a.st == .suspended then s.count .wur "wur.suspend.a" else s
  let s := if s.wake.b.st == .suspended then s.count .wur "wur.suspend.b" else s
  ((s.trackBranch .a).trackBranch .b).occEdge true |>.driveWake

/-- The idle time of ACTIVE starts when the work ends, and a single piece of work ends it (R413). -/
def State.idleTime (s : State) : State :=
  if s.steady && s.pm.power == .active && s.noWork then
    match s.pm.idleFrom with
    | some _ => s
    | none => (s.fire .idlePeriod).onPm (fun p => { p with idleFrom := some s.now })
  else s.onPm (fun p => { p with idleFrom := none })

/-- The radio's work that waits: the way to RX in time for a cell (R178), and what yielded once it may ask again (R209). -/
def State.radioTick (s : State) : State :=
  if s.ccOn && s.radio.trans.isNone && ((s.radio.st == .sleep && s.wantRadio == .rx) || s.radio.st == .standby) then s.moveRadio
  else if s.radio.yielded.isSome then s.resume
  else s

/-- The edges of the clocks that fall on the present tick. -/
def State.clockEdges (s : State) : State :=
  let s := if s.cclkOn && s.now % cclkTicks == 0 then s.cclkEdge else s
  let s := if s.cellarOn && !s.cclkOn && s.now % sleepTicks == 0 then s.slowTick else s
  let s := if s.running && s.now % sleepTicks == 0 then s.onPm Pm.residencyTick else s
  if s.cellarOn && s.now % wclkTicks == 0 then s.wclkEdge else s

/-- What falls due of itself: the frames of an attempt, a check of a stuck line, the changes that waited, the steps of an
entry, the idle time, a reset that was asked for. -/
def State.dueWork (s : State) : State :=
  let s := (s.each (s.work.table.filter (fun f => f.frameAt.isSome)) State.sendDue).coexTick.radioTick
  s.rxTick.bootDue.lineTick.releaseHeld.entrySteps.idleTime.occPeaks.resetDue

/-- One tick. Without power there is no clock, but time goes on. -/
def State.tick (s : State) : State :=
  let s := { s with now := s.now + 1 }
  if s.running then s.clockEdges.dueWork else s.clockEdges

end Sys2Proof.Machine
end

