-- ==== Sys2Proof/Safety.lean ====
section
/-!
DEFINITION. Sys2Proof/Safety.lean: the terms that statements use: safe steps, lines that the part judges, what an action
that succeeds leaves behind, and what a change leaves alone.
-/

namespace Sys2Proof

/-- A step that neither faults nor refuses. -/
def Safe (s : Machine.State) : Prop := ∃ t, Machine.step s = .next t

/-- The line that a command is, none for an event (R51, R59): what it carries beside its verb and its arguments. -/
def Instr.hdr : Instr → Option Hdr
  | .get h _ => some h
  | .set h _ _ => some h
  | .showPart h => some h
  | .showPrefix h _ => some h
  | .authChallenge h _ => some h
  | .authResponse h _ _ => some h
  | .authKey h _ _ => some h
  | .logout h => some h
  | .enumStart h => some h
  | .enumNext h _ _ => some h
  | .enumClaim h _ _ => some h
  | .roll h => some h
  | .why h => some h
  | .whyPath h _ => some h
  | .events h _ => some h
  | .wakeList h _ => some h
  | .wakeAck h _ => some h
  | .wakeBranch h => some h
  | .wakeSeen h _ => some h
  | .send h _ _ _ _ _ _ _ => some h
  | .logInfo h => some h
  | .logRead h _ _ _ => some h
  | .logAudit h _ _ => some h
  | .logMark h _ => some h
  | .tallyRead h _ => some h
  | .tallyReadSnap h _ => some h
  | .tallyOcc h => some h
  | .tallyBw h _ => some h
  | .tallySnap h => some h
  | .tallyFreeze h => some h
  | .tallyThaw h => some h
  | .tallyClear h _ => some h
  | .imageBeginSelf h _ => some h
  | .imageBeginLib h _ _ => some h
  | .imageData h _ _ => some h
  | .imageStatus h _ => some h
  | .imageVerify h _ => some h
  | .imageActivate h => some h
  | .imageConfirm h => some h
  | .imageAbort h => some h
  | .imageDropLib h _ => some h
  | .imageList h => some h
  | .imagePush h _ _ _ _ => some h
  | .resetWarm h => some h
  | .resetCold h => some h
  | .doJomenArm h _ _ => some h
  | .doJomenReason h _ _ => some h
  | .doJomenBurst h _ _ _ _ => some h
  | .doRadioCal h _ _ => some h
  | .doRxCapture h _ _ _ _ => some h
  | .doRxCaptureDrop h => some h
  | .doRxCaptureRead h _ _ => some h
  | .doTimeNow h => some h
  | .doTimeSet h _ _ => some h
  | .doTimeCounter h => some h
  | .doSchedFrame h _ _ => some h
  | .doSchedCell h _ _ => some h
  | .doSchedDrop h _ => some h
  | .doSchedList h _ => some h
  | .doRoundStart h _ _ => some h
  | .doRoundStop h => some h
  | .doFlightList h => some h
  | .doFlightCancel h _ => some h
  | .doRosterShow h _ => some h
  | .doRosterPin h _ _ => some h
  | .doRosterDrop h _ => some h
  | .doRosterGroups h _ _ => some h
  | .doRosterPeer h _ _ => some h
  | .doRosterForget h _ => some h
  | .doKeeperNetkey h _ => some h
  | .doKeeperLibkey h _ => some h
  | .doWmRead h _ => some h
  | .doWmConv h _ _ => some h
  | .doWmClear h _ => some h
  | .doVaux h _ => some h
  | .doPmSleep h _ => some h
  | .doPmShelf h => some h
  | .doPmResidency h => some h
  | .doFaultList h _ => some h
  | .doFaultRetire h _ => some h
  | .doFaultReinstate h _ _ => some h
  | _ => none

/-- The level that a command needs before anything else is looked at (R76). -/
def Instr.level : Instr → Option Level
  | .authKey _ _ _ => some .custodian
  | .send _ _ _ _ _ _ _ _ => some .operator
  | .logMark _ _ => some .operator
  | .tallySnap _ => some .operator
  | .tallyFreeze _ => some .operator
  | .tallyThaw _ => some .operator
  | .tallyClear _ _ => some .operator
  | .imageBeginSelf _ _ => some .custodian
  | .imageBeginLib _ _ _ => some .custodian
  | .imageData _ _ _ => some .custodian
  | .imageStatus _ _ => some .custodian
  | .imageVerify _ _ => some .custodian
  | .imageActivate _ => some .custodian
  | .imageConfirm _ => some .custodian
  | .imageAbort _ => some .custodian
  | .imageDropLib _ _ => some .custodian
  | .imageList _ => some .custodian
  | .imagePush _ _ _ _ _ => some .custodian
  | .resetWarm _ => some .operator
  | .resetCold _ => some .custodian
  | .doJomenArm _ _ _ => some .operator
  | .doJomenReason _ _ _ => some .operator
  | .doJomenBurst _ _ _ _ _ => some .operator
  | .doRadioCal _ _ _ => some .operator
  | .doRxCapture _ _ _ _ _ => some .operator
  | .doRxCaptureDrop _ => some .operator
  | .doRxCaptureRead _ _ _ => some .operator
  | .doTimeNow _ => some .operator
  | .doTimeSet _ _ _ => some .custodian
  | .doTimeCounter _ => some .custodian
  | .doSchedFrame _ _ _ => some .operator
  | .doSchedCell _ _ _ => some .operator
  | .doSchedDrop _ _ => some .operator
  | .doSchedList _ _ => some .operator
  | .doRoundStart _ _ _ => some .operator
  | .doRoundStop _ => some .operator
  | .doFlightCancel _ _ => some .operator
  | .doRosterPin _ _ _ => some .operator
  | .doRosterDrop _ _ => some .operator
  | .doRosterGroups _ _ _ => some .operator
  | .doRosterPeer _ _ _ => some .custodian
  | .doRosterForget _ _ => some .custodian
  | .doKeeperNetkey _ _ => some .custodian
  | .doKeeperLibkey _ _ => some .custodian
  | .doWmRead _ _ => some .operator
  | .doWmConv _ _ _ => some .operator
  | .doWmClear _ _ => some .operator
  | .doVaux _ _ => some .operator
  | .doPmSleep _ _ => some .operator
  | .doPmShelf _ => some .custodian
  | .doFaultRetire _ _ => some .custodian
  | .doFaultReinstate _ _ _ => some .custodian
  | _ => none

/-- A broadcast may carry the command (R61). -/
def Instr.toAll : Instr → Bool
  | .set _ _ _ => true
  | .logout _ => true
  | .enumStart _ => true
  | .enumNext _ _ _ => true
  | .enumClaim _ _ _ => true
  | .roll _ => true
  | .resetWarm _ => true
  | .resetCold _ => true
  | .doJomenArm _ _ _ => true
  | .doJomenReason _ _ _ => true
  | .doJomenBurst _ _ _ _ _ => true
  | .doRadioCal _ _ _ => true
  | .doRxCapture _ _ _ _ _ => true
  | .doRxCaptureDrop _ => true
  | .doRxCaptureRead _ _ _ => true
  | .doTimeNow _ => true
  | .doTimeSet _ _ _ => true
  | .doTimeCounter _ => true
  | .doSchedFrame _ _ _ => true
  | .doSchedCell _ _ _ => true
  | .doSchedDrop _ _ => true
  | .doSchedList _ _ => true
  | .doRoundStart _ _ _ => true
  | .doRoundStop _ => true
  | .doFlightList _ => true
  | .doFlightCancel _ _ => true
  | .doRosterShow _ _ => true
  | .doRosterPin _ _ _ => true
  | .doRosterDrop _ _ => true
  | .doRosterGroups _ _ _ => true
  | .doRosterPeer _ _ _ => true
  | .doRosterForget _ _ => true
  | .doKeeperNetkey _ _ => true
  | .doKeeperLibkey _ _ => true
  | .doWmRead _ _ => true
  | .doWmConv _ _ _ => true
  | .doWmClear _ _ => true
  | .doVaux _ _ => true
  | .doPmSleep _ _ => true
  | .doPmShelf _ => true
  | .doPmResidency _ => true
  | .doFaultList _ _ => true
  | .doFaultRetire _ _ => true
  | .doFaultReinstate _ _ _ => true
  | _ => false

/-- The command is a change: an action that is recorded, and that waits for a flush and for the changes before it (R89, R91,
R518). -/
def Instr.changes : Instr → Bool
  | .set _ _ _ => true
  | .authChallenge _ _ => true
  | .authResponse _ _ _ => true
  | .authKey _ _ _ => true
  | .enumStart _ => true
  | .enumNext _ _ _ => true
  | .enumClaim _ _ _ => true
  | .logMark _ _ => true
  | .tallyClear _ _ => true
  | .imageBeginSelf _ _ => true
  | .imageBeginLib _ _ _ => true
  | .imageVerify _ _ => true
  | .imageActivate _ => true
  | .imageConfirm _ => true
  | .imageAbort _ => true
  | .imageDropLib _ _ => true
  | .resetWarm _ => true
  | .resetCold _ => true
  | .doJomenArm _ _ m => m.isSome
  | .doJomenReason _ _ _ => true
  | .doJomenBurst _ _ _ _ _ => true
  | .doRadioCal _ _ _ => true
  | .doRxCapture _ _ _ _ _ => true
  | .doRxCaptureDrop _ => true
  | .doTimeSet _ _ _ => true
  | .doTimeCounter _ => true
  | .doSchedFrame _ _ _ => true
  | .doSchedCell _ _ _ => true
  | .doSchedDrop _ _ => true
  | .doRoundStart _ _ _ => true
  | .doRoundStop _ => true
  | .doFlightCancel _ _ => true
  | .doRosterPin _ _ _ => true
  | .doRosterDrop _ _ => true
  | .doRosterGroups _ _ _ => true
  | .doRosterPeer _ _ _ => true
  | .doRosterForget _ _ => true
  | .doKeeperNetkey _ _ => true
  | .doKeeperLibkey _ _ => true
  | .doWmClear _ _ => true
  | .doVaux _ _ => true
  | .doPmSleep _ _ => true
  | .doPmShelf _ => true
  | .doFaultRetire _ _ => true
  | .doFaultReinstate _ _ _ => true
  | _ => false

/-- The command answers a challenge (R72). -/
def Instr.answersChallenge : Instr → Bool
  | .authResponse _ _ _ => true
  | _ => false

namespace Machine

/-! ## Lines that the part judges -/

/-- The state in which a line of this unit is judged: the line has been taken, and parameters that wait for the next line
are in force. -/
def State.heard (h : Hdr) (s : State) : State := (s.takeLine h).beginLine false

/-- The same, a challenge left to the line that answers it (R72). -/
def State.heardBy (c : Instr) (h : Hdr) (s : State) : State := (s.takeLine h).beginLine c.answersChallenge

/-- The part judges a line: its receiver takes it, it is for this unit, and it carries the checksum that generated mode
asks for (R46, R54, R59, R60). -/
def State.judges (h : Hdr) (s : State) : Prop :=
  s.hears = true ∧ s.forUnit h = true ∧ (s.heard h).noCheck h = false

/-- The part judges a line that is no broadcast. -/
def State.takes (h : Hdr) (s : State) : Prop := s.judges h ∧ h.addr ≠ some 0

/-- Nothing keeps a change waiting: no emergency flush runs, and every earlier change has been applied (R91, R518). -/
def State.noWait (s : State) : Prop := s.store.flush = none ∧ s.store.heldLines = [] ∧ s.changeOpen = false

/-- The part judges a line that is a change, and judges it at once. -/
def State.judgesAtOnce (h : Hdr) (s : State) : Prop := s.judges h ∧ (s.heard h).noWait

/-- The part judges a change that is no broadcast, at once. -/
def State.takesAtOnce (h : Hdr) (s : State) : Prop := s.judgesAtOnce h ∧ h.addr ≠ some 0

/-- The state in which an action works whose record holds a hash of its arguments (R520). -/
def State.acting (h : Hdr) (s : State) : State := (s.heard h).draw.2

/-- An action has succeeded with effect `w`: its audit record, action 4, and its reply (R62, R89, R520). -/
def State.did (h : Hdr) (obj : Nat) (out : List OutLine) (s w : State) : State :=
  (w.audit ((s.heard h).lineOrigin h) 4 obj 0 (.num 0) (.hash (Config.freeHash (s.heard h).fresh))).reply h out

/-- A line whose record `a` is written with it has succeeded with effect `w`. -/
def State.didAs (h : Hdr) (a : Aud) (out : List OutLine) (s w : State) : State :=
  (w.audit ((s.heard h).lineOrigin h) a.action a.obj 0 a.old a.new).reply h out

/-! ## What a change leaves alone -/

/-- The groups of State. -/
inductive Group where
  | params | line | wake | jomen | radio | rx | time | sched | net | work | roster | mon | pm | store | image | faults
  | tally
  deriving DecidableEq, Repr

/-- A group is the same in two states. -/
def State.same (s t : State) : Group → Prop
  | .params => t.params = s.params
  | .line => t.line = s.line
  | .wake => t.wake = s.wake
  | .jomen => t.jomen = s.jomen
  | .radio => t.radio = s.radio
  | .rx => t.rx = s.rx
  | .time => t.time = s.time
  | .sched => t.sched = s.sched
  | .net => t.net = s.net
  | .work => t.work = s.work
  | .roster => t.roster = s.roster
  | .mon => t.mon = s.mon
  | .pm => t.pm = s.pm
  | .store => t.store = s.store
  | .image => t.image = s.image
  | .faults => t.faults = s.faults
  | .tally => t.tally = s.tally

/-- The boot selector's copy that is still being written carries the record that is in force (R472). -/
def Images.inStep (m : Images) : Prop := ∀ x, m.bootOwed = some x → x.2 = m.boot

/-- Nothing but the listed groups, and the model's own counter of free values, differs. -/
def State.keeps (but : List Group) (s t : State) : Prop :=
  t.pending = s.pending ∧ t.now = s.now ∧ t.part = s.part ∧ ∀ g, g ∉ but → s.same t g

/-! ## What every step keeps -/

/-- The memories of the matcher are in their canonical form (R113, R166, R443). -/
def State.canonical (s : State) : Prop :=
  Mem.wf s.wake.masks = true ∧ Mem.wf s.wake.stored = true ∧ Mem.wf s.wake.seen = true

/-- The queues and tables hold no more than the manual gives them: 16 wake records, 64 event lines, 32 flights in the
table and 256 waiting, 8 rounds waiting, 1,024 received frames, 256 seen floods; the LINE address is one of 0 to 16. -/
def State.bounded (s : State) : Prop :=
  s.wake.queue.length ≤ 16 ∧ s.line.events.length ≤ 64 ∧ s.line.address ≤ 16 ∧ s.work.table.length ≤ 32 ∧
    s.work.waiting.length ≤ 256 ∧ s.work.rounds.length ≤ 8 ∧ s.rx.buf.length ≤ 1024 ∧ s.roster.seen.length ≤ 256

end Machine

end Sys2Proof
end

