-- ==== Sys2Proof/Certificates/Slice0/Obligations.lean ====
section
/-!
DEFINITION. Sys2Proof/Certificates/Slice0/Obligations.lean: the statements about the machine. In a statement about a line,
`s.heard h` is the state in which the part judges it, `s.acting h` the same state once the hash of the arguments has been
drawn; `s.did` and `s.didAs` put the audit record and the reply on an effect. `tx` is what the part sends.
-/

open Sys2Proof Sys2Proof.Machine

/-! ## Steps and the queue -/

/-- A step takes the command at the front of the queue, and that command meets the queue's rest. -/
def Obligations.StepTakesFront : Prop :=
  ∀ (c : Instr) (rest : List Instr) (s : State), s.pending = c :: rest → step s = exec c { s with pending := rest }

/-- No command changes the queue, the model's clock or what the factory fixed. -/
def Obligations.CommandsKeepQueueAndClock : Prop :=
  ∀ (c : Instr) (s t : State), exec c s = .next t → t.pending = s.pending ∧ t.now = s.now ∧ t.part = s.part

/-- Every step answers a next state: the manual gives every command of the table an effect in every state. -/
def Obligations.EveryStepCompletes : Prop := ∀ s : State, Safe s

/-- On an empty queue a step is one tick of the model's clock (log 1). While the part stays in LARDER or CELLAR, local time
advances on the sleep clock alone: at a sleep tick by the time since the edge before, in counts of CCLK, and in normal service
in nanoseconds times one plus the rate, the slew, the crystal's curve and the sleep correction; not at all between sleep ticks
(R257, R258). -/
def Obligations.SleepClockKeepsTime : Prop :=
  ∀ s : State, s.pending = [] → s.running = true → (s.pm.power = .larder ∨ s.pm.power = .cellar) →
    s.pm.entering = none → s.pm.exiting = none → s.pm.resetAt = none → (∀ f ∈ s.work.table, f.frameAt = none) →
    s.radio.yielded = none →
    let edge := decide ((s.now + 1) % sleepTicks = 0)
    let d := s.now + 1 - s.time.upTo
    ∃ t, step s = .next t ∧ t.pending = [] ∧ t.now = s.now + 1 ∧ t.pm.power = s.pm.power ∧
      t.time.upTo = (if edge then s.now + 1 else s.time.upTo) ∧
      t.time.cq = s.time.cq + (if edge then d / 8 else 0) ∧
      t.time.q = s.time.q + (if edge && !s.time.counterMode then
        d * 1000 * (2 ^ 32 + s.time.rate + s.time.slew + (s.time.sleepComp + s.time.sleepCorr)).toNat / 32 else 0)

/-! ## Lines -/

/-- A line whose characters the receiver does not take has no effect of its own: at most its falling edge is a wake event
(R46, R47, R86). A line without `@` is for the unit in solo mode only, one with its address or `@0` always; a line for
another unit, and a broadcast that its verb does not take, are heard and nothing more: nothing is sent (R59 to R61). -/
def Obligations.LineNotForThisUnit : Prop :=
  (∀ (c : Instr) (h : Hdr) (s : State), c.hdr = some h → s.hears = false → exec c s = .next s.lineEdge) ∧
  (∀ (c : Instr) (h : Hdr) (s : State), c.hdr = some h → s.hears = true →
    (s.forUnit h = false ∨ (h.addr = some 0 ∧ c.toAll = false)) → exec c s = .next (s.takeLine h)) ∧
  (∀ (h : Hdr) (s : State), (s.takeLine h).line.tx = [] ∧ (s.forUnit h = true ↔
    (h.addr = none ∧ s.line.solo = true) ∨ h.addr = some 0 ∨ ∃ n, h.addr = some n ∧ s.line.address = n))

/-- In generated mode a line of this unit without its checksum is answered with `!CHECK`, and does none of its work: only
the line, the audit ring and what an audit record brings into force may differ from the state it was judged in (R55,
R524). A change is judged so unless it has to wait (R91). -/
def Obligations.ChecksumFirst : Prop :=
  ∀ (c : Instr) (h : Hdr) (s : State), c.hdr = some h → s.hears = true → s.forUnit h = true → h.addr ≠ some 0 →
    (s.heard h).noCheck h = true → (c.changes = true → (s.heard h).noWait) →
    ∃ t, exec c s = .next t ∧ t.line.tx = [.err .check] ∧ (s.heard h).keeps [.line, .store, .params] t

/-- A command below the level it needs is answered with `!PRIV` and does none of its work (R70, R76, R520); a broadcast is
answered by none (R61). The counters may have counted the failure. A change is judged so unless it has to wait (R91). -/
def Obligations.PrivilegeFirst : Prop :=
  ∀ (c : Instr) (h : Hdr) (l : Level) (s : State), c.hdr = some h → c.level = some l → s.judges h →
    (h.addr = some 0 → c.toAll = true) → (c.changes = true → (s.heard h).noWait) → levelNum s.line.level < levelNum l →
    ∃ t, exec c s = .next t ∧ (h.addr ≠ some 0 → t.line.tx = [.err .priv]) ∧
      (h.addr = some 0 → t.line.tx = []) ∧ t.line.level = s.line.level ∧
      (s.heard h).keeps [.line, .store, .params, .tally] t

/-- Changes are taken in order (R89, R91, R518). A change that comes while an emergency flush runs, while an earlier one
waits, or while an earlier one is not applied yet, waits behind the others with no effect and no reply; one that need not wait
is judged at once. The oldest that waits is judged, as it would have been on its arrival, once nothing keeps it. -/
def Obligations.ChangesAreTakenInOrder : Prop :=
  (∀ (c : Instr) (h : Hdr) (s : State), c.hdr = some h → c.changes = true → s.hears = true → s.forUnit h = true →
    (h.addr = some 0 → c.toAll = true) → ((s.heard h).noCheck h = true → c.answersChallenge = false) →
    let u := s.heardBy c h
    (u.mustWait c = true → exec c s = .next (u.onStore (fun x => { x with heldLines := x.heldLines ++ [c] }))) ∧
    (u.mustWait c = false → exec c s = .next (u.runHeld c))) ∧
  (∀ (c : Instr) (s : State), (s.noWait → s.mustWait c = false) ∧
    ((s.store.flush ≠ none ∨ s.store.heldLines ≠ []) → s.mustWait c = true) ∧
    (s.changeOpen = true → (∀ h, c ≠ .doVaux h false) → s.mustWait c = true)) ∧
  (∀ (c : Instr) (rest : List Instr) (s : State), s.store.heldLines = c :: rest → s.ccOn = true → s.store.flush = none →
    s.changeOpen = false → s.releaseHeld = (s.onStore (fun x => { x with heldLines := rest })).runHeld c)

/-- A reply goes out as it is given, and the part sends nothing in answer to a broadcast but the answers of an enumeration
(R61, R62, R80); a failure sends its error, and is what WHY reports next (R525). The characters of a line that the part
sends: its text, the checksum token where the line it answers carried one or `line.mode` is generated, and CR LF in typed
mode or CR in generated mode (R54, R55). The token is one that the part itself finds right. It starts 2 character times to
200 ms after the line it answers (R63). -/
def Obligations.RepliesAndErrors : Prop :=
  (∀ (h : Hdr) (out : List OutLine) (s : State),
    (h.addr ≠ some 0 → (s.reply h out).line.tx = out) ∧
    (h.addr = some 0 → Sending.answers s.line.sending = false → (s.reply h out).line.tx = s.line.tx) ∧
    s.keeps [.line] (s.reply h out) ∧ (s.reply h out).line.events = s.line.events ∧
    (s.reply h out).line.level = s.line.level ∧ (s.reply h out).line.lastErr = s.line.lastErr) ∧
  (∀ (h : Hdr) (v : Verb) (e : Err) (tok : Nat) (obj : Option Nat) (s : State),
    (h.addr ≠ some 0 → (s.refuse h v e tok obj).line.tx = [.err e] ∧ s.keeps [.line] (s.refuse h v e tok obj)) ∧
    (h.addr = some 0 → (s.refuse h v e tok obj).line.tx = s.line.tx ∧
      s.refuse h v e tok obj = (s.onLine (fun l => { l with lastErr := (s.refuse h v e tok obj).line.lastErr })).count
        .line "line.refuse") ∧
    (s.refuse h v e tok obj).line.lastErr = some { err := e, verb := v, obj := obj, tok := tok, time := s.stamp }) ∧
  (∀ (h : Hdr) (out : List OutLine) (s : State), h.addr ≠ some 0 → out ≠ [] →
    let t := s.reply h out
    let cc := h.cc || s.pnat Obj.lineMode == 1
    let crlf := s.pnat Obj.lineMode == 0
    t.line.sent = out.map (OutLine.wire cc crlf) ∧
    s.now + 2 * s.charTime + (t.line.sent.map List.length).sum * s.charTime ≤ t.line.sendEnd ∧
    (2 * s.charTime ≤ ms 200 → t.line.sendEnd ≤
      s.now + ms 200 + (out.length - 1) * ms 20 + (t.line.sent.map List.length).sum * s.charTime)) ∧
  (∀ (o : OutLine) (cc crlf : Bool), o.isBare = false →
    o.wire cc crlf = (if cc then withCheck (asciiBytes o.text) else asciiBytes o.text)
      ++ (if crlf then [0x0D, 0x0A] else [0x0D])) ∧
  (∀ l : List Byte, (l.filter (· == 0x22)).length % 2 = 0 → checkOf (withCheck l) = .good)

/-- A ledger record enters the write cache with the next sequence and its time, its CONTINUATION records behind it with
the sequences that follow (R448, R449, R455). An audit record enters the write cache with the next audit sequence, the
time and what the action says (R89, R452, R455); during an emergency flush it waits (R456). The first record of a new pass
of the ring follows a wrap marker (R454): not in this statement. -/
def Obligations.LedgerRecords : Prop :=
  (∀ (time : Stamp) (b : LBody) (s : State), s.store.flush = none →
     ∃ rs : List LRec, (s.ledgerAt time b).store.cache = s.store.cache ++ rs.map (fun r => CRec.ledger r s.now) ∧
       rs.length = b.all.length ∧ (∀ k, ∀ r, rs[k]? = some r → r.seq = s.store.nextSeq + k ∧ r.time = time) ∧
       (rs.head?.map LRec.body = some b) ∧ (s.ledgerAt time b).store.nextSeq = s.store.nextSeq + rs.length ∧
       s.keeps [.store, .params] (s.ledgerAt time b)) ∧
  (∀ (o : Origin) (action obj result : Nat) (old new : AVal) (s : State), s.store.auditCount < auditRing →
     let r : CRec := .audit { seq := s.store.nextAudit, origin := o, action := action, time := s.stamp, object := obj,
                              result := result, old := old, new := new } s.now
     let t := s.audit o action obj result old new
     s.keeps [.store, .params] t ∧ t.store.nextAudit = auditNext s.store.nextAudit ∧
       (s.store.flush = none → t.store.cache = s.store.cache ++ [r] ∧ t.store.held = s.store.held) ∧
       (s.store.flush ≠ none → t.store.held = s.store.held ++ [r] ∧ t.store.cache = s.store.cache))

/-! ## Parameters -/

/-- GET, SHOW, SHOW PART and WHY answer from the parameters, the identity and the last error, and change nothing beside
the line (R77, R515, R516, R525). A path the part does not have is an `!OBJECT`. SHOW with the beginning of a path lists
every parameter whose path begins so, in the order of the object numbers, each once (R515). -/
def Obligations.ParameterReports : Prop :=
  (∀ (h : Hdr) (s : State), s.takes h →
     let u := s.heard h
     (∀ obj, cardOf obj ≠ none → exec (.get h obj) s = .next (u.reply h [.value obj (u.pval obj) (u.pnext obj)])) ∧
     (∀ obj, cardOf obj = none → exec (.get h obj) s = .next (u.refuse h .get .object 2 none) ∧
       exec (.whyPath h obj) s = .next (u.refuse h .why .object 2 none)) ∧
     exec (.showPart h) s = .next (u.reply h [.part u.part.variant u.part.eui u.image.activeVer u.line.address
       u.line.chainMark u.line.solo (u.pnat Obj.lineMode == 1) u.line.level]) ∧
     (∀ pre, matchingObjs pre ≠ [] → exec (.showPrefix h pre) s =
       .next (u.reply h ((matchingObjs pre).map (fun k => .pathValue k (u.pval k) (u.pnext k)) ++ [.dot]))) ∧
     exec (.why h) s = .next (u.reply h [.why u.line.lastErr]) ∧
     (∀ obj, cardOf obj ≠ none → exec (.whyPath h obj) s = .next (u.reply h
       [.whyPath obj (u.pval obj) (u.pnext obj) ((u.prow obj).map PRow.src) ((u.prow obj).map PRow.time)]))) ∧
  (∀ pre : String,
     (∀ k, k ∈ matchingObjs pre ↔ ∃ c, cardOf k = some c ∧ pre.toList <+: c.name.toList) ∧
     (matchingObjs pre).Pairwise (· < ·))

/-- A SET that its level, its range and the state allow (R517, R518, R89): the value is stored, and is in force at once
where its card says so, else pending in place of any value pending before; the audit record goes into the cache; the reply
shows value and pending value; no other parameter's stored value changes. -/
def Obligations.SetWrites : Prop :=
  ∀ (h : Hdr) (obj : Nat) (arg : PArg) (c : Card) (s : State), s.judgesAtOnce h → cardOf obj = some c →
    let u := s.heard h
    let v := u.asked obj arg
    u.allowed c.level = true → u.rangeOk obj v = true → u.setBlocked obj v = false →
    ∃ t, exec (.set h obj arg) s = .next t ∧
      (t.prow obj).map PRow.stored = some v ∧
      (u.takesNow obj v = true → t.pval obj = v ∧ t.pnext obj = none) ∧
      (∀ o, o ≠ obj → (t.prow o).map PRow.stored = (u.prow o).map PRow.stored) ∧
      (h.addr ≠ some 0 → t.line.tx =
        [.value obj (if u.takesNow obj v then v else u.pval obj) (if u.takesNow obj v then none else some v)]) ∧
      (∃ a, CRec.audit a u.now ∈ t.store.cache ∧ a.origin = u.lineOrigin h ∧ a.action = 1 ∧ a.object = obj ∧
        a.result = 0 ∧ a.old = avalOf (u.pval obj) ∧ a.new = avalOf v)

/-! ## Sessions, enumeration, polling -/

/-- AUTH with a level above the session's gives a challenge, with one no higher enters it (log 40); the right response
within 10 s raises the session to its level, any other fails with `!AUTH`, and the third failure in a row locks AUTH out for
60 s; AUTH KEY replaces the key of its level; LOGOUT drops the session to OBSERVER (R71 to R74). The challenge is a free
value. -/
def Obligations.AuthAndLogout : Prop :=
  ∀ (h : Hdr) (s : State),
    let u := s.heard h
    let v := (s.takeLine h).beginLine true
    (∀ l, s.takesAtOnce h → u.lockedOut = false → u.allowed l = true → ∃ t, exec (.authChallenge h l) s = .next t ∧
      t.line.tx = [.level l] ∧ t.line.level = l ∧ t.line.challenge = none ∧ u.keeps [.line, .tally, .store, .params] t) ∧
    (∀ l, s.takesAtOnce h → u.lockedOut = false → u.allowed l = false → ∃ t, exec (.authChallenge h l) s = .next t ∧
      t.line.tx = [.chal (Config.freeChallenge u.fresh)] ∧
      t.line.challenge = some { level := l, value := Config.freeChallenge u.fresh, at_ := u.now } ∧
      t.line.level = u.line.level ∧ u.keeps [.line, .tally, .store, .params] t) ∧
    (∀ l resp, s.takesAtOnce h → v.lockedOut = false → v.authOk l resp = true → ∃ t, exec (.authResponse h l resp) s = .next t ∧
      t.line.tx = [.level l] ∧ t.line.level = l ∧ t.line.challenge = none ∧ t.line.authFails = 0 ∧
      v.keeps [.line, .tally, .store, .params] t) ∧
    (∀ l resp, s.takesAtOnce h → (v.lockedOut = true ∨ v.authOk l resp = false) →
      ∃ t, exec (.authResponse h l resp) s = .next t ∧ t.line.tx = [.err .auth] ∧ t.line.level = v.line.level ∧
      t.line.challenge = none ∧ (v.lockedOut = false → v.line.authFails = 2 → t.line.lockout = some (v.now + secs 60)) ∧
      v.keeps [.line, .tally, .store, .params] t) ∧
    (∀ l w, s.takesAtOnce h → u.allowed .custodian = true → u.lockedOut = false → l ≠ .observer →
      ∃ t, exec (.authKey h l w) s = .next t ∧ t.line.level = u.line.level ∧
      (match Config.unwrap u.roster.cuKey w with
        | some k => t.line.tx = [.key l] ∧ t.levelKey l = k ∧
            (∀ l', l' ≠ .observer → l' ≠ l → t.levelKey l' = u.levelKey l') ∧
            u.keeps [.line, .roster, .tally, .store, .params] t
        | none => t.line.tx = [.err .auth] ∧ u.keeps [.line, .tally, .store, .params] t)) ∧
    (s.judges h → ∃ t, exec (.logout h) s = .next t ∧ (h.addr ≠ some 0 → t.line.tx = [.level .observer]) ∧
      t.line.level = .observer ∧ t.line.challenge = none ∧ u.keeps [.line] t)

/-- ENUM START clears address, chain mark, CHAIN_OUT and session; ENUM NEXT gives its address to a unit that has none and
reads CHAIN_IN high, and leaves every other unit as it is; ENUM CLAIM gives an address to the unit of its EUI; the slot of
its address after ROLL has a unit answer `W` or `E` (R79 to R84). -/
def Obligations.EnumAndRoll : Prop :=
  (∀ (h : Hdr) (s : State), s.judgesAtOnce h → h.addr = some 0 →
    let u := s.heard h
    (∃ t, exec (.enumStart h) s = .next t ∧ t.line.tx = [] ∧ t.line.address = 0 ∧ t.line.chainMark = false ∧
      t.line.chainOut = false ∧ t.line.level = .observer ∧ t.line.lastErr = none ∧ u.keeps [.line, .store, .params] t) ∧
    (∀ n : Int, 1 ≤ n → n ≤ 16 → u.line.address = 0 → ∃ t, exec (.enumNext h n true) s = .next t ∧
      t.line.tx = [if u.line.chainMark then .chainAns n.toNat u.part.eui else .enumAns n.toNat u.part.eui] ∧
      t.line.address = n.toNat ∧ t.line.chainOut = true ∧ u.keeps [.line, .store, .params] t) ∧
    (∀ (n : Int) (c : Bool), 1 ≤ n → n ≤ 16 → (u.line.address ≠ 0 ∨ c = false) →
      ∃ t, exec (.enumNext h n c) s = .next t ∧ t.line.tx = [] ∧ t.line.address = u.line.address ∧
        t.line.chainOut = u.line.chainOut ∧ u.keeps [.line] t) ∧
    (∀ n : Int, 1 ≤ n → n ≤ 16 → (u.line.address = 0 ∨ u.line.address = n.toNat) →
      ∃ t, exec (.enumClaim h u.part.eui n) s = .next t ∧ t.line.tx = [.enumAns n.toNat u.part.eui] ∧
        t.line.address = n.toNat ∧ t.line.chainOut = true ∧ u.keeps [.line, .mon, .pm, .tally, .store, .params] t) ∧
    (∀ (e : Eui) (n : Int), e ≠ u.part.eui → 1 ≤ n → n ≤ 16 → exec (.enumClaim h e n) s = .next (u.reply h [])) ∧
    (∀ c : Bool, ∃ t, exec (.enumNext h 0 c) s = .next t ∧ t.line.tx = [] ∧ t.line.address = u.line.address ∧
      u.keeps [.line, .store, .params, .tally] t)) ∧
  (∀ (h : Hdr) (s : State), s.judges h → h.addr = some 0 →
    ∃ t, exec (.roll h) s = .next t ∧ t.line.tx = [] ∧ t.line.rollAt = some s.now ∧ (s.heard h).keeps [.line] t) ∧
  (∀ (s : State) (t0 : Ticks), s.line.rollAt = some t0 → s.line.address ≠ 0 →
    t0 + 2 * s.line.address * s.charTime ≤ s.now → s.now < t0 + 2 * s.line.address * s.charTime + 2 * s.charTime →
    ∃ t, exec .rollSlotAnswer s = .next t ∧ t.line.rollAt = none ∧
      t.line.tx = (if s.wake.queue ≠ [] ∨ s.wake.foldFlag = true then [.rollChar true]
        else if s.line.events ≠ [] then [.rollChar false] else []) ∧ s.keeps [.line, .tally] t)

/-- EVENTS returns the oldest lines and takes them out of the queue, `~LOST` first after a loss, and ends with the number
still queued; a max outside 1 to 64 is a `!RANGE`; in push mode the oldest line, or `~LOST`, goes out by itself (R65 to
R67). -/
def Obligations.EventsAreRead : Prop :=
  (∀ (h : Hdr) (max : Option Int) (s : State), s.takes h → 1 ≤ argOr 16 max → argOr 16 max ≤ 64 →
    let u := s.heard h
    let k := (argOr 16 max).toNat - (if u.line.lost = 0 then 0 else 1)
    ∃ t, exec (.events h max) s = .next t ∧ t.line.events = u.line.events.drop k ∧ t.line.lost = 0 ∧
      t.line.tx = (if u.line.lost = 0 then [] else [.lost u.stamp u.line.lost]) ++
        (u.line.events.take k).map OutLine.event ++ [.num (u.line.events.length - k : Nat)] ∧ u.keeps [.line] t) ∧
  (∀ (h : Hdr) (max : Option Int) (s : State), s.takes h → (argOr 16 max < 1 ∨ 64 < argOr 16 max) →
    exec (.events h max) s = .next ((s.heard h).refuse h .events .range 2 none)) ∧
  (∀ (e : EvLine) (l : List EvLine) (s : State), s.hears = true → s.line.solo = true → s.pnat Obj.lineEvents = 1 →
    s.line.partialLine = [] → s.replyOwed = false → s.line.pushHeld = false → s.line.events = e :: l →
    ∃ t, exec .eventPush s = .next t ∧
      (s.line.lost = 0 → t.line.tx = [.event e] ∧ t.line.events = l) ∧
      (s.line.lost ≠ 0 → t.line.tx = [.lost s.stamp s.line.lost] ∧ t.line.events = e :: l ∧ t.line.lost = 0) ∧
      s.keeps [.line, .tally] t)

/-! ## The wake queue -/

/-- WAKE and WAKE BRANCH report and remove nothing. WAKE ACK removes the closed records up to the first that carries the
sequence, writes each to the ledger, and leaves WAKE low only while records or the fold flag remain (R143, R162 to R164). -/
def Obligations.WakeQueueIsRead : Prop :=
  ∀ (h : Hdr) (s : State), s.takes h →
    let u := s.heard h
    (∀ max, 1 ≤ argOr 16 max → argOr 16 max ≤ 16 → exec (.wakeList h max) s = .next (u.reply h
      (((u.wake.queue.filter (fun r => !r.isOpen)).take (argOr 16 max).toNat).map OutLine.wakeRec ++ [.dot]))) ∧
    exec (.wakeBranch h) s = .next (u.reply h [.branch .a u.wake.a.st u.wake.a.disc u.wake.a.det,
      .branch .b u.wake.b.st u.wake.b.disc u.wake.b.det, .dot]) ∧
    (∀ (before rest : List WakeRec) (r : WakeRec), u.wake.queue = before ++ r :: rest → r.isOpen = false →
      (∀ x ∈ before, x.isOpen = false → x.seq ≠ r.seq) →
      let gone := before.filter (fun x => !x.isOpen) ++ [r]
      ∃ t, exec (.wakeAck h r.seq.toNat) s = .next t ∧ t.line.tx = [.num gone.length] ∧
        t.wake.queue = before.filter (fun x => x.isOpen) ++ rest ∧
        t.wake.low = (u.wake.armed && (!t.wake.queue.isEmpty || u.wake.foldFlag)) ∧
        t.wake.seen = u.wake.seen ∧ t.wake.masks = u.wake.masks ∧ t.store.nextSeq = u.store.nextSeq + gone.length ∧
        (u.store.flush = none → (t.store.cache.drop u.store.cache.length).map (fun c => match c with
          | .ledger x _ => (x.time, some x.body) | .audit x _ => (x.time, none)) =
            gone.map (fun x => (x.stamp, some (LBody.wake x)))) ∧
        u.keeps [.line, .wake, .store, .params, .mon, .pm, .roster, .tally] t) ∧
    (∀ seq : Int, (∀ r ∈ u.wake.queue, r.isOpen = false → (r.seq.toNat : Int) ≠ seq) →
      exec (.wakeAck h seq) s = .next (u.refuse h .wake .range 3 none))

/-- WAKE SEEN copies and clears the seen bits of one reason, or all of them with the fold flag; every other bit stays. A
reply that is abandoned gives them back (R166, R167). -/
def Obligations.SeenBitsAreRead : Prop :=
  (∀ (h : Hdr) (s : State), s.takes h →
    let u := s.heard h
    (∃ t, exec (.wakeSeen h none) s = .next t ∧
      t.line.tx = u.wake.seen.map (fun c => .seen c.1 c.2.toNat) ++ [.dot] ∧ t.wake.seen = [] ∧
      t.wake.foldFlag = false ∧ t.wake.queue = u.wake.queue ∧ t.wake.masks = u.wake.masks ∧
      t.line.sending = some (.seen u.wake.seen u.wake.foldFlag) ∧
      u.keeps [.line, .wake, .params, .mon, .pm, .roster, .tally] t) ∧
    (∀ k : Fin 8, Mem.wf u.wake.seen = true → ∃ t, exec (.wakeSeen h (some k.val)) s = .next t ∧
      (∀ a, Mem.read t.wake.seen a = Mem.read u.wake.seen a &&& ~~~(BitVec.ofNat 8 (2 ^ k.val))) ∧
      t.wake.foldFlag = u.wake.foldFlag ∧ t.wake.queue = u.wake.queue ∧ t.wake.masks = u.wake.masks ∧
      (∀ a m, OutLine.seen a m ∈ t.line.tx ↔
        (m = 2 ^ k.val ∧ (Mem.read u.wake.seen a).getLsbD k.val = true)) ∧
      u.keeps [.line, .wake, .params, .mon, .pm, .roster, .tally] t)) ∧
  (∀ (bits : List Host.Cell) (fold : Bool) (s : State), s.onWire = some (.seen bits fold) →
    ∃ t, exec .seenReadAbandoned s = .next t ∧ t.wake.seen = Mem.orAll s.wake.seen bits ∧
      t.wake.foldFlag = (s.wake.foldFlag || fold) ∧ t.line.tx = [] ∧ t.line.sending = none ∧
      t.wake.queue = s.wake.queue ∧ s.keeps [.line, .wake, .params, .mon, .pm, .tally] t)

/-! ## LOG and TALLY -/

/-- LOG INFO, LOG READ and LOG AUDIT read the stored records and the cache; LOG READ without a filter lists the records
from its sequence on in order, and ends with the sequence to go on from; a lost record is listed by its sequence alone and
counted in `log.bad`; LOG MARK stores the host's mark (R460, R462). -/
def Obligations.LogIsRead : Prop :=
  ∀ (h : Hdr) (s : State), s.takes h →
    let u := s.heard h
    let held := u.store.ledger ++ u.store.cache.filterMap CRec.ledger?
    (∃ (f l : Option Nat) (a : Option (Nat × Nat)), exec (.logInfo h) s = .next (u.reply h [.logInfo f l u.store.mark a]) ∧
      f = held.head?.map LRec.seq ∧ l = held.getLast?.map LRec.seq ∧
      a.map Prod.fst = u.store.archive.head?.map LRec.seq ∧ a.map Prod.snd = u.store.archive.getLast?.map LRec.seq) ∧
    (∀ (seq : Int) (count : Option Int), inRange 0 (2 ^ 40 - 1) seq = true → inRange 1 256 (argOr 16 count) = true →
      let l := ((u.store.archive ++ held).filter (fun r => decide (seq.toNat ≤ r.seq))).take (argOr 16 count).toNat
      ∃ w, u.keeps [.tally] w ∧ w.tally.ctrs = u.tally.ctrs ∧
        exec (.logRead h seq count none) s = .next ((w.countN .cc "log.bad" (l.filter LRec.lost).length).reply h
          (l.map (fun r => if r.lost then .lostRecord r.seq else .ledger r) ++
            [.dotNext (match l.getLast? with | some r => r.seq + 1 | none => u.store.nextSeq)]))) ∧
    (∀ (seq kind : Int) (count : Option Int), inRange 0 (2 ^ 40 - 1) seq = true → inRange 1 256 (argOr 16 count) = true →
      inRange 0 31 kind = true → ∃ (l : List LRec) (n : Nat) (w : State), u.keeps [.tally] w ∧
        exec (.logRead h seq count (some kind)) s = .next ((w.countN .cc "log.bad" (l.filter LRec.lost).length).reply h
          (l.map (fun r => if r.lost then .lostRecord r.seq else .ledger r) ++ [.dotNext n])) ∧
        l.Sublist ((u.store.archive ++ held).filter (fun r => decide (seq.toNat ≤ r.seq))) ∧
        ∀ r ∈ l, (r.body.kind : Int) = kind ∨ r.body.kind = 2 ∨ r.lost = true) ∧
    (∀ (seq : Int) (count : Option Int), inRange 0 0xFFFFFE seq = true → inRange 1 256 (argOr 16 count) = true →
      let l := ((u.store.audits ++ u.store.cache.filterMap CRec.audit?).dropWhile
        (fun r => decide (r.seq < seq.toNat))).take (argOr 16 count).toNat
      ∃ w, u.keeps [.tally] w ∧ w.tally.ctrs = u.tally.ctrs ∧
        exec (.logAudit h seq count) s = .next ((w.countN .cc "log.bad" (l.filter ARec.lost).length).reply h
          (l.map (fun r => if r.lost then .lostRecord r.seq else .audit r) ++
            [.dotNext (match l.getLast? with | some r => auditNext r.seq | none => u.store.nextAudit)]))) ∧
    (∀ seq : Int, u.noWait → u.allowed .operator = true → inRange 0 (2 ^ 40 - 1) seq = true →
      ∃ t, exec (.logMark h seq) s = .next t ∧ t.line.tx = [.num seq] ∧ t.store.mark = seq.toNat ∧
        t.store.ledger = u.store.ledger ∧ t.store.archive = u.store.archive ∧ t.store.audits = u.store.audits ∧
        u.keeps [.line, .store, .params] t)

/-- TALLY READ, READ SNAP, OCC and BW read the counters, the snapshot, the occupancies and the bandwidth, for OPERATOR, or
for every session while `tally.open` is 1, and change nothing beside the line (R504, R508, R512, R514).
TALLY SNAP copies every counter; a freeze is held until THAW or 60 s later, and at THAW `tally.frozen` takes its CCLK
cycles; CLEAR sets every counter of a block to 0; the end of a bandwidth window gives the bytes of each port over
its length (R509 to R512). -/
def Obligations.Tally : Prop :=
  (∀ (h : Hdr) (s : State), s.takes h →
    let u := s.heard h
    (u.pint Obj.tallyOpen = 1 ∨ u.allowed .operator = true) →
    (∀ p, someCounter p = true → exec (.tallyRead h p) s =
      .next (u.reply h (readLines p u.tally.ctrs u.residency u.tally.since none ++ [.dot]))) ∧
    (∀ p x, someCounter p = true → u.tally.snap = some x →
      let res := x.ctrs.filter (fun c => c.block == .pmu && (u.residency.any (fun r => r.name == c.name)))
      exec (.tallyReadSnap h p) s =
        .next (u.reply h (readLines p x.ctrs res x.since (some x.at_) ++ [.dot]))) ∧
    (∃ l : List OutLine, exec (.tallyOcc h) s = .next (u.reply h (l ++ [.dot])) ∧
      l = [u.rx.buf.length, u.work.table.length, u.work.waiting.length, u.storeQueue, u.boundLanes,
        u.wake.queue.length].mapIdx (fun k n => OutLine.occ (k + 1) n (max n (u.tally.peaks.toList.getD k 0)))) ∧
    (∀ p : Port, exec (.tallyBw h (some p)) s = .next (u.reply h [.bw p (portValue p u.tally.bwLast)
      (portValue p u.tally.bwPeak) (u.pnat Obj.bwWindow), .dot])) ∧
    exec (.tallyBw h none) s = .next (u.reply h (allPorts.map (fun p => .bw p (portValue p u.tally.bwLast)
      (portValue p u.tally.bwPeak) (u.pnat Obj.bwWindow)) ++ [.dot]))) ∧
  ((∀ (h : Hdr) (s : State), s.takes h →
    let u := s.heard h
    u.allowed .operator = true →
    (∃ t, exec (.tallySnap h) s = .next t ∧ t.line.tx = [.tallyAt 0 u.stamp] ∧
      t.tally = { u.tally with snap := some { ctrs := u.tally.ctrs ++ u.residency, since := u.tally.since, at_ := u.stamp } } ∧
      u.keeps [.line, .tally] t) ∧
    (u.tally.frozen = none → ∃ t, exec (.tallyFreeze h) s = .next t ∧ t.line.tx = [.tallyAt 1 u.stamp] ∧
      t.tally = { u.tally with frozen := some (u.now, u.stamp) } ∧ u.keeps [.line, .tally] t) ∧
    (∀ f at_, u.tally.frozen = some (f, at_) → exec (.tallyFreeze h) s = .next (u.reply h [.tallyAt 1 at_]) ∧
      ∃ t, exec (.tallyThaw h) s = .next t ∧ t.line.tx = [.tallyAt 2 u.stamp] ∧ t.tally.frozen = none ∧
        (u.counter .tally "tally.frozen" + (u.now - f) / cclkTicks < 2 ^ 48 →
          t.counter .tally "tally.frozen" = u.counter .tally "tally.frozen" + (u.now - f) / cclkTicks) ∧
        u.keeps [.line, .tally] t) ∧
    (∀ b, u.noWait → ∃ t, exec (.tallyClear h b) s = .next t ∧ t.line.tx = [.word "CLEAR"] ∧
      (∀ b' k, (b = none ∨ b = some b') → t.counter b' k = 0) ∧
      (∀ b' k, b ≠ none → b ≠ some b' → t.counter b' k = u.counter b' k) ∧ u.keeps [.line, .tally, .store, .params] t)) ∧
  (∀ (s : State) (f : Ticks) (at_ : Stamp), s.tally.frozen = some (f, at_) → f + secs 60 ≤ s.now →
    ∃ t, exec .tallyFreezeExpiry s = .next t ∧ t.tally.frozen = none ∧ s.keeps [.tally] t) ∧
  (∀ s : State, s.cellarOn = true → s.tally.bwFrom + ms (s.pnat Obj.bwWindow) ≤ s.now →
    ∃ t, exec .bandwidthWindowEnd s = .next t ∧ t.tally.bwFrom = s.tally.bwFrom + ms (s.pnat Obj.bwWindow) ∧
      t.tally.bwBytes = [] ∧ t.tally.ctrs = s.tally.ctrs ∧
      (∀ p, portValue p t.tally.bwLast = portValue p s.tally.bwBytes * 1000 / s.pnat Obj.bwWindow ∧
        portValue p t.tally.bwPeak = max (portValue p t.tally.bwLast) (portValue p s.tally.bwPeak)) ∧ s.keeps [.tally] t))

/-! ## Flights -/

/-- SEND enters a flight into the table of 32, then into the waiting list of 256, else fails with `!BUSY`; its deadline is
its length in slots after the present slot (R320, R322). -/
def Obligations.SendEntersFlight : Prop :=
  ∀ (h : Hdr) (hd : HandleArg) (k : FlightKind) (p dl r call : Option Int) (data : List Byte) (s : State), s.takes h →
    let u := (s.heard h).fire .send
    let len := argOr (u.pint Obj.flightDeadline) dl
    let g := Flight.make hd.get k (argOr 3 p).toNat (argOr 0 call == 1) (u.slotNow + len.toNat) (argOr 0 r).toNat data none none
    let f := { g with id := u.work.nextFlight, nextTry := u.now }
    u.allowed .operator = true → hd.fits = true → k ≠ .push → inRange 0 7 (argOr 3 p) = true →
    inRange 10 1000000 len = true → inRange 0 7 (argOr 0 r) = true → inRange 0 1 (argOr 0 call) = true →
    data.length ≤ 32 → ¬(argOr 0 call = 1 ∧ hd.index = 0) → u.sendFault hd.get (argOr 3 p).toNat = none →
    (u.work.table.length < 32 → u.unreachable hd.get.index = false → ∃ t, exec (.send h hd k p dl r call data) s = .next t ∧
      t.line.tx = [.flightId f.id] ∧ t.work.table = u.work.table ++ [f] ∧ t.work.waiting = u.work.waiting ∧
      t.work.nextFlight = (if f.id = 65535 then 1 else f.id + 1) ∧ u.keeps [.line, .work] t) ∧
    (32 ≤ u.work.table.length → u.work.waiting.length < 256 → ∃ t, exec (.send h hd k p dl r call data) s = .next t ∧
      t.line.tx = [.waitId f.id (u.work.waiting.length + 1)] ∧ t.work.table = u.work.table ∧
      t.work.waiting = u.work.waiting ++ [{ f with st := .waiting }] ∧ u.keeps [.line, .work] t) ∧
    (32 ≤ u.work.table.length → 256 ≤ u.work.waiting.length → ∃ t, exec (.send h hd k p dl r call data) s = .next t ∧
      t.line.tx = [.err .busy] ∧ u.keeps [.line, .tally] t)

/-- `DO flight.list` lists the table and then the waiting list; `DO flight.cancel` ends a flight of which no attempt is in
progress with CANCEL at once, and lets one that is in the air end first (R326, R327). -/
def Obligations.FlightListAndCancel : Prop :=
  ∀ (h : Hdr) (s : State), s.judges h →
    let u := s.heard h
    exec (.doFlightList h) s = .next (u.reply h
      ((u.work.table ++ admissionOrder u.work.waiting).map (fun f => .flight f.id f.handle f.kind f.prio f.st f.deadline
        f.attempts f.lane) ++ [.dot])) ∧
    (∀ (id : Nat) (f : Flight), u.noWait → u.allowed .operator = true → 1 ≤ id → id ≤ 65535 → u.flight id = some f →
      ((f.st = .ready ∨ f.st = .waiting ∨ f.st = .backoff) →
        exec (.doFlightCancel h id) s = .next (s.did h 527 [.flightId id] ((s.acting h).endFlight id .cancel))) ∧
      (f.st = .air → ∃ t, exec (.doFlightCancel h id) s = .next t ∧ (h.addr ≠ some 0 → t.line.tx = [.flightId id]) ∧
        t.flight id = some { f with cancel := true } ∧ u.keeps [.line, .work, .store, .params] t))

/-- A flight that ends leaves the table and the waiting list, its record with its outcome is in the write cache, and no
other flight is lost (R326, R328). -/
def Obligations.FlightEnds : Prop :=
  ∀ (id : Nat) (o : Outcome) (f : Flight) (s : State), s.flight id = some f →
    let t := s.endFlight id o
    t.flight id = none ∧
    (∀ g, g ≠ id → ((t.flight g).isSome = true ↔ (s.flight g).isSome = true)) ∧
    (s.store.flush = none → ∃ r at_, CRec.ledger r at_ ∈ t.store.cache ∧ r.seq + 1 = t.store.nextSeq ∧
      r.body = .flight f.id f.handle (s.flightId f) f.kind f.prio f.called o (min 255 f.attempts) f.lc f.deadline f.reason
        f.probe) ∧
    t.wake = s.wake ∧ t.time = s.time ∧ t.image = s.image

/-- Attempts begin and fail: a called flight takes the highest lane that is free for its burst and 100 ms more, and asks
for its burst with reason 6; the best flight of a TX cell goes out in it at the cell's turn on the air, which it waits
for, is denied or loses (R178, R209); a frame unanswered after 1,020 µs, an abandoned one, and a burst unanswered after
100 ms are failed attempts (R299, R300, R324, R325). A failed attempt of a flight that may go on: it backs off, its
attempts rise by one, a silent endpoint's failures rise by one, and a called flight waits a drawn number of seconds below
2^n, at most 15 (R325). -/
def Obligations.FlightAttempts : Prop :=
  (∀ (id : Nat) (f : Flight) (n : Fin 16) (c : Nat) (s : State), s.work.table.find? (fun f => f.id == id) = some f →
    s.txBarred = false → s.roundRuns = false → f.frameAt = none → f.called = true →
    (f.st = .ready ∨ (f.st = .backoff ∧ f.nextTry ≤ s.now)) →
    s.listenLane ((s.makeBurst c 6 (s.pnat Obj.sync) (s.pnat Obj.txRepeat) (.called id)).length + ms 100) s.startChannel
      = some n →
    ((s.entry f.handle.index).map (codeOf f.handle.index)) = some c → c ≠ 0 →
    ∃ t b, exec (.flightAttempt id none) s = .next t ∧ t.jomen.due = s.jomen.due ++ [b] ∧ b.code = c ∧ b.reason = 6 ∧
      b.purpose = .called id ∧ (t.flight id).map Flight.st = some .air ∧ t.rx.lanes[n].holder = .called id ∧
      t.roster = s.roster ∧ t.store = s.store) ∧
  (∀ (id i ch : Nat) (f : Flight) (c : Cell) (s : State), s.work.table.find? (fun f => f.id == id) = some f →
    s.txBarred = false → s.roundRuns = false → f.frameAt = none → assoc i s.sched.run = some ch →
    assoc i s.sched.cells = some c → c.kind = .tx → s.rx.lanes[Fin.ofNat 16 c.lane].holder = .cell i →
    (bestWaiting (s.cellFlights c)).map Flight.id = some id →
    let n := Fin.ofNat 16 c.lane
    let rate := s.cellRate c.rate
    let a := s.takeAir (bandOf rate) 0
    let on := (a.2.cellUsed i).onFlight id (fun g => { g with st := .air, lane := some n })
    exec (.flightAttempt id (some i)) s = .next (match a.1 with
      | .go => on.sendFlight { f with st := .air } n rate ch true
      | .busy => a.2
      | .denied => a.2.cellUsed i
      | .lost => on.failAttempt id false)) ∧
  (∀ (id : Nat) (f : Flight) (s : State), s.work.table.find? (fun f => f.id == id) = some f → f.st = .air →
    (s.unanswered f = true → exec (.attemptFail id .silence) s = .next (s.failAttempt id true)) ∧
    exec (.attemptFail id .abandoned) s = .next (s.failAttempt id false)) ∧
  (∀ (id : Nat) (f : Flight) (n : Fin 16) (s : State), s.work.table.find? (fun f => f.id == id) = some f → f.st = .air →
    f.called = true → f.frameAt = none → f.awaiting = false → s.burstPending (.called id) = false → f.nextTry ≤ s.now →
    f.lane = some n → s.rx.lanes[n].holder = .called id →
    exec (.calledListenTimeout id) s = .next (s.failAttempt id true)) ∧
  (∀ (id : Nat) (silence : Bool) (f : Flight) (s : State), s.flight id = some f → f.lane = none → f.cancel = false →
     f.late = false → s.unreachable f.handle.index = false →
     let n := min 255 (f.attempts + 1)
     let v := s.fire .failedAttempt
     n < v.pnat Obj.flightTries →
     (silence = true → ((s.entry f.handle.index).map Entry.fails).getD 0 + 1 < v.pnat Obj.failLimit) →
     ∃ g k, (s.failAttempt id silence).flight id = some g ∧ g.st = .backoff ∧ g.attempts = n ∧ k < 2 ^ min n 4 ∧
       (f.called = true → g.nextTry = s.now + secs k) ∧ (f.called = false → g.skips = k) ∧
       ((s.failAttempt id silence).entry f.handle.index).map Entry.fails =
         (s.entry f.handle.index).map (fun e => if silence then min 255 (e.fails + 1) else e.fails) ∧
       s.keeps [.work, .roster, .params] (s.failAttempt id silence))

/-- The last chance: the bursts of a sequence are asked for one second apart with reason 6, an unanswered one fails its
attempt, and after the third each flight is flooded or ends UNREACH. Reacquisition asks for its next burst (R286, R335 to
R337). -/
def Obligations.LastChanceAndReacquisition : Prop :=
  (∀ (i c : Nat) (q : LcSeq) (s : State), s.lcOf i = some q → q.attempt ≤ 3 → q.listen = none → q.answered = false →
    s.burstPending (.lastChance i) = false → q.trigger + secs (q.attempt - 1) ≤ s.now →
    (s.entry i).map (codeOf i) = some c → c ≠ 0 → ∃ t b, exec (.lastChanceBurst i) s = .next t ∧
      t.jomen.due = s.jomen.due ++ [b] ∧ b.code = c ∧ b.reason = 6 ∧ b.purpose = .lastChance i ∧ s.keeps [.jomen] t) ∧
  (∀ (id : Nat) (f : Flight) (q : LcSeq) (e : Ticks) (s : State), s.work.table.find? (fun f => f.id == id) = some f →
    f.st = .lastchance → s.lcOf f.handle.index = some q → q.listen = some e → q.answered = false → e ≤ s.now →
    exec (.calledListenTimeout id) s = .next (s.lcFail q.index .noAnswer)) ∧
  (∀ (i : Nat) (q : LcSeq) (s : State), s.lcOf i = some q → 4 ≤ q.attempt → s.lcFlights i = [] →
    exec (.lastChanceFlood i) s = .next (s.lcOver i)) ∧
  (∀ (i : Nat) (q : LcSeq) (f : Flight) (s : State), s.lcOf i = some q → 4 ≤ q.attempt → s.lcFlights i = [f] →
    (s.floodFlight f = none → exec (.lastChanceFlood i) s = .next ((s.endFlight f.id .unreach).lcOver i)) ∧
    (∀ v, s.floodFlight f = some v → exec (.lastChanceFlood i) s = .next ((v.endFlight f.id .flood).lcOver i))) ∧
  (∀ (q : Reacq) (s : State), s.net.reacq.filter (fun q => decide (q.nextAt ≤ s.now)) = [q] →
    s.burstPending (.reacquire q.index) = false → q.listening = false →
    (q.tries < 3 → exec .reacquireTimeout s = .next (s.reacqBurst q.index)) ∧
    (3 ≤ q.tries → exec .reacquireTimeout s = .next (s.reacqFailed q.index)))

/-! ## The store -/

/-- Programming moves records from the write cache to the flash and loses none: LOG READ reads the same ledger records
after it, and LOG AUDIT the same audit records but for the oldest that the ring of AUDIT overwrites (R454, R455). -/
def Obligations.ProgrammingLosesNothing : Prop :=
  ∀ (aud : Bool) (n : Nat) (s : State),
    let t := s.programmed aud n
    t.store.allLedger = s.store.allLedger ∧
    (∃ k, t.store.allAudits = s.store.allAudits.drop k ∧ (aud = false → k = 0)) ∧
    t.store.nextSeq = s.store.nextSeq ∧ t.store.nextAudit = s.store.nextAudit ∧ t.store.mark = s.store.mark ∧
    s.keeps [.store, .tally] t

/-- The events of STORE: a program starts with the records that are due; its end moves them, or leaves them in the cache
when the read-back failed; the emergency flush ends; a failing block is retired and a spare takes its peck; a codeword
with 49 to 72 corrected bits has its peck relocated; beyond 72 the block is retired and records are lost, which stay in
their places; the oldest peck of LEDGER goes to ARCHIVE or is dropped; a full half of the push directory is compacted
(R445, R446, R455, R456, R459, R479). Erases and wear (R447): an erase raises the count of its block alone. Static data
moves when, and only when, that count then exceeds another of its region by more than the limit: the data of the block
erased least goes to the block just erased, and its old block is erased. An exchange of blocks moves two pecks and no
other. A retired block's peck goes to a replacement block, and with none left a peck of its ring is lost (R446). -/
def Obligations.StoreEvents : Prop :=
  (∀ s : State,
     (s.storeOn = true → s.store.running = none → 0 < s.pageRecords false → ∃ t, exec .codewordDue s = .next t ∧
       t.store = { s.store with running := some (false, s.pageRecords false) } ∧ s.keeps [.store] t) ∧
     (s.storeOn = true → s.store.running = none → s.pageRecords false = 0 → 0 < s.pageRecords true →
       ∃ t, exec .codewordDue s = .next t ∧
         t.store = { s.store with running := some (true, s.pageRecords true) } ∧ s.keeps [.store] t) ∧
     (∀ aud n, s.store.running = some (aud, n) →
       exec (.storeOperationDone true) s = .next
         (((s.onStore (fun c => { c with running := none })).programmed aud n).drainBuf s.rx.buf.length) ∧
       ∃ t, exec (.storeOperationDone false) s = .next t ∧ t.store = { s.store with running := none } ∧
         s.keeps [.store, .tally] t) ∧
     (∀ b l, s.store.running = none → s.store.moves = b :: l → ∃ t, exec (.storeOperationDone true) s = .next t ∧
       t.store = { s.store.relocate b with moves := l } ∧ s.keeps [.store] t) ∧
     (s.store.flush ≠ none → s.ccOn = true →
       exec .emergencyFlushEnd s = .next (s.flushEnd.drainBuf s.flushEnd.rx.buf.length)) ∧
     (∀ erase block, s.ccOn = true → s.isRetired .block block = false → 0 < s.store.spare →
       ∃ t, exec (.programFailure erase block) s = .next t ∧ t.isRetired .block block = true ∧
         t.store.spare = s.store.spare - 1 ∧ t.store.free = s.store.free ∧ t.store.ledger = s.store.ledger ∧
         t.wake = s.wake ∧ t.roster = s.roster ∧ t.work = s.work) ∧
     (∀ n block, s.ccOn = true → 48 < n → n ≤ 72 → ∃ t, exec (.peckRefresh n block) s = .next t ∧
       t.store = { s.store with moves := s.store.moves ++ [block] } ∧ s.keeps [.store, .tally] t) ∧
     (∀ n block, s.ccOn = true → 72 < n → s.isRetired .block block = false → 0 < s.store.spare →
       ∃ t, exec (.peckRefresh n block) s = .next t ∧ t.isRetired .block block = true ∧
         t.store.spare = s.store.spare - 1 ∧ t.store.ledger.map LRec.seq = s.store.ledger.map LRec.seq ∧
         t.store.archive.map LRec.body = s.store.archive.map LRec.body ∧
         t.store.audits.map ARec.seq = s.store.audits.map ARec.seq ∧
         (∀ r ∈ s.store.ledger, r.lost = true → ∃ r' ∈ t.store.ledger, r'.seq = r.seq ∧ r'.lost = true) ∧
         t.roster.entries = s.roster.entries ∧ t.wake = s.wake ∧ t.work = s.work) ∧
     (s.storeOn = true → s.store.free < 4 → s.store.pecks ≠ [] →
       let n := s.store.pecks.headD 0
       let u := s.fire .ledgerPeck
       ∃ t, exec .ledgerRingAdvance s = .next t ∧ t.store.ledger = s.store.ledger.drop n ∧
         t.store.pecks = s.store.pecks.drop 1 ∧ t.store.free = s.store.free + 1 ∧ t.store.cache = s.store.cache ∧
         (u.pint Obj.archive = 1 → 0 < s.store.freeArch → t.store.archive = s.store.archive ++ s.store.ledger.take n) ∧
         (u.pint Obj.archive ≠ 1 → t.store.archive = s.store.archive)) ∧
     (s.storeOn = true → 262144 ≤ s.store.pushUsed → ∃ t, exec .pushDirectoryCompaction s = .next t ∧
       t.store.pushDir = s.store.pushDir ∧ t.store.pushUsed = s.store.pushDir.length + 2 ∧
       t.store.pushGen = s.store.pushGen + 1 ∧ s.keeps [.store] t)) ∧
  (∀ (p : Nat) (w : Wear), p < 8192 →
    let v := w.erase p
    v.erases (v.blockOf p) = w.erases (w.blockOf p) + 1 ∧
    (∀ b, b ≠ w.blockOf p → v.erases b = w.erases b) ∧ (∀ q, v.blockOf q = w.blockOf q) ∧
    ((∀ q ∈ regionPecks p, v.erases (v.blockOf p) ≤ v.erases (v.blockOf q) + wearLimit p) → v.level p = v) ∧
    (∀ q ∈ regionPecks p, v.erases (v.blockOf q) + wearLimit p < v.erases (v.blockOf p) →
      ∃ m ∈ regionPecks p, (∀ k ∈ regionPecks p, v.erases (v.blockOf m) ≤ v.erases (v.blockOf k)) ∧
        v.level p = (v.swap p m).erase p)) ∧
  (∀ (p q : Nat) (w : Wear), (w.swap p q).blockOf p = w.blockOf q ∧ (w.swap p q).blockOf q = w.blockOf p ∧
    (∀ r, r ≠ p → r ≠ q → (w.swap p q).blockOf r = w.blockOf r) ∧ (∀ b, (w.swap p q).erases b = w.erases b)) ∧
  (∀ (p b : Nat) (c : Store), c.wear.peckOf b = some p →
    let t := c.replaceBlock b
    (0 < c.spare → t.spare = c.spare - 1 ∧ t.lost = c.lost ∧ t.free = c.free ∧ t.freeArch = c.freeArch ∧
      (∃ x, t.wear.blockOf p = x ∧ (x ∈ c.wear.back ∨ x = 8192 + c.wear.taken)) ∧
      (∀ q, q ≠ p → t.wear.blockOf q = c.wear.blockOf q)) ∧
    (c.spare = 0 → t.spare = 0 ∧ t.lost = c.lost + 1 ∧
      (tlcPeck p = false → t.free = c.free - 1 ∧ t.freeArch = c.freeArch) ∧
      (tlcPeck p = true → t.freeArch = c.freeArch - 1 ∧ t.free = c.free)))

/-! ## Images -/

/-- IMAGE BEGIN opens a download into an erased slot, IMAGE DATA takes the bytes at the offset it expects and answers with
the next one, a wrong offset is an `!ORDER` that changes nothing, a bad peck is an `!HASH`, a bad header an `!FORMAT` that
empties the slot, the last byte starts the verification, and a download without lines stalls (R467 to R470). -/
def Obligations.ImageDownload : Prop :=
  (∀ (h : Hdr) (s : State), s.takes h →
    let u := s.heard h
    u.allowed .custodian = true →
    (∀ len : Int, u.noWait → inRange 4097 25165824 len = true → u.image.download = none →
      (u.image.stage = .idle ∨ u.image.stage = .verified) → ∃ t, exec (.imageBeginSelf h len) s = .next t ∧
        t.line.tx = [.num 0] ∧ t.stageOf .self = .download ∧
        t.img .self = some { len := len.toNat, bytes := [], head := none, pecks := 0, ok := false } ∧
        t.image.download = some { what := .self, times := [], last := u.now, stalled := false } ∧
        t.image.lib = u.image.lib ∧ t.image.boot = u.image.boot ∧ u.keeps [.line, .image, .store, .params] t) ∧
    (∀ slot len : Int, u.noWait → slotOk slot = true → inRange 4097 16777216 len = true → u.image.download = none →
      u.imgBusy (.lib slot.toNat) = false → ∃ t, exec (.imageBeginLib h slot len) s = .next t ∧
        t.line.tx = [.num 0] ∧ t.stageOf (.lib slot.toNat) = .download ∧
        t.img (.lib slot.toNat) = some { len := len.toNat, bytes := [], head := none, pecks := 0, ok := false } ∧
        (∀ k, k ≠ slot.toNat → t.img (.lib k) = u.img (.lib k)) ∧ t.image.selfImg = u.image.selfImg ∧
        t.image.boot = u.image.boot ∧ u.keeps [.line, .image, .store, .params] t) ∧
    (∀ (d : Download) (i : Img) (data : List Byte), u.image.download = some d → u.img d.what = some i → data ≠ [] →
      data.length ≤ 64 → i.bytes.length + data.length ≤ i.len →
      (∀ o : Int, 0 ≤ o → o ≠ i.bytes.length → ∃ t, exec (.imageData h o data) s = .next t ∧
        t.line.tx = [.err .order] ∧ u.keeps [.line] t) ∧
      ∃ t, exec (.imageData h (i.bytes.length : Nat) data) s = .next t ∧ t.image.boot = u.image.boot ∧
        u.keeps [.line, .image, .store, .params, .tally] t ∧
        (match i.take d.what data with
          | (.more, j) => t.line.tx = [.num j.bytes.length] ∧ t.img d.what = some j ∧
              t.image.download = some (d.taken u.now)
          | (.badPeck, j) => t.line.tx = [.err .hash] ∧ t.img d.what = some j
          | (.badHead, _) => t.line.tx = [.err .format] ∧ t.img d.what = none ∧ t.image.download = none ∧
              t.stageOf d.what = .idle
          | (.complete, j) => t.line.tx = [.num j.bytes.length] ∧ t.img d.what = some j ∧ t.image.download = none ∧
              t.image.verify = some d.what ∧ t.stageOf d.what = .verifying))) ∧
  (∀ (d : Download) (i : Img) (s : State), s.image.download = some d → s.running = true → d.stalled = false →
    d.last + d.patience ≤ s.now → s.img d.what = some i → ∃ t, exec .imageStall s = .next t ∧
      t.img d.what = some i.cutBack ∧ t.image.download = some { d with stalled := true, times := [] } ∧
      s.keeps [.line, .image, .params, .mon, .pm, .tally] t)

/-- IMAGE STATUS and IMAGE LIST report. IMAGE VERIFY starts the verification of a complete image; its end leaves the image
verified, or back in IDLE where a check fails (R467, R470, R475, R476). -/
def Obligations.ImageVerification : Prop :=
  (∀ (h : Hdr) (s : State), s.takes h →
    let u := s.heard h
    u.allowed .custodian = true →
    (∀ lib, refOk lib = true → let r := refOf lib
      ∃ ver done total, exec (.imageStatus h lib) s = .next (u.reply h [.imageStatus (u.stageOf r)
        (((u.img r).map (fun i => i.bytes.length)).getD 0) done total u.image.boot.activeB ver u.image.boot.boots]) ∧
        done = ((u.img r).map Img.pecks).getD 0 ∧ total = (((u.img r).bind Img.head).map ImgHead.pecks).getD 0 ∧
        (r = .self → ver = u.image.activeVer) ∧
        (∀ k, r = .lib k → ver = (((u.img r).bind Img.head).map ImgHead.ver).getD (0, 0, 0))) ∧
    (∃ l : List OutLine, exec (.imageList h) s = .next (u.reply h (l ++ [.dot])) ∧
      ∀ x, x ∈ l ↔ ∃ k i hd, (k, i) ∈ u.image.lib ∧ i.head = some hd ∧
        x = .imageSlot k hd.ver hd.target hd.digest i.ok) ∧
    (∀ lib i, u.noWait → refOk lib = true → u.img (refOf lib) = some i → i.head ≠ none → i.bytes.length = i.len →
      u.image.verify = none → u.imgBusy (refOf lib) = false → u.stageOf (refOf lib) ≠ .trial →
      ∃ t, exec (.imageVerify h lib) s = .next t ∧ t.line.tx = [.bare] ∧ t.image.verify = some (refOf lib) ∧
        t.stageOf (refOf lib) = .verifying ∧ t.img (refOf lib) = some i ∧ u.keeps [.line, .image, .store, .params] t)) ∧
  (∀ (r : ImageRef) (i : Img) (s : State), s.image.verify = some r → s.ccOn = true → s.img r = some i →
    ∃ t, exec .imageVerifyDone s = .next t ∧ t.image.verify = none ∧
      (match s.verifyFault r i with
        | none => t.stageOf r = .verified ∧ t.img r = some { i with ok := true }
        | some _ => t.stageOf r = .idle ∧ t.img r = some { i with ok := false }) ∧
      s.keeps [.line, .image, .store, .params, .mon, .pm, .tally] t)

/-- IMAGE ACTIVATE puts a verified self-image on trial and asks for a warm reset; the trial's time ends in another boot;
IMAGE CONFIRM ends the trial and raises the floor of the security counter; IMAGE ABORT and IMAGE DROP empty a slot (R467,
R471, R475, R476). The 1 ms of ACTIVATE is the model's (log 44). The boot selector (R471, R472): a write goes to the copy
with the lower sequence and, read back without error, is in force from then on; the other copy is written after it, 490 µs
later (log 150). Power lost between leaves that copy invalid and the record in force. -/
def Obligations.ImageActivation : Prop :=
  (∀ (h : Hdr) (s : State), s.takesAtOnce h → s.image.inStep →
    let u := s.heard h
    u.allowed .custodian = true →
    (∀ i, u.image.selfImg = some i → i.ok = true → u.image.stage = .verified → u.image.boot.trial = false →
      (∀ f ∈ u.work.table, f.st ≠ .lastchance) → ∃ t, exec (.imageActivate h) s = .next t ∧
        t.line.tx = [.word "ACTIVATE"] ∧ t.image.stage = .trial ∧ t.image.boot.trial = true ∧
        t.image.boot.activeB = !u.image.boot.activeB ∧ t.image.boot.active = digestOf i.bytes ∧
        t.image.boot.boots = 0 ∧ t.image.boot.floor = u.image.boot.floor ∧
        t.pm.resetAt = some (u.now + ms 1, .warm .activate) ∧ t.image.selfImg = some i ∧
        u.keeps [.line, .image, .pm, .store, .params] t) ∧
    (u.image.stage = .trial → ∃ t, exec (.imageConfirm h) s = .next t ∧ t.line.tx = [.word "CONFIRM"] ∧
      t.image.stage = .idle ∧ t.image.boot.trial = false ∧ t.image.confirmAt = none ∧
      t.image.boot.floor = max u.image.boot.floor u.image.activeCtr ∧ u.keeps [.line, .image, .store, .params] t) ∧
    (∀ r, u.abortRef = some r → ∃ t, exec (.imageAbort h) s = .next t ∧ t.line.tx = [.word "ABORT"] ∧
      t.img r = none ∧ t.stageOf r = .idle ∧ t.image.download = none ∧ t.image.boot = u.image.boot ∧
      u.keeps [.line, .image, .store, .params] t) ∧
    (∀ slot : Int, slotOk slot = true → u.pushUses slot.toNat = false → u.imgBusy (.lib slot.toNat) = false →
      u.img (.lib slot.toNat) ≠ none → ∃ t, exec (.imageDropLib h slot) s = .next t ∧ t.line.tx = [.word "DROP"] ∧
        t.stageOf (.lib slot.toNat) = .idle ∧ t.image.selfImg = u.image.selfImg ∧ t.image.boot = u.image.boot ∧
        (∀ k, k ≠ slot.toNat → t.img (.lib k) = u.img (.lib k)) ∧ t.img (.lib slot.toNat) = none ∧
        u.keeps [.line, .image, .store, .params] t)) ∧
  (∀ (t0 : Ticks) (s : State), s.image.confirmAt = some t0 → s.running = true → s.pm.power ≠ .shelf → t0 ≤ s.now →
    exec .confirmTimerExpiry s = .next (s.warmEdge .trial)) ∧
  (∀ (f : BootSel → BootSel) (s : State), s.image.inStep → (f s.image.boot).seq = s.image.boot.seq + 1 →
     let b := f s.image.boot
     let t := s.writeBoot f
     t.image.boot = b ∧ t.image.bootOwed = some (s.now + us 490, b) ∧ t.image.inStep ∧ s.keeps [.image] t ∧
     (t.image.bootA = some b ∨ t.image.bootB = some b) ∧
     (∀ v : State, v.image = t.image → s.now + us 490 ≤ v.now →
       v.bootDue.image.bootA = some b ∧ v.bootDue.image.bootB = some b ∧ v.bootDue.image.bootOwed = none) ∧
     (t.image.bootCut.boot = b ∧ t.image.bootCut.bootOwed = none ∧
       (t.image.bootCut.bootA = none ∨ t.image.bootCut.bootB = none)))

/-- IMAGE PUSH enters a PUSH flight for a verified image whose target is the tag model of the entry, with the progress of
the newest record of the pair; a PUSH cell sends the next block of its flight, when it has taken the air, or for a later block
with coexistence when its request is granted (R480, R481, R484). -/
def Obligations.ImagePush : Prop :=
  (∀ (h : Hdr) (slot : Int) (hd : HandleArg) (p dl : Option Int) (i : Img) (e : Entry) (x : ImgHead) (s : State),
    s.takes h →
    let u := s.heard h
    u.allowed .custodian = true → slotOk slot = true → hd.fits = true →
    inRange 0 6 (argOr 2 p) = true → inRange 10 1000000 (argOr 10 dl) = true →
    u.sendFault hd.get (argOr 2 p).toNat = none → assoc slot.toNat u.image.lib = some i → u.byHandle hd.get = some e →
    i.head = some x → i.ok = true → u.stageOf (.lib slot.toNat) = .verified → e.model ≠ 0 → x.target = e.model →
    u.hasPush hd.get = false → u.work.table.length < 32 → (u.pushResume slot.toNat e.id x).complete = false →
    ∃ t f, exec (.imagePush h slot hd p dl) s = .next t ∧ t.line.tx = [.flightId u.work.nextFlight] ∧
      t.work.table = u.work.table ++ [f] ∧ f.id = u.work.nextFlight ∧ f.kind = .push ∧ f.handle = hd.get ∧
      f.prio = (argOr 2 p).toNat ∧ f.push = some (u.pushResume slot.toNat e.id x) ∧
      (dl = none → f.deadline = 2 ^ 40 - 1) ∧ (∀ d, dl = some d → f.deadline = u.slotNow + d.toNat) ∧
      u.keeps [.line, .work] t) ∧
  (∀ (cell ch : Nat) (c : Cell) (f : Flight) (p : PushSess) (i : Img) (s : State), s.pushCell cell = some (c, ch) →
    s.ccOn = true → s.txBarred = false → s.roundRuns = false → s.blockFits (s.cellRate c.rate) = true →
    s.pushFlight c = some f → f.push = some p → s.pushImg p = some i →
    let rate := s.cellRate c.rate
    let path := s.blockPath c
    let a := s.takeAir (bandOf rate) path
    (path = 0 ∨ s.coexOn (bandOf rate) = false → a.1 = .go →
      exec (.pushBlock cell) s = .next (a.2.sendBlock f p i (Fin.ofNat 16 c.lane) rate ch (State.launch path))) ∧
    (path = 0 ∨ s.coexOn (bandOf rate) = false → a.1 = .denied → exec (.pushBlock cell) s = .next (a.2.cellUsed cell)) ∧
    (path ≠ 0 → s.coexOn (bandOf rate) = true → s.txFree = true → s.anyPayload = false →
      exec (.pushBlock cell) s = .next (s.sendBlock f p i (Fin.ofNat 16 c.lane) rate ch State.transmit)))

/-! ## Power states and starts -/

/-- The descent: after `pm.idle.loft` without work the part goes to LOFT; LARDER and CELLAR begin with entry steps, 1 ms or
12 ms for LARDER and 20.1 ms for CELLAR and SHELF, on idle or by command; the residency can be read (R409, R412 to R416,
R436, R439). -/
def Obligations.PowerDescends : Prop :=
  (∀ (f : Ticks) (s : State), s.steady = true →
    let t := s.fire .timerCompare
    (s.pm.power = .active → t.noWork = true → s.pm.idleFrom = some f → 1 ≤ t.pnat Obj.pmFloor →
      f + ms (t.pnat Obj.idleLoft) ≤ s.now → ∃ v, exec .idleToLoft s = .next v ∧ v.pm.power = .loft ∧
        v.pm.entries[1] = (s.pm.entries[1] + 1) % 2 ^ 48 ∧ v.pm.loftFrom = some s.now ∧ s.keeps [.pm, .params] v) ∧
    (s.pm.power = .loft → s.pm.loftFrom = some f → 2 ≤ t.pnat Obj.pmFloor → f + ms (t.pnat Obj.idleLarder) ≤ s.now →
      t.larderOk = true → ∃ v, exec .loftToLarder s = .next v ∧ v.pm.power = .active ∧
        v.pm.entering = some (.larder, s.now + (if (t.fire .larderEntry).binsKept 0 12 then ms 1 else ms 12)) ∧
        s.keeps [.pm, .params] v) ∧
    (3 ≤ t.pnat Obj.pmFloor → s.pm.lineIdle + secs (t.pnat Obj.idleCellar) ≤ s.now → t.cellarOk = true →
      s.holdOver = true →
      (s.pm.power = .loft → ∃ v, exec .cellarEntry s = .next v ∧ v.pm.entering = some (.cellar, s.now + us 20100) ∧
        s.keeps [.pm, .params] v) ∧
      (s.pm.power = .larder → ∃ v, exec .cellarEntry s = .next v ∧ v.pm.exiting = some (.larder, s.now + us 520) ∧
        v.pm.thenCellar = true ∧ s.keeps [.pm, .params] v))) ∧
  (∀ (h : Hdr) (s : State), s.judgesAtOnce h →
    let u := s.heard h
    (u.allowed .operator = true → u.cellarOk = true → ∃ v, exec (.doPmSleep h true) s = .next v ∧
      (h.addr ≠ some 0 → v.line.tx = [.word "CELLAR"]) ∧ v.pm.entering = some (.cellar, u.now + us 20100) ∧
      u.keeps [.line, .pm, .store, .params] v) ∧
    (u.allowed .operator = true → u.larderOk = true → ∃ v, exec (.doPmSleep h false) s = .next v ∧
      (h.addr ≠ some 0 → v.line.tx = [.word "LARDER"]) ∧ (v.pm.entering.map Prod.fst) = some .larder ∧
      u.keeps [.line, .pm, .store, .params] v) ∧
    (u.allowed .custodian = true → u.pm.crystal = true → ∃ v, exec (.doPmShelf h) s = .next v ∧
      (h.addr ≠ some 0 → v.line.tx = [.word "SHELF"]) ∧ v.pm.entering = some (.shelf, u.now + us 20100) ∧
      u.keeps [.line, .pm, .store, .params] v)) ∧
  (∀ (h : Hdr) (s : State), s.judges h →
    let u := s.heard h
    exec (.doPmResidency h) s = .next (u.reply h
      [.residency .active (some u.pm.ticks[0]) u.pm.entries[0], .residency .loft (some u.pm.ticks[1]) u.pm.entries[1],
       .residency .larder (some u.pm.ticks[2]) u.pm.entries[2], .residency .cellar (some u.pm.ticks[3]) u.pm.entries[3],
       .residency .shelf none u.pm.entries[4], .dot]))

/-- A wake event starts an exit of 1.5 µs from LOFT, 520 µs from LARDER and 5.8 ms from CELLAR, and cancels an entry before
its commit edge; at the end of an exit the part is in ACTIVE; the schedule timer and the timer of `pm.cellar.period` are
wake events; bins left out are loaded again (R412, R416, R423 to R426). -/
def Obligations.WakingUp : Prop :=
  ∀ s : State, s.running = true →
    (∀ c, s.pm.exiting = none → s.pm.entering = none → WakeCause.wakes c s.pm.power = true →
      (c = .line → s.lineHeeded = true) → ∃ t, exec (.wakeEventExit c) s = .next t ∧
        t.pm.exiting = some (s.pm.power, s.now +
          (match s.pm.power with | .loft => us 1 + us 1 / 2 | .larder => us 520 | _ => us 5800)) ∧
        t.pm.power = s.pm.power ∧ s.keeps [.pm] t) ∧
    (∀ c e, s.pm.exiting = none → s.pm.entering = some e → (c = .line → s.lineHeeded = true) →
      ∃ t, exec (.wakeEventExit c) s = .next t ∧ t.pm.entering = none ∧ t.pm.exiting = none ∧
        t.pm.power = s.pm.power ∧ s.keeps [.pm] t) ∧
    (∀ failed p t0, s.pm.exiting = some (p, t0) → t0 ≤ s.now → (s.pm.thenCellar = false ∨ s.pm.held = true) →
      ∃ t, exec (.exitComplete failed) s = .next t ∧ t.pm.power = .active ∧ t.pm.exiting = none ∧ t.pm.held = false ∧
        (p = .cellar → t.roster.loaded = true)) ∧
    (s.pm.exiting = none → s.pm.entering = none → (s.pm.power = .loft ∨ s.pm.power = .larder) →
      (s.slotSoon (wakeLead s.pm.power) = true ∨ s.burstSoon (wakeLead s.pm.power) = true) →
      ∃ t, exec .scheduleTimerWake s = .next t ∧ (t.pm.exiting.map Prod.fst) = some s.pm.power ∧ s.keeps [.pm] t) ∧
    (∀ t0, s.pm.cellarAt = some t0 → s.pm.power = .cellar → t0 ≤ s.now → s.pm.exiting = none → s.pm.entering = none →
      ∃ t, exec .cellarPeriodWake s = .next t ∧ t.pm.exiting = some (.cellar, s.now + us 5800) ∧ t.pm.cellarAt = none ∧
        ((s.net.st = .member ∨ s.net.st = .holdover) →
          t.net.holdCellar = some (s.now + 2 * s.l0 * s.slotTicks)) ∧ s.keeps [.pm, .net] t) ∧
    (s.ccOn = true → s.pm.reload ≠ [] → s.rx.buf = [] → ∃ t, exec .backgroundReload s = .next t ∧
      t.roster.loaded = true ∧ t.pm.reload = [] ∧ s.keeps [.roster, .pm] t)

/-- RESET asks for its edge, unless one is asked for already, and is answered; the edge comes 1 ms after the end of the reply,
or 5 ms after it for a cold reset, which flushes the store first. The watchdog and the brown-out make theirs at once, and the
edge leaves the radio in SLEEP with the PA off and COEX_REQ low, WAKE high, LINE closed, the session at OBSERVER and every lane
free; a WAKE SEEN reply that it cuts gives its bits back (R32, R167, R427, R430, R433, R437). -/
def Obligations.Resets : Prop :=
  (∀ (h : Hdr) (s : State), s.judgesAtOnce h →
    let u := s.heard h
    (u.allowed .operator = true → ∃ t, exec (.resetWarm h) s = .next t ∧ (h.addr ≠ some 0 → t.line.tx = [.word "WARM"]) ∧
      t.pm.resetAt = some (u.pm.resetAt.getD (u.now + ms 1, .warm .warm)) ∧ u.keeps [.line, .pm, .store, .params] t) ∧
    (u.allowed .custodian = true → ∃ t, exec (.resetCold h) s = .next t ∧ (h.addr ≠ some 0 → t.line.tx = [.word "COLD"]) ∧
      t.pm.resetAt = some (u.pm.resetAt.getD (u.now + ms 5, .cold .cold)) ∧
      t.store.nextSeq = u.store.nextSeq + (u.wake.queue.filter (fun r => !r.isOpen)).length ∧
      u.keeps [.line, .pm, .store, .params] t)) ∧
  (∀ (t0 : Ticks) (s : State), s.pm.run = .running →
    (∀ c, s.pm.resetAt = some (t0, .warm c) →
      s.resetDue = (if max t0 (s.line.sendEnd + ms 1) ≤ s.now then s.warmEdge c else s)) ∧
    (∀ c, s.pm.resetAt = some (t0, .cold c) → max t0 (s.line.sendEnd + ms 5) ≤ s.now →
      ∃ v : State, s.resetDue = v.coldEdge c (some (s.now + ms 10)) ∧ v.store.cache = [] ∧ v.image = s.image ∧
        v.pm = s.pm) ∧
    (∀ c, s.pm.resetAt = some (t0, .cold c) → s.now < max t0 (s.line.sendEnd + ms 5) → s.resetDue = s)) ∧
  (∀ s : State,
    (s.running = true → s.pm.power = .active →
      exec .watchdog s = .next ((s.count .pmu "pm.watchdog").warmEdge .watchdog)) ∧
    (s.pm.run ≠ .unpowered → exec .brownOut s = .next (s.coldEdge .brownout none)) ∧
    (s.running = true → s.pm.power = .shelf → s.pm.shelfArmed = true →
      exec .shelfWake s = .next (s.coldEdge .shelf none)) ∧
    (∀ t0, s.pm.shelfFrom = some t0 → s.running = true → s.pm.power = .shelf → t0 + ms 10 ≤ s.now →
      ∃ t, exec .shelfDetectorArm s = .next t ∧ t.pm = { s.pm with shelfArmed := true } ∧ s.keeps [.pm] t) ∧
    (s.running = true → ∃ t, exec .sleepCrystalGood s = .next t ∧ t.pm = { s.pm with crystal := true } ∧
      s.keeps [.pm] t) ∧
    (∀ c : WarmCause, let t := s.warmEdge c
      t.pm.run = .warmReset c ∧ t.radio.st = .sleep ∧ t.radio.paOn = false ∧ t.radio.coexReq = false ∧
      t.radio.tx = none ∧ t.rx.lanes = Vector.replicate 16 Lane.reset ∧ t.rx.capture = none ∧ t.wake.low = false ∧
      t.wake.masks = s.wake.masks ∧ t.wake.queue = s.wake.queue ∧
      ((∀ bits fold, s.onWire ≠ some (.seen bits fold)) → t.wake.seen = s.wake.seen) ∧
      (∀ bits fold, s.onWire = some (.seen bits fold) → t.wake.seen = Mem.orAll s.wake.seen bits) ∧
      t.line.level = .observer ∧ t.line.isOpen = false ∧ t.line.address = s.line.address ∧
      t.roster = s.roster ∧ t.faults = s.faults ∧ (s.image.inStep → t.image.boot = s.image.boot)))

/-- A cold start: with TEST high the part waits for its tester; a fatal BIST failure halts it, to be tried again after
10 s, three times at most; otherwise it is in service in ACTIVE, in counter mode, with address 0 and OBSERVER, an empty
wake queue and seen bitmap, the masks of the store, an empty flight table and the stored values of its parameters in force
(R10, R28, R429 to R431).
A start that follows a fatal BIST failure: the third failure is the last (R431). A warm start with every check passed
keeps address, wake queue, seen bitmap, keys, mode of time and library, and leaves the part in ACTIVE (R432). -/
def Obligations.Starts : Prop :=
  (∀ (cause : ColdCause) (b : Bist) (temp : Int) (s : State), s.pm.run = .unpowered →
    (∃ t, exec (.powerOnStart cause true b temp) s = .next t ∧ t.pm.run = .testWait) ∧
    (b.fatal = true → ∃ t, exec (.powerOnStart cause false b temp) s = .next t ∧
      t.pm.run = .bistHalt 1 (some (s.now + secs 10))) ∧
    (b.fatal = false → ∃ t, exec (.powerOnStart cause false b temp) s = .next t ∧ t.pm.run = .running ∧
      t.pm.power = .active ∧ t.pm.start = some (.cold cause) ∧ t.time.counterMode = true ∧ t.line.address = 0 ∧
      t.line.level = .observer ∧ t.line.solo = true ∧ t.wake.armed = true ∧ t.wake.queue = [] ∧ t.wake.seen = [] ∧
      t.wake.masks = t.wake.stored ∧ t.wake.seq = 0 ∧ t.work.table = [] ∧ t.work.waiting = [] ∧ t.rx.buf = [] ∧
      t.radio.st = .sleep ∧ t.roster.loaded = true ∧ t.roster.netKey = s.roster.netKey ∧
      (∀ r ∈ t.params, r.now = r.stored ∧ r.pending = none) ∧ t.net.st = .unsynced ∧ t.net.started = true ∧
      t.store.ledger = s.store.ledger ∧ t.store.archive = s.store.archive)) ∧
  ((∀ (b : Bist) (temp : Int) (n : Nat) (t0 : Ticks) (s : State), s.pm.run = .bistHalt n (some t0) → t0 ≤ s.now →
    ∃ t, exec (.bistRetry b temp) s = .next t ∧
      (b.fatal = true → t.pm.run = .bistHalt (n + 1) (if n + 1 < 3 then some (s.now + secs 10) else none)) ∧
      (b.fatal = false → t.pm.run = .running ∧ t.pm.start = some (.cold .bist))) ∧
  (∀ (c : WarmCause) (temp : Int) (ok : Bool) (s : State), s.pm.run = .warmReset c → s.rx.buf = [] →
    (s.startValues false).calFits temp = true → ∃ t, exec (.warmStart [] temp ok) s = .next t ∧ t.pm.run = .running ∧
      t.pm.power = .active ∧ t.pm.start = some (.warm c) ∧ t.line.address = s.line.address ∧
      t.line.level = s.line.level ∧ t.wake.queue = s.wake.queue ∧ t.wake.seen = s.wake.seen ∧
      t.time.counterMode = s.time.counterMode ∧ t.roster.netKey = s.roster.netKey ∧ t.image.lib = s.image.lib))

/-- What reset, supply, watchdog and crystal do, a write of a parameter, and the steps by which a part finds its network, each
runs to its end. A SET within its level, range and state is answered with the value and the pending value (R516, R517); RESET
is answered and its edge is asked for (R427, R433); the watchdog puts a running part in warm reset, the brown-out puts any
powered part in cold reset, and so does a low of 1 ms in SHELF once its detector is armed, 10 ms after the entry (R32, R427,
R437); at power-on, and again after a cold reset, the part waits for its tester, halts on a fatal BIST failure, or is in
service (R28, R429, R431); after a warm reset it is in service whatever the checks find (R432). -/
def Obligations.WritesResetsAndStartsComplete : Prop :=
  (∀ (h : Hdr) (obj : Nat) (arg : PArg) (c : Card) (s : State), s.takesAtOnce h → cardOf obj = some c →
    let u := s.heard h
    let v := u.asked obj arg
    u.allowed c.level = true → u.rangeOk obj v = true → u.setBlocked obj v = false →
    ∃ t, exec (.set h obj arg) s = .next t ∧ ((t.prow obj).map PRow.stored = some v) ∧
      t.line.tx = [.value obj (if u.takesNow obj v then v else u.pval obj) (if u.takesNow obj v then none else some v)] ∧
      t.time = u.time ∧ t.image = u.image) ∧
  (∀ (h : Hdr) (s : State), s.takesAtOnce h →
    ((s.heard h).allowed .operator = true → ∃ t, exec (.resetWarm h) s = .next t ∧ t.line.tx = [.word "WARM"] ∧
      t.pm.resetAt.isSome = true ∧ t.pm.run = s.pm.run) ∧
    ((s.heard h).allowed .custodian = true → ∃ t, exec (.resetCold h) s = .next t ∧ t.line.tx = [.word "COLD"] ∧
      t.pm.resetAt.isSome = true ∧ t.pm.run = s.pm.run)) ∧
  (∀ s : State,
    (s.running = true → s.pm.power = .active → ∃ t, exec .watchdog s = .next t ∧ t.pm.run = .warmReset .watchdog ∧
      t.radio.st = .sleep ∧ t.radio.paOn = false ∧ t.line.isOpen = false ∧ t.roster = s.roster) ∧
    (s.pm.run ≠ .unpowered → ∃ t, exec .brownOut s = .next t ∧ t.pm.run = .coldReset .brownout ∧ t.wake.armed = false ∧
      t.radio.st = .sleep ∧ t.radio.paOn = false ∧ t.line.isOpen = false ∧ t.roster = s.roster) ∧
    (s.running = true → s.pm.power = .shelf → s.pm.shelfArmed = true → ∃ t, exec .shelfWake s = .next t ∧
      t.pm.run = .coldReset .shelf ∧ t.line.isOpen = false ∧ t.roster = s.roster) ∧
    (∀ t0, s.pm.shelfFrom = some t0 → s.running = true → s.pm.power = .shelf → t0 + ms 10 ≤ s.now →
      exec .shelfDetectorArm s = .next (s.onPm (fun p => { p with shelfArmed := true }))) ∧
    (s.running = true → exec .sleepCrystalGood s = .next (s.onPm (fun p => { p with crystal := true })))) ∧
  (∀ (cause : ColdCause) (test : Bool) (b : Bist) (temp : Int) (s : State),
    (s.pm.run = .unpowered ∨ ∃ c, s.pm.run = .coldReset c ∧ ∀ x, s.pm.resetAt = some x → x.1 ≤ s.now) →
    ∃ t, exec (.powerOnStart cause test b temp) s = .next t ∧
      t.pm.run = (if test then .testWait else if b.fatal then .bistHalt 1 (some (s.now + secs 10)) else .running) ∧
      t.line.address = 0 ∧ t.part = s.part ∧ t.roster.netKey = s.roster.netKey) ∧
  (∀ (b : Bist) (temp : Int) (n : Nat) (t0 : Ticks) (s : State), s.pm.run = .bistHalt n (some t0) → t0 ≤ s.now →
    ∃ t, exec (.bistRetry b temp) s = .next t ∧ t.roster.netKey = s.roster.netKey ∧
      t.pm.run = (if b.fatal then .bistHalt (n + 1) (if n + 1 < 3 then some (s.now + secs 10) else none) else .running)) ∧
  (∀ (c : WarmCause) (failed : List Item) (temp : Int) (ok : Bool) (s : State), s.pm.run = .warmReset c →
    ∃ t, exec (.warmStart failed temp ok) s = .next t ∧ t.pm.run = .running ∧ t.part = s.part)

/-! ## Masks and bursts -/

/-- `DO jomen.arm` and `DO jomen.reason` write masks, which wait, at OPERATOR; below it they write none. The mask last
written of every other code stays, and so do the masks in force until the next WCLK edge, which brings the written ones
into force and into the stored copy, gives freed codes back to the pool, and after which the reply goes out; `DO jomen.arm`
without a mask reports the mask (R110, R113, R115, R116). -/
def Obligations.MasksAreArmed : Prop :=
  (∀ (h : Hdr) (code : Int) (s : State), s.judges h → (s.heard h).allowed .operator = true → inRange 1 8191 code = true →
    exec (.doJomenArm h code none) s = .next ((s.heard h).reply h
      [.mask (Mem.read (s.heard h).wake.masks code.toNat).toNat])) ∧
  (∀ (h : Hdr) (s : State), s.judgesAtOnce h →
    let u := s.heard h
    u.allowed .operator = true →
    (∀ code m : Int, inRange 1 8191 code = true → inRange 0 255 m = true → (m = 0 ∨ u.codeBetween code = false) →
      Mem.wf u.wake.masks = true →
      ∃ t, exec (.doJomenArm h code (some m)) s = .next t ∧ t.line.tx = [] ∧ t.wake.armOwed = [(h, .mask m.toNat)] ∧
        t.maskOf code.toNat = BitVec.ofNat 8 m.toNat ∧ (∀ c, c ≠ code.toNat → t.maskOf c = u.maskOf c) ∧
        t.wake.masks = u.wake.masks ∧ t.wake.queue = u.wake.queue ∧ t.wake.seen = u.wake.seen ∧
        u.keeps [.line, .wake, .store, .params] t) ∧
    (∀ r x : Int, inRange 0 7 r = true → inRange 0 1 x = true → Mem.wf u.wake.masks = true →
      ∃ t n, exec (.doJomenReason h r x) s = .next t ∧
      n = (u.assignedCodes.filter (fun c => reasonBit r.toNat (x == 1) (u.maskOf c) ≠ u.maskOf c)).length ∧
      t.line.tx = [] ∧ t.wake.armOwed = [(h, .num (n : Nat))] ∧
      (∀ c, t.maskOf c = if c ∈ u.assignedCodes then reasonBit r.toNat (x == 1) (u.maskOf c) else u.maskOf c) ∧
      t.wake.masks = u.wake.masks ∧ u.keeps [.line, .wake, .store, .params] t)) ∧
  (∀ (h : Hdr) (code r x : Int) (m : Option Int) (s : State), s.takesAtOnce h → (s.heard h).allowed .operator = false →
    ∀ c ∈ [Instr.doJomenArm h code m, .doJomenReason h r x], ∃ t, exec c s = .next t ∧ t.line.tx = [.err .priv] ∧
      t.wake.masks = s.wake.masks ∧ t.wake.maskWrites = s.wake.maskWrites) ∧
  (∀ s : State, s.store.flush = none → ∃ t, exec .maskChangeEffect s = .next t ∧ t.wake.maskWrites = [] ∧
    (∀ c, Mem.read t.wake.masks c = s.maskOf c) ∧
    t.wake.stored = Mem.writeAll s.wake.stored s.wake.maskWrites ∧ t.wake.seen = s.wake.seen ∧
    t.wake.queue = s.wake.queue ∧ t.store.cache = s.store.cache ∧ t.wake.armOwed = [] ∧
    t.jomen.pool = s.jomen.pool ++ s.jomen.freed ∧ t.jomen.freed = [] ∧ t.jomen.holders = s.jomen.holders ∧
    (∀ h o, s.wake.armOwed = [(h, o)] → h.addr ≠ some 0 → t.line.tx = [o]) ∧
    (s.wake.armOwed = [] → t.line = s.line) ∧ s.keeps [.wake, .store, .jomen, .line] t)

/-- A burst is accepted when it keeps the airtime of the rolling 3,600 s within `jomen.tx.duty`, else a command is answered
with `!DUTY`, and a burst that the part scheduled is skipped. The settings that wait for a burst come into force with one that
is accepted, and with no other (R119, R121, R122, R124 to R127). -/
def Obligations.BurstsKeepTheDuty : Prop :=
  (∀ (h : Hdr) (code reason : Int) (sync rep : Option Int) (s : State), s.judgesAtOnce h →
    let u := s.heard h
    let v := u.fire .burst
    let y := argOr (u.pint Obj.sync) sync
    let n := argOr (v.pint Obj.txRepeat) rep
    let b := v.makeBurst code.toNat reason.toNat y.toNat n.toNat .command
    u.allowed .operator = true → inRange 1 8191 code = true → inRange 0 7 reason = true → inRange 0 63 y = true →
    inRange 1 64 n = true →
    ((u.airtime + b.length) * 1000 ≤ secs 3600 * v.pnat Obj.txDuty → ∃ t, exec (.doJomenBurst h code reason sync rep) s =
      .next t ∧ (h.addr ≠ some 0 → t.line.tx = [.burstOk]) ∧ t.jomen.queue = u.jomen.queue ++ [b] ∧
      t.airtime = u.airtime + b.length ∧ u.keeps [.line, .jomen, .store, .params] t) ∧
    (secs 3600 * v.pnat Obj.txDuty < (u.airtime + b.length) * 1000 → ∃ t, exec (.doJomenBurst h code reason sync rep) s =
      .next t ∧ (h.addr ≠ some 0 → t.line.tx = [.err .duty]) ∧
      (∀ o, (cardOf o).map Card.eff ≠ some .record → t.prow o = u.prow o) ∧
      u.keeps [.line, .store, .params, .tally] t)) ∧
  (∀ (b : Burst) (rest : List Burst) (s : State), s.jomen.due = b :: rest →
    let w := s.onJomen (fun j => { j with due := rest })
    let v := w.fire .burst
    let x := v.makeBurst b.code b.reason (v.pnat Obj.sync) (v.pnat Obj.txRepeat) b.purpose
    ((s.airtime + x.length) * 1000 ≤ secs 3600 * v.pnat Obj.txDuty → ∃ t, exec .scheduledBurstDue s = .next t ∧
      t.jomen.due = rest ∧ t.jomen.queue = s.jomen.queue ++ [x] ∧ t.airtime = s.airtime + x.length ∧
      s.keeps [.jomen, .params] t) ∧
    (secs 3600 * v.pnat Obj.txDuty < (s.airtime + x.length) * 1000 →
      exec .scheduledBurstDue s = .next (w.burstSkipped b.purpose))) ∧
  (∀ s : State, ∃ t, exec .airtimeEntryExpiry s = .next t ∧ t.airtime = s.airtime ∧
    (∀ x, x ∈ t.jomen.airtime ↔ x ∈ s.jomen.airtime ∧ s.now < x.2) ∧ s.keeps [.jomen] t)

/-- The first burst that may start goes on the air as soon as nothing is transmitted and no lane receives a payload; at its
last chip the drive goes off, and the wake branches stay blanked for 250 us after it (R118 to R120). -/
def Obligations.BurstStartsAndEnds : Prop :=
  (∀ (b : Burst) (s : State), s.txBarred = false → s.txFree = true → s.anyPayload = false → s.jomen.onAir = none →
    s.jomen.queue.find? s.burstAllowed = some b →
    let v := s.onJomen (fun j => { j with queue := j.queue.erase b, onAir := some b })
    exec .burstStart s = .next (v.transmit (v.burstTx b))) ∧
  (∀ (b : Burst) (tx : Tx) (s : State), s.jomen.onAir = some b → s.radio.tx = some tx → tx.kind = .burst →
    s.radio.paFrom + us 4 + b.rep * 63 * (if b.fast then 125000 else 500000) ≤ s.now → b.purpose = .command →
    ∃ t, exec .burstEnd s = .next t ∧ t.jomen.onAir = none ∧ t.radio.tx = none ∧ t.radio.paOn = false ∧
      t.wake.masks = s.wake.masks ∧ (tx.band = .sub → t.wake.blankUntil = some (s.now + us 5 + us 250)))

/-! ## The wake receiver -/

/-- A code word completes at the WCLK edge that ends its chip 62 by the grid of the alignment, from chips the branch
slices out of its level readings. Of an armed code and reason, away from every match in progress, it opens a record while
the queue of 16 has room: the seen bit is set, the sequence rises, WAKE falls. With the queue full it folds and sets the
fold flag, but a word of branch A takes the last entry from a word of branch B that completed at the same edge, and B's
word folds (R131, R132, R141, R142, R146, R152, R158, R161, R165, R166). A chip is decided from its level readings, 32 of
an envelope or super-regenerative detector and 8 of DIRECT: 1 where more than half of the readings of its middle half lie
above the slicer threshold, 0 on a tie (R132). The threshold is the midpoint of the preamble's levels while the branch is
aligned, else the floor plus 9 dB. While a branch reads and is not aligned, the floor goes by 2^-18 of the way towards
each reading (R131, R530; the reading is a free value, logs 6 and 124); an alignment whose path is gone is dropped (R135).
-/
def Obligations.CodeWordWakes : Prop :=
  (∀ (br : Side) (readings : List (List Int)) (rssi : Int) (a : Align) (w e : Nat) (d : Decoded) (s : State),
     s.wake.armed = true → (s.wake.br br).align = some a → s.receives br = true → a.edge readings.length = s.wclk →
     s.blanked = false →
     codeWordOf ((s.wake.br br).chips readings) (syncWord (s.pnat Obj.sync)) (s.pnat Obj.syncErrors) = some (w, e) →
     bchDecode w (s.pnat Obj.correct) = some d →
     s.wake.queue.any (WakeRec.agrees br s.wclk w (s.pnat Obj.correct)) = false →
     (d.code = 0 → ∃ t, exec (.codeWordComplete br readings rssi) s = .next t ∧ t.wake.queue = s.wake.queue ∧
       t.wake.seen = s.wake.seen ∧ s.keeps [.wake, .tally] t) ∧
     (d.code ≠ 0 → (Mem.read s.wake.masks d.code).getLsbD d.reason = false →
       ∃ t, exec (.codeWordComplete br readings rssi) s = .next t ∧ t.wake.queue = s.wake.queue ∧
         t.wake.seen = s.wake.seen ∧ s.keeps [.wake, .tally] t) ∧
     (d.code ≠ 0 → (Mem.read s.wake.masks d.code).getLsbD d.reason = true →
       (∀ r ∈ s.wake.queue, ¬(r.code = d.code ∧ r.reason = d.reason)) →
       (∀ f ∈ s.wake.foldWins, ¬(f.code = d.code ∧ f.reason = d.reason)) →
       (s.wake.queue.length < 16 → (∀ r ∈ s.wake.queue, r.t1 ≠ s.wclk) →
         ∃ t r, exec (.codeWordComplete br readings rssi) s = .next t ∧
         t.wake.queue = s.wake.queue ++ [r] ∧ r.seq = s.wake.seq ∧ r.code = d.code ∧ r.reason = d.reason ∧
         r.isOpen = true ∧ r.first = br ∧ r.errors = d.errors ∧ r.t1 = s.wclk ∧ t.wake.seq = s.wake.seq + 1 ∧
         t.wake.seen = Mem.write s.wake.seen d.code (Mem.read s.wake.seen d.code ||| BitVec.ofNat 8 (2 ^ d.reason)) ∧
         t.wake.low = true ∧ t.wake.masks = s.wake.masks ∧ s.keeps [.wake, .params, .line, .mon, .pm, .tally] t) ∧
       (16 ≤ s.wake.queue.length → (∀ r ∈ s.wake.queue, r.t1 ≠ s.wclk) →
         ∃ t, exec (.codeWordComplete br readings rssi) s = .next t ∧ t.wake.queue = s.wake.queue ∧
           t.wake.foldFlag = true ∧ t.wake.seq = s.wake.seq ∧
           t.wake.seen = Mem.write s.wake.seen d.code (Mem.read s.wake.seen d.code ||| BitVec.ofNat 8 (2 ^ d.reason)) ∧
           t.wake.low = true ∧ t.wake.masks = s.wake.masks ∧ s.keeps [.wake, .params, .line, .mon, .pm, .tally] t) ∧
       (∀ (q : List WakeRec) (x : WakeRec), s.wake.queue = q ++ [x] → 16 ≤ s.wake.queue.length → br = .a → x.first = .b →
         x.isOpen = true → x.t1 = s.wclk → (∀ r ∈ q, r.t1 ≠ s.wclk) →
         ∃ t r, exec (.codeWordComplete br readings rssi) s = .next t ∧ t.wake.queue = q ++ [r] ∧ r.code = d.code ∧
           r.reason = d.reason ∧ r.first = .a ∧ r.t1 = s.wclk ∧ t.wake.foldFlag = true ∧ t.wake.seq = s.wake.seq ∧
           (∃ f ∈ t.wake.foldWins, f.code = x.code ∧ f.reason = x.reason ∧ f.first = .b) ∧
           s.keeps [.wake, .params, .line, .mon, .pm, .tally] t))) ∧
  (∀ (d : WakeDet) (th : Int) (l : List Int),
    let n := if d = .envelope ∨ d = .superregen then 32 else 8
    l.length = n → (sliceChip d th l = true ↔ n / 4 < ((l.drop (n / 4)).take (n / 2)).countP (fun x => decide (th < x * dB)))) ∧
  (∀ b : Branch, (b.align = none → b.threshold = b.floor + 9 * dB) ∧
    (∀ a hi lo, b.align = some a → a.threshold = hi + lo → 2 * b.threshold = (hi + lo) * dB)) ∧
  (∀ (sd : Side) (s : State),
    let b := s.wake.br sd
    (b.align ≠ none → s.receives sd = false → (s.trackBranch sd).wake.br sd = { b with align := none }) ∧
    (b.align ≠ none → s.receives sd = true → (s.trackBranch sd).wake = s.wake) ∧
    (b.align = none → s.reads sd = false → (s.trackBranch sd).wake = s.wake) ∧
    (b.align = none → s.reads sd = true → ∃ level : Int,
      (s.trackBranch sd).wake.br sd = { b with floor := b.floor + (level * dB - b.floor) / 2 ^ 18 }) ∧
    (s.trackBranch sd).wake.br (Side.other sd) = s.wake.br (Side.other sd) ∧ s.keeps [.wake] (s.trackBranch sd))

/-- The events of the wake branches: search and hold time-outs, the end of settling, blanking and its end, suspension,
resumption and sniffs of DIRECT, of which the first gives a settling branch its floor, alignment on the eight sliced chips of
the preamble, a change of configuration, the closing of records and the start of a sweep (R120, R131, R134, R135, R137, R140,
R149, R155, R169, R195). -/
def Obligations.BranchEvents : Prop :=
  ∀ (sd : Side) (s : State),
    let b := s.wake.br sd
    (∀ a, b.align = some a → a.at_ + 40 * a.period ≤ s.now → ∃ t, exec (.syncSearchTimeout sd) s = .next t ∧
      t.wake.br sd = { b with align := none } ∧ t.wake.br (Side.other sd) = s.wake.br (Side.other sd) ∧
      t.wake.queue = s.wake.queue ∧ s.keeps [.wake] t) ∧
    (∀ t0, b.st = .settling → b.settleAt = some t0 → t0 ≤ s.now → ∃ (t : State) (fl : Int),
      exec (.branchSettleComplete sd) s = .next t ∧ (b.det = .direct → fl = b.floor) ∧
      t.wake.br sd = { b with st := if s.blanked then .blanked else .listen, listenFrom := s.wclk, floor := fl } ∧
      t.wake.br (Side.other sd) = s.wake.br (Side.other sd) ∧ s.keeps [.wake] t) ∧
    (s.blanked = true → ∃ t, exec .blankingStart s = .next t ∧
      t.wake.br sd = (if b.st = .listen then { b with st := .blanked, align := none, hold := none } else b) ∧
      t.wake.queue = s.wake.queue ∧ s.keeps [.wake] t) ∧
    (s.blanked = false → ∃ t, exec .blankingEnd s = .next t ∧
      t.wake.br sd = (if b.st = .blanked then { b with st := .listen, listenFrom := s.wclk } else b) ∧
      t.wake.blankUntil = none ∧ s.keeps [.wake] t) ∧
    (b.det = .direct → b.st = .listen → s.chainFree sd = false → s.tapTerms sd = false →
      ∃ t, exec (.directSuspend sd) s = .next t ∧
        t.wake.br sd = { b with st := .suspended, align := none, hold := none, tap := false } ∧ s.keeps [.wake] t) ∧
    (b.det = .direct → b.st = .listen → s.tapTerms sd = true → exec (.directSuspend sd) s = .next s) ∧
    (b.st = .suspended → (s.chainFree sd = true ∨ s.tapOk sd = true) → ∃ t, exec (.directResume sd) s = .next t ∧
      t.wake.br sd = { b with st := .listen, listenFrom := s.wclk, nextSniff := s.wclk } ∧ s.keeps [.wake] t) ∧
    (∀ level : Int, b.det = .direct → b.hold = none → s.chainFree sd = true → b.nextSniff ≤ s.wclk →
      let p := 504 * (s.fire .sniff).pnat Obj.sniff + 104
      (b.decides = true → ∃ t, exec (.directSniff sd level) s = .next t ∧
        t.wake.br sd = { b with
          floor := b.floor + (level * dB - b.floor) * p / 2 ^ 18, nextSniff := s.wclk + p,
          hold := if b.threshold < level * dB then some s.wclk else none } ∧
        (t.rx.chain sd).dc = Config.dcWake ((s.rx.chain sd).dcTable .sub) sd ∧
        s.keeps [.wake, .rx, .params, .tally] t) ∧
      (b.st = .settling → b.settleAt = none → ∃ t, exec (.directSniff sd level) s = .next t ∧
        t.wake.br sd = { b with settleAt := some (s.now + 16 * wclkTicks), floor := level * dB, nextSniff := s.wclk + p } ∧
        s.keeps [.wake, .rx, .params, .tally] t)) ∧
    (∀ t0, b.hold = some t0 → t0 + 1024 ≤ s.wclk → ∃ t, exec (.sniffHoldTimeout sd) s = .next t ∧
      t.wake.br sd = { b with hold := none, align := none } ∧ s.keeps [.wake] t) ∧
    (∀ (chips : List (Ticks × List Int)) (hi lo : Int), s.wake.armed = true → s.reads sd = true →
      b.align = none → chips.length = 8 → edgesOk (chipTicks b.det) (chips.map Prod.fst) = true →
      let edges := chips.map Prod.fst
      let p := (edges.getLastD 0 - edges.headD 0) / 7
      let ok := (chips.map Prod.snd).map (sliceChip b.det (b.floor + 9 * dB)) = [true, false, true, false, true, false, true, false]
      ∃ t, exec (.branchAlignment sd chips hi lo) s = .next t ∧
        (ok → t.wake.br sd = { b with
          tap := s.tapOk sd, align := some { at_ := edges.getLastD 0 + p, period := p, threshold := hi + lo } }) ∧
        (¬ok → t.wake.br sd = b) ∧ s.keeps [.wake] t) ∧
    (s.wake.armed = true → ∃ t, exec .branchConfigChange s = .next t ∧ t.wake.det = s.detector ∧
      (s.wake.det ≠ s.detector → (t.wake.br sd).disc = 0) ∧
      (b.st ≠ .retired → s.branchUsed sd = false → (t.wake.br sd).st = .off) ∧
      (b.st ≠ .retired → s.branchUsed sd = true → (b.st = .off ∨ b.det ≠ s.detector) →
        (t.wake.br sd).st = .settling ∧ (t.wake.br sd).det = s.detector ∧
        (t.wake.br sd).settleAt = settleEnd s.now s.detector) ∧ s.keeps [.wake] t) ∧
    (∀ r, s.wake.queue.filter (fun r => r.isOpen && decide (r.closeAt ≤ s.wclk)) = [r] →
      exec .discrepancyWindowClose s = .next (s.closeRecord r)) ∧
    (∀ (cls : Nat), s.ccOn = true → dueSweep s.time.slotAt s.wake.sweeps = some cls →
      exec .sweepStart s = .next (s.sweepDue cls) ∧
      (s.work.round = none → s.work.rounds = [] → (s.sweepDue cls).wake.sweeping = some (cls, false) ∧
        (s.sweepDue cls).wake.sweeps = assocDel cls s.wake.sweeps ∧ (s.sweepDue cls).wake.queue = s.wake.queue))

/-! ## The radio -/

/-- A transition of the radio ends at its time and the next begins; a frame ends when its preamble, SFD, PHR and octets have
gone out; the die temperature is read in ACTIVE and LOFT and corrects both synthesisers; the idle synthesiser goes off; the
power loop stays within 3 dB below and 1.5 dB above its calibrated drive and moves by 1 dB at most; an aerial's exclusion
ends (R177, R179, R188, R196, R197, R202, R242, R253). -/
def Obligations.RadioEvents : Prop :=
  ∀ s : State,
    (∀ (temp : Int) (x : Trans), s.radio.trans = some x → x.at_ ≤ s.now → x.tune = none → x.dest = .standby →
      exec (.radioTransitionDone temp) s = .next ((s.onRadio (fun r => { r with trans := none })).reach .standby)) ∧
    (∀ (temp : Int) (x : Trans) (b : Band) (khz : Nat), s.radio.trans = some x → x.at_ ≤ s.now → x.tune = some (b, khz) →
      let u := (s.onRadio (fun r => { r with trans := none })).tuned b khz temp
      exec (.radioTransitionDone temp) s =
        .next ((if s.radio.st = .standby ∧ x.dest = .synth then u.readTemp temp else u).reach x.dest)) ∧
    (∀ (temp : Int) (x : Trans), s.radio.trans = some x → s.now < x.at_ → exec (.radioTransitionDone temp) s = .next s) ∧
    (∀ tx : Tx, s.radio.tx = some tx → tx.kind ≠ .burst → s.radio.paFrom + us 4 + tx.frameTicks ≤ s.now →
      ∃ t, exec .txEndOfFrame s = .next t ∧ t.radio.tx = none ∧ t.radio.paOn = false ∧
        (t.radio.trans.map Trans.dest) = some (if tx.kind = .call then .rx else .synth) ∧
        portValue .airTx t.tally.bwBytes = portValue .airTx s.tally.bwBytes + tx.octets) ∧
    (∀ temp : Int, s.running = true → (s.pm.power = .active ∨ s.pm.power = .loft) →
      ∃ t, exec (.dieTemperatureReading temp) s = .next t ∧ t.radio.temp = temp ∧ t.radio.synthCorr = Config.xoModel temp ∧
        (s.radio.st = .sleep → t.radio.subCal = s.radio.subCal ∧ t.radio.g24Cal = s.radio.g24Cal) ∧
        t.time.rate = s.time.rate + (Config.xoModel temp - Config.xoModel s.time.xoTemp) ∧ t.time.xoTemp = temp ∧
        s.keeps [.radio, .time, .params] t) ∧
    (s.radio.idleHeld = true → s.otherBandSoon = false → ∃ t, exec .idleSynthOff s = .next t ∧
      t.radio = { s.radio with idleHeld := false } ∧ s.keeps [.radio] t) ∧
    (∀ (forward : Int) (tx : Tx), s.radio.tx = some tx → s.loopDue tx = true →
      ∃ t, exec (.paLoopCorrection forward) s = .next t ∧ s.radio.drive0 - 12 ≤ t.radio.drive ∧
        t.radio.drive ≤ s.radio.drive0 + 6 ∧ t.radio.loopNext = s.radio.loopNext + us 64 ∧
        (s.radio.drive0 - 12 ≤ s.radio.drive → s.radio.drive ≤ s.radio.drive0 + 6 →
          (t.radio.drive - s.radio.drive).natAbs ≤ 4) ∧ s.keeps [.radio, .tally] t) ∧
    (∀ sd : Side, ∃ t, exec (.aerialRestEnd sd) s = .next t ∧
      (∀ t0, (match sd with | .a => s.radio.exclA | .b => s.radio.exclB) = some t0 → t0 ≤ s.now →
        (match sd with | .a => t.radio.exclA | .b => t.radio.exclB) = none) ∧
      (match sd with | .a => t.radio.exclB = s.radio.exclB | .b => t.radio.exclA = s.radio.exclA) ∧ s.keeps [.radio] t)

/-- Calibration: a command queues it for a slot boundary, of all kinds and both bands where it names none, and is not answered
yet; a gap of 400 µs takes the most recently used stale group of a due band; the boundary of the first slot 2 s after the
trigger takes what fits, and the slot with it, whatever is on the air; at the end of a calibration its groups are fresh, and
after a gap's the radio locks again (R180, R186, R189 to R192). -/
def Obligations.Calibrations : Prop :=
  (∀ (h : Hdr) (k : Option CalKind) (b : Option BandSel) (s : State), s.judgesAtOnce h → (s.heard h).allowed .operator = true →
    let u := s.heard h
    ∃ t, exec (.doRadioCal h k b) s = .next t ∧ (h.addr ≠ some 0 → t.line.tx = []) ∧
      t.radio = { u.radio with calAsked := u.radio.calAsked ++ [(.command h, k.getD .all, b.getD .both)] } ∧
      u.keeps [.line, .radio, .store, .params] t) ∧
  (∀ (b : Band) (gap : Ticks) (g : Nat) (l : List Nat) (s : State), s.calFree = true → (s.radio.cal' b).due ≠ none →
    us 400 ≤ gap → s.staleInUse b = g :: l → ∃ t c, exec (.gapCalibration b gap) s = .next t ∧ t.radio.st = .cal ∧
      t.radio.cal = some c ∧ c.why = .gap ∧ c.groups = [(b, g)] ∧ c.endAt = s.now + us 262) ∧
  (∀ s : State, s.atBoundary = true → s.radio.cal = none → s.overdueGroups.take s.groupsThatFit ≠ [] →
    let t := s.startCal .slot .osc .both (s.overdueGroups.take s.groupsThatFit)
    exec .calibrationDeadline s = .next t.takenSlot ∧ t.radio.tx = none ∧ t.radio.next = none ∧ t.radio.st = .cal ∧
      t.takenSlot.radio.taken = some s.time.slot ∧ t.takenSlot.sched.active = []) ∧
  (∀ (c : CalRun) (temp : Int) (out : List Side) (s : State), s.radio.cal = some c → c.endAt ≤ s.now →
    (c.why = .gap → ∃ t, exec (.calibrationComplete temp out) s = .next t ∧ t.radio.cal = none ∧
      (∀ b g, (b, g) ∈ c.groups → g ∉ (t.radio.cal' b).stale) ∧
      t.radio.trans = some { dest := .synth, at_ := s.now + us 60, tune := none } ∧ s.keeps [.radio, .tally] t) ∧
    (∀ h, c.why = .command h → c.kind = .osc → ∃ t, exec (.calibrationComplete temp out) s = .next t ∧ t.radio.cal = none ∧
      (∀ b g, (b, g) ∈ c.groups → g ∉ (t.radio.cal' b).stale ∧ (t.radio.cal' b).due = none ∧ (t.radio.cal' b).tcal = temp) ∧
      t.rx = s.rx))

/-- Coexistence: COEX_REQ rises for the scheduled transmission whose T_air is the lead ahead, else for one that waits,
with the pattern of its priority, low from 10 to 20 µs at low priority. The grant's sample 30 µs before T_air grants it or
not; an unscheduled one that waits goes ahead at the rise of COEX_GNT with its T_air 30 µs on. A loss of the grant
abandons what is on its way, and the request falls 5 µs later; starvation is a fault (R206 to R211). A scheduled
transmission takes the radio at its turn: on a free radio it cuts the unscheduled frame on the air, calls back the one on
its way, stops a gap's calibration and puts the one that waits back; on wires without its grant, or against a claim that
ranks no lower, it is skipped and counted (R180, R208, R209). A frame goes on the air at the end of the PA's ramp on the
aerial that is free now, with the preamble, SFD and PHR that the PHY's settings give; while transmission is barred none
starts (R34, R196, R203, R204, R242 to R247, R400). -/
def Obligations.Coexistence : Prop :=
  (∀ s : State,
     (∀ w, let u := s.fire .coexRequest
       let air := s.now + us (u.pnat Obj.coexLead)
       u.claims.find? (fun c => c.air == air && u.coexOn c.band) = none → s.radio.coexWait = some w → s.radio.coexReq = false →
       ∃ t, exec .coexRequest s = .next t ∧
         t.radio = { s.radio with
           coexReq := true, coexAt := s.now, coexHi := u.txHigh w, coexAir := air, ahead := none, granted := false,
           coexOff := none } ∧
         s.keeps [.radio, .params] t) ∧
     (∀ c, let u := s.fire .coexRequest
       let air := s.now + us (u.pnat Obj.coexLead)
       u.claims.find? (fun c => c.air == air && u.coexOn c.band) = some c → u.mayClaim c = true →
       exec .coexRequest s = .next (u.claimRequest c) ∧ (u.claimRequest c).radio.ahead = some c ∧
         (u.claimRequest c).radio.coexAir = c.air ∧
         (u.coexOwned = false → (u.claimRequest c).radio.coexReq = true ∧
           (u.claimRequest c).radio.coexHi = (c.high || u.claimFree c))) ∧
     (s.radio.coexReq = true → (s.radio.coexHi = true → s.coexPin = true) ∧
       (s.radio.coexHi = false → (s.coexPin = false ↔ s.radio.coexAt + us 10 ≤ s.now ∧ s.now < s.radio.coexAt + us 20))) ∧
     (∀ w, s.radio.ahead = none → s.radio.coexWait = some w → s.sampleDue = true → s.coexFree w = false →
       exec (.coexGrantSample true) s = .next (s.coexHigh.coexGo true w) ∧
       exec .coexGrantRise s = .next (s.coexHigh.coexGo true w) ∧
       (∃ t, exec (.coexGrantSample false) s = .next t ∧ t.radio = { s.radio with coexLow := true } ∧ s.keeps [.radio] t) ∧
       (let u := s.coexHigh
        u.anyPayload = false → u.txBarred = false → u.calSlot = false → s.radio.tx = none → s.radio.next = none →
        s.radio.cal = none → (u.coexGo true w).radio.coexWait = none ∧ (u.coexGo true w).radio.granted = true ∧
          (u.coexGo true w).radio.next = some { w with air := max s.radio.coexAir (s.now + us 30) })) ∧
     (∀ c, s.radio.ahead = some c → s.sampleDue = true → s.claimFree c = false → c.lost = false →
       (s.radio.granted && s.coexOwned) = false → s.now < c.air →
       exec (.coexGrantSample true) s = .next (s.coexHigh.onRadio (fun r => { r with granted := true })) ∧
       ∃ t, exec (.coexGrantSample false) s = .next t ∧ t.radio = { s.radio with coexLow := true } ∧ s.keeps [.radio] t) ∧
     (∃ t, exec .coexGrantLoss s = .next t ∧ t.time = s.time ∧ t.image = s.image ∧
       (s.radio.granted = false → t.radio = { s.radio with coexLow := true } ∧ s.keeps [.radio] t) ∧
       (s.radio.granted = true → s.radio.tx = none →
         (∀ tx, s.radio.next = some tx → tx.kind = .beacon → s.radio.yielded = none →
           t.radio.next = none ∧ t.radio.granted = false ∧ t.radio.coexOff = some (s.now + us 5)) ∧
         (∀ c, s.radio.next = none → s.radio.ahead = some c →
           t.radio = { s.radio with coexLow := true, granted := false, ahead := some { c with lost := true } } ∧
           s.keeps [.radio, .tally] t))) ∧
     (s.radio.coexFault = false → secs ((s.fire .coexTimer).pnat Obj.coexStarve) ≤ s.radio.starved →
       s.radio.coexWait = none → ∃ t, exec .coexStarvation s = .next t ∧ t.radio.coexFault = true ∧
         s.keeps [.radio, .params, .line, .mon, .pm, .tally] t)) ∧
  (∀ (b : Band) (path : Ticks) (s : State),
    let u := s.fire .transmission
    (u.coexOn b = false → u.airHeld = true → s.takeAir b path = (.busy, u)) ∧
    (u.coexOn b = false → u.airHeld = false → s.takeAir b path = (.go, u.clearAir)) ∧
    (u.coexOn b = true → u.txBarred = false → u.airHeld = true → (s.takeAir b path).1 = .denied ∧
      (s.takeAir b path).2.tally = (u.count .rfe "coex.deny").tally) ∧
    (u.coexOn b = true → u.airHeld = false → u.radio.ahead = none → (s.takeAir b path).1 = .denied ∧
      (s.takeAir b path).2.radio = u.radio) ∧
    (∀ c, u.coexOn b = true → u.airHeld = false → u.radio.ahead = some c → c.band = b → c.air ≤ s.now + path →
      c.lost = false → u.radio.granted = true → (s.takeAir b path).1 = .go ∧ (s.takeAir b path).2.radio.granted = true)) ∧
  (∀ s : State, s.clearAir.radio.tx = none ∧ s.clearAir.radio.next = none ∧ s.clearAir.radio.cal = none ∧
    s.clearAir.radio.coexWait = none ∧
    (∀ w, s.radio.tx = none → s.radio.next = none → s.radio.coexWait = some w → s.clearAir.radio.yielded = some w)) ∧
  (∀ (tx : Tx) (s : State),
    let u := (s.fire .transmission).fire .frame
    (tx.kind ≠ .burst → u.pgInput 1 = false → ∃ h, (s.startTx tx).radio.tx = some h ∧
      h = { tx with aerial := h.aerial, head := h.head } ∧
      (∀ sd : Side, u.aerialFree sd ≠ .never → u.aerialFree h.aerial ≠ .never) ∧
      h.head.map AirHead.sfd = some (if u.pnat Obj.phySfd = 1 then 0x7A0E else 0x904E) ∧
      h.head.map AirHead.preamble = some (if tx.kind = .call then 4 else u.pnat Obj.phyPreamble) ∧
      h.head.map AirHead.phr =
        some { modeSwitch := false, fcs16 := false, whiten := u.pint Obj.phyWhiten == 1, length := tx.octets } ∧
      (s.startTx tx).radio.paOn = true ∧ (s.startTx tx).radio.paFrom = s.now - us 4 ∧ (s.startTx tx).radio.st = .tx ∧
      (s.startTx tx).radio.next = none) ∧
    (s.txBarred = true → s.radio.next = some tx → s.beginTx.radio.tx = s.radio.tx ∧ s.beginTx.radio.paOn = s.radio.paOn ∧
      (tx.scheduled = false → s.beginTx.radio.yielded = some tx ∧ s.beginTx.radio.next = none)))

/-! ## Reception -/

/-- The gain of a chain follows its windows and steps down by 4 when its samples clip, each lane in a payload on it then
bearing the gain flag; a lane chooses a chain at its preamble by the symbols that were wholly valid, begins its payload at
the SFD of `phy.sfd` for the octets its PHR gives and abandons at the PHR's end a frame whose PHR is bad; it is retuned
within the plan and the span to a channel no other lane holds, and rests when its engine faults (R224, R225, R228 to R235,
R240, R243, R245, R488). A chain applies the DC offset stored for itself, its band and its gain step when its gain
changes; what is left of it lies within 0.5 % of full scale, and goes by 1/128,000 of itself in each cycle of CCLK while
the chain receives, but stands still while a lane of the chain receives a payload (R194; the stored offsets and what is
left are free values, log 130). -/
def Obligations.GainAndLanes : Prop :=
  (∀ (sd : Side) (n : Fin 16) (s : State),
     (∀ peak : Int, (s.rx.chain sd).on = true → s.radio.st = .rx → ∃ t, exec (.agcWindowEnd sd peak) s = .next t ∧
       let quiet := if peak < -96 then min 40 ((s.rx.chain sd).quiet + 1) else 0
       let want := wantStep (s.rx.chain sd).step quiet peak
       (t.rx.chain sd).quiet = quiet ∧
       (t.rx.chain sd).step = (if s.chainPayload sd then (s.rx.chain sd).step else want) ∧
       (want ≠ (s.rx.chain sd).step → s.chainPayload sd = true → (t.rx.chain sd).want = some want) ∧
       s.keeps [.rx, .tally] t) ∧
     ((s.rx.chain sd).on = true → s.radio.st = .rx → ∃ t, exec (.forcedAgcStep sd) s = .next t ∧
       (t.rx.chain sd).step = (s.rx.chain sd).step - 4 ∧
       (s.receiving s.rx.lanes[n] = true → s.rx.lanes[n].chain = sd → t.rx.lanes[n].gain = true) ∧
       s.keeps [.rx, .tally] t) ∧
     (∀ (first : Side) (qa qb rssiA rssiB : Int), s.radio.st = .rx → (s.rx.chain first).on = true →
       s.rx.lanes[n].bound = true → s.rx.lanes[n].holder ≠ .capture → s.receiving s.rx.lanes[n] = false →
       ∃ t best, exec (.preambleDeclared n first qa qb rssiA rssiB) s = .next t ∧ t.rx.lanes[n].pre = true ∧
         best = (s.laneNames n).map (fun e => if e.bestB then Side.b else Side.a) ∧
         (t.rx.lanes[n].chain, t.rx.lanes[n].held) =
           chooseChain (s.rx.chain .a).on (s.rx.chain .b).on qa qb (s.validSymbols n .a) (s.validSymbols n .b) best ∧
         t.rx.lanes[n].rssi = (if s.validSymbols n t.rx.lanes[n].chain = 0 then -128
           else clampRssi (match t.rx.lanes[n].chain with | .a => rssiA | .b => rssiB)) ∧
         (∀ m, m ≠ n → t.rx.lanes[m] = s.rx.lanes[m]) ∧ s.keeps [.rx, .tally] t) ∧
     (∀ (sfd : Nat) (phr : PhrBits) (len : Nat), s.rx.lanes[n].pre = true → s.rx.lanes[n].payload = false →
       (sfd ≠ s.sfdWord → exec (.sfdFound n sfd phr len) s = .next s) ∧
       (sfd = s.sfdWord → Lane.hears (s.now - s.rxDelay n s.rx.lanes[n].chain) s.rx.lanes[n] = true →
         ∃ t, exec (.sfdFound n sfd phr len) s = .next t ∧
           (∀ m, m ≠ n → t.rx.lanes[m] = s.rx.lanes[m]) ∧ t.rx.lanes[n].payload = true ∧ t.rx.lanes[n].whiten = phr.whiten ∧
           t.rx.lanes[n].sfdStep = (s.rx.chain s.rx.lanes[n].chain).step ∧
           t.rx.lanes[n].sfdAt = s.now - s.rxDelay n s.rx.lanes[n].chain ∧ s.keeps [.rx] t ∧
           (phr.modeSwitch = false → phr.fcs16 = false → 5 ≤ len → len ≤ 127 → t.rx.lanes[n].badPhr = false ∧
             t.rx.lanes[n].payloadEnd = s.now + airTicks s.rx.lanes[n].rate (2 + len)) ∧
           ((phr.modeSwitch = true ∨ phr.fcs16 = true ∨ len < 5 ∨ 127 < len) → t.rx.lanes[n].badPhr = true ∧
             t.rx.lanes[n].payloadEnd = s.now + airTicks s.rx.lanes[n].rate 2))) ∧
     (s.rx.lanes[n].payload = true → s.rx.lanes[n].badPhr = true → s.rx.lanes[n].payloadEnd ≤ s.now →
       s.rx.lanes[n].retune = none → s.laneTick n = (s.onLane n Lane.idle).count .lanes "phy.phr.bad") ∧
     (∀ ch rate : Nat, s.rx.lanes[n].bound = true → s.rx.lanes[n].holder ≠ .capture → s.rx.lanes[n].retune = none →
       let ok := planHas s.part.variant rate ch && s.covers s.rx.band s.rx.centre rate ch && (s.chanHolder n rate ch).isNone
       (ok = true →
         exec (.laneRetune n ch rate) s = .next (s.bind n s.rx.lanes[n].holder ch rate s.rx.lanes[n].program) ∧
         (s.receiving s.rx.lanes[n] = false →
           (s.bind n s.rx.lanes[n].holder ch rate s.rx.lanes[n].program).rx.lanes[n].chan = ch ∧
           (s.bind n s.rx.lanes[n].holder ch rate s.rx.lanes[n].program).rx.lanes[n].rate = rate)) ∧
       (ok = false → exec (.laneRetune n ch rate) s = .next s)) ∧
     ((s.res { kind := .lane, num := n.val }).retired = false → (s.res { kind := .lane, num := n.val }).resting = false →
       (∀ f ∈ s.work.table, f.lane ≠ some n) → s.rx.lanes[n].holder ≠ .capture →
       s.faultsInWindow { kind := .lane, num := n.val } < 4 → ∃ t, exec (.laneEngineFault n) s = .next t ∧
         (t.res { kind := .lane, num := n.val }).resting = true ∧
         (t.res { kind := .lane, num := n.val }).rests = (s.res { kind := .lane, num := n.val }).rests + 1 ∧
         t.rx.lanes[n].holder = .none)) ∧
  (∀ (sd : Side) (s : State),
     (∀ n : Nat, let t := s.setStep sd n
       (t.rx.chain sd).step = n ∧ (t.rx.chain sd).want = none ∧
       (t.rx.chain sd).dc = Config.dcOffset ((s.rx.chain sd).dcTable s.radio.band) sd s.radio.band n ∧
       200 * (t.rx.chain sd).residue.natAbs ≤ 2 ^ 40 ∧ t.rx.chain (Side.other sd) = s.rx.chain (Side.other sd) ∧
       t.rx.lanes = s.rx.lanes ∧ s.keeps [.rx] t) ∧
     (∀ peak : Int, (s.rx.chain sd).on = true → s.radio.st = .rx → s.chainPayload sd = false → -24 < peak →
       ∃ t, exec (.agcWindowEnd sd peak) s = .next t ∧ (wantStep (s.rx.chain sd).step 0 peak ≠ (s.rx.chain sd).step →
         (t.rx.chain sd).dc = Config.dcOffset ((s.rx.chain sd).dcTable s.radio.band) sd s.radio.band (t.rx.chain sd).step)) ∧
     ((s.rx.chain sd).on = true → s.radio.st = .rx → ∃ t, exec (.forcedAgcStep sd) s = .next t ∧
       (t.rx.chain sd).dc =
         Config.dcOffset ((s.rx.chain sd).dcTable s.radio.band) sd s.radio.band ((s.rx.chain sd).step - 4)) ∧
     ((s.rx.chain sd).on = true → s.radio.st = .rx → s.chainPayload sd = false →
       ((s.dcLoop sd).rx.chain sd).residue = (s.rx.chain sd).residue - (s.rx.chain sd).residue / 128000 ∧
       s.keeps [.rx] (s.dcLoop sd)) ∧
     (s.chainPayload sd = true → s.dcLoop sd = s))

/-- A capture takes the highest lane that is not bound, ends with its words in the form of the rule, can be read in lines of
8 words while it is held and not otherwise, and is dropped by command or 600 s after its end. A backbone output of the 2.4
GHz span is captured at 1 Mb/s and at no other rate, every other channel at the rates below it (R248 to R251). -/
def Obligations.Captures : Prop :=
  (∀ (h : Hdr) (s : State), s.judgesAtOnce h →
    let u := s.heard h
    u.allowed .operator = true →
    (∀ (src : CapSrc) (at_ : Option Int) (count rate : Option Int) (l : Fin 16),
      (∀ p, src = .chan p → inRange 0 39 p = true) → (∀ a, at_ = some a → inRange 0 (2 ^ 40 - 1) a = true) →
      inRange 1 8192 (argOr 8192 count) = true → capRateOk u.rx.band src rate = true →
      u.dropCapture.captureLane (at_.map Int.toNat) = some l →
      ∃ t c, exec (.doRxCapture h src at_ count rate) s = .next t ∧ (h.addr ≠ some 0 → t.line.tx = [.bare]) ∧
        t.rx.capture = some c ∧ c.lane = l ∧ c.src = src ∧ c.count = (argOr 8192 count).toNat ∧ c.words = [] ∧
        (at_ = none → c.started = true ∧ c.startAt = gridUp (c.rate.getD 0) u.now ∧ t.rx.lanes[l].holder = .capture) ∧
        (∀ a, at_ = some a → c.started = false ∧ c.slot = some a.toNat) ∧
        u.keeps [.line, .rx, .radio, .tally, .store, .params] t) ∧
    (∃ t, exec (.doRxCaptureDrop h) s = .next t ∧ (h.addr ≠ some 0 → t.line.tx = [.bare]) ∧ t.rx.capture = none ∧
      t.rx.buf = u.rx.buf ∧ t.wake = u.wake ∧ t.roster = u.roster)) ∧
  (∀ (p r : Int), (inRange 0 1 p = true → (capRateOk .g24 (.chan p) (some r) = true ↔ r = 1000)) ∧
    (capRateOk .sub (.chan p) (some r) = true ↔ r = 50 ∨ r = 100 ∨ r = 200)) ∧
  (∀ (h : Hdr) (s : State), s.judges h →
    let u := s.heard h
    u.allowed .operator = true →
    (∀ (o n : Option Int) (c : Capture), inRange 0 8191 (argOr 0 o) = true → inRange 1 512 (argOr 512 n) = true →
      u.rx.capture = some c → c.ended ≠ none → exec (.doRxCaptureRead h o n) s = .next (u.reply h
        (.capHead c.src (captureHz c) c.words.length c.stepA c.stepB c.startT
          :: wordLines 64 (argOr 0 o).toNat ((c.words.drop (argOr 0 o).toNat).take (argOr 512 n).toNat) ++ [.dot]))) ∧
    (∀ o n : Option Int, inRange 0 8191 (argOr 0 o) = true → inRange 1 512 (argOr 512 n) = true →
      u.rx.capture.bind Capture.ended = none →
      exec (.doRxCaptureRead h o n) s = .next (u.refuse h .do_ .state 0 (some 518)))) ∧
  (∀ (h : Hdr) (o n : Option Int) (s : State), s.takes h → (s.heard h).allowed .operator = false →
    ∃ t, exec (.doRxCaptureRead h o n) s = .next t ∧ t.line.tx = [.err .priv]) ∧
  (∀ (words : List (BitVec 32)) (c : Capture) (s : State), s.rx.capture = some c → c.started = true → c.ended = none →
    (c.inSpan = true → c.startAt + captureTicks c ≤ s.now) → ∃ t d, exec (.captureEnd words) s = .next t ∧
      t.rx.capture = some d ∧ d.ended = some s.now ∧ (c.inSpan = false → d.words = []) ∧
      (c.inSpan = true → d.words.length = min c.count words.length ∧
        ∀ i w, i < c.count → words[i]? = some w → d.words[i]? = some (s.wordAt c i w)) ∧
      t.rx.lanes = s.rx.lanes ∧ s.keeps [.rx, .line, .params, .mon, .pm, .tally] t) ∧
  (∀ (mask valid : Bool) (step : Nat) (sd : Side) (first : Bool) (w : BitVec 32),
    let v := captureWord mask valid step sd first w
    (mask = true → v &&& 0xFFFFFF = w &&& 0xFFFFFF) ∧ (mask = false → v &&& 0x1FFFFFF = 0) ∧
    v.getLsbD 24 = (mask && valid) ∧ v.getLsbD 25 = decide (sd = .b) ∧ v.getLsbD 31 = first ∧
    (v >>> 26) &&& 15 = BitVec.ofNat 32 (step % 16)) ∧
  (∀ (t0 : Ticks) (s : State), s.rx.capture.bind Capture.ended = some t0 → t0 + secs 600 ≤ s.now →
    exec .captureHoldExpiry s = .next s.dropCapture)

/-! ## Time, schedule, rounds -/

/-- `DO time.now` reports local time, slot and offset; `DO time.set` in UNSYNCED, CANDIDATE and ROOT and `DO time.counter`
wait for the next slot boundary and are audited at once as action 8, and a set in MEMBER or HOLDOVER is a `!STATE`; the
boundary makes them true. Measurements replace the sleep clock's correction, readings of its temperature move it by the
model's difference, and every 60 s the time is saved (R254, R258, R263 to R265, R531). -/
def Obligations.TimeAndClocks : Prop :=
  (∀ (h : Hdr) (s : State), s.judges h →
    let u := s.heard h
    (u.allowed .operator = true → exec (.doTimeNow h) s = .next (u.reply h
      [.timeNow u.stamp u.slotNow u.slotOffset u.time.counterMode (if u.net.started then some u.net.st else none)]))) ∧
  (∀ (h : Hdr) (s : State), s.judgesAtOnce h →
    let u := s.heard h
    (∀ sec ns : Int, u.allowed .custodian = true → 0 ≤ sec → sec < 2 ^ 48 → 0 ≤ ns → ns < 1000000000 →
      (u.net.st ≠ .member → u.net.st ≠ .holdover → exec (.doTimeSet h sec ns) s = .next (s.didAs h
        (if u.time.counterMode then ⟨8, 864, .num 1, .num 0⟩
          else ⟨8, 865, .num 0, .num (sec * 1000000000 + ns - u.readingNs)⟩) [.timeSet sec.toNat ns.toNat]
        (u.onTime (fun t => { t with ask := some (.set sec.toNat ns.toNat) })))) ∧
      ((u.net.st = .member ∨ u.net.st = .holdover) → ∃ t, exec (.doTimeSet h sec ns) s = .next t ∧
        (h.addr ≠ some 0 → t.line.tx = [.err .state]) ∧ u.keeps [.line, .store, .params, .tally] t)) ∧
    (u.allowed .custodian = true → exec (.doTimeCounter h) s = .next (s.didAs h
      ⟨8, 864, .num (if u.time.counterMode then 1 else 0), .num 1⟩ [.word "counter"]
      (u.onTime (fun t => { t with ask := some .counter }))))) ∧
  (∀ s : State, s.time.fold = none → s.time.step = none →
    let t := s.applyTime.2
    (∀ sec ns : Nat, s.time.ask = some (.set sec ns) →
      t.time.counterMode = false ∧ t.readingNs = sec * 1000000000 + ns ∧ t.time.ask = none) ∧
    (s.time.ask = some .counter → t.time.counterMode = true ∧ t.readingQ = s.readingQ ∧ t.time.ask = none)) ∧
  (∀ (s : State) (x : Int),
    (s.xoOn = true → exec (.sleepClockMeasure x) s =
      .next (s.onTime (fun t => { t with sleepCorr := x * 2 ^ 32 / 4000000 }))) ∧
    (s.running = true → (s.pm.power = .larder ∨ s.pm.power = .cellar) → s.xoOn = false →
      ∃ t, exec (.sleepClockTempRead x) s = .next t ∧ t.time = { s.time with sleepComp := Config.sleepModel x } ∧
        t.radio = { s.radio with temp := x } ∧ s.keeps [.time, .radio] t) ∧
    (s.running = true → s.time.counterMode = false → s.time.savedAt + secs 60 ≤ s.now →
      ∃ t, exec .timeSave s = .next t ∧ t.time = { s.time with saved := some s.readingQ, savedAt := s.now } ∧
        t.pm = { s.pm with savedTicks := s.pm.ticks, savedEntries := s.pm.entries } ∧ s.keeps [.time, .pm] t))

/-- The schedule is changed by commands at the first boundary 1 ms or more after their replies, and listed as it is in
force; a length that leaves a cell outside its slotframe is an `!STATE` (R271, R272, R276).
A cell that comes due starts its action, once: within a burst it is skipped, whatever its kind; a conversion runs whatever
else the radio does; the others are skipped and counted when their handle is stale and within a round; else a lane is bound
to the cell, behind the payload that it receives, unless a holder of higher rank has the lane or the channel (R119, R224,
R225, R273, R298, R299, R310, R351). -/
def Obligations.ScheduleAndCells : Prop :=
  ((∀ (h : Hdr) (s : State), s.judgesAtOnce h → (s.heard h).allowed .operator = true →
    let a := s.acting h
    (∀ f n : Int, 0 ≤ f → f ≤ 7 → 0 ≤ n → n ≤ 65535 →
      (∀ x ∈ a.schedNext.cells, x.2.frame = f.toNat → (x.2.slot : Int) < n) →
      exec (.doSchedFrame h f n) s = .next (s.did h 520 [.bare] (a.schedAsk (.frame f.toNat n.toNat)))) ∧
    (∀ f n : Int, 0 ≤ f → f ≤ 7 → 0 ≤ n → n ≤ 65535 →
      (∃ x ∈ a.schedNext.cells, x.2.frame = f.toNat ∧ n ≤ (x.2.slot : Int)) → ∃ t, exec (.doSchedFrame h f n) s = .next t ∧
        (h.addr ≠ some 0 → t.line.tx = [.err .state]) ∧ a.keeps [.line, .store, .params, .tally] t) ∧
    (∀ (i : Int) (args : CellArgs) (c : Cell), 0 ≤ i → i ≤ 511 → a.cellOf args = some c → c.args = args ∧
      exec (.doSchedCell h i args) s = .next (s.did h 521 [.bare] (a.schedAsk (.cell i.toNat c)))) ∧
    (∀ i : Int, 0 ≤ i → i ≤ 511 →
      exec (.doSchedDrop h i) s = .next (s.did h 522 [.bare] (a.schedAsk (.drop i.toNat))))) ∧
  (∀ (h : Hdr) (s : State), s.judges h → (s.heard h).allowed .operator = true →
    let u := s.heard h
    (∀ f : Option Int, (∀ k, f = some k → 0 ≤ k ∧ k ≤ 7) → ∃ l : List (Nat × Cell),
      exec (.doSchedList h f) s = .next (u.reply h (l.map (fun x => OutLine.cell x.1 x.2.args) ++ [.dot])) ∧
      (∀ x, x ∈ l ↔ x ∈ u.sched.cells ∧ ∀ k, f = some k → (x.2.frame : Int) = k) ∧
      l.Pairwise (fun x y => x.1 ≤ y.1))) ∧
  (∀ s : State, s.ccOn = true → s.slotNow ≠ s.time.slot → s.net.started = true →
    let w := (s.fire .nextSlot).applyTime.2
    ∃ t, exec .slotBoundary s = .next t ∧
      t.time = { w.time with slot := w.slotNow, slotAt := w.now - w.slotOffset * cclkTicks } ∧ t.sched.run = [] ∧
      t.sched.changes = s.sched.changes.filter (fun x => !decide (x.1 + ms 1 ≤ t.time.slotAt)) ∧
      (let k := (s.sched.changes.filter (fun x => decide (x.1 + ms 1 ≤ t.time.slotAt))).foldl
          (fun k x => x.2.apply k) s.sched
       t.sched.frames = k.frames ∧ t.sched.cells = k.cells) ∧ t.image = s.image)) ∧
  (∀ (i : Nat) (code : BitVec 10) (c : Cell) (ch : Nat) (s : State), s.dueCell i = some (c, ch) →
    let w := s.onSched (fun k => { k with active := assocDel i k.active })
    (s.inBurst = true → exec (.cellStart i code) s = .next (w.count .sched "sched.burst.skip")) ∧
    (s.inBurst = false → c.kind = .conv → exec (.cellStart i code) s = .next (w.conv (Fin.ofNat 8 c.arg) code.toNat)) ∧
    (s.inBurst = false → c.kind ≠ .conv → s.cellStale c = true →
      exec (.cellStart i code) s = .next (w.count .cc "roster.stale")) ∧
    (s.inBurst = false → c.kind ≠ .conv → s.cellStale c = false → s.roundRuns = true →
      exec (.cellStart i code) s = .next (w.count .sched "round.skip")) ∧
    (s.inBurst = false → s.cellStale c = false → s.roundRuns = false →
      (c.kind = .round → exec (.cellStart i code) s = .next (w.roundCell c)) ∧
      let n : Fin 16 := Fin.ofNat 16 c.lane
      let free := s.cellLane n && !(c.onChannel && s.chanBusy c ch)
      (free = false → (c.kind = .lane ∨ c.kind = .tx ∨ c.kind = .capt) →
        exec (.cellStart i code) s = .next (w.count .lanes "lane.skip")) ∧
      (free = true → (∀ id, s.rx.lanes[n].holder ≠ .called id) → s.chanHolder n (s.cellRate c.rate) ch = none →
        (c.kind = .lane → c.arg ≠ 1 → c.arg ≠ 4 → ∃ t, exec (.cellStart i code) s = .next t ∧
          t.rx.lanes[n].holder = .cell i ∧ t.rx.lanes[n].program = c.arg ∧
          (s.receiving s.rx.lanes[n] = false → t.rx.lanes[n].chan = ch ∧ t.rx.lanes[n].rate = s.cellRate c.rate) ∧
          (s.receiving s.rx.lanes[n] = true → (s.rx.lanes[n].chan ≠ ch ∨ s.rx.lanes[n].rate ≠ s.cellRate c.rate) →
            t.rx.lanes[n].retune = some (ch, s.cellRate c.rate) ∧ t.rx.lanes[n].late = true) ∧
          t.sched.active = assocDel i s.sched.active ∧ t.sched.run = s.sched.run ++ [(i, ch)] ∧
          s.keeps [.sched, .rx, .radio, .tally] t) ∧
        (c.kind = .tx → ∃ t, exec (.cellStart i code) s = .next t ∧
          t.rx.lanes[n].holder = .cell i ∧ t.rx.lanes[n].program = 3 ∧
          t.sched.run = s.sched.run ++ [(i, ch)] ∧
          (∀ f ∈ s.work.table, f.st = .backoff → f.called = false → f.kind ≠ .push → f.skips = 0 →
            (c.handle = some f.handle ∨ c.handle = none) → { f with st := .ready } ∈ t.work.table) ∧
          s.keeps [.sched, .rx, .radio, .tally, .work] t)) ∧
      (free = true → c.kind = .capt → ∃ t d, exec (.cellStart i code) s = .next t ∧ t.rx.capture = some d ∧ d.lane = n ∧
        d.started = true ∧ d.count = c.n ∧ t.rx.lanes[n].holder = .capture ∧ s.keeps [.sched, .rx, .radio, .tally] t)))

/-- A round is asked for, waits among at most 8 or is turned away; it opens at the first boundary after its burst; its
sub-slots follow each other, empty and collided cells move Qf; it stops, pauses for a last chance, and ends, the next
waiting round in its place (R307 to R317). -/
def Obligations.RoundsRun : Prop :=
  (∀ (h : Hdr) (s : State), s.judgesAtOnce h → (s.heard h).allowed .operator = true →
    let a := s.acting h
    (∀ (code : Int) (r : Option Int), (a.isGroup code = true ∨ code = 8191) → 0 ≤ argOr 1 r → argOr 1 r ≤ 7 →
      a.roster.netKey ≠ none →
      (a.work.round = none → a.work.rounds = [] → ∃ t, exec (.doRoundStart h code r) s = .next t ∧
        (h.addr ≠ some 0 → t.line.tx = [.roundId a.work.nextRound]) ∧
        t.work.round.map Round.req = some ⟨a.work.nextRound, code.toNat, (argOr 1 r).toNat, false, 0, true⟩ ∧
        t.work.rounds = [] ∧ t.work.nextRound = (a.work.nextRound + 1) % 256 ∧
        a.keeps [.work, .jomen, .line, .store, .params] t) ∧
      ((a.work.round ≠ none ∨ a.work.rounds ≠ []) → a.work.rounds.length < 8 →
        exec (.doRoundStart h code r) s = .next (s.did h 524 [.roundId a.work.nextRound] (a.onWork (fun w =>
          { w with nextRound := (w.nextRound + 1) % 256,
                   rounds := w.rounds ++ [⟨w.nextRound, code.toNat, (argOr 1 r).toNat, false, 0, true⟩] })))) ∧
      (8 ≤ a.work.rounds.length → ∃ t, exec (.doRoundStart h code r) s = .next t ∧
        (h.addr ≠ some 0 → t.line.tx = [.err .busy]) ∧ a.keeps [.line, .store, .params, .tally] t)) ∧
    (∀ r : Round, a.work.round = some r → exec (.doRoundStop h) s =
      .next (s.did h 525 [.roundId r.req.id] (a.onRound (fun r => { r with stop := true }))))) ∧
  (∀ (s : State) (r : Round), s.work.round = some r →
    (r.opened = false → r.pausing = false → s.atBoundary = true → s.time.slot ≠ r.openSlot → s.roundBurst r = false →
      (∀ (n : Fin 16) (id : Nat), s.rx.lanes[n].holder ≠ .called id) →
      ∃ t o, exec .roundOpen s = .next t ∧ t.work.round = some o ∧ o.req = r.req ∧ o.opened = true ∧
        o.openSlot = s.time.slot ∧ o.inSlot = 0 ∧ s.keeps [.work, .rx, .radio, .tally] t) ∧
    (s.subDue r = true → s.radio.tx = none → s.radio.next = none → ∃ t o, exec .subSlotStart s = .next t ∧ t.work.round = some o ∧
      o.sub = r.sub + 1 ∧ o.inSlot = r.inSlot + 1 ∧ o.subAt = s.now ∧ o.q = r.q1 ∧ o.q1 = qOf r.qf ∧ o.qf = r.qf ∧
      o.stop = s.roundDone r ∧ (o.window = true ↔ s.roundDone r = false ∧ r.chans ≠ []) ∧
      o.closing = r.closing + (if s.roundDone r then 1 else 0) ∧ o.prev = [] ∧ o.prev2 = r.prev ∧
      s.keeps [.work, .radio, .rx, .params, .tally] t) ∧
    (∀ cells : List CellSeen, r.window = true → r.subAt + us 2470 ≤ s.now → cells.length = r.chans.length →
      (∀ c ∈ cells, c = .empty ∨ c = .collided) → s.rx.buf = [] →
      let e := cellsOf (· == .empty) cells
      let c := cellsOf (· == .collided) cells
      ∃ t o, exec (.replyWindowEnd cells) s = .next t ∧ t.work.round = some o ∧ o.window = false ∧
        o.qf = min 960 (max 256 (r.qf + 7 * c - 5 * e)) ∧ o.empties = r.empties + e ∧ o.collided = r.collided + c ∧
        o.prev = List.replicate r.chans.length none ∧
        o.quiet = (if e = r.chans.length ∧ r.qCall = 4 then r.quiet + 1 else 0) ∧
        s.keeps [.work, .rx, .tally] t) ∧
    (2 ≤ r.closing → r.subAt + us 2500 ≤ s.now → ∃ t, exec .roundEnd s = .next t ∧ t.time = s.time ∧ t.sched = s.sched ∧
      (s.work.rounds = [] → t.work.round = none) ∧
      (∀ q qs, s.work.rounds = q :: qs → t.work.rounds = qs ∧ (t.work.round.map Round.req) = some q)) ∧
    (s.roundRuns = true → (∃ b ∈ s.jomen.due ++ s.jomen.queue, ∃ k, b.purpose = .lastChance k) → r.window = false →
      r.subAt + us 2500 ≤ s.now → r.closing < 2 → ∃ t o, exec .roundPause s = .next t ∧
        t.work.round = some o ∧ o.pausing = true ∧ o.paused = r.paused + (s.subSlots - r.inSlot) ∧
        (∀ n : Fin 16, t.rx.lanes[n].bound = true → t.rx.lanes[n].holder ≠ .round) ∧
        s.keeps [.work, .rx, .radio, .tally] t))

/-! ## Roster and keys -/

/-- The roster is shown by handle or EUI; an endpoint entry is pinned, dropped (not while it has a flight or holds an
alarm) and given groups by an ADMIT of priority 3; a peer is put in an entry of 0 to 15, its epoch one higher and its
code armed; a spill record is forgotten (R114, R351 to R354, R357).
A network key unwrapped under the CUSTODIAN key, and a library key, take the place of the one before; neither appears
in the record, which holds hashes (R346, R453, R465). A wrapped key whose check fails is out of range: the model's
choice (log 37). -/
def Obligations.RosterAndKeys : Prop :=
  (∀ (h : Hdr) (s : State), s.judges h →
    let u := s.heard h
    (∀ (k : HandleArg) (e : Entry), k.fits = true →
      (u.byHandle k.get = some e → exec (.doRosterShow h (.handle k)) s = .next (u.reply h [u.entryLine k.get.index e])) ∧
      (u.byHandle k.get = none → exec (.doRosterShow h (.handle k)) s = .next (u.refuse h .do_ .handle 0 (some 528)))) ∧
    (∀ (id : Eui) (i : Nat) (e : Entry), u.indexOf id = some i → u.entry i = some e →
      exec (.doRosterShow h (.eui id)) s = .next (u.reply h [u.entryLine i e]))) ∧
  (∀ (h : Hdr) (s : State), s.judgesAtOnce h →
    let u := s.heard h
    let a := s.acting h
    (u.allowed .operator = true → ∀ (k : HandleArg) (e : Entry), k.fits = true → 16 ≤ k.index → a.byHandle k.get = some e →
      (∀ b : Int, (b = 0 ∨ b = 1) → exec (.doRosterPin h k b) s = .next (s.did h 529 [.bare]
        ((a.onEntry k.get.index (fun e => { e with pinned := b == 1 })).rosterCheck))) ∧
      (a.hasFlight k.get.index = false → a.alarmHeld k.get.index e = false → ∃ t, exec (.doRosterDrop h k) s = .next t ∧
        (h.addr ≠ some 0 → t.line.tx = [.bare]) ∧
        t.roster.entries = assocSet k.get.index
          { e with active := false, code := 0, keySlot := 0, rxSaved := e.rxCtr, txSaved := e.txCtr } a.roster.entries ∧
        t.jomen.freed = (if e.code = 0 then a.jomen.freed else a.jomen.freed ++ [e.code]) ∧ t.jomen.pool = a.jomen.pool ∧
        t.wake.maskWrites = (if e.code = 0 then a.wake.maskWrites else a.wake.maskWrites ++ [(e.code, 0)]) ∧
        a.keeps [.roster, .jomen, .wake, .line, .store, .params, .mon, .pm, .tally] t) ∧
      ((a.hasFlight k.get.index = true ∨ a.alarmHeld k.get.index e = true) → ∃ t, exec (.doRosterDrop h k) s = .next t ∧
        (h.addr ≠ some 0 → t.line.tx = [.err .state]) ∧ a.keeps [.line, .store, .params, .tally] t) ∧
      (∀ (gs : List Int) (x : Entered) (w : State), a.badGroup gs = none → a.sendFault k.get 3 = none → x ≠ .busy →
        (a.fire .send).newFlight (Flight.make k.get .data 3 false
          ((a.fire .send).slotNow + (a.fire .send).pnat Obj.flightDeadline) 0 (admitPayload e.code (gs.map Int.toNat))
          (some (gs.map Int.toNat)) none) = (x, w) →
        exec (.doRosterGroups h k gs) s = .next (s.did h 531 (enteredLine x) w))) ∧
    (u.allowed .custodian = true → ∀ (i : Int) (eui : Eui), 0 ≤ i → i ≤ 15 → a.hasFlight i.toNat = false →
      (∀ j, a.peerIndex eui = some j → a.hasFlight j = false ∧ ∃ o, a.entry j = some o ∧ o.id = eui) →
      let w := a.admitPeer i.toNat eui (a.peerIndex eui)
      exec (.doRosterPeer h i eui) s = .next (s.did h 532 [.handle (w.handleAt i.toNat)] w) ∧
      (∃ e, w.entry i.toNat = some e ∧ e.id = eui ∧ e.active = true ∧
        e.epoch = (((a.entry i.toNat).map Entry.epoch).getD 0 + 1) % 8) ∧
      (0 < i → ((i.toNat, 0xFF#8) : Nat × Byte) ∈ w.wake.maskWrites)) ∧
    (u.allowed .custodian = true → ∀ (eui : Eui) (x : Spill), a.indexOf eui = none → a.spillOf eui = some x →
      exec (.doRosterForget h eui) s = .next (s.did h 533 [.bare] ((a.holdGroups x.entry.groups false).onRoster (fun r =>
        { r with spill := assocDel eui r.spill, staged := r.staged.filter (fun e => e ≠ eui) }))))) ∧
  (∀ (h : Hdr) (s : State), s.judgesAtOnce h → (s.heard h).allowed .custodian = true →
    let u := s.heard h
    (∀ w : BitVec 192, ∃ t, exec (.doKeeperNetkey h w) s = .next t ∧
      (match Config.unwrap u.roster.cuKey w with
        | some k => t = s.didAs h ⟨4, 534, keyVal u.roster.netKey, keyVal (some k)⟩ [.bare]
            (u.onRoster (fun r => { r with netKey := some k }))
        | none => (h.addr ≠ some 0 → t.line.tx = [.err .range]) ∧ u.keeps [.line, .store, .params, .tally] t)) ∧
    (∀ k : BitVec 512, exec (.doKeeperLibkey h k) s = .next (s.didAs h
      ⟨4, 535, libKeyVal u.roster.libKey, libKeyVal (some k)⟩ [.bare]
      (u.onRoster (fun r => { r with libKey := some k })))))

/-! ## Monitors, pulse generators, VAUX -/

/-- A monitor's conversion, decision and latch (R373 to R383, R389, R394, R395): once at a decision edge that is due, in
mode `sampled` with its set-up settled and its input in use, the decision of the window enters the filter; with a flagged
conversion it does not; a conversion by command writes its record and reports; a latch of mode `period` clears at its grid
and one of mode `command` by command. -/
def Obligations.MonitorsDecide : Prop :=
  (∀ (n : Fin 8) (code : BitVec 10) (s : State), s.monOn = true → s.wm Obj.wmMode n ≠ 0 → s.wmDue n = true →
    (s.wmSettle n).wm Obj.wmMode n = 1 → near2us s.mon.mons[n].convAt s.now = false → s.radio.tx = none →
    (s.wmSettle n).inputOk ((s.wmSettle n).wm Obj.wmInput n) = true →
    let w := (s.wmSettle n).fire .sense
    w.wm Obj.wmInput n ≠ 2 →
    ∃ t, exec (.monitorSample n code) s = .next t ∧ t.mon.mons[n].code = code.toNat ∧
      t.mon.mons[n].time = some s.stamp ∧ t.mon.mons[n].tickAt = some (s.now - s.exciteTime n) ∧
      t.mon.mons[n].discard = w.mon.mons[n].discard - 1 ∧
      t.mon.mons[n].flag = decide (0 < w.mon.mons[n].discard) ∧
      t.mon.mons[n].hist = (if w.mon.mons[n].discard = 0 then (w.wmDecide n code.toNat :: w.mon.mons[n].hist).take 7
        else w.mon.mons[n].hist) ∧ t.time = s.time ∧ t.sched = s.sched ∧ t.image = s.image) ∧
  (∀ (n : Fin 8) (code : Nat) (s : State),
    s.wmDecide n code = ((s.wm Obj.wmSense n == 0) != decide (s.wm Obj.wmLo n ≤ code ∧ code ≤ s.wm Obj.wmHi n))) ∧
  (∀ (h : Hdr) (n : Int) (s : State), s.judges h → (s.heard h).allowed .operator = true → 0 ≤ n → n ≤ 7 →
    let u := s.heard h
    let k : Fin 8 := Fin.ofNat 8 n.toNat
    exec (.doWmRead h n) s = .next (u.reply h [u.wmLine k]) ∧
    (∀ code : BitVec 10, exec (.doWmConv h n code) s =
      .next ((u.conv k code.toNat).reply h [(u.conv k code.toNat).wmLine k]))) ∧
  (∀ (n : Fin 8) (code : BitVec 10) (s : State), s.wmDue n = false → exec (.monitorSample n code) s = .next s) ∧
  (∀ (h : Hdr) (n : Int) (s : State), s.judgesAtOnce h → (s.heard h).allowed .operator = true → 0 ≤ n → n ≤ 7 →
    let a := s.acting h
    let k : Fin 8 := Fin.ofNat 8 n.toNat
    (a.wm Obj.wmLatch k = 2 →
      exec (.doWmClear h n) s = .next (s.did h 538 [(a.unlatch k).wmLine k] (a.unlatch k))) ∧
    (a.wm Obj.wmLatch k ≠ 2 → exec (.doWmClear h n) s = .next (s.did h 538 [a.wmLine k] a))) ∧
  (∀ (n : Fin 8) (b : Bool) (s : State), s.monOn = true →
    (s.comparatorOn n = true → (s.wm Obj.wmMode n = 3 ∨ (s.wm Obj.wmMode n = 2 ∧ s.wmSampled n = false)) →
      exec (.comparatorCrossing n b) s =
        .next (((s.onWm n (fun m => { m with raw := b })).relatch n).pgFallAll)) ∧
    (s.wm Obj.wmLatch n = 1 → s.wmGrid n = true → ∃ t, exec (.latchPeriodClear n) s = .next t ∧
      (s.filterOut n = false → t.mon.mons[n].event = false) ∧ (s.tripSource n = false → t.mon.mons[n].trip = false) ∧
      (s.filterOut n = true → t.mon.mons[n].event = s.mon.mons[n].event) ∧
      (∀ m, m ≠ n → t.mon.mons[m] = s.mon.mons[m]) ∧ s.keeps [.mon, .line, .pm, .params, .tally] t))

/-- A pulse generator trips when a selected input is active, and PG2's trip takes VAUX off; a supply trip is retried after
1 s and after the third in a run of 60 s locked out; VAUX ramps up, is reported when it is fully on, and is switched off
by command; the early warning stops transmission and starts the emergency flush (R34, R396 to R403, R456). -/
def Obligations.PulsesAndVaux : Prop :=
  (∀ (g : Fin 4) (s : State), s.pgInput g = true → s.mon.tripped[g] = false →
    let w := ((s.onMon (fun m => { m with tripped := m.tripped.set g true })).count .pg (pgCounter g)).wakeEvent
    (s.radio.tx = none → g ≠ 2 → ∃ t, exec (.pgTrip g) s = .next t ∧ t.mon.tripped[g] = true ∧
      (g = 3 → t.mon.pg3At = s.now) ∧ s.keeps [.mon, .pm, .tally] t) ∧
    (∀ tx, s.radio.tx = some tx → (g = 0 ∧ tx.kind = .burst ∨ g = 1 ∧ s.reflected = false) →
      exec (.pgTrip g) s = .next w.stopTx) ∧
    (g = 2 → ∃ t, exec (.pgTrip g) s = .next t ∧ t.mon.tripped[g] = true ∧ t.mon.vaux = .off ∧
      (s.mon.vaux ≠ .off → t.mon.tripOwed = true) ∧ s.keeps [.mon, .pm, .tally, .line] t)) ∧
  (∀ s : State, s.monOn = true → s.mon.mons[0].event = true → s.mon.warning = false → ∃ t,
    exec .earlyWarning s = .next t ∧ (s.ccOn = true → s.radio.tx = none → s.store.flush = none →
      t.mon.warning = true ∧ t.store.flush = some (s.now + ms 5) ∧ s.keeps [.mon, .store, .params] t) ∧
    (s.ccOn = true → t.radio.tx = none) ∧
    (s.ccOn = false → s.pm.power = .larder → t.mon.warning = true ∧
      t.store = { s.store with flushOwed := some (s.now + ms 5) } ∧ s.keeps [.mon, .store] t)) ∧
  (∀ s : State, s.mon.tripOwed = true → s.mon.onOwed = none → exec .vauxTrip s = .next (s.vauxTripped s.vauxCode) ∧
    (let t := s.vauxTripped s.vauxCode
     let n := if s.mon.runTrips = 0 ∨ s.mon.runFrom + secs 60 < s.now then 1 else s.mon.runTrips + 1
     t.mon.vaux = .off ∧ t.mon.tripOwed = false ∧ t.mon.runTrips = n ∧
     (n < 3 → t.mon.retryAt = some (s.now + secs 1) ∧ t.mon.lockout = s.mon.lockout) ∧
     (3 ≤ n → t.mon.lockout = true ∧ t.mon.retryAt = none))) ∧
  (∀ (t0 : Ticks) (s : State), s.mon.retryAt = some t0 → t0 ≤ s.now → s.running = true → s.pm.power ≠ .shelf →
    s.mon.vaux = .off → (s.fire .vauxOn).pgInput 2 = false → ∃ t, exec .vauxRetry s = .next t ∧ t.mon.retryAt = none ∧
      (∃ at_, t.mon.vaux = .ramp at_) ∧ t.mon.tripped[(2 : Fin 4)] = false ∧ s.keeps [.mon, .params] t) ∧
  (∀ (t0 : Ticks) (s : State), s.mon.vaux = .ramp t0 → t0 + us 100 ≤ s.now →
    (s.mon.onOwed = none → exec .vauxRampEnd s = .next (s.onMon (fun m => { m with vaux := .on }))) ∧
    (∀ h o b, s.mon.onOwed = some (h, o, b) → ∃ t, exec .vauxRampEnd s = .next t ∧ t.mon.vaux = .on ∧
      t.mon.onOwed = none ∧ (h.addr ≠ some 0 → t.line.tx = [.word "on"]) ∧
      s.keeps [.mon, .line, .store, .params, .tally] t)) ∧
  (∀ (h : Hdr) (s : State), s.judgesAtOnce h → (s.heard h).allowed .operator = true →
    let u := s.heard h
    let v (b : Bool) : Aud := ⟨4, 539, .num (if u.mon.wanted then 1 else 0), .num (if b then 1 else 0)⟩
    (u.mon.vaux = .on → u.mon.tripOwed = false → u.mon.lockout = false → exec (.doVaux h true) s =
      .next (s.didAs h (v true) [.word "on"] (u.onMon (fun m => { m with wanted := true })))) ∧
    (u.mon.vaux = .off → u.mon.tripOwed = false → (u.fire .vauxOn).pgInput 2 = false → ∃ t, exec (.doVaux h true) s = .next t ∧
      (h.addr ≠ some 0 → t.line.tx = []) ∧ (∃ at_, t.mon.vaux = .ramp at_) ∧ t.mon.wanted = true ∧
      t.mon.lockout = false ∧ (∃ o b, t.mon.onOwed = some (h, o, b)) ∧ u.keeps [.mon, .line, .params] t) ∧
    (u.mon.onOwed = none → ∃ t, exec (.doVaux h false) s = .next t ∧
      (h.addr ≠ some 0 → t.line.tx = [.word "off"]) ∧ t.mon.vaux = .off ∧ t.mon.wanted = false ∧ t.mon.retryAt = none ∧
      u.keeps [.mon, .line, .store, .params] t))

/-! ## The fault model -/

/-- Resources are listed, retired and reinstated by CUSTODIAN commands; a rest ends with its period, and rests and strikes
return to 0 after one window without a fault; a channel's window ends after 256 cells, and four bad ones within an hour
retire it in ROOT; a peer unreachable for `peer.retire.after` hours is retired (R486 to R489, R491 to R498). -/
def Obligations.FaultModel : Prop :=
  (∀ (h : Hdr) (s : State), s.judges h →
    let u := s.heard h
    (∀ k : Option ResKind, exec (.doFaultList h k) s = .next (u.reply h
      ((match k with | some k => [k] | none => [.chan, .bb, .branch, .lane, .chain, .block, .peer]).flatMap
        (fun k => u.kindLines k) ++ [.dot])))) ∧
  (∀ (h : Hdr) (s : State), s.judgesAtOnce h →
    let u := s.heard h
    (∀ r : ResArg, u.allowed .custodian = true → u.faultCheck r = none → (u.res r.id).retired = false → u.lastOne r.id = false →
      exec (.doFaultRetire h r) s = .next ((u.retireAny (u.lineOrigin h) r.id 10).reply h [.word "RETIRE"])) ∧
    (∀ r : ResArg, u.allowed .custodian = true → u.faultCheck r = none → (u.res r.id).retired = false → u.lastOne r.id = true →
      ∃ t, exec (.doFaultRetire h r) s = .next t ∧ (h.addr ≠ some 0 → t.line.tx = [.err .state]) ∧
        u.keeps [.line, .store, .params, .tally] t) ∧
    (∀ (r : ResArg) (passed : Bool), u.allowed .custodian = true → u.faultCheck r = none → (u.res r.id).retired = true →
      (ResKind.tested r.kind = true → passed = true) →
      (r.kind ≠ .chain → exec (.doFaultReinstate h r passed) s =
        .next ((u.reinstateAny (u.lineOrigin h) r.id).reply h [.word "REINSTATE"])) ∧
      (r.kind = .chain → ∃ t, exec (.doFaultReinstate h r passed) s = .next t ∧ (h.addr ≠ some 0 → t.line.tx = []) ∧
        t.radio.calAsked = u.radio.calAsked ++ [(.reinstate h (u.lineOrigin h) (sideOf r.id.num), .all, .both)] ∧
        t.faults = u.faults ∧ u.keeps [.line, .radio] t))) ∧
  (∀ (o : Origin) (r : ResId) (cause : Nat) (s : State), (s.res r).retired = false →
    let t := s.retire o r cause
    (t.res r).retired = true ∧ (t.res r).cause = cause ∧ (t.res r).resting = false ∧
    (∀ x, x ≠ r → t.res x = s.res x)) ∧
  (∀ (o : Origin) (r : ResId) (s : State), (s.reinstate o r).res r = Res.clean r) ∧
  (∀ (r : ResId) (s : State),
    (∀ t0, (s.res r).until_ = some t0 → (s.res r).resting = true → (s.res r).retired = false → t0 ≤ s.now →
      ∃ t, exec (.restPeriodEnd r) s = .next t ∧ (t.res r).resting = false ∧ (t.res r).until_ = none ∧
        (t.res r).rests = (s.res r).rests ∧
        t.radio.calAsked = (if r.kind = .chain then s.radio.calAsked ++ [(.rest (sideOf r.num), .all, .both)]
          else s.radio.calAsked) ∧ s.keeps [.faults, .radio] t) ∧
    (0 < restWindow r.kind → (s.res r).resting = false → (s.res r).lastFault + restWindow r.kind ≤ s.now →
      ∃ t, exec (.restWindowExpiry r) s = .next t ∧ (t.res r).rests = 0 ∧ (t.res r).times = [] ∧
        (t.res r).retired = (s.res r).retired ∧ s.keeps [.faults, .radio] t) ∧
    (let j := s.judgeOf r
     s.ccOn = true → 256 ≤ j.cells → (r.kind = .chan ∨ r.kind = .bb) →
      ∃ t, exec (.channelJudgingWindow r j.pre (j.pre - j.passed)) s = .next t ∧
      t.rx.judges = s.rx.judges.filter (fun x => x.id != r) ∧ t.rx.lanes = s.rx.lanes ∧
      (j.pre < 32 ∨ 2 * (j.pre - j.passed) < j.pre → s.keeps [.rx] t) ∧
      (s.resFits r = true → (s.res r).retired = false → 32 ≤ j.pre → j.pre ≤ 2 * (j.pre - j.passed) →
        (s.faultsInWindow r < 4 → (t.res r).rests = (s.res r).rests + 1 ∧ (t.res r).retired = false ∧
          s.keeps [.rx, .faults, .tally] t) ∧
        (4 ≤ s.faultsInWindow r → s.net.st = .root → s.chanFloor r = false → (t.res r).retired = true ∧
          (t.res r).cause = 2 ∧ (r, true, effSlot s.slotNow) ∈ t.sched.pending) ∧
        (4 ≤ s.faultsInWindow r → s.net.st = .root → s.chanFloor r = true → (t.res r).retired = false ∧
          s.keeps [.rx, .faults, .tally] t) ∧
        (4 ≤ s.faultsInWindow r → (s.net.st = .member ∨ s.net.st = .holdover) → (t.res r).retired = false ∧
          t.sched = s.sched)))) ∧
  (∀ (n : Fin 16) (ch rate : Nat) (i : Nat) (f : Judge → Judge) (r : ResId) (s : State), s.rx.lanes[n].holder = .cell i →
    s.rx.lanes[n].rate = rate → s.rx.lanes[n].chan = ch → r ∈ channelIds rate ch →
    (∀ j, (f j).id = j.id) → (s.judgeLane n f).judgeOf r = f (s.judgeOf r)) ∧
  (∀ s : State, s.ccOn = true →
    ((s.fire .hourly).pnat Obj.retireAfter = 0 → exec .peerRetireHourly s = .next (s.fire .hourly)) ∧
    (∀ (i : Nat) (e : Entry) (t0 : Ticks), (s.fire .hourly).pnat Obj.retireAfter ≠ 0 → s.roster.entries = [(i, e)] →
      e.active = true → e.unreach = true → e.retired = false → e.unreachAt = some t0 →
      t0 + secs (3600 * (s.fire .hourly).pnat Obj.retireAfter) ≤ s.now → s.work.table = [] → s.work.waiting = [] →
      ∃ t, exec .peerRetireHourly s = .next t ∧ ((t.entry i).map Entry.retired) = some true ∧ t.work = s.work ∧ t.time = s.time))

/-! ## The wire -/

/-- What happens on the wire: a collision of what is being sent abandons it, makes the part deaf until LINE has idled,
costs the loser of an enumeration its address and sets the chain mark of a unit whose reply collided; partial lines,
trials, sessions, challenges and lockouts end with their times; breaks and attention; a line stuck low; the receiver
opens. A character joins the partial line and is echoed in typed mode by the mode of the line it begins, an LF directly
after a CR is ignored, and one that comes during an echo collides with it. A faulty line sends its error and confirms a
rate if its syntax is valid (R42 to R57, R67, R72, R74, R82, R83, R85, R86, R88, R167, R524). A written rate comes into
force once the line that answers it has gone, on trial for 10 s against the rate before (R48). A LINE that is stuck low is
read once a second, with the pull-up on for 200 µs if `line.pullup` is 1; when it has idled for 2 character times after a
check read it high, the pull-up is restored, the fault ends and `~LINEUP` is queued. That it counts whole seconds from the
falling edge is the model's choice, log 119 (R87). -/
def Obligations.WireEvents : Prop :=
  (∀ s : State,
     (s.onWire = none → exec .lineCollision s = .next s) ∧
     (∀ x, s.onWire = some x → ∃ t, exec .lineCollision s = .next t ∧ t.line.sending = none ∧ t.line.tx = [] ∧
       t.line.deafUntilIdle = true ∧
       (∀ m n, x = .enumAnswer m n → t.line.address = 0 ∧ t.line.chainMark = true ∧ t.line.chainOut = false ∧
         .mark ∈ t.line.faults) ∧
       (∀ e, x = .push e → s.line.events.length < 64 → t.line.events = e :: s.line.events ∧ t.line.pushHeld = true) ∧
       (x = .reply → s.line.address ≠ 0 → t.line.chainMark = true ∧ .mark ∈ t.line.faults) ∧
       (x = .reply → s.line.address = 0 → s.keeps [.line, .tally] t) ∧ (x = .echo → s.keeps [.line, .tally] t) ∧
       (∀ bits f, x = .seen bits f → t.wake.seen = Mem.orAll s.wake.seen bits ∧ t.wake.foldFlag = (s.wake.foldFlag || f)) ∧
       t.radio = s.radio ∧ t.roster = s.roster) ∧
     (s.line.partialLine ≠ [] → s.line.partialAt + s.partialTime ≤ s.now → exec .partialLineTimeout s =
       .next (s.onLine (fun l => { l with partialLine := [] }))) ∧
     (∀ (r : Nat) (t0 : Ticks), s.line.trial = some (r, t0) → t0 ≤ s.now → ∃ t, exec .lineRateTrialExpiry s = .next t ∧
       t.line.rate = r ∧ t.line.trial = none ∧ t.radio = s.radio ∧ t.wake = s.wake ∧ t.roster = s.roster ∧
       t.time = s.time) ∧
     (s.line.level ≠ .observer → s.line.lastLine + secs (s.pnat Obj.sessionIdle) ≤ s.now → ∃ t,
       exec .sessionIdleTimeout s = .next t ∧ t.line = { s.line with level := .observer, challenge := none } ∧
       s.keeps [.line] t) ∧
     (∀ c, s.line.challenge = some c → c.at_ + secs 10 < s.now → exec .challengeExpiry s =
       .next (s.onLine (fun l => { l with challenge := none }))) ∧
     (∀ t0, s.line.lockout = some t0 → t0 ≤ s.now → exec .authLockoutEnd s =
       .next (s.onLine (fun l => { l with lockout := none }))) ∧
     (s.ccOn = true → s.line.stuckAt = none → (s.pint Obj.lineHostVaux ≠ 1 ∨ s.mon.vaux = .on) →
       exec .lineReceiverOpen s = .next (s.onLine (fun l => { l with isOpen := true, deafUntilIdle := false }))) ∧
     (s.running = true → s.resetting = false → s.line.stuckAt = none → s.lineIgnored = false →
       (s.pm.power = .active ∨ s.pm.power = .loft) → ∃ t, exec .stuckLine s = .next t ∧
         t.line.stuckAt = some (s.now - secs 1) ∧ t.line.pullup = false ∧ t.line.checkAt = s.now + secs 1 ∧
         t.line.level = .observer ∧ .stuck ∈ t.line.faults ∧ t.line.partialLine = [] ∧ t.line.tx = [] ∧
         t.radio = s.radio ∧ t.roster = s.roster) ∧
     (s.hears = false → ∀ c, exec (.characterEcho c) s = .next s.lineEdge) ∧
     (s.hears = true →
       (∀ low : Ticks, 2 * s.charTime < low → (low < ms 1 → ∃ t, exec (.shortBreak low) s = .next t ∧
         t.line = { s.line with partialLine := [] } ∧ s.keeps [.line, .pm, .tally] t) ∧
         (ms 1 ≤ low → low ≤ ms 500 → ∃ t, exec (.attention low) s = .next t ∧ t.line.partialLine = [] ∧
           t.line.challenge = none ∧ t.line.rollAt = none ∧ t.line.tx = [] ∧ t.line.level = s.line.level ∧
           t.line.rate = s.line.rate ∧ t.line.address = s.line.address ∧ t.radio = s.radio ∧ t.roster = s.roster)) ∧
       (∀ low : Ticks, ms 500 < low → low ≤ secs 1 → ∃ t, exec (.longBreak low) s = .next t ∧
         t.line = { s.line with partialLine := [] } ∧ s.keeps [.line, .pm, .tally] t) ∧
       (∀ c : Byte,
         let old := s.line.partialLine
         let u := if old = [] then s.fire .nextLine else s
         let typed := u.pnat Obj.lineMode = 0
         let echoing := s.line.sending = some .echo ∧ s.now < s.line.sendEnd + s.charTime
         (echoing → exec (.characterEcho c) s =
           .next ((s.onLine (fun l => { l with sendEnd := s.now + 1 })).collide .echo)) ∧
         (¬echoing → c = 0x0A → s.line.afterCr = true →
           exec (.characterEcho c) s = .next (s.onLine (fun l => { l with afterCr := false }))) ∧
         (¬echoing → (c ≠ 0x0A ∨ s.line.afterCr = false) → ∃ t, exec (.characterEcho c) s = .next t ∧
           t.line.partialAt = s.now ∧ t.line.afterCr = decide (c = 0x0D) ∧
           (typed → (c = 0x08 ∨ c = 0x7F) → t.line.partialLine = old.dropLast) ∧
           ((c = 0x0D ∨ c = 0x0A) → t.line.partialLine = old) ∧
           (c ≠ 0x08 → c ≠ 0x7F → c ≠ 0x0D → c ≠ 0x0A → old.length ≤ 200 → t.line.partialLine = old ++ [c] ∧
             (typed → s.line.solo = true → (old ++ [c]).head? ≠ some 0x40 → t.line.tx = [.echo [c]]) ∧
             ((¬typed ∨ s.line.solo = false ∨ (old ++ [c]).head? = some 0x40) → t.line.tx = [])) ∧
           s.keeps [.line, .pm, .params, .tally] t)) ∧
       (∀ (l : List Byte) (m : Bool) (h : Hdr) (e : Err) (k : Nat), rawHdr l = some h → tokens l ≠ [] → s.pm.entering = none →
         (lineAddr l = none ∧ s.line.solo = true ∨ lineAddr l = some (some s.line.address) ∧ s.line.address ≠ 0) →
         rawError ((s.fire .nextLine).pnat Obj.lineMode == 1) m l = some (e, k) →
         ∃ t, exec (.lineError l m) s = .next t ∧ t.line.tx = [.err e] ∧ t.line.level = s.line.level ∧
           t.line.lastErr.map LastErr.err = some e ∧ t.line.partialLine = [] ∧
           t.line.trial = (if validSyntax m l then none else s.line.trial) ∧
           s.keeps [.line, .pm, .tally, .params, .store] t))) ∧
  (∀ s : State,
     (∀ (high : Bool) (t0 : Ticks), s.line.stuckAt = some t0 → s.running = true → s.line.checkAt ≤ s.now →
       exec (.stuckLineCheck high) s = .next (s.onLine (fun l =>
         { l with
           checkAt := s.line.checkAt + secs 1, highAt := if high then some s.now else none,
           pullup := s.pint Obj.linePullup == 1,
           pulseEnd := if s.pint Obj.linePullup = 1 then some (s.now + us 200) else none }))) ∧
     (∀ (high : Bool), s.now < s.line.checkAt → exec (.stuckLineCheck high) s = .next s) ∧
     (∀ t0, s.line.rateAt = none → s.line.stuckAt = some t0 → s.line.highAt = none → s.line.pulseEnd = some s.now →
       s.lineTick.line = { s.line with pulseEnd := none, pullup := false }) ∧
     (∀ t0 h, s.line.rateAt = none → s.line.pulseEnd = none → s.line.stuckAt = some t0 → s.line.highAt = some h →
       h + 2 * s.charTime ≤ s.now → s.lineTick = (s.onLine (fun l =>
         { l with
           stuckAt := none, highAt := none, pullup := s.pint Obj.linePullup == 1,
           faults := l.faults.filter (fun k => k ≠ .stuck) })).queue (.lineUp ((s.now - t0) / secs 1))) ∧
     (∀ t0, s.line.rateAt = some t0 → max t0 s.line.sendEnd ≤ s.now → s.line.stuckAt = none → s.line.pulseEnd = none →
       s.lineTick.line = { s.line with
         rate := (s.fire .lineRate).pnat Obj.lineRate, rateAt := none,
         trial := some ((match s.line.trial with | some (r, _) => r | none => s.line.rate), s.now + secs 10) } ∧
       s.keeps [.line, .params] s.lineTick))

/-! ## Frames -/

/-- A frame whose FCS fails is counted and goes no further; one whose FCS passed goes through the receive buffer, the
checks and the write cache: a DATA frame of an active entry moves its counter and window, ends its failures, is
recorded as a sighting, and its acknowledgement may go; a JOIN and an answer take the same way; a JOIN that is allowed
makes its sender an active endpoint (R16, R300, R303, R332, R349, R356, R362). -/
def Obligations.FramesAreRecorded : Prop :=
  ∀ (f : Frame) (r : RxInfo) (s : State), s.takesFrame r.lane = true →
    exec (.frameReceived f r true) s = .next ((s.airRx r.lane r.psduLen).arrive r.lane f r.psduLen false) ∧
    (s.inFrame r.lane = true → exec (.frameReceived f r false) s =
      .next ((s.onLane r.lane Lane.idle).count .lanes "phy.fcs.bad")) ∧
    (f.kind = .join → exec (.joinReceived f r) s = .next ((s.airRx r.lane r.psduLen).arrive r.lane f r.psduLen false)) ∧
    (f.kind = .answer →
      exec (.answerReceived f r) s = .next ((s.airRx r.lane r.psduLen).arrive r.lane f r.psduLen false)) ∧
    (1024 ≤ s.rx.buf.length → ∃ t, exec (.frameReceived f r true) s = .next t ∧ t.rx.buf = s.rx.buf ∧
      s.keeps [.rx, .work, .tally] t) ∧
    (s.rx.buf = [] → s.rx.high = false → 1 < s.highMark → s.roster.loaded = true →
      s.store.room (sightRecords f) = true → s.work.table = [] → s.headFault f = none →
      (∀ (i : Nat) (e : Entry) (l w : BitVec 32), f.kind = .data → s.sender f.id = .entry i e → s.micFault f = none →
        replay e.rxCtr e.window f.ctr = some (l, w) → ∃ t q b, exec (.frameReceived f r true) s = .next t ∧ t.rx.buf = [] ∧
        (t.entry i).map (fun e => (e.rxCtr, e.window, e.fails, e.unreach)) = some (l, w, 0, false) ∧
        CRec.ledger q s.now ∈ t.store.cache ∧ q.body = .sighting b ∧ b.id = f.id ∧ b.ctr = f.ctr ∧
        b.handle = some (s.handleAt i) ∧ b.payload = s.plainOf f ∧
        (f.ackReq = true → s.rx.lanes[r.lane].acks = true → ∃ a, t.rx.lanes[r.lane].ack = some a ∧ a.id = f.id ∧
          a.ctr = f.ctr ∧ a.frameEnd = s.now ∧ a.recorded = true) ∧
        t.time = s.time ∧ t.sched = s.sched ∧ t.radio = s.radio ∧ t.image = s.image) ∧
      (∀ i : Nat, f.kind = .join → s.sender f.id = .unknown → s.freeIndex = some i →
        let u := s.fire .join
        u.pint Obj.rosterJoin ≠ 0 → s.roster.spill.length < 1048576 → u.micFault f = none → 5 ≤ (s.plainOf f).length →
        ∃ t e, exec (.joinReceived f r) s = .next t ∧ t.entry i = some e ∧ e.id = f.id ∧ e.active = true ∧
          e.rxCtr = f.ctr ∧ e.model = joinModel (s.plainOf f) ∧ e.epoch = (((s.entry i).map Entry.epoch).getD 0 + 1) % 8 ∧
          t.time = s.time ∧ t.sched = s.sched ∧ t.radio = s.radio ∧ t.image = s.image))

/-- An acknowledgement completes the flight it answers; one that is owed goes out 972 µs after its frame, unless it is
withheld above high water, late, or cut by another lane's payload; the spill write of the entry evicted first completes
(R300, R301, R304, R321, R354).
A flood of a class that may be flooded, not heard before and with a MIC that holds, enters the seen cache and is
rebroadcast 1 to 4 slots later with its hop limit one less, none at 0; a second copy is counted and suppresses the
rebroadcast; entries age out after 60 s (R366 to R370). -/
def Obligations.AcknowledgementsAndFloods : Prop :=
  (∀ s : State,
    (∀ (f : Frame) (r : RxInfo) (delay : Ticks) (fl : Flight) (e : Entry) (nk : Key) (l w : BitVec 32),
      s.takesFrame r.lane = true → f.kind = .ack → f.sync.toNat = s.pnat Obj.sync →
      s.ackedFlight r.lane f.ackCtr delay = some fl → fl.kind = .data → s.byHandle fl.handle = some e →
      s.roster.netKey = some nk → f.micLen = 1 → micOk nk { f with id := e.id, temp := 0x80 } = true →
      replay e.rxCtr e.window f.ctr = some (l, w) → ∃ x : State, exec (.ackReceived f r delay) s = .next (x.flightDone fl) ∧
        (x.entry fl.handle.index).map (fun e => (e.rxCtr, e.window)) = some (l, w) ∧ x.work = s.work ∧
        x.time = s.time ∧ x.sched = s.sched ∧ x.store = s.store) ∧
    (∀ (n : Fin 16), s.laneInCell n = false → s.gapHolds = true → exec (.ackSend n) s = .next s) ∧
    (∀ (n : Fin 16) (a : AckDue), s.rx.lanes[n].ack = some a → a.frameEnd + us 972 ≤ s.now → s.txBarred = false →
      (s.laneInCell n = true ∨ s.gapHolds = false) →
      let w := s.onLane n (fun l => { l with ack := none })
      let busy := (List.finRange 16).any (fun m => m ≠ n && s.receiving s.rx.lanes[m])
      (s.rx.high = true → exec (.ackSend n) s = .next (w.count .lanes "rx.buf.withhold")) ∧
      (s.rx.high = false → a.recorded = false → exec (.ackSend n) s = .next (w.count .cc "ack.late")) ∧
      (s.rx.high = false → a.recorded = true → busy = true → exec (.ackSend n) s = .next (w.count .lanes "ack.cut")) ∧
      (s.rx.high = false → a.recorded = true → busy = false →
        (s.laneInCell n = false → s.txFree = true → exec (.ackSend n) s = .next (w.sendAck n false a) ∧
          (∀ (nk : Key) (i : Nat) (e : Entry), s.roster.netKey = some nk → s.indexOf a.id = some i → s.entry i = some e →
            e.txCtr.toNat < ctrEnd → ((w.sendAck n false a).entry i).map Entry.txCtr = some (e.txCtr + 1))) ∧
        (∀ v : State, s.laneInCell n = true → w.takeAir (bandOf s.rx.lanes[n].rate) (us 28) = (.go, v) →
          exec (.ackSend n) s = .next (v.sendAck n true a)) ∧
        (∀ (x : AirTurn) (v : State), s.laneInCell n = true → x ≠ .go →
          w.takeAir (bandOf s.rx.lanes[n].rate) (us 28) = (x, v) → exec (.ackSend n) s = .next v))) ∧
    (exec .spillWriteComplete s = .next (s.onRoster (fun r => { r with staged := r.staged.drop 1 })))) ∧
  ((∀ (f : Flood) (r : RxInfo) (s : State), s.takesFrame r.lane = true →
    let u := s.fire .flood
    let g := Flood.rebuilt f
    (f.hopClass ≠ g.reason → exec (.floodReceived f r) s =
      .next (((s.airRx r.lane r.psduLen).fire .flood).onLane r.lane Lane.idle)) ∧
    (f.hopClass = g.reason → u.floodClass g.reason.toNat = true → floodKind f.innerKind = true →
      (s.roster.seen.any (Seen.isFor g) = true → ∃ t, exec (.floodReceived f r) s = .next t ∧
        t.roster.seen = replaceFirst (Seen.isFor g) (fun x => { x with copies := x.copies + 1 }) s.roster.seen ∧
        t.roster.replays = s.roster.replays ∧ s.keeps [.roster, .rx, .params, .tally] t) ∧
      (∀ nk, s.roster.seen.any (Seen.isFor g) = false → s.roster.netKey = some nk → micOk nk g = true →
        g.sync.toNat ≠ u.pnat Obj.sync → ∃ t, exec (.floodReceived f r) s = .next t ∧
        t.roster.seen.any (Seen.isFor g) = true ∧ t.roster.seen.length ≤ max 256 s.roster.seen.length ∧
        (f.hops = 0 → t.roster.replays = s.roster.replays) ∧
        (u.pint Obj.relayFlood ≠ 1 → t.roster.replays = s.roster.replays) ∧
        (f.hops ≠ 0 → u.pint Obj.relayFlood = 1 → ∃ p, t.roster.replays = s.roster.replays ++ [p] ∧ p.flood = { f with hops := f.hops - 1 } ∧
          p.own = false ∧ s.time.slot + 1 ≤ p.from_ ∧ p.from_ ≤ s.time.slot + 4) ∧
        s.keeps [.roster, .rx, .params, .tally] t))) ∧
  (∀ (n : Fin 16) (i : Nat) (p : Replay) (s : State), s.rx.lanes[n].holder = .cell i → s.rx.lanes[n].program = 5 →
    (assoc i s.sched.run).isSome = true → s.txBarred = false → s.txFree = true → s.anyPayload = false → s.pint Obj.relayFlood = 1 →
    s.roster.replays.find? (fun p => decide (p.from_ ≤ s.time.slot)) = some p → p.own = false →
    let copies := ((s.roster.seen.find? (Seen.isFor (Flood.rebuilt p.flood))).map Seen.copies).getD 0
    let w := s.onRoster (fun r => { r with replays := r.replays.erase p })
    (2 ≤ copies → exec (.floodRebroadcast n) s = .next (w.count .cc "relay.suppress")) ∧
    (copies < 2 → ∃ t, exec (.floodRebroadcast n) s = .next t ∧ t.roster = w.roster ∧
      s.keeps [.roster, .radio, .rx, .params, .tally] t ∧
      ((s.fire .transmission).coexOn (bandOf s.rx.lanes[n].rate) = false →
        (t.radio.next.map Tx.kind) = some (.flood p.flood.hops)))) ∧
  (∀ s : State, ∃ t, exec .seenCacheAgeOut s = .next t ∧
    (∀ x, x ∈ t.roster.seen ↔ x ∈ s.roster.seen ∧ s.now < x.at_ + secs 60) ∧
    (∀ p, p ∈ t.roster.replays → p ∈ s.roster.replays) ∧ (∀ p ∈ s.roster.replays, p.own = true → p ∈ t.roster.replays) ∧
    s.keeps [.roster, .tally] t))

/-! ## The network -/

/-- A beacon that fails a check is counted and no more; an accepted one makes an UNSYNCED part a MEMBER at the next
boundary, under its sender's time; a wait without a beacon ends in candidacy, or in another wait where `net.root` is 0;
a candidate sends its start beacon in the slot it drew, and the last round past makes it ROOT (R288 to R291, R367). -/
def Obligations.NetworkIsFound : Prop :=
  (∀ (b : Beacon) (r : RxInfo) (s : State), s.inFrame r.lane = true → s.rx.lanes[r.lane].holder ≠ .round →
    (∀ k name, s.beaconFault b = some (k, name) → exec (.beaconReceived b r) s =
      .next (((s.airRx r.lane r.psduLen).onLane r.lane Lane.idle).count k name)) ∧
    (s.beaconFault b = none → s.net.st = .unsynced → s.indexOf b.sender = none → ∃ t,
      exec (.beaconReceived b r) s = .next t ∧
      t.net.joining = some { parent := b.sender, prio := b.rankPrio, root := b.rankEui } ∧ t.net.st = .unsynced ∧
      assoc b.sender t.net.cache = some b.ctr ∧ t.net.cache.length ≤ 16 ∧
      (s.time.counterMode = true → t.time.fold = some .timeFoldJoin) ∧
      s.keeps [.net, .time, .rx, .params, .tally] t)) ∧
  (∀ (w0 : Ticks) (s : State), s.net.waitFrom = some w0 → s.ccOn = true → s.net.started = true → s.net.joining = none →
    w0 + s.net.waitSlots * s.slotTicks ≤ s.time.slotAt → s.net.st = .unsynced →
    let u := s.fire .waitEnd
    (u.pint Obj.netRoot = 1 → s.roster.netKey ≠ none → ∃ t, exec .networkWaitEnd s = .next t ∧
      t.net.st = .candidate ∧ t.net.waitFrom = none ∧ t.net.roundNo = 1 ∧ t.net.roundAt = s.time.slot ∧
      t.net.drawn ≤ 15 ∧ t.net.rounds = (u.fire .candidacy).pnat Obj.startRounds ∧
      s.keeps [.net, .params, .line, .mon, .pm, .store, .tally] t) ∧
    ((u.pint Obj.netRoot ≠ 1 ∨ s.roster.netKey = none) → ∃ t, exec .networkWaitEnd s = .next t ∧
      t.net.st = .unsynced ∧ t.net.waitFrom = some s.time.slotAt ∧ s.keeps [.net, .params, .tally] t)) ∧
  (∀ s : State, s.ccOn = true → s.net.st = .candidate → s.net.joining = none →
    (s.roundPast = false → s.time.slot = s.net.roundAt + s.net.drawn →
      (∀ v : State, s.takeAir .sub 0 = (.go, v) → exec .startRoundSlot s =
        .next ((v.onNet (fun n => { n with drawn := startSent })).sendBeacon true 0 v.phyRate v.startChannel)) ∧
      (∀ (x : AirTurn) (v : State), x ≠ .go → s.takeAir .sub 0 = (x, v) → exec .startRoundSlot s = .next v)) ∧
    (s.roundPast = false → s.time.slot ≠ s.net.roundAt + s.net.drawn → exec .startRoundSlot s = .next s) ∧
    (s.roundPast = true → s.net.drawn = startSent → s.net.roundNo < s.net.rounds → ∃ t, exec .startRoundSlot s = .next t ∧
      t.net.roundNo = s.net.roundNo + 1 ∧ t.net.roundAt = s.time.slot ∧ t.net.st = .candidate) ∧
    (s.roundPast = true → s.net.drawn = startSent → s.net.rounds ≤ s.net.roundNo → ∃ t, exec .becomeRoot s = .next t ∧
      t.net.st = .root ∧ t.net.rankEui = s.part.eui ∧ t.net.parent = none ∧
      (s.time.counterMode = true → s.atBoundary = false → t.time.fold = some .timeFoldRoot) ∧
      (s.time.counterMode = true → s.atBoundary = true → t.time.counterMode = false) ∧
      s.keeps [.net, .time, .params, .line, .mon, .pm, .store, .tally] t))

/-- The steps by which a part finds or founds its network each run to their end. A beacon whose checks fail is counted and
dropped, one that passes has its counter held (R346, R367); the wait for a beacon ends in candidacy with a first start round
where `net.root` is 1 and a network key is held, else another wait begins (R288, R346); a candidate's slot sends its start
beacon or passes (R289); a candidate whose start rounds are over is ROOT (R288). -/
def Obligations.NetworkStepsComplete : Prop :=
  (∀ (b : Beacon) (r : RxInfo) (s : State), s.inFrame r.lane = true → s.rx.lanes[r.lane].holder ≠ .round →
    ∃ t, exec (.beaconReceived b r) s = .next t ∧
      (∀ k name, s.beaconFault b = some (k, name) → t = ((s.airRx r.lane r.psduLen).onLane r.lane Lane.idle).count k name) ∧
      (s.beaconFault b = none → t.lastBeacon b.sender = some b.ctr)) ∧
  (∀ (w0 : Ticks) (s : State), s.net.waitFrom = some w0 → s.ccOn = true → s.net.started = true → s.net.joining = none →
    w0 + s.net.waitSlots * s.slotTicks ≤ s.time.slotAt →
    (s.net.st = .unsynced ∨ (s.net.st = .holdover ∧ s.parentGone = true)) →
    ∃ t, exec .networkWaitEnd s = .next t ∧
      t.net.st = (if (s.fire .waitEnd).pint Obj.netRoot == 1 && s.roster.netKey.isSome then .candidate else s.net.st) ∧
      t.time = s.time ∧ t.radio = s.radio ∧ t.roster = s.roster ∧ t.work = s.work) ∧
  (∀ s : State, s.ccOn = true → s.net.st = .candidate → s.net.joining = none →
    (∃ t, exec .startRoundSlot s = .next t ∧ t.net.st = .candidate ∧ t.net.parent = s.net.parent ∧ t.time = s.time) ∧
    (s.roundPast = true → s.net.drawn = startSent → s.net.rounds ≤ s.net.roundNo → ∃ t, exec .becomeRoot s = .next t ∧
      t.net.st = .root ∧ t.net.parent = none ∧ t.radio = s.radio ∧ t.work = s.work ∧ t.roster = s.roster))

/-! ## What every step keeps -/

/-- From every state whose queues and tables are within the manual's capacities and whose LINE address is 0 to 16, every
step, of every command and of the clock, leaves them so (R65, R79, R144, R303, R307, R320, R370). -/
def Obligations.CapacitiesHold : Prop :=
  ∀ s t : State, s.bounded → step s = .next t → t.bounded

/-- From every state whose matcher memories are in their canonical form, every step leaves them so: equal memories stay
equal lists (R113, R166, R443). Every step keeps what is being written of the boot selector in step with the record in
force. -/
def Obligations.MemoriesStayCanonical : Prop :=
  (∀ s t : State, s.canonical → step s = .next t → t.canonical) ∧
  (∀ s t : State, s.image.inStep → step s = .next t → t.image.inStep)

/-- The machine at reset: nothing waits, the capacities and the canonical form hold, LINE is at 115,200 baud with address
0, solo, in an OBSERVER session and closed, the radio is in SLEEP, local time is in counter mode at 0, the network
UNSYNCED without a key, slotframe 0 has 100 slots, WAKE is released and VAUX is off (R45, R59, R70, R79, R177, R258, R277,
R288, R346, R402). That the part is not yet powered is the model's choice (log 4). -/
def Obligations.ResetState : Prop :=
  State.reset.bounded ∧ State.reset.canonical ∧ State.reset.pending = [] ∧ State.reset.line.rate = 115200 ∧
    State.reset.line.address = 0 ∧ State.reset.line.solo = true ∧ State.reset.line.level = .observer ∧
    State.reset.hears = false ∧ State.reset.radio.st = .sleep ∧ State.reset.time.counterMode = true ∧
    State.reset.readingQ = 0 ∧ State.reset.stamp = .c 0 ∧ State.reset.net.st = .unsynced ∧
    State.reset.roster.netKey = none ∧ State.reset.sched.frames[0] = 100 ∧ State.reset.wake.low = false ∧
    State.reset.mon.vaux = .off ∧ State.reset.work.round = none
end

