-- ==== Sys2Proof/Laws/Frames.lean ====
section
/-!
SUPPORT. Sys2Proof/Laws/Frames.lean: what each shared operation leaves alone. `<operation>_frame` says once which groups of
State the operation never changes, whatever its operands; simp uses its parts one by one. `<operation>_eq` says the same of
the state an operation answers beside a value, for use after a case split.
-/

namespace Sys2Proof.Machine

theorem State.each_keeps {α β : Type} (g : State → β) (l : List α) (f : α → State → State) (s : State)
    (h : ∀ x s, g (f x s) = g s) : g (s.each l f) = g s := by
  induction l generalizing s with
  | nil => rfl
  | cons x xs ih => exact (ih (f x s)).trans (h x s)

theorem State.sweepList_keeps {α β : Type} (g : State → β) (f : α → List Placed → State → List Placed × State)
    (xs : List α) (s : State) (h : ∀ x l s, g (f x l s).2 = g s) : g (State.sweepList f xs s).2 = g s := by
  suffices H : ∀ (xs : List α) (acc : List Placed × State), g (xs.foldl (fun acc x => f x acc.1 acc.2) acc).2 = g acc.2 from
    H xs ([], s)
  intro xs
  induction xs with
  | nil => intro acc; rfl
  | cons x xs ih => intro acc; exact (ih (f x acc.1 acc.2)).trans (h x acc.1 acc.2)

@[simp] theorem State.each_pending {α : Type} (l : List α) (f : α → State → State) (s : State)
    (h : ∀ x s, (f x s).pending = s.pending) : (s.each l f).pending = s.pending := State.each_keeps (fun s => s.pending) l f s h
@[simp] theorem State.each_now {α : Type} (l : List α) (f : α → State → State) (s : State)
    (h : ∀ x s, (f x s).now = s.now) : (s.each l f).now = s.now := State.each_keeps (fun s => s.now) l f s h
@[simp] theorem State.each_part {α : Type} (l : List α) (f : α → State → State) (s : State)
    (h : ∀ x s, (f x s).part = s.part) : (s.each l f).part = s.part := State.each_keeps (fun s => s.part) l f s h
@[simp] theorem State.each_params {α : Type} (l : List α) (f : α → State → State) (s : State)
    (h : ∀ x s, (f x s).params = s.params) : (s.each l f).params = s.params := State.each_keeps (fun s => s.params) l f s h
@[simp] theorem State.each_line {α : Type} (l : List α) (f : α → State → State) (s : State)
    (h : ∀ x s, (f x s).line = s.line) : (s.each l f).line = s.line := State.each_keeps (fun s => s.line) l f s h
@[simp] theorem State.each_wake {α : Type} (l : List α) (f : α → State → State) (s : State)
    (h : ∀ x s, (f x s).wake = s.wake) : (s.each l f).wake = s.wake := State.each_keeps (fun s => s.wake) l f s h
@[simp] theorem State.each_jomen {α : Type} (l : List α) (f : α → State → State) (s : State)
    (h : ∀ x s, (f x s).jomen = s.jomen) : (s.each l f).jomen = s.jomen := State.each_keeps (fun s => s.jomen) l f s h
@[simp] theorem State.each_radio {α : Type} (l : List α) (f : α → State → State) (s : State)
    (h : ∀ x s, (f x s).radio = s.radio) : (s.each l f).radio = s.radio := State.each_keeps (fun s => s.radio) l f s h
@[simp] theorem State.each_rx {α : Type} (l : List α) (f : α → State → State) (s : State)
    (h : ∀ x s, (f x s).rx = s.rx) : (s.each l f).rx = s.rx := State.each_keeps (fun s => s.rx) l f s h
@[simp] theorem State.each_time {α : Type} (l : List α) (f : α → State → State) (s : State)
    (h : ∀ x s, (f x s).time = s.time) : (s.each l f).time = s.time := State.each_keeps (fun s => s.time) l f s h
@[simp] theorem State.each_sched {α : Type} (l : List α) (f : α → State → State) (s : State)
    (h : ∀ x s, (f x s).sched = s.sched) : (s.each l f).sched = s.sched := State.each_keeps (fun s => s.sched) l f s h
@[simp] theorem State.each_net {α : Type} (l : List α) (f : α → State → State) (s : State)
    (h : ∀ x s, (f x s).net = s.net) : (s.each l f).net = s.net := State.each_keeps (fun s => s.net) l f s h
@[simp] theorem State.each_work {α : Type} (l : List α) (f : α → State → State) (s : State)
    (h : ∀ x s, (f x s).work = s.work) : (s.each l f).work = s.work := State.each_keeps (fun s => s.work) l f s h
@[simp] theorem State.each_roster {α : Type} (l : List α) (f : α → State → State) (s : State)
    (h : ∀ x s, (f x s).roster = s.roster) : (s.each l f).roster = s.roster := State.each_keeps (fun s => s.roster) l f s h
@[simp] theorem State.each_mon {α : Type} (l : List α) (f : α → State → State) (s : State)
    (h : ∀ x s, (f x s).mon = s.mon) : (s.each l f).mon = s.mon := State.each_keeps (fun s => s.mon) l f s h
@[simp] theorem State.each_pm {α : Type} (l : List α) (f : α → State → State) (s : State)
    (h : ∀ x s, (f x s).pm = s.pm) : (s.each l f).pm = s.pm := State.each_keeps (fun s => s.pm) l f s h
@[simp] theorem State.each_store {α : Type} (l : List α) (f : α → State → State) (s : State)
    (h : ∀ x s, (f x s).store = s.store) : (s.each l f).store = s.store := State.each_keeps (fun s => s.store) l f s h
@[simp] theorem State.each_image {α : Type} (l : List α) (f : α → State → State) (s : State)
    (h : ∀ x s, (f x s).image = s.image) : (s.each l f).image = s.image := State.each_keeps (fun s => s.image) l f s h
@[simp] theorem State.each_faults {α : Type} (l : List α) (f : α → State → State) (s : State)
    (h : ∀ x s, (f x s).faults = s.faults) : (s.each l f).faults = s.faults := State.each_keeps (fun s => s.faults) l f s h
@[simp] theorem State.each_tally {α : Type} (l : List α) (f : α → State → State) (s : State)
    (h : ∀ x s, (f x s).tally = s.tally) : (s.each l f).tally = s.tally := State.each_keeps (fun s => s.tally) l f s h
@[simp] theorem State.sweepList_pending {α : Type} (f : α → List Placed → State → List Placed × State)
    (xs : List α) (s : State)
    (h : ∀ x l s, (f x l s).2.pending = s.pending) : (State.sweepList f xs s).2.pending = s.pending := State.sweepList_keeps (fun s => s.pending) f xs s h
@[simp] theorem State.sweepList_now {α : Type} (f : α → List Placed → State → List Placed × State) (xs : List α)
    (s : State)
    (h : ∀ x l s, (f x l s).2.now = s.now) : (State.sweepList f xs s).2.now = s.now := State.sweepList_keeps (fun s => s.now) f xs s h
@[simp] theorem State.sweepList_part {α : Type} (f : α → List Placed → State → List Placed × State) (xs : List α)
    (s : State)
    (h : ∀ x l s, (f x l s).2.part = s.part) : (State.sweepList f xs s).2.part = s.part := State.sweepList_keeps (fun s => s.part) f xs s h
@[simp] theorem State.sweepList_params {α : Type} (f : α → List Placed → State → List Placed × State)
    (xs : List α) (s : State)
    (h : ∀ x l s, (f x l s).2.params = s.params) : (State.sweepList f xs s).2.params = s.params := State.sweepList_keeps (fun s => s.params) f xs s h
@[simp] theorem State.sweepList_line {α : Type} (f : α → List Placed → State → List Placed × State) (xs : List α)
    (s : State)
    (h : ∀ x l s, (f x l s).2.line = s.line) : (State.sweepList f xs s).2.line = s.line := State.sweepList_keeps (fun s => s.line) f xs s h
@[simp] theorem State.sweepList_wake {α : Type} (f : α → List Placed → State → List Placed × State) (xs : List α)
    (s : State)
    (h : ∀ x l s, (f x l s).2.wake = s.wake) : (State.sweepList f xs s).2.wake = s.wake := State.sweepList_keeps (fun s => s.wake) f xs s h
@[simp] theorem State.sweepList_jomen {α : Type} (f : α → List Placed → State → List Placed × State) (xs : List α)
    (s : State)
    (h : ∀ x l s, (f x l s).2.jomen = s.jomen) : (State.sweepList f xs s).2.jomen = s.jomen := State.sweepList_keeps (fun s => s.jomen) f xs s h
@[simp] theorem State.sweepList_radio {α : Type} (f : α → List Placed → State → List Placed × State) (xs : List α)
    (s : State)
    (h : ∀ x l s, (f x l s).2.radio = s.radio) : (State.sweepList f xs s).2.radio = s.radio := State.sweepList_keeps (fun s => s.radio) f xs s h
@[simp] theorem State.sweepList_rx {α : Type} (f : α → List Placed → State → List Placed × State) (xs : List α)
    (s : State)
    (h : ∀ x l s, (f x l s).2.rx = s.rx) : (State.sweepList f xs s).2.rx = s.rx := State.sweepList_keeps (fun s => s.rx) f xs s h
@[simp] theorem State.sweepList_time {α : Type} (f : α → List Placed → State → List Placed × State) (xs : List α)
    (s : State)
    (h : ∀ x l s, (f x l s).2.time = s.time) : (State.sweepList f xs s).2.time = s.time := State.sweepList_keeps (fun s => s.time) f xs s h
@[simp] theorem State.sweepList_sched {α : Type} (f : α → List Placed → State → List Placed × State) (xs : List α)
    (s : State)
    (h : ∀ x l s, (f x l s).2.sched = s.sched) : (State.sweepList f xs s).2.sched = s.sched := State.sweepList_keeps (fun s => s.sched) f xs s h
@[simp] theorem State.sweepList_net {α : Type} (f : α → List Placed → State → List Placed × State) (xs : List α)
    (s : State)
    (h : ∀ x l s, (f x l s).2.net = s.net) : (State.sweepList f xs s).2.net = s.net := State.sweepList_keeps (fun s => s.net) f xs s h
@[simp] theorem State.sweepList_work {α : Type} (f : α → List Placed → State → List Placed × State) (xs : List α)
    (s : State)
    (h : ∀ x l s, (f x l s).2.work = s.work) : (State.sweepList f xs s).2.work = s.work := State.sweepList_keeps (fun s => s.work) f xs s h
@[simp] theorem State.sweepList_roster {α : Type} (f : α → List Placed → State → List Placed × State)
    (xs : List α) (s : State)
    (h : ∀ x l s, (f x l s).2.roster = s.roster) : (State.sweepList f xs s).2.roster = s.roster := State.sweepList_keeps (fun s => s.roster) f xs s h
@[simp] theorem State.sweepList_mon {α : Type} (f : α → List Placed → State → List Placed × State) (xs : List α)
    (s : State)
    (h : ∀ x l s, (f x l s).2.mon = s.mon) : (State.sweepList f xs s).2.mon = s.mon := State.sweepList_keeps (fun s => s.mon) f xs s h
@[simp] theorem State.sweepList_pm {α : Type} (f : α → List Placed → State → List Placed × State) (xs : List α)
    (s : State)
    (h : ∀ x l s, (f x l s).2.pm = s.pm) : (State.sweepList f xs s).2.pm = s.pm := State.sweepList_keeps (fun s => s.pm) f xs s h
@[simp] theorem State.sweepList_store {α : Type} (f : α → List Placed → State → List Placed × State) (xs : List α)
    (s : State)
    (h : ∀ x l s, (f x l s).2.store = s.store) : (State.sweepList f xs s).2.store = s.store := State.sweepList_keeps (fun s => s.store) f xs s h
@[simp] theorem State.sweepList_image {α : Type} (f : α → List Placed → State → List Placed × State) (xs : List α)
    (s : State)
    (h : ∀ x l s, (f x l s).2.image = s.image) : (State.sweepList f xs s).2.image = s.image := State.sweepList_keeps (fun s => s.image) f xs s h
@[simp] theorem State.sweepList_faults {α : Type} (f : α → List Placed → State → List Placed × State)
    (xs : List α) (s : State)
    (h : ∀ x l s, (f x l s).2.faults = s.faults) : (State.sweepList f xs s).2.faults = s.faults := State.sweepList_keeps (fun s => s.faults) f xs s h
@[simp] theorem State.sweepList_tally {α : Type} (f : α → List Placed → State → List Placed × State) (xs : List α)
    (s : State)
    (h : ∀ x l s, (f x l s).2.tally = s.tally) : (State.sweepList f xs s).2.tally = s.tally := State.sweepList_keeps (fun s => s.tally) f xs s h
@[simp] theorem State.ite_pending (c : Prop) [Decidable c] (a b : State) :
    (if c then a else b).pending = if c then a.pending else b.pending := apply_ite State.pending c a b
@[simp] theorem State.ite_now (c : Prop) [Decidable c] (a b : State) :
    (if c then a else b).now = if c then a.now else b.now := apply_ite State.now c a b
@[simp] theorem State.ite_part (c : Prop) [Decidable c] (a b : State) :
    (if c then a else b).part = if c then a.part else b.part := apply_ite State.part c a b
@[simp] theorem State.ite_params (c : Prop) [Decidable c] (a b : State) :
    (if c then a else b).params = if c then a.params else b.params := apply_ite State.params c a b
@[simp] theorem State.ite_line (c : Prop) [Decidable c] (a b : State) :
    (if c then a else b).line = if c then a.line else b.line := apply_ite State.line c a b
@[simp] theorem State.ite_wake (c : Prop) [Decidable c] (a b : State) :
    (if c then a else b).wake = if c then a.wake else b.wake := apply_ite State.wake c a b
@[simp] theorem State.ite_jomen (c : Prop) [Decidable c] (a b : State) :
    (if c then a else b).jomen = if c then a.jomen else b.jomen := apply_ite State.jomen c a b
@[simp] theorem State.ite_radio (c : Prop) [Decidable c] (a b : State) :
    (if c then a else b).radio = if c then a.radio else b.radio := apply_ite State.radio c a b
@[simp] theorem State.ite_rx (c : Prop) [Decidable c] (a b : State) :
    (if c then a else b).rx = if c then a.rx else b.rx := apply_ite State.rx c a b
@[simp] theorem State.ite_time (c : Prop) [Decidable c] (a b : State) :
    (if c then a else b).time = if c then a.time else b.time := apply_ite State.time c a b
@[simp] theorem State.ite_sched (c : Prop) [Decidable c] (a b : State) :
    (if c then a else b).sched = if c then a.sched else b.sched := apply_ite State.sched c a b
@[simp] theorem State.ite_net (c : Prop) [Decidable c] (a b : State) :
    (if c then a else b).net = if c then a.net else b.net := apply_ite State.net c a b
@[simp] theorem State.ite_work (c : Prop) [Decidable c] (a b : State) :
    (if c then a else b).work = if c then a.work else b.work := apply_ite State.work c a b
@[simp] theorem State.ite_roster (c : Prop) [Decidable c] (a b : State) :
    (if c then a else b).roster = if c then a.roster else b.roster := apply_ite State.roster c a b
@[simp] theorem State.ite_mon (c : Prop) [Decidable c] (a b : State) :
    (if c then a else b).mon = if c then a.mon else b.mon := apply_ite State.mon c a b
@[simp] theorem State.ite_pm (c : Prop) [Decidable c] (a b : State) :
    (if c then a else b).pm = if c then a.pm else b.pm := apply_ite State.pm c a b
@[simp] theorem State.ite_store (c : Prop) [Decidable c] (a b : State) :
    (if c then a else b).store = if c then a.store else b.store := apply_ite State.store c a b
@[simp] theorem State.ite_image (c : Prop) [Decidable c] (a b : State) :
    (if c then a else b).image = if c then a.image else b.image := apply_ite State.image c a b
@[simp] theorem State.ite_faults (c : Prop) [Decidable c] (a b : State) :
    (if c then a else b).faults = if c then a.faults else b.faults := apply_ite State.faults c a b
@[simp] theorem State.ite_tally (c : Prop) [Decidable c] (a b : State) :
    (if c then a else b).tally = if c then a.tally else b.tally := apply_ite State.tally c a b

@[simp] theorem snd_ite {α β : Type} (c : Prop) [Decidable c] (a b : α × β) :
    (if c then a else b).2 = if c then a.2 else b.2 := apply_ite Prod.snd c a b

@[simp] theorem Done.s_ite (c : Prop) [Decidable c] (a b : Done) : (if c then a else b).s = if c then a.s else b.s :=
  apply_ite Done.s c a b

@[simp] theorem State.draw_frame
    (s : State) : s.draw.1 = s.fresh ∧ s.draw.2 = { s with fresh := s.fresh + 1 } := ⟨rfl, rfl⟩

@[simp] theorem good_s (s : State) (o : List OutLine) (b : Option Nat) (a : Option Aud) : (good s o b a).s = s := rfl

@[simp] theorem bad_s (s : State) (e : Err) (k : Nat) (b : Option Nat) (a : Option Aud) : (bad s e k b a).s = s := rfl

@[simp] theorem needs_s (l : Level) (s : State) (b : Option Nat) (a : Option Aud) (k : Done) :
    (needs l s b a k).s = if s.allowed l then k.s else s := by unfold needs; split <;> simp_all

@[simp] theorem State.onWork_frame (f : Work → Work) (s : State) :
    (State.onWork f s).pending = s.pending ∧ (State.onWork f s).now = s.now ∧ (State.onWork f s).part = s.part ∧
      (State.onWork f s).params = s.params ∧ (State.onWork f s).line = s.line ∧ (State.onWork f s).wake = s.wake ∧
      (State.onWork f s).jomen = s.jomen ∧ (State.onWork f s).radio = s.radio ∧ (State.onWork f s).rx = s.rx ∧
      (State.onWork f s).time = s.time ∧ (State.onWork f s).sched = s.sched ∧ (State.onWork f s).net = s.net ∧
      (State.onWork f s).roster = s.roster ∧ (State.onWork f s).mon = s.mon ∧ (State.onWork f s).pm = s.pm ∧
      (State.onWork f s).store = s.store ∧ (State.onWork f s).image = s.image ∧
      (State.onWork f s).faults = s.faults ∧ (State.onWork f s).tally = s.tally := by
  simp [State.onWork]

@[simp] theorem State.onRoster_frame (f : Roster → Roster) (s : State) :
    (State.onRoster f s).pending = s.pending ∧ (State.onRoster f s).now = s.now ∧
      (State.onRoster f s).part = s.part ∧ (State.onRoster f s).params = s.params ∧
      (State.onRoster f s).line = s.line ∧ (State.onRoster f s).wake = s.wake ∧
      (State.onRoster f s).jomen = s.jomen ∧ (State.onRoster f s).radio = s.radio ∧
      (State.onRoster f s).rx = s.rx ∧ (State.onRoster f s).time = s.time ∧ (State.onRoster f s).sched = s.sched ∧
      (State.onRoster f s).net = s.net ∧ (State.onRoster f s).work = s.work ∧ (State.onRoster f s).mon = s.mon ∧
      (State.onRoster f s).pm = s.pm ∧ (State.onRoster f s).store = s.store ∧
      (State.onRoster f s).image = s.image ∧ (State.onRoster f s).faults = s.faults ∧
      (State.onRoster f s).tally = s.tally := by
  simp [State.onRoster]

@[simp] theorem State.onStore_frame (f : Store → Store) (s : State) :
    (State.onStore f s).pending = s.pending ∧ (State.onStore f s).now = s.now ∧
      (State.onStore f s).part = s.part ∧ (State.onStore f s).params = s.params ∧
      (State.onStore f s).line = s.line ∧ (State.onStore f s).wake = s.wake ∧
      (State.onStore f s).jomen = s.jomen ∧ (State.onStore f s).radio = s.radio ∧ (State.onStore f s).rx = s.rx ∧
      (State.onStore f s).time = s.time ∧ (State.onStore f s).sched = s.sched ∧ (State.onStore f s).net = s.net ∧
      (State.onStore f s).work = s.work ∧ (State.onStore f s).roster = s.roster ∧
      (State.onStore f s).mon = s.mon ∧ (State.onStore f s).pm = s.pm ∧ (State.onStore f s).image = s.image ∧
      (State.onStore f s).faults = s.faults ∧ (State.onStore f s).tally = s.tally := by
  simp [State.onStore]

@[simp] theorem State.fireAll_frame (s : State) :
    (State.fireAll s).pending = s.pending ∧ (State.fireAll s).now = s.now ∧ (State.fireAll s).part = s.part ∧
      (State.fireAll s).line = s.line ∧ (State.fireAll s).wake = s.wake ∧ (State.fireAll s).jomen = s.jomen ∧
      (State.fireAll s).radio = s.radio ∧ (State.fireAll s).rx = s.rx ∧ (State.fireAll s).time = s.time ∧
      (State.fireAll s).sched = s.sched ∧ (State.fireAll s).net = s.net ∧ (State.fireAll s).work = s.work ∧
      (State.fireAll s).roster = s.roster ∧ (State.fireAll s).mon = s.mon ∧ (State.fireAll s).pm = s.pm ∧
      (State.fireAll s).store = s.store ∧ (State.fireAll s).image = s.image ∧
      (State.fireAll s).faults = s.faults ∧ (State.fireAll s).tally = s.tally := by
  simp [State.fireAll]

@[simp] theorem State.onWake_frame (f : Wake → Wake) (s : State) :
    (State.onWake f s).pending = s.pending ∧ (State.onWake f s).now = s.now ∧ (State.onWake f s).part = s.part ∧
      (State.onWake f s).params = s.params ∧ (State.onWake f s).line = s.line ∧
      (State.onWake f s).jomen = s.jomen ∧ (State.onWake f s).radio = s.radio ∧ (State.onWake f s).rx = s.rx ∧
      (State.onWake f s).time = s.time ∧ (State.onWake f s).sched = s.sched ∧ (State.onWake f s).net = s.net ∧
      (State.onWake f s).work = s.work ∧ (State.onWake f s).roster = s.roster ∧ (State.onWake f s).mon = s.mon ∧
      (State.onWake f s).pm = s.pm ∧ (State.onWake f s).store = s.store ∧ (State.onWake f s).image = s.image ∧
      (State.onWake f s).faults = s.faults ∧ (State.onWake f s).tally = s.tally := by
  simp [State.onWake]

@[simp] theorem State.onPm_frame (f : Pm → Pm) (s : State) :
    (State.onPm f s).pending = s.pending ∧ (State.onPm f s).now = s.now ∧ (State.onPm f s).part = s.part ∧
      (State.onPm f s).params = s.params ∧ (State.onPm f s).line = s.line ∧ (State.onPm f s).wake = s.wake ∧
      (State.onPm f s).jomen = s.jomen ∧ (State.onPm f s).radio = s.radio ∧ (State.onPm f s).rx = s.rx ∧
      (State.onPm f s).time = s.time ∧ (State.onPm f s).sched = s.sched ∧ (State.onPm f s).net = s.net ∧
      (State.onPm f s).work = s.work ∧ (State.onPm f s).roster = s.roster ∧ (State.onPm f s).mon = s.mon ∧
      (State.onPm f s).store = s.store ∧ (State.onPm f s).image = s.image ∧ (State.onPm f s).faults = s.faults ∧
      (State.onPm f s).tally = s.tally := by
  simp [State.onPm]

@[simp] theorem State.onNet_frame (f : Net → Net) (s : State) :
    (State.onNet f s).pending = s.pending ∧ (State.onNet f s).now = s.now ∧ (State.onNet f s).part = s.part ∧
      (State.onNet f s).params = s.params ∧ (State.onNet f s).line = s.line ∧ (State.onNet f s).wake = s.wake ∧
      (State.onNet f s).jomen = s.jomen ∧ (State.onNet f s).radio = s.radio ∧ (State.onNet f s).rx = s.rx ∧
      (State.onNet f s).time = s.time ∧ (State.onNet f s).sched = s.sched ∧ (State.onNet f s).work = s.work ∧
      (State.onNet f s).roster = s.roster ∧ (State.onNet f s).mon = s.mon ∧ (State.onNet f s).pm = s.pm ∧
      (State.onNet f s).store = s.store ∧ (State.onNet f s).image = s.image ∧
      (State.onNet f s).faults = s.faults ∧ (State.onNet f s).tally = s.tally := by
  simp [State.onNet]

@[simp] theorem State.drawTo_frame (bound : ℕ) (s : State) :
    (State.drawTo bound s).2.pending = s.pending ∧ (State.drawTo bound s).2.now = s.now ∧
      (State.drawTo bound s).2.part = s.part ∧ (State.drawTo bound s).2.params = s.params ∧
      (State.drawTo bound s).2.line = s.line ∧ (State.drawTo bound s).2.wake = s.wake ∧
      (State.drawTo bound s).2.jomen = s.jomen ∧ (State.drawTo bound s).2.radio = s.radio ∧
      (State.drawTo bound s).2.rx = s.rx ∧ (State.drawTo bound s).2.time = s.time ∧
      (State.drawTo bound s).2.sched = s.sched ∧ (State.drawTo bound s).2.net = s.net ∧
      (State.drawTo bound s).2.work = s.work ∧ (State.drawTo bound s).2.roster = s.roster ∧
      (State.drawTo bound s).2.mon = s.mon ∧ (State.drawTo bound s).2.pm = s.pm ∧
      (State.drawTo bound s).2.store = s.store ∧ (State.drawTo bound s).2.image = s.image ∧
      (State.drawTo bound s).2.faults = s.faults ∧ (State.drawTo bound s).2.tally = s.tally := by
  simp [State.drawTo]

theorem State.drawTo_eq {bound : ℕ} {s : State} {r_ : _} (h_ : (State.drawTo bound s) = r_) :
    r_.2.pending = s.pending ∧ r_.2.now = s.now ∧ r_.2.part = s.part ∧ r_.2.params = s.params ∧
      r_.2.line = s.line ∧ r_.2.wake = s.wake ∧ r_.2.jomen = s.jomen ∧ r_.2.radio = s.radio ∧ r_.2.rx = s.rx ∧
      r_.2.time = s.time ∧ r_.2.sched = s.sched ∧ r_.2.net = s.net ∧ r_.2.work = s.work ∧ r_.2.roster = s.roster ∧
      r_.2.mon = s.mon ∧ r_.2.pm = s.pm ∧ r_.2.store = s.store ∧ r_.2.image = s.image ∧ r_.2.faults = s.faults ∧
      r_.2.tally = s.tally := by
  subst h_; exact State.drawTo_frame bound s

@[simp] theorem State.takeRoundId_frame (s : State) :
    (State.takeRoundId s).2.pending = s.pending ∧ (State.takeRoundId s).2.now = s.now ∧
      (State.takeRoundId s).2.part = s.part ∧ (State.takeRoundId s).2.params = s.params ∧
      (State.takeRoundId s).2.line = s.line ∧ (State.takeRoundId s).2.wake = s.wake ∧
      (State.takeRoundId s).2.jomen = s.jomen ∧ (State.takeRoundId s).2.radio = s.radio ∧
      (State.takeRoundId s).2.rx = s.rx ∧ (State.takeRoundId s).2.time = s.time ∧
      (State.takeRoundId s).2.sched = s.sched ∧ (State.takeRoundId s).2.net = s.net ∧
      (State.takeRoundId s).2.roster = s.roster ∧ (State.takeRoundId s).2.mon = s.mon ∧
      (State.takeRoundId s).2.pm = s.pm ∧ (State.takeRoundId s).2.store = s.store ∧
      (State.takeRoundId s).2.image = s.image ∧ (State.takeRoundId s).2.faults = s.faults ∧
      (State.takeRoundId s).2.tally = s.tally := by
  simp [State.takeRoundId]

theorem State.takeRoundId_eq {s : State} {r_ : _} (h_ : (State.takeRoundId s) = r_) :
    r_.2.pending = s.pending ∧ r_.2.now = s.now ∧ r_.2.part = s.part ∧ r_.2.params = s.params ∧
      r_.2.line = s.line ∧ r_.2.wake = s.wake ∧ r_.2.jomen = s.jomen ∧ r_.2.radio = s.radio ∧ r_.2.rx = s.rx ∧
      r_.2.time = s.time ∧ r_.2.sched = s.sched ∧ r_.2.net = s.net ∧ r_.2.roster = s.roster ∧ r_.2.mon = s.mon ∧
      r_.2.pm = s.pm ∧ r_.2.store = s.store ∧ r_.2.image = s.image ∧ r_.2.faults = s.faults ∧
      r_.2.tally = s.tally := by
  subst h_; exact State.takeRoundId_frame s

@[simp] theorem State.onTally_frame (f : Tally → Tally) (s : State) :
    (State.onTally f s).pending = s.pending ∧ (State.onTally f s).now = s.now ∧
      (State.onTally f s).part = s.part ∧ (State.onTally f s).params = s.params ∧
      (State.onTally f s).line = s.line ∧ (State.onTally f s).wake = s.wake ∧
      (State.onTally f s).jomen = s.jomen ∧ (State.onTally f s).radio = s.radio ∧ (State.onTally f s).rx = s.rx ∧
      (State.onTally f s).time = s.time ∧ (State.onTally f s).sched = s.sched ∧ (State.onTally f s).net = s.net ∧
      (State.onTally f s).work = s.work ∧ (State.onTally f s).roster = s.roster ∧
      (State.onTally f s).mon = s.mon ∧ (State.onTally f s).pm = s.pm ∧ (State.onTally f s).store = s.store ∧
      (State.onTally f s).image = s.image ∧ (State.onTally f s).faults = s.faults := by
  simp [State.onTally]

@[simp] theorem State.onLine_frame (f : Line → Line) (s : State) :
    (State.onLine f s).pending = s.pending ∧ (State.onLine f s).now = s.now ∧ (State.onLine f s).part = s.part ∧
      (State.onLine f s).params = s.params ∧ (State.onLine f s).wake = s.wake ∧
      (State.onLine f s).jomen = s.jomen ∧ (State.onLine f s).radio = s.radio ∧ (State.onLine f s).rx = s.rx ∧
      (State.onLine f s).time = s.time ∧ (State.onLine f s).sched = s.sched ∧ (State.onLine f s).net = s.net ∧
      (State.onLine f s).work = s.work ∧ (State.onLine f s).roster = s.roster ∧ (State.onLine f s).mon = s.mon ∧
      (State.onLine f s).pm = s.pm ∧ (State.onLine f s).store = s.store ∧ (State.onLine f s).image = s.image ∧
      (State.onLine f s).faults = s.faults ∧ (State.onLine f s).tally = s.tally := by
  simp [State.onLine]

@[simp] theorem State.journal_frame (seq : ℕ) (u : Undo) (s : State) :
    (State.journal seq u s).pending = s.pending ∧ (State.journal seq u s).now = s.now ∧
      (State.journal seq u s).part = s.part ∧ (State.journal seq u s).params = s.params ∧
      (State.journal seq u s).line = s.line ∧ (State.journal seq u s).wake = s.wake ∧
      (State.journal seq u s).jomen = s.jomen ∧ (State.journal seq u s).radio = s.radio ∧
      (State.journal seq u s).rx = s.rx ∧ (State.journal seq u s).time = s.time ∧
      (State.journal seq u s).sched = s.sched ∧ (State.journal seq u s).net = s.net ∧
      (State.journal seq u s).work = s.work ∧ (State.journal seq u s).roster = s.roster ∧
      (State.journal seq u s).mon = s.mon ∧ (State.journal seq u s).pm = s.pm ∧
      (State.journal seq u s).image = s.image ∧ (State.journal seq u s).faults = s.faults ∧
      (State.journal seq u s).tally = s.tally := by
  simp [State.journal]

@[simp] theorem State.onImage_frame (f : Images → Images) (s : State) :
    (State.onImage f s).pending = s.pending ∧ (State.onImage f s).now = s.now ∧
      (State.onImage f s).part = s.part ∧ (State.onImage f s).params = s.params ∧
      (State.onImage f s).line = s.line ∧ (State.onImage f s).wake = s.wake ∧
      (State.onImage f s).jomen = s.jomen ∧ (State.onImage f s).radio = s.radio ∧ (State.onImage f s).rx = s.rx ∧
      (State.onImage f s).time = s.time ∧ (State.onImage f s).sched = s.sched ∧ (State.onImage f s).net = s.net ∧
      (State.onImage f s).work = s.work ∧ (State.onImage f s).roster = s.roster ∧
      (State.onImage f s).mon = s.mon ∧ (State.onImage f s).pm = s.pm ∧ (State.onImage f s).store = s.store ∧
      (State.onImage f s).faults = s.faults ∧ (State.onImage f s).tally = s.tally := by
  simp [State.onImage]

@[simp] theorem State.putImg_frame (r : ImageRef) (i : Option Img) (s : State) :
    (State.putImg r i s).pending = s.pending ∧ (State.putImg r i s).now = s.now ∧
      (State.putImg r i s).part = s.part ∧ (State.putImg r i s).params = s.params ∧
      (State.putImg r i s).line = s.line ∧ (State.putImg r i s).wake = s.wake ∧
      (State.putImg r i s).jomen = s.jomen ∧ (State.putImg r i s).radio = s.radio ∧
      (State.putImg r i s).rx = s.rx ∧ (State.putImg r i s).time = s.time ∧ (State.putImg r i s).sched = s.sched ∧
      (State.putImg r i s).net = s.net ∧ (State.putImg r i s).work = s.work ∧
      (State.putImg r i s).roster = s.roster ∧ (State.putImg r i s).mon = s.mon ∧ (State.putImg r i s).pm = s.pm ∧
      (State.putImg r i s).store = s.store ∧ (State.putImg r i s).faults = s.faults ∧
      (State.putImg r i s).tally = s.tally := by
  simp [State.putImg]

@[simp] theorem State.roundHeard_frame (x : RxFrame) (i : ℕ) (s : State) :
    (State.roundHeard x i s).pending = s.pending ∧ (State.roundHeard x i s).now = s.now ∧
      (State.roundHeard x i s).part = s.part ∧ (State.roundHeard x i s).params = s.params ∧
      (State.roundHeard x i s).line = s.line ∧ (State.roundHeard x i s).wake = s.wake ∧
      (State.roundHeard x i s).jomen = s.jomen ∧ (State.roundHeard x i s).radio = s.radio ∧
      (State.roundHeard x i s).rx = s.rx ∧ (State.roundHeard x i s).time = s.time ∧
      (State.roundHeard x i s).sched = s.sched ∧ (State.roundHeard x i s).net = s.net ∧
      (State.roundHeard x i s).roster = s.roster ∧ (State.roundHeard x i s).mon = s.mon ∧
      (State.roundHeard x i s).pm = s.pm ∧ (State.roundHeard x i s).store = s.store ∧
      (State.roundHeard x i s).image = s.image ∧ (State.roundHeard x i s).faults = s.faults ∧
      (State.roundHeard x i s).tally = s.tally := by
  unfold State.roundHeard; (repeat' split) <;> simp

@[simp] theorem State.bytes_frame (p : Port) (n : ℕ) (s : State) :
    (State.bytes p n s).pending = s.pending ∧ (State.bytes p n s).now = s.now ∧
      (State.bytes p n s).part = s.part ∧ (State.bytes p n s).params = s.params ∧
      (State.bytes p n s).line = s.line ∧ (State.bytes p n s).wake = s.wake ∧
      (State.bytes p n s).jomen = s.jomen ∧ (State.bytes p n s).radio = s.radio ∧ (State.bytes p n s).rx = s.rx ∧
      (State.bytes p n s).time = s.time ∧ (State.bytes p n s).sched = s.sched ∧ (State.bytes p n s).net = s.net ∧
      (State.bytes p n s).work = s.work ∧ (State.bytes p n s).roster = s.roster ∧
      (State.bytes p n s).mon = s.mon ∧ (State.bytes p n s).pm = s.pm ∧ (State.bytes p n s).store = s.store ∧
      (State.bytes p n s).image = s.image ∧ (State.bytes p n s).faults = s.faults := by
  simp [State.bytes]

@[simp] theorem State.skipCell_frame (c : Cell) (s : State) :
    (State.skipCell c s).pending = s.pending ∧ (State.skipCell c s).now = s.now ∧
      (State.skipCell c s).part = s.part ∧ (State.skipCell c s).params = s.params ∧
      (State.skipCell c s).line = s.line ∧ (State.skipCell c s).wake = s.wake ∧
      (State.skipCell c s).jomen = s.jomen ∧ (State.skipCell c s).radio = s.radio ∧
      (State.skipCell c s).rx = s.rx ∧ (State.skipCell c s).time = s.time ∧ (State.skipCell c s).sched = s.sched ∧
      (State.skipCell c s).net = s.net ∧ (State.skipCell c s).roster = s.roster ∧
      (State.skipCell c s).mon = s.mon ∧ (State.skipCell c s).pm = s.pm ∧ (State.skipCell c s).store = s.store ∧
      (State.skipCell c s).image = s.image ∧ (State.skipCell c s).faults = s.faults ∧
      (State.skipCell c s).tally = s.tally := by
  simp [State.skipCell]

@[simp] theorem State.onFaults_frame (f : List Res → List Res) (s : State) :
    (State.onFaults f s).pending = s.pending ∧ (State.onFaults f s).now = s.now ∧
      (State.onFaults f s).part = s.part ∧ (State.onFaults f s).params = s.params ∧
      (State.onFaults f s).line = s.line ∧ (State.onFaults f s).wake = s.wake ∧
      (State.onFaults f s).jomen = s.jomen ∧ (State.onFaults f s).radio = s.radio ∧
      (State.onFaults f s).rx = s.rx ∧ (State.onFaults f s).time = s.time ∧ (State.onFaults f s).sched = s.sched ∧
      (State.onFaults f s).net = s.net ∧ (State.onFaults f s).work = s.work ∧
      (State.onFaults f s).roster = s.roster ∧ (State.onFaults f s).mon = s.mon ∧ (State.onFaults f s).pm = s.pm ∧
      (State.onFaults f s).store = s.store ∧ (State.onFaults f s).image = s.image ∧
      (State.onFaults f s).tally = s.tally := by
  simp [State.onFaults]

@[simp] theorem State.onRound_frame (f : Round → Round) (s : State) :
    (State.onRound f s).pending = s.pending ∧ (State.onRound f s).now = s.now ∧
      (State.onRound f s).part = s.part ∧ (State.onRound f s).params = s.params ∧
      (State.onRound f s).line = s.line ∧ (State.onRound f s).wake = s.wake ∧
      (State.onRound f s).jomen = s.jomen ∧ (State.onRound f s).radio = s.radio ∧ (State.onRound f s).rx = s.rx ∧
      (State.onRound f s).time = s.time ∧ (State.onRound f s).sched = s.sched ∧ (State.onRound f s).net = s.net ∧
      (State.onRound f s).roster = s.roster ∧ (State.onRound f s).mon = s.mon ∧ (State.onRound f s).pm = s.pm ∧
      (State.onRound f s).store = s.store ∧ (State.onRound f s).image = s.image ∧
      (State.onRound f s).faults = s.faults ∧ (State.onRound f s).tally = s.tally := by
  simp [State.onRound]

@[simp] theorem State.readWords_frame (per : ℕ) (n : ℕ) (s : State) :
    (State.readWords per n s).pending = s.pending ∧ (State.readWords per n s).now = s.now ∧
      (State.readWords per n s).part = s.part ∧ (State.readWords per n s).params = s.params ∧
      (State.readWords per n s).line = s.line ∧ (State.readWords per n s).wake = s.wake ∧
      (State.readWords per n s).jomen = s.jomen ∧ (State.readWords per n s).radio = s.radio ∧
      (State.readWords per n s).rx = s.rx ∧ (State.readWords per n s).time = s.time ∧
      (State.readWords per n s).sched = s.sched ∧ (State.readWords per n s).net = s.net ∧
      (State.readWords per n s).work = s.work ∧ (State.readWords per n s).roster = s.roster ∧
      (State.readWords per n s).mon = s.mon ∧ (State.readWords per n s).pm = s.pm ∧
      (State.readWords per n s).store = s.store ∧ (State.readWords per n s).image = s.image ∧
      (State.readWords per n s).faults = s.faults := by
  simp [State.readWords]

@[simp] theorem State.clearBlock_frame (b : Block) (s : State) :
    (State.clearBlock b s).pending = s.pending ∧ (State.clearBlock b s).now = s.now ∧
      (State.clearBlock b s).part = s.part ∧ (State.clearBlock b s).params = s.params ∧
      (State.clearBlock b s).line = s.line ∧ (State.clearBlock b s).wake = s.wake ∧
      (State.clearBlock b s).jomen = s.jomen ∧ (State.clearBlock b s).radio = s.radio ∧
      (State.clearBlock b s).rx = s.rx ∧ (State.clearBlock b s).time = s.time ∧
      (State.clearBlock b s).sched = s.sched ∧ (State.clearBlock b s).net = s.net ∧
      (State.clearBlock b s).work = s.work ∧ (State.clearBlock b s).roster = s.roster ∧
      (State.clearBlock b s).mon = s.mon ∧ (State.clearBlock b s).pm = s.pm ∧
      (State.clearBlock b s).store = s.store ∧ (State.clearBlock b s).image = s.image ∧
      (State.clearBlock b s).faults = s.faults := by
  simp [State.clearBlock]

@[simp] theorem State.onRx_frame (f : Rx → Rx) (s : State) :
    (State.onRx f s).pending = s.pending ∧ (State.onRx f s).now = s.now ∧ (State.onRx f s).part = s.part ∧
      (State.onRx f s).params = s.params ∧ (State.onRx f s).line = s.line ∧ (State.onRx f s).wake = s.wake ∧
      (State.onRx f s).jomen = s.jomen ∧ (State.onRx f s).radio = s.radio ∧ (State.onRx f s).time = s.time ∧
      (State.onRx f s).sched = s.sched ∧ (State.onRx f s).net = s.net ∧ (State.onRx f s).work = s.work ∧
      (State.onRx f s).roster = s.roster ∧ (State.onRx f s).mon = s.mon ∧ (State.onRx f s).pm = s.pm ∧
      (State.onRx f s).store = s.store ∧ (State.onRx f s).image = s.image ∧ (State.onRx f s).faults = s.faults ∧
      (State.onRx f s).tally = s.tally := by
  simp [State.onRx]

@[simp] theorem State.beginLine_frame (answersChallenge : Bool) (s : State) :
    (State.beginLine answersChallenge s).pending = s.pending ∧ (State.beginLine answersChallenge s).now = s.now ∧
      (State.beginLine answersChallenge s).part = s.part ∧
      (State.beginLine answersChallenge s).params = s.params ∧
      (State.beginLine answersChallenge s).wake = s.wake ∧ (State.beginLine answersChallenge s).jomen = s.jomen ∧
      (State.beginLine answersChallenge s).radio = s.radio ∧ (State.beginLine answersChallenge s).rx = s.rx ∧
      (State.beginLine answersChallenge s).time = s.time ∧ (State.beginLine answersChallenge s).sched = s.sched ∧
      (State.beginLine answersChallenge s).net = s.net ∧ (State.beginLine answersChallenge s).work = s.work ∧
      (State.beginLine answersChallenge s).roster = s.roster ∧ (State.beginLine answersChallenge s).mon = s.mon ∧
      (State.beginLine answersChallenge s).store = s.store ∧
      (State.beginLine answersChallenge s).image = s.image ∧
      (State.beginLine answersChallenge s).faults = s.faults ∧
      (State.beginLine answersChallenge s).tally = s.tally := by
  simp [State.beginLine]

@[simp] theorem State.beginEntry_frame (p : Power) (d : Ticks) (s : State) :
    (State.beginEntry p d s).pending = s.pending ∧ (State.beginEntry p d s).now = s.now ∧
      (State.beginEntry p d s).part = s.part ∧ (State.beginEntry p d s).params = s.params ∧
      (State.beginEntry p d s).line = s.line ∧ (State.beginEntry p d s).wake = s.wake ∧
      (State.beginEntry p d s).jomen = s.jomen ∧ (State.beginEntry p d s).radio = s.radio ∧
      (State.beginEntry p d s).rx = s.rx ∧ (State.beginEntry p d s).time = s.time ∧
      (State.beginEntry p d s).sched = s.sched ∧ (State.beginEntry p d s).net = s.net ∧
      (State.beginEntry p d s).work = s.work ∧ (State.beginEntry p d s).roster = s.roster ∧
      (State.beginEntry p d s).mon = s.mon ∧ (State.beginEntry p d s).store = s.store ∧
      (State.beginEntry p d s).image = s.image ∧ (State.beginEntry p d s).faults = s.faults ∧
      (State.beginEntry p d s).tally = s.tally := by
  simp [State.beginEntry]

@[simp] theorem State.onSched_frame (f : Sched → Sched) (s : State) :
    (State.onSched f s).pending = s.pending ∧ (State.onSched f s).now = s.now ∧
      (State.onSched f s).part = s.part ∧ (State.onSched f s).params = s.params ∧
      (State.onSched f s).line = s.line ∧ (State.onSched f s).wake = s.wake ∧
      (State.onSched f s).jomen = s.jomen ∧ (State.onSched f s).radio = s.radio ∧ (State.onSched f s).rx = s.rx ∧
      (State.onSched f s).time = s.time ∧ (State.onSched f s).net = s.net ∧ (State.onSched f s).work = s.work ∧
      (State.onSched f s).roster = s.roster ∧ (State.onSched f s).mon = s.mon ∧ (State.onSched f s).pm = s.pm ∧
      (State.onSched f s).store = s.store ∧ (State.onSched f s).image = s.image ∧
      (State.onSched f s).faults = s.faults ∧ (State.onSched f s).tally = s.tally := by
  simp [State.onSched]

@[simp] theorem State.setStage_frame (r : ImageRef) (st : Stage) (s : State) :
    (State.setStage r st s).pending = s.pending ∧ (State.setStage r st s).now = s.now ∧
      (State.setStage r st s).part = s.part ∧ (State.setStage r st s).params = s.params ∧
      (State.setStage r st s).line = s.line ∧ (State.setStage r st s).wake = s.wake ∧
      (State.setStage r st s).jomen = s.jomen ∧ (State.setStage r st s).radio = s.radio ∧
      (State.setStage r st s).rx = s.rx ∧ (State.setStage r st s).time = s.time ∧
      (State.setStage r st s).sched = s.sched ∧ (State.setStage r st s).net = s.net ∧
      (State.setStage r st s).work = s.work ∧ (State.setStage r st s).roster = s.roster ∧
      (State.setStage r st s).mon = s.mon ∧ (State.setStage r st s).pm = s.pm ∧
      (State.setStage r st s).store = s.store ∧ (State.setStage r st s).faults = s.faults ∧
      (State.setStage r st s).tally = s.tally := by
  simp [State.setStage]

@[simp] theorem State.beginVerify_frame (r : ImageRef) (s : State) :
    (State.beginVerify r s).pending = s.pending ∧ (State.beginVerify r s).now = s.now ∧
      (State.beginVerify r s).part = s.part ∧ (State.beginVerify r s).params = s.params ∧
      (State.beginVerify r s).line = s.line ∧ (State.beginVerify r s).wake = s.wake ∧
      (State.beginVerify r s).jomen = s.jomen ∧ (State.beginVerify r s).radio = s.radio ∧
      (State.beginVerify r s).rx = s.rx ∧ (State.beginVerify r s).time = s.time ∧
      (State.beginVerify r s).sched = s.sched ∧ (State.beginVerify r s).net = s.net ∧
      (State.beginVerify r s).work = s.work ∧ (State.beginVerify r s).roster = s.roster ∧
      (State.beginVerify r s).mon = s.mon ∧ (State.beginVerify r s).pm = s.pm ∧
      (State.beginVerify r s).store = s.store ∧ (State.beginVerify r s).faults = s.faults ∧
      (State.beginVerify r s).tally = s.tally := by
  simp [State.beginVerify]

@[simp] theorem State.beginRound_frame (n : ℕ) (at_ : ℕ) (s : State) :
    (State.beginRound n at_ s).pending = s.pending ∧ (State.beginRound n at_ s).now = s.now ∧
      (State.beginRound n at_ s).part = s.part ∧ (State.beginRound n at_ s).params = s.params ∧
      (State.beginRound n at_ s).line = s.line ∧ (State.beginRound n at_ s).wake = s.wake ∧
      (State.beginRound n at_ s).jomen = s.jomen ∧ (State.beginRound n at_ s).radio = s.radio ∧
      (State.beginRound n at_ s).rx = s.rx ∧ (State.beginRound n at_ s).time = s.time ∧
      (State.beginRound n at_ s).sched = s.sched ∧ (State.beginRound n at_ s).work = s.work ∧
      (State.beginRound n at_ s).roster = s.roster ∧ (State.beginRound n at_ s).mon = s.mon ∧
      (State.beginRound n at_ s).pm = s.pm ∧ (State.beginRound n at_ s).store = s.store ∧
      (State.beginRound n at_ s).image = s.image ∧ (State.beginRound n at_ s).faults = s.faults ∧
      (State.beginRound n at_ s).tally = s.tally := by
  simp [State.beginRound]

@[simp] theorem State.pushEv_frame (e : Ev) (s : State) :
    (State.pushEv e s).pending = s.pending ∧ (State.pushEv e s).now = s.now ∧ (State.pushEv e s).part = s.part ∧
      (State.pushEv e s).params = s.params ∧ (State.pushEv e s).wake = s.wake ∧
      (State.pushEv e s).jomen = s.jomen ∧ (State.pushEv e s).radio = s.radio ∧ (State.pushEv e s).rx = s.rx ∧
      (State.pushEv e s).time = s.time ∧ (State.pushEv e s).sched = s.sched ∧ (State.pushEv e s).net = s.net ∧
      (State.pushEv e s).work = s.work ∧ (State.pushEv e s).roster = s.roster ∧ (State.pushEv e s).mon = s.mon ∧
      (State.pushEv e s).pm = s.pm ∧ (State.pushEv e s).store = s.store ∧ (State.pushEv e s).image = s.image ∧
      (State.pushEv e s).faults = s.faults ∧ (State.pushEv e s).tally = s.tally := by
  simp [State.pushEv]

@[simp] theorem State.roundNote_frame (x : RxFrame) (recorded : Bool) (again : Bool) (s : State) :
    (State.roundNote x recorded again s).pending = s.pending ∧ (State.roundNote x recorded again s).now = s.now ∧
      (State.roundNote x recorded again s).part = s.part ∧
      (State.roundNote x recorded again s).params = s.params ∧
      (State.roundNote x recorded again s).line = s.line ∧ (State.roundNote x recorded again s).wake = s.wake ∧
      (State.roundNote x recorded again s).jomen = s.jomen ∧
      (State.roundNote x recorded again s).radio = s.radio ∧ (State.roundNote x recorded again s).rx = s.rx ∧
      (State.roundNote x recorded again s).time = s.time ∧ (State.roundNote x recorded again s).sched = s.sched ∧
      (State.roundNote x recorded again s).net = s.net ∧ (State.roundNote x recorded again s).roster = s.roster ∧
      (State.roundNote x recorded again s).mon = s.mon ∧ (State.roundNote x recorded again s).pm = s.pm ∧
      (State.roundNote x recorded again s).store = s.store ∧
      (State.roundNote x recorded again s).image = s.image ∧
      (State.roundNote x recorded again s).faults = s.faults ∧
      (State.roundNote x recorded again s).tally = s.tally := by
  simp [State.roundNote]

@[simp] theorem State.afterEdge_frame (h : Hdr) (o : OutLine) (s : State) :
    (State.afterEdge h o s).pending = s.pending ∧ (State.afterEdge h o s).now = s.now ∧
      (State.afterEdge h o s).part = s.part ∧ (State.afterEdge h o s).params = s.params ∧
      (State.afterEdge h o s).line = s.line ∧ (State.afterEdge h o s).jomen = s.jomen ∧
      (State.afterEdge h o s).radio = s.radio ∧ (State.afterEdge h o s).rx = s.rx ∧
      (State.afterEdge h o s).time = s.time ∧ (State.afterEdge h o s).sched = s.sched ∧
      (State.afterEdge h o s).net = s.net ∧ (State.afterEdge h o s).work = s.work ∧
      (State.afterEdge h o s).roster = s.roster ∧ (State.afterEdge h o s).mon = s.mon ∧
      (State.afterEdge h o s).pm = s.pm ∧ (State.afterEdge h o s).store = s.store ∧
      (State.afterEdge h o s).image = s.image ∧ (State.afterEdge h o s).faults = s.faults ∧
      (State.afterEdge h o s).tally = s.tally := by
  simp [State.afterEdge]

@[simp] theorem State.onMon_frame (f : Mons → Mons) (s : State) :
    (State.onMon f s).pending = s.pending ∧ (State.onMon f s).now = s.now ∧ (State.onMon f s).part = s.part ∧
      (State.onMon f s).params = s.params ∧ (State.onMon f s).line = s.line ∧ (State.onMon f s).wake = s.wake ∧
      (State.onMon f s).jomen = s.jomen ∧ (State.onMon f s).radio = s.radio ∧ (State.onMon f s).rx = s.rx ∧
      (State.onMon f s).time = s.time ∧ (State.onMon f s).sched = s.sched ∧ (State.onMon f s).net = s.net ∧
      (State.onMon f s).work = s.work ∧ (State.onMon f s).roster = s.roster ∧ (State.onMon f s).pm = s.pm ∧
      (State.onMon f s).store = s.store ∧ (State.onMon f s).image = s.image ∧
      (State.onMon f s).faults = s.faults ∧ (State.onMon f s).tally = s.tally := by
  simp [State.onMon]

@[simp] theorem State.onTime_frame (f : Time → Time) (s : State) :
    (State.onTime f s).pending = s.pending ∧ (State.onTime f s).now = s.now ∧ (State.onTime f s).part = s.part ∧
      (State.onTime f s).params = s.params ∧ (State.onTime f s).line = s.line ∧ (State.onTime f s).wake = s.wake ∧
      (State.onTime f s).jomen = s.jomen ∧ (State.onTime f s).radio = s.radio ∧ (State.onTime f s).rx = s.rx ∧
      (State.onTime f s).sched = s.sched ∧ (State.onTime f s).net = s.net ∧ (State.onTime f s).work = s.work ∧
      (State.onTime f s).roster = s.roster ∧ (State.onTime f s).mon = s.mon ∧ (State.onTime f s).pm = s.pm ∧
      (State.onTime f s).store = s.store ∧ (State.onTime f s).image = s.image ∧
      (State.onTime f s).faults = s.faults ∧ (State.onTime f s).tally = s.tally := by
  simp [State.onTime]

@[simp] theorem State.onJomen_frame (f : Jomen → Jomen) (s : State) :
    (State.onJomen f s).pending = s.pending ∧ (State.onJomen f s).now = s.now ∧
      (State.onJomen f s).part = s.part ∧ (State.onJomen f s).params = s.params ∧
      (State.onJomen f s).line = s.line ∧ (State.onJomen f s).wake = s.wake ∧
      (State.onJomen f s).radio = s.radio ∧ (State.onJomen f s).rx = s.rx ∧ (State.onJomen f s).time = s.time ∧
      (State.onJomen f s).sched = s.sched ∧ (State.onJomen f s).net = s.net ∧ (State.onJomen f s).work = s.work ∧
      (State.onJomen f s).roster = s.roster ∧ (State.onJomen f s).mon = s.mon ∧ (State.onJomen f s).pm = s.pm ∧
      (State.onJomen f s).store = s.store ∧ (State.onJomen f s).image = s.image ∧
      (State.onJomen f s).faults = s.faults ∧ (State.onJomen f s).tally = s.tally := by
  simp [State.onJomen]

@[simp] theorem State.onRadio_frame (f : Radio → Radio) (s : State) :
    (State.onRadio f s).pending = s.pending ∧ (State.onRadio f s).now = s.now ∧
      (State.onRadio f s).part = s.part ∧ (State.onRadio f s).params = s.params ∧
      (State.onRadio f s).line = s.line ∧ (State.onRadio f s).wake = s.wake ∧
      (State.onRadio f s).jomen = s.jomen ∧ (State.onRadio f s).rx = s.rx ∧ (State.onRadio f s).time = s.time ∧
      (State.onRadio f s).sched = s.sched ∧ (State.onRadio f s).net = s.net ∧ (State.onRadio f s).work = s.work ∧
      (State.onRadio f s).roster = s.roster ∧ (State.onRadio f s).mon = s.mon ∧ (State.onRadio f s).pm = s.pm ∧
      (State.onRadio f s).store = s.store ∧ (State.onRadio f s).image = s.image ∧
      (State.onRadio f s).faults = s.faults ∧ (State.onRadio f s).tally = s.tally := by
  simp [State.onRadio]

@[simp] theorem State.chanChange_frame (id : ResId) (leave : Bool) (eff : ℕ) (s : State) :
    (State.chanChange id leave eff s).pending = s.pending ∧ (State.chanChange id leave eff s).now = s.now ∧
      (State.chanChange id leave eff s).part = s.part ∧ (State.chanChange id leave eff s).params = s.params ∧
      (State.chanChange id leave eff s).line = s.line ∧ (State.chanChange id leave eff s).wake = s.wake ∧
      (State.chanChange id leave eff s).jomen = s.jomen ∧ (State.chanChange id leave eff s).radio = s.radio ∧
      (State.chanChange id leave eff s).rx = s.rx ∧ (State.chanChange id leave eff s).time = s.time ∧
      (State.chanChange id leave eff s).net = s.net ∧ (State.chanChange id leave eff s).work = s.work ∧
      (State.chanChange id leave eff s).roster = s.roster ∧ (State.chanChange id leave eff s).mon = s.mon ∧
      (State.chanChange id leave eff s).pm = s.pm ∧ (State.chanChange id leave eff s).store = s.store ∧
      (State.chanChange id leave eff s).image = s.image ∧ (State.chanChange id leave eff s).faults = s.faults ∧
      (State.chanChange id leave eff s).tally = s.tally := by
  simp [State.chanChange]

@[simp] theorem State.cellUsed_frame (i : ℕ) (s : State) :
    (State.cellUsed i s).pending = s.pending ∧ (State.cellUsed i s).now = s.now ∧
      (State.cellUsed i s).part = s.part ∧ (State.cellUsed i s).params = s.params ∧
      (State.cellUsed i s).line = s.line ∧ (State.cellUsed i s).wake = s.wake ∧
      (State.cellUsed i s).jomen = s.jomen ∧ (State.cellUsed i s).radio = s.radio ∧
      (State.cellUsed i s).rx = s.rx ∧ (State.cellUsed i s).time = s.time ∧ (State.cellUsed i s).net = s.net ∧
      (State.cellUsed i s).work = s.work ∧ (State.cellUsed i s).roster = s.roster ∧
      (State.cellUsed i s).mon = s.mon ∧ (State.cellUsed i s).pm = s.pm ∧ (State.cellUsed i s).store = s.store ∧
      (State.cellUsed i s).image = s.image ∧ (State.cellUsed i s).faults = s.faults ∧
      (State.cellUsed i s).tally = s.tally := by
  simp [State.cellUsed]

@[simp] theorem State.onEntry_frame (i : ℕ) (f : Entry → Entry) (s : State) :
    (State.onEntry i f s).pending = s.pending ∧ (State.onEntry i f s).now = s.now ∧
      (State.onEntry i f s).part = s.part ∧ (State.onEntry i f s).params = s.params ∧
      (State.onEntry i f s).line = s.line ∧ (State.onEntry i f s).wake = s.wake ∧
      (State.onEntry i f s).jomen = s.jomen ∧ (State.onEntry i f s).radio = s.radio ∧
      (State.onEntry i f s).rx = s.rx ∧ (State.onEntry i f s).time = s.time ∧
      (State.onEntry i f s).sched = s.sched ∧ (State.onEntry i f s).net = s.net ∧
      (State.onEntry i f s).work = s.work ∧ (State.onEntry i f s).mon = s.mon ∧ (State.onEntry i f s).pm = s.pm ∧
      (State.onEntry i f s).store = s.store ∧ (State.onEntry i f s).image = s.image ∧
      (State.onEntry i f s).faults = s.faults ∧ (State.onEntry i f s).tally = s.tally := by
  unfold State.onEntry; (repeat' split) <;> simp

@[simp] theorem State.persistRx_frame (i : ℕ) (s : State) :
    (State.persistRx i s).pending = s.pending ∧ (State.persistRx i s).now = s.now ∧
      (State.persistRx i s).part = s.part ∧ (State.persistRx i s).params = s.params ∧
      (State.persistRx i s).line = s.line ∧ (State.persistRx i s).wake = s.wake ∧
      (State.persistRx i s).jomen = s.jomen ∧ (State.persistRx i s).radio = s.radio ∧
      (State.persistRx i s).rx = s.rx ∧ (State.persistRx i s).time = s.time ∧
      (State.persistRx i s).sched = s.sched ∧ (State.persistRx i s).net = s.net ∧
      (State.persistRx i s).work = s.work ∧ (State.persistRx i s).mon = s.mon ∧ (State.persistRx i s).pm = s.pm ∧
      (State.persistRx i s).store = s.store ∧ (State.persistRx i s).image = s.image ∧
      (State.persistRx i s).faults = s.faults ∧ (State.persistRx i s).tally = s.tally := by
  unfold State.persistRx; dsimp only; (repeat' split) <;> simp

@[simp] theorem State.writeMask_frame (code : ℕ) (m : Byte) (s : State) :
    (State.writeMask code m s).pending = s.pending ∧ (State.writeMask code m s).now = s.now ∧
      (State.writeMask code m s).part = s.part ∧ (State.writeMask code m s).params = s.params ∧
      (State.writeMask code m s).line = s.line ∧ (State.writeMask code m s).jomen = s.jomen ∧
      (State.writeMask code m s).radio = s.radio ∧ (State.writeMask code m s).rx = s.rx ∧
      (State.writeMask code m s).time = s.time ∧ (State.writeMask code m s).sched = s.sched ∧
      (State.writeMask code m s).net = s.net ∧ (State.writeMask code m s).work = s.work ∧
      (State.writeMask code m s).roster = s.roster ∧ (State.writeMask code m s).mon = s.mon ∧
      (State.writeMask code m s).pm = s.pm ∧ (State.writeMask code m s).store = s.store ∧
      (State.writeMask code m s).image = s.image ∧ (State.writeMask code m s).faults = s.faults ∧
      (State.writeMask code m s).tally = s.tally := by
  simp [State.writeMask]

@[simp] theorem State.holdBeacon_frame (e : Eui) (c : BitVec 32) (s : State) :
    (State.holdBeacon e c s).pending = s.pending ∧ (State.holdBeacon e c s).now = s.now ∧
      (State.holdBeacon e c s).part = s.part ∧ (State.holdBeacon e c s).params = s.params ∧
      (State.holdBeacon e c s).line = s.line ∧ (State.holdBeacon e c s).wake = s.wake ∧
      (State.holdBeacon e c s).jomen = s.jomen ∧ (State.holdBeacon e c s).radio = s.radio ∧
      (State.holdBeacon e c s).rx = s.rx ∧ (State.holdBeacon e c s).time = s.time ∧
      (State.holdBeacon e c s).sched = s.sched ∧ (State.holdBeacon e c s).work = s.work ∧
      (State.holdBeacon e c s).roster = s.roster ∧ (State.holdBeacon e c s).mon = s.mon ∧
      (State.holdBeacon e c s).pm = s.pm ∧ (State.holdBeacon e c s).store = s.store ∧
      (State.holdBeacon e c s).image = s.image ∧ (State.holdBeacon e c s).faults = s.faults ∧
      (State.holdBeacon e c s).tally = s.tally := by
  unfold State.holdBeacon; (repeat' split) <;> simp

@[simp] theorem State.chanCancel_frame (id : ResId) (s : State) :
    (State.chanCancel id s).pending = s.pending ∧ (State.chanCancel id s).now = s.now ∧
      (State.chanCancel id s).part = s.part ∧ (State.chanCancel id s).params = s.params ∧
      (State.chanCancel id s).line = s.line ∧ (State.chanCancel id s).wake = s.wake ∧
      (State.chanCancel id s).jomen = s.jomen ∧ (State.chanCancel id s).radio = s.radio ∧
      (State.chanCancel id s).rx = s.rx ∧ (State.chanCancel id s).time = s.time ∧
      (State.chanCancel id s).net = s.net ∧ (State.chanCancel id s).work = s.work ∧
      (State.chanCancel id s).roster = s.roster ∧ (State.chanCancel id s).mon = s.mon ∧
      (State.chanCancel id s).pm = s.pm ∧ (State.chanCancel id s).store = s.store ∧
      (State.chanCancel id s).image = s.image ∧ (State.chanCancel id s).faults = s.faults ∧
      (State.chanCancel id s).tally = s.tally := by
  simp [State.chanCancel]

@[simp] theorem State.onWm_frame (n : Fin 8) (f : Mon → Mon) (s : State) :
    (State.onWm n f s).pending = s.pending ∧ (State.onWm n f s).now = s.now ∧ (State.onWm n f s).part = s.part ∧
      (State.onWm n f s).params = s.params ∧ (State.onWm n f s).line = s.line ∧ (State.onWm n f s).wake = s.wake ∧
      (State.onWm n f s).jomen = s.jomen ∧ (State.onWm n f s).radio = s.radio ∧ (State.onWm n f s).rx = s.rx ∧
      (State.onWm n f s).time = s.time ∧ (State.onWm n f s).sched = s.sched ∧ (State.onWm n f s).net = s.net ∧
      (State.onWm n f s).work = s.work ∧ (State.onWm n f s).roster = s.roster ∧ (State.onWm n f s).pm = s.pm ∧
      (State.onWm n f s).store = s.store ∧ (State.onWm n f s).image = s.image ∧
      (State.onWm n f s).faults = s.faults ∧ (State.onWm n f s).tally = s.tally := by
  simp [State.onWm]

@[simp] theorem State.coldRoster_frame (s : State) :
    (State.coldRoster s).pending = s.pending ∧ (State.coldRoster s).now = s.now ∧
      (State.coldRoster s).part = s.part ∧ (State.coldRoster s).params = s.params ∧
      (State.coldRoster s).line = s.line ∧ (State.coldRoster s).wake = s.wake ∧
      (State.coldRoster s).jomen = s.jomen ∧ (State.coldRoster s).radio = s.radio ∧
      (State.coldRoster s).rx = s.rx ∧ (State.coldRoster s).time = s.time ∧ (State.coldRoster s).sched = s.sched ∧
      (State.coldRoster s).net = s.net ∧ (State.coldRoster s).work = s.work ∧ (State.coldRoster s).mon = s.mon ∧
      (State.coldRoster s).pm = s.pm ∧ (State.coldRoster s).store = s.store ∧
      (State.coldRoster s).image = s.image ∧ (State.coldRoster s).faults = s.faults ∧
      (State.coldRoster s).tally = s.tally := by
  simp [State.coldRoster]

@[simp] theorem State.txStamped_frame (tx : Tx) (s : State) :
    (State.txStamped tx s).pending = s.pending ∧ (State.txStamped tx s).now = s.now ∧
      (State.txStamped tx s).part = s.part ∧ (State.txStamped tx s).params = s.params ∧
      (State.txStamped tx s).line = s.line ∧ (State.txStamped tx s).wake = s.wake ∧
      (State.txStamped tx s).jomen = s.jomen ∧ (State.txStamped tx s).rx = s.rx ∧
      (State.txStamped tx s).time = s.time ∧ (State.txStamped tx s).sched = s.sched ∧
      (State.txStamped tx s).net = s.net ∧ (State.txStamped tx s).work = s.work ∧
      (State.txStamped tx s).roster = s.roster ∧ (State.txStamped tx s).mon = s.mon ∧
      (State.txStamped tx s).pm = s.pm ∧ (State.txStamped tx s).store = s.store ∧
      (State.txStamped tx s).image = s.image ∧ (State.txStamped tx s).faults = s.faults ∧
      (State.txStamped tx s).tally = s.tally := by
  unfold State.txStamped; (repeat' split) <;> simp

@[simp] theorem State.saveTime_frame (s : State) :
    (State.saveTime s).pending = s.pending ∧ (State.saveTime s).now = s.now ∧ (State.saveTime s).part = s.part ∧
      (State.saveTime s).params = s.params ∧ (State.saveTime s).line = s.line ∧ (State.saveTime s).wake = s.wake ∧
      (State.saveTime s).jomen = s.jomen ∧ (State.saveTime s).radio = s.radio ∧ (State.saveTime s).rx = s.rx ∧
      (State.saveTime s).sched = s.sched ∧ (State.saveTime s).net = s.net ∧ (State.saveTime s).work = s.work ∧
      (State.saveTime s).roster = s.roster ∧ (State.saveTime s).mon = s.mon ∧ (State.saveTime s).store = s.store ∧
      (State.saveTime s).image = s.image ∧ (State.saveTime s).faults = s.faults ∧
      (State.saveTime s).tally = s.tally := by
  simp [State.saveTime]

@[simp] theorem execDoSchedList.list_frame (s : State) (p : Cell → Bool) :
    (execDoSchedList.list s p).s.pending = s.pending ∧ (execDoSchedList.list s p).s.now = s.now ∧
      (execDoSchedList.list s p).s.part = s.part ∧ (execDoSchedList.list s p).s.params = s.params ∧
      (execDoSchedList.list s p).s.line = s.line ∧ (execDoSchedList.list s p).s.wake = s.wake ∧
      (execDoSchedList.list s p).s.jomen = s.jomen ∧ (execDoSchedList.list s p).s.radio = s.radio ∧
      (execDoSchedList.list s p).s.rx = s.rx ∧ (execDoSchedList.list s p).s.time = s.time ∧
      (execDoSchedList.list s p).s.sched = s.sched ∧ (execDoSchedList.list s p).s.net = s.net ∧
      (execDoSchedList.list s p).s.work = s.work ∧ (execDoSchedList.list s p).s.roster = s.roster ∧
      (execDoSchedList.list s p).s.mon = s.mon ∧ (execDoSchedList.list s p).s.pm = s.pm ∧
      (execDoSchedList.list s p).s.store = s.store ∧ (execDoSchedList.list s p).s.image = s.image ∧
      (execDoSchedList.list s p).s.faults = s.faults ∧ (execDoSchedList.list s p).s.tally = s.tally := by
  simp [execDoSchedList.list]

@[simp] theorem State.beginWait_frame (s : State) :
    (State.beginWait s).pending = s.pending ∧ (State.beginWait s).now = s.now ∧
      (State.beginWait s).part = s.part ∧ (State.beginWait s).params = s.params ∧
      (State.beginWait s).line = s.line ∧ (State.beginWait s).wake = s.wake ∧
      (State.beginWait s).jomen = s.jomen ∧ (State.beginWait s).radio = s.radio ∧ (State.beginWait s).rx = s.rx ∧
      (State.beginWait s).time = s.time ∧ (State.beginWait s).sched = s.sched ∧
      (State.beginWait s).work = s.work ∧ (State.beginWait s).roster = s.roster ∧
      (State.beginWait s).mon = s.mon ∧ (State.beginWait s).pm = s.pm ∧ (State.beginWait s).store = s.store ∧
      (State.beginWait s).image = s.image ∧ (State.beginWait s).faults = s.faults ∧
      (State.beginWait s).tally = s.tally := by
  simp [State.beginWait]

@[simp] theorem State.applyChanges_frame (s : State) :
    (State.applyChanges s).pending = s.pending ∧ (State.applyChanges s).now = s.now ∧
      (State.applyChanges s).part = s.part ∧ (State.applyChanges s).params = s.params ∧
      (State.applyChanges s).line = s.line ∧ (State.applyChanges s).wake = s.wake ∧
      (State.applyChanges s).jomen = s.jomen ∧ (State.applyChanges s).radio = s.radio ∧
      (State.applyChanges s).rx = s.rx ∧ (State.applyChanges s).time = s.time ∧
      (State.applyChanges s).net = s.net ∧ (State.applyChanges s).work = s.work ∧
      (State.applyChanges s).roster = s.roster ∧ (State.applyChanges s).mon = s.mon ∧
      (State.applyChanges s).pm = s.pm ∧ (State.applyChanges s).store = s.store ∧
      (State.applyChanges s).image = s.image ∧ (State.applyChanges s).faults = s.faults ∧
      (State.applyChanges s).tally = s.tally := by
  simp [State.applyChanges]

@[simp] theorem State.askReset_frame (t : Ticks) (c : StartCause) (s : State) :
    (State.askReset t c s).pending = s.pending ∧ (State.askReset t c s).now = s.now ∧
      (State.askReset t c s).part = s.part ∧ (State.askReset t c s).params = s.params ∧
      (State.askReset t c s).line = s.line ∧ (State.askReset t c s).wake = s.wake ∧
      (State.askReset t c s).jomen = s.jomen ∧ (State.askReset t c s).radio = s.radio ∧
      (State.askReset t c s).rx = s.rx ∧ (State.askReset t c s).time = s.time ∧
      (State.askReset t c s).sched = s.sched ∧ (State.askReset t c s).net = s.net ∧
      (State.askReset t c s).work = s.work ∧ (State.askReset t c s).roster = s.roster ∧
      (State.askReset t c s).mon = s.mon ∧ (State.askReset t c s).store = s.store ∧
      (State.askReset t c s).image = s.image ∧ (State.askReset t c s).faults = s.faults ∧
      (State.askReset t c s).tally = s.tally := by
  simp [State.askReset]

@[simp] theorem State.onFlight_frame (id : ℕ) (g : Flight → Flight) (s : State) :
    (State.onFlight id g s).pending = s.pending ∧ (State.onFlight id g s).now = s.now ∧
      (State.onFlight id g s).part = s.part ∧ (State.onFlight id g s).params = s.params ∧
      (State.onFlight id g s).line = s.line ∧ (State.onFlight id g s).wake = s.wake ∧
      (State.onFlight id g s).jomen = s.jomen ∧ (State.onFlight id g s).radio = s.radio ∧
      (State.onFlight id g s).rx = s.rx ∧ (State.onFlight id g s).time = s.time ∧
      (State.onFlight id g s).sched = s.sched ∧ (State.onFlight id g s).net = s.net ∧
      (State.onFlight id g s).roster = s.roster ∧ (State.onFlight id g s).mon = s.mon ∧
      (State.onFlight id g s).pm = s.pm ∧ (State.onFlight id g s).store = s.store ∧
      (State.onFlight id g s).image = s.image ∧ (State.onFlight id g s).faults = s.faults ∧
      (State.onFlight id g s).tally = s.tally := by
  simp [State.onFlight]

@[simp] theorem State.zeroCtr_frame (b : Block) (name : String) (s : State) :
    (State.zeroCtr b name s).pending = s.pending ∧ (State.zeroCtr b name s).now = s.now ∧
      (State.zeroCtr b name s).part = s.part ∧ (State.zeroCtr b name s).params = s.params ∧
      (State.zeroCtr b name s).line = s.line ∧ (State.zeroCtr b name s).wake = s.wake ∧
      (State.zeroCtr b name s).jomen = s.jomen ∧ (State.zeroCtr b name s).radio = s.radio ∧
      (State.zeroCtr b name s).rx = s.rx ∧ (State.zeroCtr b name s).time = s.time ∧
      (State.zeroCtr b name s).sched = s.sched ∧ (State.zeroCtr b name s).net = s.net ∧
      (State.zeroCtr b name s).work = s.work ∧ (State.zeroCtr b name s).roster = s.roster ∧
      (State.zeroCtr b name s).mon = s.mon ∧ (State.zeroCtr b name s).pm = s.pm ∧
      (State.zeroCtr b name s).store = s.store ∧ (State.zeroCtr b name s).image = s.image ∧
      (State.zeroCtr b name s).faults = s.faults := by
  simp [State.zeroCtr]

@[simp] theorem State.schedAsk_frame (c : SchedChange) (s : State) :
    (State.schedAsk c s).pending = s.pending ∧ (State.schedAsk c s).now = s.now ∧
      (State.schedAsk c s).part = s.part ∧ (State.schedAsk c s).params = s.params ∧
      (State.schedAsk c s).line = s.line ∧ (State.schedAsk c s).wake = s.wake ∧
      (State.schedAsk c s).jomen = s.jomen ∧ (State.schedAsk c s).radio = s.radio ∧
      (State.schedAsk c s).rx = s.rx ∧ (State.schedAsk c s).time = s.time ∧ (State.schedAsk c s).net = s.net ∧
      (State.schedAsk c s).work = s.work ∧ (State.schedAsk c s).roster = s.roster ∧
      (State.schedAsk c s).mon = s.mon ∧ (State.schedAsk c s).pm = s.pm ∧ (State.schedAsk c s).store = s.store ∧
      (State.schedAsk c s).image = s.image ∧ (State.schedAsk c s).faults = s.faults ∧
      (State.schedAsk c s).tally = s.tally := by
  simp [State.schedAsk]

@[simp] theorem State.persist_frame (i : ℕ) (s : State) :
    (State.persist i s).pending = s.pending ∧ (State.persist i s).now = s.now ∧
      (State.persist i s).part = s.part ∧ (State.persist i s).params = s.params ∧
      (State.persist i s).line = s.line ∧ (State.persist i s).wake = s.wake ∧
      (State.persist i s).jomen = s.jomen ∧ (State.persist i s).radio = s.radio ∧ (State.persist i s).rx = s.rx ∧
      (State.persist i s).time = s.time ∧ (State.persist i s).sched = s.sched ∧ (State.persist i s).net = s.net ∧
      (State.persist i s).work = s.work ∧ (State.persist i s).mon = s.mon ∧ (State.persist i s).pm = s.pm ∧
      (State.persist i s).store = s.store ∧ (State.persist i s).image = s.image ∧
      (State.persist i s).faults = s.faults ∧ (State.persist i s).tally = s.tally := by
  unfold State.persist; dsimp only; (repeat' split) <;> simp

@[simp] theorem State.takeAddress_frame (marked : Bool) (n : ℕ) (s : State) :
    (State.takeAddress marked n s).s.pending = s.pending ∧ (State.takeAddress marked n s).s.now = s.now ∧
      (State.takeAddress marked n s).s.part = s.part ∧ (State.takeAddress marked n s).s.params = s.params ∧
      (State.takeAddress marked n s).s.wake = s.wake ∧ (State.takeAddress marked n s).s.jomen = s.jomen ∧
      (State.takeAddress marked n s).s.radio = s.radio ∧ (State.takeAddress marked n s).s.rx = s.rx ∧
      (State.takeAddress marked n s).s.time = s.time ∧ (State.takeAddress marked n s).s.sched = s.sched ∧
      (State.takeAddress marked n s).s.net = s.net ∧ (State.takeAddress marked n s).s.work = s.work ∧
      (State.takeAddress marked n s).s.roster = s.roster ∧ (State.takeAddress marked n s).s.mon = s.mon ∧
      (State.takeAddress marked n s).s.pm = s.pm ∧ (State.takeAddress marked n s).s.store = s.store ∧
      (State.takeAddress marked n s).s.image = s.image ∧ (State.takeAddress marked n s).s.faults = s.faults ∧
      (State.takeAddress marked n s).s.tally = s.tally := by
  simp [State.takeAddress]

@[simp] theorem State.trans_frame (dest : RadioSt) (d : Ticks) (tune : Option (Band × ℕ)) (s : State) :
    (State.trans dest d tune s).pending = s.pending ∧ (State.trans dest d tune s).now = s.now ∧
      (State.trans dest d tune s).part = s.part ∧ (State.trans dest d tune s).params = s.params ∧
      (State.trans dest d tune s).line = s.line ∧ (State.trans dest d tune s).wake = s.wake ∧
      (State.trans dest d tune s).jomen = s.jomen ∧ (State.trans dest d tune s).rx = s.rx ∧
      (State.trans dest d tune s).time = s.time ∧ (State.trans dest d tune s).sched = s.sched ∧
      (State.trans dest d tune s).net = s.net ∧ (State.trans dest d tune s).work = s.work ∧
      (State.trans dest d tune s).roster = s.roster ∧ (State.trans dest d tune s).mon = s.mon ∧
      (State.trans dest d tune s).pm = s.pm ∧ (State.trans dest d tune s).store = s.store ∧
      (State.trans dest d tune s).image = s.image ∧ (State.trans dest d tune s).faults = s.faults ∧
      (State.trans dest d tune s).tally = s.tally := by
  simp [State.trans]

@[simp] theorem State.waitAgain_frame (s : State) :
    (State.waitAgain s).pending = s.pending ∧ (State.waitAgain s).now = s.now ∧
      (State.waitAgain s).part = s.part ∧ (State.waitAgain s).params = s.params ∧
      (State.waitAgain s).line = s.line ∧ (State.waitAgain s).wake = s.wake ∧
      (State.waitAgain s).jomen = s.jomen ∧ (State.waitAgain s).radio = s.radio ∧ (State.waitAgain s).rx = s.rx ∧
      (State.waitAgain s).time = s.time ∧ (State.waitAgain s).sched = s.sched ∧
      (State.waitAgain s).work = s.work ∧ (State.waitAgain s).roster = s.roster ∧
      (State.waitAgain s).mon = s.mon ∧ (State.waitAgain s).pm = s.pm ∧ (State.waitAgain s).store = s.store ∧
      (State.waitAgain s).image = s.image ∧ (State.waitAgain s).faults = s.faults ∧
      (State.waitAgain s).tally = s.tally := by
  simp [State.waitAgain]

@[simp] theorem State.sendBare_frame (o : OutLine) (what : Sending) (n : ℕ) (s : State) :
    (State.sendBare o what n s).pending = s.pending ∧ (State.sendBare o what n s).now = s.now ∧
      (State.sendBare o what n s).part = s.part ∧ (State.sendBare o what n s).params = s.params ∧
      (State.sendBare o what n s).wake = s.wake ∧ (State.sendBare o what n s).jomen = s.jomen ∧
      (State.sendBare o what n s).radio = s.radio ∧ (State.sendBare o what n s).rx = s.rx ∧
      (State.sendBare o what n s).time = s.time ∧ (State.sendBare o what n s).sched = s.sched ∧
      (State.sendBare o what n s).net = s.net ∧ (State.sendBare o what n s).work = s.work ∧
      (State.sendBare o what n s).roster = s.roster ∧ (State.sendBare o what n s).mon = s.mon ∧
      (State.sendBare o what n s).pm = s.pm ∧ (State.sendBare o what n s).store = s.store ∧
      (State.sendBare o what n s).image = s.image ∧ (State.sendBare o what n s).faults = s.faults ∧
      (State.sendBare o what n s).tally = s.tally := by
  simp [State.sendBare]

@[simp] theorem State.inService_frame (c : StartCause) (s : State) :
    (State.inService c s).pending = s.pending ∧ (State.inService c s).now = s.now ∧
      (State.inService c s).part = s.part ∧ (State.inService c s).params = s.params ∧
      (State.inService c s).line = s.line ∧ (State.inService c s).wake = s.wake ∧
      (State.inService c s).jomen = s.jomen ∧ (State.inService c s).radio = s.radio ∧
      (State.inService c s).rx = s.rx ∧ (State.inService c s).time = s.time ∧
      (State.inService c s).sched = s.sched ∧ (State.inService c s).net = s.net ∧
      (State.inService c s).work = s.work ∧ (State.inService c s).roster = s.roster ∧
      (State.inService c s).mon = s.mon ∧ (State.inService c s).store = s.store ∧
      (State.inService c s).image = s.image ∧ (State.inService c s).faults = s.faults ∧
      (State.inService c s).tally = s.tally := by
  simp [State.inService]

@[simp] theorem State.onCal_frame (b : Band) (f : BandCal → BandCal) (s : State) :
    (State.onCal b f s).pending = s.pending ∧ (State.onCal b f s).now = s.now ∧
      (State.onCal b f s).part = s.part ∧ (State.onCal b f s).params = s.params ∧
      (State.onCal b f s).line = s.line ∧ (State.onCal b f s).wake = s.wake ∧
      (State.onCal b f s).jomen = s.jomen ∧ (State.onCal b f s).rx = s.rx ∧ (State.onCal b f s).time = s.time ∧
      (State.onCal b f s).sched = s.sched ∧ (State.onCal b f s).net = s.net ∧ (State.onCal b f s).work = s.work ∧
      (State.onCal b f s).roster = s.roster ∧ (State.onCal b f s).mon = s.mon ∧ (State.onCal b f s).pm = s.pm ∧
      (State.onCal b f s).store = s.store ∧ (State.onCal b f s).image = s.image ∧
      (State.onCal b f s).faults = s.faults ∧ (State.onCal b f s).tally = s.tally := by
  simp [State.onCal]

@[simp] theorem State.judgeEnd_frame (r : ResId) (s : State) :
    (State.judgeEnd r s).pending = s.pending ∧ (State.judgeEnd r s).now = s.now ∧
      (State.judgeEnd r s).part = s.part ∧ (State.judgeEnd r s).params = s.params ∧
      (State.judgeEnd r s).line = s.line ∧ (State.judgeEnd r s).wake = s.wake ∧
      (State.judgeEnd r s).jomen = s.jomen ∧ (State.judgeEnd r s).radio = s.radio ∧
      (State.judgeEnd r s).time = s.time ∧ (State.judgeEnd r s).sched = s.sched ∧
      (State.judgeEnd r s).net = s.net ∧ (State.judgeEnd r s).work = s.work ∧
      (State.judgeEnd r s).roster = s.roster ∧ (State.judgeEnd r s).mon = s.mon ∧ (State.judgeEnd r s).pm = s.pm ∧
      (State.judgeEnd r s).store = s.store ∧ (State.judgeEnd r s).image = s.image ∧
      (State.judgeEnd r s).faults = s.faults ∧ (State.judgeEnd r s).tally = s.tally := by
  simp [State.judgeEnd]

@[simp] theorem State.imageBy_frame (h : Hdr) (s : State) :
    (State.imageBy h s).pending = s.pending ∧ (State.imageBy h s).now = s.now ∧
      (State.imageBy h s).part = s.part ∧ (State.imageBy h s).params = s.params ∧
      (State.imageBy h s).line = s.line ∧ (State.imageBy h s).wake = s.wake ∧
      (State.imageBy h s).jomen = s.jomen ∧ (State.imageBy h s).radio = s.radio ∧ (State.imageBy h s).rx = s.rx ∧
      (State.imageBy h s).time = s.time ∧ (State.imageBy h s).sched = s.sched ∧ (State.imageBy h s).net = s.net ∧
      (State.imageBy h s).work = s.work ∧ (State.imageBy h s).roster = s.roster ∧
      (State.imageBy h s).mon = s.mon ∧ (State.imageBy h s).pm = s.pm ∧ (State.imageBy h s).store = s.store ∧
      (State.imageBy h s).faults = s.faults ∧ (State.imageBy h s).tally = s.tally := by
  simp [State.imageBy]

@[simp] theorem State.setSpan_frame (b : Band) (j : ℕ) (s : State) :
    (State.setSpan b j s).pending = s.pending ∧ (State.setSpan b j s).now = s.now ∧
      (State.setSpan b j s).part = s.part ∧ (State.setSpan b j s).params = s.params ∧
      (State.setSpan b j s).line = s.line ∧ (State.setSpan b j s).wake = s.wake ∧
      (State.setSpan b j s).jomen = s.jomen ∧ (State.setSpan b j s).radio = s.radio ∧
      (State.setSpan b j s).time = s.time ∧ (State.setSpan b j s).sched = s.sched ∧
      (State.setSpan b j s).net = s.net ∧ (State.setSpan b j s).work = s.work ∧
      (State.setSpan b j s).roster = s.roster ∧ (State.setSpan b j s).mon = s.mon ∧
      (State.setSpan b j s).pm = s.pm ∧ (State.setSpan b j s).store = s.store ∧
      (State.setSpan b j s).image = s.image ∧ (State.setSpan b j s).faults = s.faults ∧
      (State.setSpan b j s).tally = s.tally := by
  simp [State.setSpan]

@[simp] theorem State.takeCode_frame (s : State) :
    (State.takeCode s).2.pending = s.pending ∧ (State.takeCode s).2.now = s.now ∧
      (State.takeCode s).2.part = s.part ∧ (State.takeCode s).2.params = s.params ∧
      (State.takeCode s).2.line = s.line ∧ (State.takeCode s).2.wake = s.wake ∧
      (State.takeCode s).2.radio = s.radio ∧ (State.takeCode s).2.rx = s.rx ∧ (State.takeCode s).2.time = s.time ∧
      (State.takeCode s).2.sched = s.sched ∧ (State.takeCode s).2.net = s.net ∧
      (State.takeCode s).2.work = s.work ∧ (State.takeCode s).2.roster = s.roster ∧
      (State.takeCode s).2.mon = s.mon ∧ (State.takeCode s).2.pm = s.pm ∧ (State.takeCode s).2.store = s.store ∧
      (State.takeCode s).2.image = s.image ∧ (State.takeCode s).2.faults = s.faults ∧
      (State.takeCode s).2.tally = s.tally := by
  unfold State.takeCode; dsimp only; (repeat' split) <;> simp

theorem State.takeCode_eq {s : State} {r_ : _} (h_ : (State.takeCode s) = r_) :
    r_.2.pending = s.pending ∧ r_.2.now = s.now ∧ r_.2.part = s.part ∧ r_.2.params = s.params ∧
      r_.2.line = s.line ∧ r_.2.wake = s.wake ∧ r_.2.radio = s.radio ∧ r_.2.rx = s.rx ∧ r_.2.time = s.time ∧
      r_.2.sched = s.sched ∧ r_.2.net = s.net ∧ r_.2.work = s.work ∧ r_.2.roster = s.roster ∧ r_.2.mon = s.mon ∧
      r_.2.pm = s.pm ∧ r_.2.store = s.store ∧ r_.2.image = s.image ∧ r_.2.faults = s.faults ∧
      r_.2.tally = s.tally := by
  subst h_; exact State.takeCode_frame s

@[simp] theorem State.writeBoot_frame (f : BootSel → BootSel) (s : State) :
    (State.writeBoot f s).pending = s.pending ∧ (State.writeBoot f s).now = s.now ∧
      (State.writeBoot f s).part = s.part ∧ (State.writeBoot f s).params = s.params ∧
      (State.writeBoot f s).line = s.line ∧ (State.writeBoot f s).wake = s.wake ∧
      (State.writeBoot f s).jomen = s.jomen ∧ (State.writeBoot f s).radio = s.radio ∧
      (State.writeBoot f s).rx = s.rx ∧ (State.writeBoot f s).time = s.time ∧
      (State.writeBoot f s).sched = s.sched ∧ (State.writeBoot f s).net = s.net ∧
      (State.writeBoot f s).work = s.work ∧ (State.writeBoot f s).roster = s.roster ∧
      (State.writeBoot f s).mon = s.mon ∧ (State.writeBoot f s).pm = s.pm ∧
      (State.writeBoot f s).store = s.store ∧ (State.writeBoot f s).faults = s.faults ∧
      (State.writeBoot f s).tally = s.tally := by
  simp [State.writeBoot]

@[simp] theorem State.judgeChans_frame (l : List ResId) (f : Judge → Judge) (s : State) :
    (State.judgeChans l f s).pending = s.pending ∧ (State.judgeChans l f s).now = s.now ∧
      (State.judgeChans l f s).part = s.part ∧ (State.judgeChans l f s).params = s.params ∧
      (State.judgeChans l f s).line = s.line ∧ (State.judgeChans l f s).wake = s.wake ∧
      (State.judgeChans l f s).jomen = s.jomen ∧ (State.judgeChans l f s).radio = s.radio ∧
      (State.judgeChans l f s).time = s.time ∧ (State.judgeChans l f s).sched = s.sched ∧
      (State.judgeChans l f s).net = s.net ∧ (State.judgeChans l f s).work = s.work ∧
      (State.judgeChans l f s).roster = s.roster ∧ (State.judgeChans l f s).mon = s.mon ∧
      (State.judgeChans l f s).pm = s.pm ∧ (State.judgeChans l f s).store = s.store ∧
      (State.judgeChans l f s).image = s.image ∧ (State.judgeChans l f s).faults = s.faults ∧
      (State.judgeChans l f s).tally = s.tally := by
  simp [State.judgeChans]

@[simp] theorem State.onChain_frame (sd : Side) (f : Chain → Chain) (s : State) :
    (State.onChain sd f s).pending = s.pending ∧ (State.onChain sd f s).now = s.now ∧
      (State.onChain sd f s).part = s.part ∧ (State.onChain sd f s).params = s.params ∧
      (State.onChain sd f s).line = s.line ∧ (State.onChain sd f s).wake = s.wake ∧
      (State.onChain sd f s).jomen = s.jomen ∧ (State.onChain sd f s).radio = s.radio ∧
      (State.onChain sd f s).time = s.time ∧ (State.onChain sd f s).sched = s.sched ∧
      (State.onChain sd f s).net = s.net ∧ (State.onChain sd f s).work = s.work ∧
      (State.onChain sd f s).roster = s.roster ∧ (State.onChain sd f s).mon = s.mon ∧
      (State.onChain sd f s).pm = s.pm ∧ (State.onChain sd f s).store = s.store ∧
      (State.onChain sd f s).image = s.image ∧ (State.onChain sd f s).faults = s.faults ∧
      (State.onChain sd f s).tally = s.tally := by
  simp [State.onChain]

@[simp] theorem State.sniffDc_frame (sd : Side) (s : State) :
    (State.sniffDc sd s).pending = s.pending ∧ (State.sniffDc sd s).now = s.now ∧
      (State.sniffDc sd s).part = s.part ∧ (State.sniffDc sd s).params = s.params ∧
      (State.sniffDc sd s).line = s.line ∧ (State.sniffDc sd s).wake = s.wake ∧
      (State.sniffDc sd s).jomen = s.jomen ∧ (State.sniffDc sd s).radio = s.radio ∧
      (State.sniffDc sd s).time = s.time ∧ (State.sniffDc sd s).sched = s.sched ∧
      (State.sniffDc sd s).net = s.net ∧ (State.sniffDc sd s).work = s.work ∧
      (State.sniffDc sd s).roster = s.roster ∧ (State.sniffDc sd s).mon = s.mon ∧ (State.sniffDc sd s).pm = s.pm ∧
      (State.sniffDc sd s).store = s.store ∧ (State.sniffDc sd s).image = s.image ∧
      (State.sniffDc sd s).faults = s.faults ∧ (State.sniffDc sd s).tally = s.tally := by
  simp [State.sniffDc]

@[simp] theorem State.aheadGone_frame (s : State) :
    (State.aheadGone s).pending = s.pending ∧ (State.aheadGone s).now = s.now ∧
      (State.aheadGone s).part = s.part ∧ (State.aheadGone s).params = s.params ∧
      (State.aheadGone s).line = s.line ∧ (State.aheadGone s).wake = s.wake ∧
      (State.aheadGone s).jomen = s.jomen ∧ (State.aheadGone s).rx = s.rx ∧ (State.aheadGone s).time = s.time ∧
      (State.aheadGone s).sched = s.sched ∧ (State.aheadGone s).net = s.net ∧ (State.aheadGone s).work = s.work ∧
      (State.aheadGone s).roster = s.roster ∧ (State.aheadGone s).mon = s.mon ∧ (State.aheadGone s).pm = s.pm ∧
      (State.aheadGone s).store = s.store ∧ (State.aheadGone s).image = s.image ∧
      (State.aheadGone s).faults = s.faults ∧ (State.aheadGone s).tally = s.tally := by
  unfold State.aheadGone; (repeat' split) <;> simp

@[simp] theorem State.enterPower_frame (p : Power) (s : State) :
    (State.enterPower p s).pending = s.pending ∧ (State.enterPower p s).now = s.now ∧
      (State.enterPower p s).part = s.part ∧ (State.enterPower p s).params = s.params ∧
      (State.enterPower p s).line = s.line ∧ (State.enterPower p s).wake = s.wake ∧
      (State.enterPower p s).jomen = s.jomen ∧ (State.enterPower p s).radio = s.radio ∧
      (State.enterPower p s).rx = s.rx ∧ (State.enterPower p s).time = s.time ∧
      (State.enterPower p s).sched = s.sched ∧ (State.enterPower p s).net = s.net ∧
      (State.enterPower p s).work = s.work ∧ (State.enterPower p s).roster = s.roster ∧
      (State.enterPower p s).mon = s.mon ∧ (State.enterPower p s).store = s.store ∧
      (State.enterPower p s).image = s.image ∧ (State.enterPower p s).faults = s.faults ∧
      (State.enterPower p s).tally = s.tally := by
  simp [State.enterPower]

@[simp] theorem State.admitPeer_frame (i : ℕ) (id : Eui) (old : Option ℕ) (s : State) :
    (State.admitPeer i id old s).pending = s.pending ∧ (State.admitPeer i id old s).now = s.now ∧
      (State.admitPeer i id old s).part = s.part ∧ (State.admitPeer i id old s).params = s.params ∧
      (State.admitPeer i id old s).line = s.line ∧ (State.admitPeer i id old s).jomen = s.jomen ∧
      (State.admitPeer i id old s).radio = s.radio ∧ (State.admitPeer i id old s).rx = s.rx ∧
      (State.admitPeer i id old s).time = s.time ∧ (State.admitPeer i id old s).sched = s.sched ∧
      (State.admitPeer i id old s).work = s.work ∧ (State.admitPeer i id old s).mon = s.mon ∧
      (State.admitPeer i id old s).pm = s.pm ∧ (State.admitPeer i id old s).store = s.store ∧
      (State.admitPeer i id old s).image = s.image ∧ (State.admitPeer i id old s).faults = s.faults ∧
      (State.admitPeer i id old s).tally = s.tally := by
  unfold State.admitPeer; (repeat' split) <;> simp

@[simp] theorem State.onLane_frame (n : Fin 16) (f : Lane → Lane) (s : State) :
    (State.onLane n f s).pending = s.pending ∧ (State.onLane n f s).now = s.now ∧
      (State.onLane n f s).part = s.part ∧ (State.onLane n f s).params = s.params ∧
      (State.onLane n f s).line = s.line ∧ (State.onLane n f s).wake = s.wake ∧
      (State.onLane n f s).jomen = s.jomen ∧ (State.onLane n f s).radio = s.radio ∧
      (State.onLane n f s).time = s.time ∧ (State.onLane n f s).sched = s.sched ∧
      (State.onLane n f s).net = s.net ∧ (State.onLane n f s).work = s.work ∧
      (State.onLane n f s).roster = s.roster ∧ (State.onLane n f s).mon = s.mon ∧ (State.onLane n f s).pm = s.pm ∧
      (State.onLane n f s).store = s.store ∧ (State.onLane n f s).image = s.image ∧
      (State.onLane n f s).faults = s.faults ∧ (State.onLane n f s).tally = s.tally := by
  simp [State.onLane]

@[simp] theorem State.codewordLost_frame (s : State) :
    (State.codewordLost s).pending = s.pending ∧ (State.codewordLost s).now = s.now ∧
      (State.codewordLost s).part = s.part ∧ (State.codewordLost s).params = s.params ∧
      (State.codewordLost s).line = s.line ∧ (State.codewordLost s).wake = s.wake ∧
      (State.codewordLost s).jomen = s.jomen ∧ (State.codewordLost s).radio = s.radio ∧
      (State.codewordLost s).rx = s.rx ∧ (State.codewordLost s).time = s.time ∧
      (State.codewordLost s).sched = s.sched ∧ (State.codewordLost s).net = s.net ∧
      (State.codewordLost s).work = s.work ∧ (State.codewordLost s).mon = s.mon ∧
      (State.codewordLost s).pm = s.pm ∧ (State.codewordLost s).image = s.image ∧
      (State.codewordLost s).faults = s.faults ∧ (State.codewordLost s).tally = s.tally := by
  unfold State.codewordLost; dsimp only; (repeat' split) <;> simp

@[simp] theorem State.chainsOff_frame (s : State) :
    (State.chainsOff s).pending = s.pending ∧ (State.chainsOff s).now = s.now ∧
      (State.chainsOff s).part = s.part ∧ (State.chainsOff s).params = s.params ∧
      (State.chainsOff s).line = s.line ∧ (State.chainsOff s).wake = s.wake ∧
      (State.chainsOff s).jomen = s.jomen ∧ (State.chainsOff s).radio = s.radio ∧
      (State.chainsOff s).time = s.time ∧ (State.chainsOff s).sched = s.sched ∧ (State.chainsOff s).net = s.net ∧
      (State.chainsOff s).work = s.work ∧ (State.chainsOff s).roster = s.roster ∧
      (State.chainsOff s).mon = s.mon ∧ (State.chainsOff s).pm = s.pm ∧ (State.chainsOff s).store = s.store ∧
      (State.chainsOff s).image = s.image ∧ (State.chainsOff s).faults = s.faults ∧
      (State.chainsOff s).tally = s.tally := by
  simp [State.chainsOff]

@[simp] theorem State.wakeDark_frame (s : State) :
    (State.wakeDark s).pending = s.pending ∧ (State.wakeDark s).now = s.now ∧ (State.wakeDark s).part = s.part ∧
      (State.wakeDark s).params = s.params ∧ (State.wakeDark s).line = s.line ∧
      (State.wakeDark s).jomen = s.jomen ∧ (State.wakeDark s).radio = s.radio ∧ (State.wakeDark s).rx = s.rx ∧
      (State.wakeDark s).time = s.time ∧ (State.wakeDark s).sched = s.sched ∧ (State.wakeDark s).net = s.net ∧
      (State.wakeDark s).work = s.work ∧ (State.wakeDark s).roster = s.roster ∧ (State.wakeDark s).mon = s.mon ∧
      (State.wakeDark s).pm = s.pm ∧ (State.wakeDark s).store = s.store ∧ (State.wakeDark s).image = s.image ∧
      (State.wakeDark s).faults = s.faults ∧ (State.wakeDark s).tally = s.tally := by
  simp [State.wakeDark]

@[simp] theorem State.acceptBurst_frame (b : Burst) (s : State) :
    (State.acceptBurst b s).pending = s.pending ∧ (State.acceptBurst b s).now = s.now ∧
      (State.acceptBurst b s).part = s.part ∧ (State.acceptBurst b s).params = s.params ∧
      (State.acceptBurst b s).line = s.line ∧ (State.acceptBurst b s).wake = s.wake ∧
      (State.acceptBurst b s).radio = s.radio ∧ (State.acceptBurst b s).rx = s.rx ∧
      (State.acceptBurst b s).time = s.time ∧ (State.acceptBurst b s).sched = s.sched ∧
      (State.acceptBurst b s).net = s.net ∧ (State.acceptBurst b s).work = s.work ∧
      (State.acceptBurst b s).roster = s.roster ∧ (State.acceptBurst b s).mon = s.mon ∧
      (State.acceptBurst b s).pm = s.pm ∧ (State.acceptBurst b s).store = s.store ∧
      (State.acceptBurst b s).image = s.image ∧ (State.acceptBurst b s).faults = s.faults ∧
      (State.acceptBurst b s).tally = s.tally := by
  simp [State.acceptBurst]

@[simp] theorem State.argHash_frame (s : State) :
    (State.argHash s).2.pending = s.pending ∧ (State.argHash s).2.now = s.now ∧
      (State.argHash s).2.part = s.part ∧ (State.argHash s).2.params = s.params ∧
      (State.argHash s).2.line = s.line ∧ (State.argHash s).2.wake = s.wake ∧
      (State.argHash s).2.jomen = s.jomen ∧ (State.argHash s).2.radio = s.radio ∧ (State.argHash s).2.rx = s.rx ∧
      (State.argHash s).2.time = s.time ∧ (State.argHash s).2.sched = s.sched ∧ (State.argHash s).2.net = s.net ∧
      (State.argHash s).2.work = s.work ∧ (State.argHash s).2.roster = s.roster ∧
      (State.argHash s).2.mon = s.mon ∧ (State.argHash s).2.pm = s.pm ∧ (State.argHash s).2.store = s.store ∧
      (State.argHash s).2.image = s.image ∧ (State.argHash s).2.faults = s.faults ∧
      (State.argHash s).2.tally = s.tally := by
  simp [State.argHash]

theorem State.argHash_eq {s : State} {r_ : _} (h_ : (State.argHash s) = r_) :
    r_.2.pending = s.pending ∧ r_.2.now = s.now ∧ r_.2.part = s.part ∧ r_.2.params = s.params ∧
      r_.2.line = s.line ∧ r_.2.wake = s.wake ∧ r_.2.jomen = s.jomen ∧ r_.2.radio = s.radio ∧ r_.2.rx = s.rx ∧
      r_.2.time = s.time ∧ r_.2.sched = s.sched ∧ r_.2.net = s.net ∧ r_.2.work = s.work ∧ r_.2.roster = s.roster ∧
      r_.2.mon = s.mon ∧ r_.2.pm = s.pm ∧ r_.2.store = s.store ∧ r_.2.image = s.image ∧ r_.2.faults = s.faults ∧
      r_.2.tally = s.tally := by
  subst h_; exact State.argHash_frame s

@[simp] theorem State.freeCode_frame (c : ℕ) (s : State) :
    (State.freeCode c s).pending = s.pending ∧ (State.freeCode c s).now = s.now ∧
      (State.freeCode c s).part = s.part ∧ (State.freeCode c s).params = s.params ∧
      (State.freeCode c s).line = s.line ∧ (State.freeCode c s).radio = s.radio ∧ (State.freeCode c s).rx = s.rx ∧
      (State.freeCode c s).time = s.time ∧ (State.freeCode c s).sched = s.sched ∧
      (State.freeCode c s).net = s.net ∧ (State.freeCode c s).work = s.work ∧
      (State.freeCode c s).roster = s.roster ∧ (State.freeCode c s).mon = s.mon ∧ (State.freeCode c s).pm = s.pm ∧
      (State.freeCode c s).store = s.store ∧ (State.freeCode c s).image = s.image ∧
      (State.freeCode c s).faults = s.faults ∧ (State.freeCode c s).tally = s.tally := by
  simp [State.freeCode]

@[simp] theorem State.radioStandby_frame (s : State) :
    (State.radioStandby s).pending = s.pending ∧ (State.radioStandby s).now = s.now ∧
      (State.radioStandby s).part = s.part ∧ (State.radioStandby s).params = s.params ∧
      (State.radioStandby s).line = s.line ∧ (State.radioStandby s).wake = s.wake ∧
      (State.radioStandby s).jomen = s.jomen ∧ (State.radioStandby s).rx = s.rx ∧
      (State.radioStandby s).time = s.time ∧ (State.radioStandby s).sched = s.sched ∧
      (State.radioStandby s).net = s.net ∧ (State.radioStandby s).work = s.work ∧
      (State.radioStandby s).roster = s.roster ∧ (State.radioStandby s).mon = s.mon ∧
      (State.radioStandby s).pm = s.pm ∧ (State.radioStandby s).store = s.store ∧
      (State.radioStandby s).image = s.image ∧ (State.radioStandby s).faults = s.faults ∧
      (State.radioStandby s).tally = s.tally := by
  simp [State.radioStandby]

@[simp] theorem State.judgeLane_frame (n : Fin 16) (f : Judge → Judge) (s : State) :
    (State.judgeLane n f s).pending = s.pending ∧ (State.judgeLane n f s).now = s.now ∧
      (State.judgeLane n f s).part = s.part ∧ (State.judgeLane n f s).params = s.params ∧
      (State.judgeLane n f s).line = s.line ∧ (State.judgeLane n f s).wake = s.wake ∧
      (State.judgeLane n f s).jomen = s.jomen ∧ (State.judgeLane n f s).radio = s.radio ∧
      (State.judgeLane n f s).time = s.time ∧ (State.judgeLane n f s).sched = s.sched ∧
      (State.judgeLane n f s).net = s.net ∧ (State.judgeLane n f s).work = s.work ∧
      (State.judgeLane n f s).roster = s.roster ∧ (State.judgeLane n f s).mon = s.mon ∧
      (State.judgeLane n f s).pm = s.pm ∧ (State.judgeLane n f s).store = s.store ∧
      (State.judgeLane n f s).image = s.image ∧ (State.judgeLane n f s).faults = s.faults ∧
      (State.judgeLane n f s).tally = s.tally := by
  unfold State.judgeLane; dsimp only; (repeat' split) <;> simp

@[simp] theorem State.slowTick_frame (s : State) :
    (State.slowTick s).pending = s.pending ∧ (State.slowTick s).now = s.now ∧ (State.slowTick s).part = s.part ∧
      (State.slowTick s).params = s.params ∧ (State.slowTick s).line = s.line ∧ (State.slowTick s).wake = s.wake ∧
      (State.slowTick s).jomen = s.jomen ∧ (State.slowTick s).radio = s.radio ∧ (State.slowTick s).rx = s.rx ∧
      (State.slowTick s).sched = s.sched ∧ (State.slowTick s).net = s.net ∧ (State.slowTick s).work = s.work ∧
      (State.slowTick s).roster = s.roster ∧ (State.slowTick s).mon = s.mon ∧ (State.slowTick s).pm = s.pm ∧
      (State.slowTick s).store = s.store ∧ (State.slowTick s).image = s.image ∧
      (State.slowTick s).faults = s.faults ∧ (State.slowTick s).tally = s.tally := by
  simp [State.slowTick]

@[simp] theorem State.countN_frame (b : Block) (name : String) (n : ℕ) (s : State) :
    (State.countN b name n s).pending = s.pending ∧ (State.countN b name n s).now = s.now ∧
      (State.countN b name n s).part = s.part ∧ (State.countN b name n s).params = s.params ∧
      (State.countN b name n s).line = s.line ∧ (State.countN b name n s).wake = s.wake ∧
      (State.countN b name n s).jomen = s.jomen ∧ (State.countN b name n s).radio = s.radio ∧
      (State.countN b name n s).rx = s.rx ∧ (State.countN b name n s).time = s.time ∧
      (State.countN b name n s).sched = s.sched ∧ (State.countN b name n s).net = s.net ∧
      (State.countN b name n s).work = s.work ∧ (State.countN b name n s).roster = s.roster ∧
      (State.countN b name n s).mon = s.mon ∧ (State.countN b name n s).pm = s.pm ∧
      (State.countN b name n s).store = s.store ∧ (State.countN b name n s).image = s.image ∧
      (State.countN b name n s).faults = s.faults := by
  simp [State.countN]

@[simp] theorem State.airRx_frame (n : Fin 16) (psdu : ℕ) (s : State) :
    (State.airRx n psdu s).pending = s.pending ∧ (State.airRx n psdu s).now = s.now ∧
      (State.airRx n psdu s).part = s.part ∧ (State.airRx n psdu s).params = s.params ∧
      (State.airRx n psdu s).line = s.line ∧ (State.airRx n psdu s).wake = s.wake ∧
      (State.airRx n psdu s).jomen = s.jomen ∧ (State.airRx n psdu s).radio = s.radio ∧
      (State.airRx n psdu s).time = s.time ∧ (State.airRx n psdu s).sched = s.sched ∧
      (State.airRx n psdu s).net = s.net ∧ (State.airRx n psdu s).work = s.work ∧
      (State.airRx n psdu s).roster = s.roster ∧ (State.airRx n psdu s).mon = s.mon ∧
      (State.airRx n psdu s).pm = s.pm ∧ (State.airRx n psdu s).store = s.store ∧
      (State.airRx n psdu s).image = s.image ∧ (State.airRx n psdu s).faults = s.faults := by
  simp [State.airRx]

@[simp] theorem State.coexRise_frame (high : Bool) (air : Ticks) (c : Option Claim) (s : State) :
    (State.coexRise high air c s).pending = s.pending ∧ (State.coexRise high air c s).now = s.now ∧
      (State.coexRise high air c s).part = s.part ∧ (State.coexRise high air c s).params = s.params ∧
      (State.coexRise high air c s).line = s.line ∧ (State.coexRise high air c s).wake = s.wake ∧
      (State.coexRise high air c s).jomen = s.jomen ∧ (State.coexRise high air c s).rx = s.rx ∧
      (State.coexRise high air c s).time = s.time ∧ (State.coexRise high air c s).sched = s.sched ∧
      (State.coexRise high air c s).net = s.net ∧ (State.coexRise high air c s).work = s.work ∧
      (State.coexRise high air c s).roster = s.roster ∧ (State.coexRise high air c s).mon = s.mon ∧
      (State.coexRise high air c s).pm = s.pm ∧ (State.coexRise high air c s).store = s.store ∧
      (State.coexRise high air c s).image = s.image ∧ (State.coexRise high air c s).faults = s.faults ∧
      (State.coexRise high air c s).tally = s.tally := by
  simp [State.coexRise]

@[simp] theorem State.calSettled_frame (b : Band) (temp : ℤ) (s : State) :
    (State.calSettled b temp s).pending = s.pending ∧ (State.calSettled b temp s).now = s.now ∧
      (State.calSettled b temp s).part = s.part ∧ (State.calSettled b temp s).params = s.params ∧
      (State.calSettled b temp s).line = s.line ∧ (State.calSettled b temp s).wake = s.wake ∧
      (State.calSettled b temp s).jomen = s.jomen ∧ (State.calSettled b temp s).rx = s.rx ∧
      (State.calSettled b temp s).time = s.time ∧ (State.calSettled b temp s).sched = s.sched ∧
      (State.calSettled b temp s).net = s.net ∧ (State.calSettled b temp s).work = s.work ∧
      (State.calSettled b temp s).roster = s.roster ∧ (State.calSettled b temp s).mon = s.mon ∧
      (State.calSettled b temp s).pm = s.pm ∧ (State.calSettled b temp s).store = s.store ∧
      (State.calSettled b temp s).image = s.image ∧ (State.calSettled b temp s).faults = s.faults ∧
      (State.calSettled b temp s).tally = s.tally := by
  simp [State.calSettled]

@[simp] theorem State.storeDrive_frame (tx : Tx) (s : State) :
    (State.storeDrive tx s).pending = s.pending ∧ (State.storeDrive tx s).now = s.now ∧
      (State.storeDrive tx s).part = s.part ∧ (State.storeDrive tx s).params = s.params ∧
      (State.storeDrive tx s).line = s.line ∧ (State.storeDrive tx s).wake = s.wake ∧
      (State.storeDrive tx s).jomen = s.jomen ∧ (State.storeDrive tx s).rx = s.rx ∧
      (State.storeDrive tx s).time = s.time ∧ (State.storeDrive tx s).sched = s.sched ∧
      (State.storeDrive tx s).net = s.net ∧ (State.storeDrive tx s).work = s.work ∧
      (State.storeDrive tx s).roster = s.roster ∧ (State.storeDrive tx s).mon = s.mon ∧
      (State.storeDrive tx s).pm = s.pm ∧ (State.storeDrive tx s).store = s.store ∧
      (State.storeDrive tx s).image = s.image ∧ (State.storeDrive tx s).faults = s.faults ∧
      (State.storeDrive tx s).tally = s.tally := by
  simp [State.storeDrive]

@[simp] theorem State.deaf_frame (s : State) :
    (State.deaf s).pending = s.pending ∧ (State.deaf s).now = s.now ∧ (State.deaf s).part = s.part ∧
      (State.deaf s).params = s.params ∧ (State.deaf s).line = s.line ∧ (State.deaf s).wake = s.wake ∧
      (State.deaf s).jomen = s.jomen ∧ (State.deaf s).rx = s.rx ∧ (State.deaf s).time = s.time ∧
      (State.deaf s).sched = s.sched ∧ (State.deaf s).net = s.net ∧ (State.deaf s).work = s.work ∧
      (State.deaf s).roster = s.roster ∧ (State.deaf s).mon = s.mon ∧ (State.deaf s).pm = s.pm ∧
      (State.deaf s).store = s.store ∧ (State.deaf s).image = s.image ∧ (State.deaf s).faults = s.faults ∧
      (State.deaf s).tally = s.tally := by
  simp [State.deaf]

@[simp] theorem State.downloadLoss_frame (s : State) :
    (State.downloadLoss s).pending = s.pending ∧ (State.downloadLoss s).now = s.now ∧
      (State.downloadLoss s).part = s.part ∧ (State.downloadLoss s).params = s.params ∧
      (State.downloadLoss s).line = s.line ∧ (State.downloadLoss s).wake = s.wake ∧
      (State.downloadLoss s).jomen = s.jomen ∧ (State.downloadLoss s).radio = s.radio ∧
      (State.downloadLoss s).rx = s.rx ∧ (State.downloadLoss s).time = s.time ∧
      (State.downloadLoss s).sched = s.sched ∧ (State.downloadLoss s).net = s.net ∧
      (State.downloadLoss s).work = s.work ∧ (State.downloadLoss s).roster = s.roster ∧
      (State.downloadLoss s).mon = s.mon ∧ (State.downloadLoss s).pm = s.pm ∧
      (State.downloadLoss s).store = s.store ∧ (State.downloadLoss s).faults = s.faults ∧
      (State.downloadLoss s).tally = s.tally := by
  unfold State.downloadLoss; (repeat' split) <;> simp

@[simp] theorem State.ackReady_frame (x : RxFrame) (admission : Bool) (s : State) :
    (State.ackReady x admission s).pending = s.pending ∧ (State.ackReady x admission s).now = s.now ∧
      (State.ackReady x admission s).part = s.part ∧ (State.ackReady x admission s).params = s.params ∧
      (State.ackReady x admission s).line = s.line ∧ (State.ackReady x admission s).wake = s.wake ∧
      (State.ackReady x admission s).jomen = s.jomen ∧ (State.ackReady x admission s).radio = s.radio ∧
      (State.ackReady x admission s).time = s.time ∧ (State.ackReady x admission s).sched = s.sched ∧
      (State.ackReady x admission s).net = s.net ∧ (State.ackReady x admission s).work = s.work ∧
      (State.ackReady x admission s).roster = s.roster ∧ (State.ackReady x admission s).mon = s.mon ∧
      (State.ackReady x admission s).pm = s.pm ∧ (State.ackReady x admission s).store = s.store ∧
      (State.ackReady x admission s).image = s.image ∧ (State.ackReady x admission s).faults = s.faults ∧
      (State.ackReady x admission s).tally = s.tally := by
  simp [State.ackReady]

@[simp] theorem State.dcTaken_frame (sd : Side) (b : Band) (s : State) :
    (State.dcTaken sd b s).pending = s.pending ∧ (State.dcTaken sd b s).now = s.now ∧
      (State.dcTaken sd b s).part = s.part ∧ (State.dcTaken sd b s).params = s.params ∧
      (State.dcTaken sd b s).line = s.line ∧ (State.dcTaken sd b s).wake = s.wake ∧
      (State.dcTaken sd b s).jomen = s.jomen ∧ (State.dcTaken sd b s).radio = s.radio ∧
      (State.dcTaken sd b s).time = s.time ∧ (State.dcTaken sd b s).sched = s.sched ∧
      (State.dcTaken sd b s).net = s.net ∧ (State.dcTaken sd b s).work = s.work ∧
      (State.dcTaken sd b s).roster = s.roster ∧ (State.dcTaken sd b s).mon = s.mon ∧
      (State.dcTaken sd b s).pm = s.pm ∧ (State.dcTaken sd b s).store = s.store ∧
      (State.dcTaken sd b s).image = s.image ∧ (State.dcTaken sd b s).faults = s.faults ∧
      (State.dcTaken sd b s).tally = s.tally := by
  simp [State.dcTaken]

@[simp] theorem State.ensureWait_frame (s : State) :
    (State.ensureWait s).pending = s.pending ∧ (State.ensureWait s).now = s.now ∧
      (State.ensureWait s).part = s.part ∧ (State.ensureWait s).params = s.params ∧
      (State.ensureWait s).line = s.line ∧ (State.ensureWait s).wake = s.wake ∧
      (State.ensureWait s).jomen = s.jomen ∧ (State.ensureWait s).radio = s.radio ∧
      (State.ensureWait s).rx = s.rx ∧ (State.ensureWait s).time = s.time ∧ (State.ensureWait s).sched = s.sched ∧
      (State.ensureWait s).work = s.work ∧ (State.ensureWait s).roster = s.roster ∧
      (State.ensureWait s).mon = s.mon ∧ (State.ensureWait s).pm = s.pm ∧ (State.ensureWait s).store = s.store ∧
      (State.ensureWait s).image = s.image ∧ (State.ensureWait s).faults = s.faults ∧
      (State.ensureWait s).tally = s.tally := by
  simp [State.ensureWait]

@[simp] theorem State.persistAll_frame (s : State) :
    (State.persistAll s).pending = s.pending ∧ (State.persistAll s).now = s.now ∧
      (State.persistAll s).part = s.part ∧ (State.persistAll s).params = s.params ∧
      (State.persistAll s).line = s.line ∧ (State.persistAll s).wake = s.wake ∧
      (State.persistAll s).jomen = s.jomen ∧ (State.persistAll s).radio = s.radio ∧
      (State.persistAll s).rx = s.rx ∧ (State.persistAll s).time = s.time ∧ (State.persistAll s).sched = s.sched ∧
      (State.persistAll s).net = s.net ∧ (State.persistAll s).work = s.work ∧ (State.persistAll s).mon = s.mon ∧
      (State.persistAll s).pm = s.pm ∧ (State.persistAll s).store = s.store ∧
      (State.persistAll s).image = s.image ∧ (State.persistAll s).faults = s.faults ∧
      (State.persistAll s).tally = s.tally := by
  simp [State.persistAll]

@[simp] theorem State.dcLoop_frame (sd : Side) (s : State) :
    (State.dcLoop sd s).pending = s.pending ∧ (State.dcLoop sd s).now = s.now ∧
      (State.dcLoop sd s).part = s.part ∧ (State.dcLoop sd s).params = s.params ∧
      (State.dcLoop sd s).line = s.line ∧ (State.dcLoop sd s).wake = s.wake ∧
      (State.dcLoop sd s).jomen = s.jomen ∧ (State.dcLoop sd s).radio = s.radio ∧
      (State.dcLoop sd s).time = s.time ∧ (State.dcLoop sd s).sched = s.sched ∧ (State.dcLoop sd s).net = s.net ∧
      (State.dcLoop sd s).work = s.work ∧ (State.dcLoop sd s).roster = s.roster ∧
      (State.dcLoop sd s).mon = s.mon ∧ (State.dcLoop sd s).pm = s.pm ∧ (State.dcLoop sd s).store = s.store ∧
      (State.dcLoop sd s).image = s.image ∧ (State.dcLoop sd s).faults = s.faults ∧
      (State.dcLoop sd s).tally = s.tally := by
  simp [State.dcLoop]

@[simp] theorem State.onPush_frame (id : ℕ) (g : PushSess → PushSess) (s : State) :
    (State.onPush id g s).pending = s.pending ∧ (State.onPush id g s).now = s.now ∧
      (State.onPush id g s).part = s.part ∧ (State.onPush id g s).params = s.params ∧
      (State.onPush id g s).line = s.line ∧ (State.onPush id g s).wake = s.wake ∧
      (State.onPush id g s).jomen = s.jomen ∧ (State.onPush id g s).radio = s.radio ∧
      (State.onPush id g s).rx = s.rx ∧ (State.onPush id g s).time = s.time ∧
      (State.onPush id g s).sched = s.sched ∧ (State.onPush id g s).net = s.net ∧
      (State.onPush id g s).roster = s.roster ∧ (State.onPush id g s).mon = s.mon ∧
      (State.onPush id g s).pm = s.pm ∧ (State.onPush id g s).store = s.store ∧
      (State.onPush id g s).image = s.image ∧ (State.onPush id g s).faults = s.faults ∧
      (State.onPush id g s).tally = s.tally := by
  simp [State.onPush]

@[simp] theorem State.wmFeed_frame (n : Fin 8) (active : Bool) (s : State) :
    (State.wmFeed n active s).pending = s.pending ∧ (State.wmFeed n active s).now = s.now ∧
      (State.wmFeed n active s).part = s.part ∧ (State.wmFeed n active s).params = s.params ∧
      (State.wmFeed n active s).line = s.line ∧ (State.wmFeed n active s).wake = s.wake ∧
      (State.wmFeed n active s).jomen = s.jomen ∧ (State.wmFeed n active s).radio = s.radio ∧
      (State.wmFeed n active s).rx = s.rx ∧ (State.wmFeed n active s).time = s.time ∧
      (State.wmFeed n active s).sched = s.sched ∧ (State.wmFeed n active s).net = s.net ∧
      (State.wmFeed n active s).work = s.work ∧ (State.wmFeed n active s).roster = s.roster ∧
      (State.wmFeed n active s).pm = s.pm ∧ (State.wmFeed n active s).store = s.store ∧
      (State.wmFeed n active s).image = s.image ∧ (State.wmFeed n active s).faults = s.faults ∧
      (State.wmFeed n active s).tally = s.tally := by
  simp [State.wmFeed]

@[simp] theorem State.evict_frame (i : ℕ) (s : State) :
    (State.evict i s).pending = s.pending ∧ (State.evict i s).now = s.now ∧ (State.evict i s).part = s.part ∧
      (State.evict i s).params = s.params ∧ (State.evict i s).line = s.line ∧ (State.evict i s).radio = s.radio ∧
      (State.evict i s).rx = s.rx ∧ (State.evict i s).time = s.time ∧ (State.evict i s).sched = s.sched ∧
      (State.evict i s).net = s.net ∧ (State.evict i s).work = s.work ∧ (State.evict i s).mon = s.mon ∧
      (State.evict i s).pm = s.pm ∧ (State.evict i s).store = s.store ∧ (State.evict i s).image = s.image ∧
      (State.evict i s).faults = s.faults ∧ (State.evict i s).tally = s.tally := by
  unfold State.evict; (repeat' split) <;> simp

@[simp] theorem State.dropPayloads_frame (s : State) :
    (State.dropPayloads s).pending = s.pending ∧ (State.dropPayloads s).now = s.now ∧
      (State.dropPayloads s).part = s.part ∧ (State.dropPayloads s).params = s.params ∧
      (State.dropPayloads s).line = s.line ∧ (State.dropPayloads s).wake = s.wake ∧
      (State.dropPayloads s).jomen = s.jomen ∧ (State.dropPayloads s).radio = s.radio ∧
      (State.dropPayloads s).time = s.time ∧ (State.dropPayloads s).sched = s.sched ∧
      (State.dropPayloads s).net = s.net ∧ (State.dropPayloads s).work = s.work ∧
      (State.dropPayloads s).roster = s.roster ∧ (State.dropPayloads s).mon = s.mon ∧
      (State.dropPayloads s).pm = s.pm ∧ (State.dropPayloads s).store = s.store ∧
      (State.dropPayloads s).image = s.image ∧ (State.dropPayloads s).faults = s.faults ∧
      (State.dropPayloads s).tally = s.tally := by
  simp [State.dropPayloads]

@[simp] theorem State.ackDrop_frame (x : RxFrame) (s : State) :
    (State.ackDrop x s).pending = s.pending ∧ (State.ackDrop x s).now = s.now ∧
      (State.ackDrop x s).part = s.part ∧ (State.ackDrop x s).params = s.params ∧
      (State.ackDrop x s).line = s.line ∧ (State.ackDrop x s).wake = s.wake ∧
      (State.ackDrop x s).jomen = s.jomen ∧ (State.ackDrop x s).radio = s.radio ∧
      (State.ackDrop x s).time = s.time ∧ (State.ackDrop x s).sched = s.sched ∧ (State.ackDrop x s).net = s.net ∧
      (State.ackDrop x s).work = s.work ∧ (State.ackDrop x s).roster = s.roster ∧
      (State.ackDrop x s).mon = s.mon ∧ (State.ackDrop x s).pm = s.pm ∧ (State.ackDrop x s).store = s.store ∧
      (State.ackDrop x s).image = s.image ∧ (State.ackDrop x s).faults = s.faults ∧
      (State.ackDrop x s).tally = s.tally := by
  simp [State.ackDrop]

@[simp] theorem State.release_frame (n : Fin 16) (s : State) :
    (State.release n s).pending = s.pending ∧ (State.release n s).now = s.now ∧
      (State.release n s).part = s.part ∧ (State.release n s).params = s.params ∧
      (State.release n s).line = s.line ∧ (State.release n s).wake = s.wake ∧
      (State.release n s).jomen = s.jomen ∧ (State.release n s).radio = s.radio ∧
      (State.release n s).time = s.time ∧ (State.release n s).sched = s.sched ∧ (State.release n s).net = s.net ∧
      (State.release n s).work = s.work ∧ (State.release n s).roster = s.roster ∧
      (State.release n s).mon = s.mon ∧ (State.release n s).pm = s.pm ∧ (State.release n s).store = s.store ∧
      (State.release n s).image = s.image ∧ (State.release n s).faults = s.faults ∧
      (State.release n s).tally = s.tally := by
  simp [State.release]

@[simp] theorem State.applyDc_frame (sd : Side) (s : State) :
    (State.applyDc sd s).pending = s.pending ∧ (State.applyDc sd s).now = s.now ∧
      (State.applyDc sd s).part = s.part ∧ (State.applyDc sd s).params = s.params ∧
      (State.applyDc sd s).line = s.line ∧ (State.applyDc sd s).wake = s.wake ∧
      (State.applyDc sd s).jomen = s.jomen ∧ (State.applyDc sd s).radio = s.radio ∧
      (State.applyDc sd s).time = s.time ∧ (State.applyDc sd s).sched = s.sched ∧
      (State.applyDc sd s).net = s.net ∧ (State.applyDc sd s).work = s.work ∧
      (State.applyDc sd s).roster = s.roster ∧ (State.applyDc sd s).mon = s.mon ∧ (State.applyDc sd s).pm = s.pm ∧
      (State.applyDc sd s).store = s.store ∧ (State.applyDc sd s).image = s.image ∧
      (State.applyDc sd s).faults = s.faults ∧ (State.applyDc sd s).tally = s.tally := by
  simp [State.applyDc]

@[simp] theorem State.thaw_frame (s : State) :
    (State.thaw s).pending = s.pending ∧ (State.thaw s).now = s.now ∧ (State.thaw s).part = s.part ∧
      (State.thaw s).params = s.params ∧ (State.thaw s).line = s.line ∧ (State.thaw s).wake = s.wake ∧
      (State.thaw s).jomen = s.jomen ∧ (State.thaw s).radio = s.radio ∧ (State.thaw s).rx = s.rx ∧
      (State.thaw s).time = s.time ∧ (State.thaw s).sched = s.sched ∧ (State.thaw s).net = s.net ∧
      (State.thaw s).work = s.work ∧ (State.thaw s).roster = s.roster ∧ (State.thaw s).mon = s.mon ∧
      (State.thaw s).pm = s.pm ∧ (State.thaw s).store = s.store ∧ (State.thaw s).image = s.image ∧
      (State.thaw s).faults = s.faults := by
  unfold State.thaw; (repeat' split) <;> simp

@[simp] theorem State.resetPgs_frame (s : State) :
    (State.resetPgs s).pending = s.pending ∧ (State.resetPgs s).now = s.now ∧ (State.resetPgs s).part = s.part ∧
      (State.resetPgs s).params = s.params ∧ (State.resetPgs s).line = s.line ∧ (State.resetPgs s).wake = s.wake ∧
      (State.resetPgs s).jomen = s.jomen ∧ (State.resetPgs s).radio = s.radio ∧ (State.resetPgs s).rx = s.rx ∧
      (State.resetPgs s).time = s.time ∧ (State.resetPgs s).sched = s.sched ∧ (State.resetPgs s).net = s.net ∧
      (State.resetPgs s).work = s.work ∧ (State.resetPgs s).roster = s.roster ∧ (State.resetPgs s).pm = s.pm ∧
      (State.resetPgs s).store = s.store ∧ (State.resetPgs s).image = s.image ∧
      (State.resetPgs s).faults = s.faults ∧ (State.resetPgs s).tally = s.tally := by
  simp [State.resetPgs]

@[simp] theorem State.frameSent_frame (k : TxKind) (s : State) :
    (State.frameSent k s).pending = s.pending ∧ (State.frameSent k s).now = s.now ∧
      (State.frameSent k s).part = s.part ∧ (State.frameSent k s).params = s.params ∧
      (State.frameSent k s).line = s.line ∧ (State.frameSent k s).wake = s.wake ∧
      (State.frameSent k s).jomen = s.jomen ∧ (State.frameSent k s).radio = s.radio ∧
      (State.frameSent k s).rx = s.rx ∧ (State.frameSent k s).time = s.time ∧
      (State.frameSent k s).sched = s.sched ∧ (State.frameSent k s).net = s.net ∧
      (State.frameSent k s).roster = s.roster ∧ (State.frameSent k s).mon = s.mon ∧
      (State.frameSent k s).pm = s.pm ∧ (State.frameSent k s).store = s.store ∧
      (State.frameSent k s).image = s.image ∧ (State.frameSent k s).faults = s.faults ∧
      (State.frameSent k s).tally = s.tally := by
  unfold State.frameSent; (repeat' split) <;> simp

@[simp] theorem State.bootDue_frame (s : State) :
    (State.bootDue s).pending = s.pending ∧ (State.bootDue s).now = s.now ∧ (State.bootDue s).part = s.part ∧
      (State.bootDue s).params = s.params ∧ (State.bootDue s).line = s.line ∧ (State.bootDue s).wake = s.wake ∧
      (State.bootDue s).jomen = s.jomen ∧ (State.bootDue s).radio = s.radio ∧ (State.bootDue s).rx = s.rx ∧
      (State.bootDue s).time = s.time ∧ (State.bootDue s).sched = s.sched ∧ (State.bootDue s).net = s.net ∧
      (State.bootDue s).work = s.work ∧ (State.bootDue s).roster = s.roster ∧ (State.bootDue s).mon = s.mon ∧
      (State.bootDue s).pm = s.pm ∧ (State.bootDue s).store = s.store ∧ (State.bootDue s).faults = s.faults ∧
      (State.bootDue s).tally = s.tally := by
  unfold State.bootDue; (repeat' split) <;> simp

@[simp] theorem State.onRes_frame (id : ResId) (f : Res → Res) (s : State) :
    (State.onRes id f s).pending = s.pending ∧ (State.onRes id f s).now = s.now ∧
      (State.onRes id f s).part = s.part ∧ (State.onRes id f s).params = s.params ∧
      (State.onRes id f s).line = s.line ∧ (State.onRes id f s).wake = s.wake ∧
      (State.onRes id f s).jomen = s.jomen ∧ (State.onRes id f s).radio = s.radio ∧
      (State.onRes id f s).rx = s.rx ∧ (State.onRes id f s).time = s.time ∧ (State.onRes id f s).sched = s.sched ∧
      (State.onRes id f s).net = s.net ∧ (State.onRes id f s).work = s.work ∧
      (State.onRes id f s).roster = s.roster ∧ (State.onRes id f s).mon = s.mon ∧ (State.onRes id f s).pm = s.pm ∧
      (State.onRes id f s).store = s.store ∧ (State.onRes id f s).image = s.image ∧
      (State.onRes id f s).tally = s.tally := by
  simp [State.onRes]

@[simp] theorem State.rouse_frame (s : State) :
    (State.rouse s).pending = s.pending ∧ (State.rouse s).now = s.now ∧ (State.rouse s).part = s.part ∧
      (State.rouse s).params = s.params ∧ (State.rouse s).line = s.line ∧ (State.rouse s).wake = s.wake ∧
      (State.rouse s).jomen = s.jomen ∧ (State.rouse s).radio = s.radio ∧ (State.rouse s).rx = s.rx ∧
      (State.rouse s).time = s.time ∧ (State.rouse s).sched = s.sched ∧ (State.rouse s).net = s.net ∧
      (State.rouse s).work = s.work ∧ (State.rouse s).roster = s.roster ∧ (State.rouse s).mon = s.mon ∧
      (State.rouse s).store = s.store ∧ (State.rouse s).image = s.image ∧ (State.rouse s).faults = s.faults ∧
      (State.rouse s).tally = s.tally := by
  simp [State.rouse]

@[simp] theorem State.holdGroups_frame (gs : List ℕ) (up : Bool) (s : State) :
    (State.holdGroups gs up s).pending = s.pending ∧ (State.holdGroups gs up s).now = s.now ∧
      (State.holdGroups gs up s).part = s.part ∧ (State.holdGroups gs up s).params = s.params ∧
      (State.holdGroups gs up s).line = s.line ∧ (State.holdGroups gs up s).wake = s.wake ∧
      (State.holdGroups gs up s).radio = s.radio ∧ (State.holdGroups gs up s).rx = s.rx ∧
      (State.holdGroups gs up s).time = s.time ∧ (State.holdGroups gs up s).sched = s.sched ∧
      (State.holdGroups gs up s).net = s.net ∧ (State.holdGroups gs up s).work = s.work ∧
      (State.holdGroups gs up s).roster = s.roster ∧ (State.holdGroups gs up s).mon = s.mon ∧
      (State.holdGroups gs up s).pm = s.pm ∧ (State.holdGroups gs up s).store = s.store ∧
      (State.holdGroups gs up s).image = s.image ∧ (State.holdGroups gs up s).faults = s.faults ∧
      (State.holdGroups gs up s).tally = s.tally := by
  simp [State.holdGroups]

@[simp] theorem State.refuseFrame_frame (x : RxFrame) (s : State) :
    (State.refuseFrame x s).2.pending = s.pending ∧ (State.refuseFrame x s).2.now = s.now ∧
      (State.refuseFrame x s).2.part = s.part ∧ (State.refuseFrame x s).2.params = s.params ∧
      (State.refuseFrame x s).2.line = s.line ∧ (State.refuseFrame x s).2.wake = s.wake ∧
      (State.refuseFrame x s).2.jomen = s.jomen ∧ (State.refuseFrame x s).2.radio = s.radio ∧
      (State.refuseFrame x s).2.time = s.time ∧ (State.refuseFrame x s).2.sched = s.sched ∧
      (State.refuseFrame x s).2.net = s.net ∧ (State.refuseFrame x s).2.work = s.work ∧
      (State.refuseFrame x s).2.roster = s.roster ∧ (State.refuseFrame x s).2.mon = s.mon ∧
      (State.refuseFrame x s).2.pm = s.pm ∧ (State.refuseFrame x s).2.store = s.store ∧
      (State.refuseFrame x s).2.image = s.image ∧ (State.refuseFrame x s).2.faults = s.faults ∧
      (State.refuseFrame x s).2.tally = s.tally := by
  simp [State.refuseFrame]

theorem State.refuseFrame_eq {x : RxFrame} {s : State} {r_ : _} (h_ : (State.refuseFrame x s) = r_) :
    r_.2.pending = s.pending ∧ r_.2.now = s.now ∧ r_.2.part = s.part ∧ r_.2.params = s.params ∧
      r_.2.line = s.line ∧ r_.2.wake = s.wake ∧ r_.2.jomen = s.jomen ∧ r_.2.radio = s.radio ∧ r_.2.time = s.time ∧
      r_.2.sched = s.sched ∧ r_.2.net = s.net ∧ r_.2.work = s.work ∧ r_.2.roster = s.roster ∧ r_.2.mon = s.mon ∧
      r_.2.pm = s.pm ∧ r_.2.store = s.store ∧ r_.2.image = s.image ∧ r_.2.faults = s.faults ∧
      r_.2.tally = s.tally := by
  subst h_; exact State.refuseFrame_frame x s

@[simp] theorem State.setSeen_frame (code : ℕ) (reason : ℕ) (s : State) :
    (State.setSeen code reason s).pending = s.pending ∧ (State.setSeen code reason s).now = s.now ∧
      (State.setSeen code reason s).part = s.part ∧ (State.setSeen code reason s).params = s.params ∧
      (State.setSeen code reason s).line = s.line ∧ (State.setSeen code reason s).jomen = s.jomen ∧
      (State.setSeen code reason s).radio = s.radio ∧ (State.setSeen code reason s).rx = s.rx ∧
      (State.setSeen code reason s).time = s.time ∧ (State.setSeen code reason s).sched = s.sched ∧
      (State.setSeen code reason s).net = s.net ∧ (State.setSeen code reason s).work = s.work ∧
      (State.setSeen code reason s).roster = s.roster ∧ (State.setSeen code reason s).mon = s.mon ∧
      (State.setSeen code reason s).pm = s.pm ∧ (State.setSeen code reason s).store = s.store ∧
      (State.setSeen code reason s).image = s.image ∧ (State.setSeen code reason s).faults = s.faults ∧
      (State.setSeen code reason s).tally = s.tally := by
  simp [State.setSeen]

@[simp] theorem State.undo_frame (u : Undo) (s : State) :
    (State.undo u s).pending = s.pending ∧ (State.undo u s).now = s.now ∧ (State.undo u s).part = s.part ∧
      (State.undo u s).line = s.line ∧ (State.undo u s).jomen = s.jomen ∧ (State.undo u s).radio = s.radio ∧
      (State.undo u s).rx = s.rx ∧ (State.undo u s).time = s.time ∧ (State.undo u s).sched = s.sched ∧
      (State.undo u s).net = s.net ∧ (State.undo u s).work = s.work ∧ (State.undo u s).roster = s.roster ∧
      (State.undo u s).mon = s.mon ∧ (State.undo u s).pm = s.pm ∧ (State.undo u s).image = s.image ∧
      (State.undo u s).faults = s.faults ∧ (State.undo u s).tally = s.tally := by
  cases u with
  | param obj old => cases old <;> simp [State.undo]
  | mask code old => simp [State.undo]
  | mark old => simp [State.undo]

@[simp] theorem State.freeFlightLane_frame (f : Flight) (s : State) :
    (State.freeFlightLane f s).pending = s.pending ∧ (State.freeFlightLane f s).now = s.now ∧
      (State.freeFlightLane f s).part = s.part ∧ (State.freeFlightLane f s).params = s.params ∧
      (State.freeFlightLane f s).line = s.line ∧ (State.freeFlightLane f s).wake = s.wake ∧
      (State.freeFlightLane f s).jomen = s.jomen ∧ (State.freeFlightLane f s).radio = s.radio ∧
      (State.freeFlightLane f s).time = s.time ∧ (State.freeFlightLane f s).sched = s.sched ∧
      (State.freeFlightLane f s).net = s.net ∧ (State.freeFlightLane f s).work = s.work ∧
      (State.freeFlightLane f s).roster = s.roster ∧ (State.freeFlightLane f s).mon = s.mon ∧
      (State.freeFlightLane f s).pm = s.pm ∧ (State.freeFlightLane f s).store = s.store ∧
      (State.freeFlightLane f s).image = s.image ∧ (State.freeFlightLane f s).faults = s.faults ∧
      (State.freeFlightLane f s).tally = s.tally := by
  unfold State.freeFlightLane; (repeat' split) <;> simp

@[simp] theorem State.freeCell_frame (n : Fin 16) (s : State) :
    (State.freeCell n s).pending = s.pending ∧ (State.freeCell n s).now = s.now ∧
      (State.freeCell n s).part = s.part ∧ (State.freeCell n s).params = s.params ∧
      (State.freeCell n s).line = s.line ∧ (State.freeCell n s).wake = s.wake ∧
      (State.freeCell n s).jomen = s.jomen ∧ (State.freeCell n s).radio = s.radio ∧
      (State.freeCell n s).time = s.time ∧ (State.freeCell n s).sched = s.sched ∧
      (State.freeCell n s).net = s.net ∧ (State.freeCell n s).work = s.work ∧
      (State.freeCell n s).roster = s.roster ∧ (State.freeCell n s).mon = s.mon ∧ (State.freeCell n s).pm = s.pm ∧
      (State.freeCell n s).store = s.store ∧ (State.freeCell n s).image = s.image ∧
      (State.freeCell n s).faults = s.faults ∧ (State.freeCell n s).tally = s.tally := by
  unfold State.freeCell; (repeat' split) <;> simp

@[simp] theorem State.count_frame (b : Block) (name : String) (s : State) :
    (State.count b name s).pending = s.pending ∧ (State.count b name s).now = s.now ∧
      (State.count b name s).part = s.part ∧ (State.count b name s).params = s.params ∧
      (State.count b name s).line = s.line ∧ (State.count b name s).wake = s.wake ∧
      (State.count b name s).jomen = s.jomen ∧ (State.count b name s).radio = s.radio ∧
      (State.count b name s).rx = s.rx ∧ (State.count b name s).time = s.time ∧
      (State.count b name s).sched = s.sched ∧ (State.count b name s).net = s.net ∧
      (State.count b name s).work = s.work ∧ (State.count b name s).roster = s.roster ∧
      (State.count b name s).mon = s.mon ∧ (State.count b name s).pm = s.pm ∧
      (State.count b name s).store = s.store ∧ (State.count b name s).image = s.image ∧
      (State.count b name s).faults = s.faults := by
  simp [State.count]

@[simp] theorem State.cacheLoss_frame (s : State) :
    (State.cacheLoss s).pending = s.pending ∧ (State.cacheLoss s).now = s.now ∧
      (State.cacheLoss s).part = s.part ∧ (State.cacheLoss s).line = s.line ∧
      (State.cacheLoss s).jomen = s.jomen ∧ (State.cacheLoss s).radio = s.radio ∧ (State.cacheLoss s).rx = s.rx ∧
      (State.cacheLoss s).time = s.time ∧ (State.cacheLoss s).sched = s.sched ∧ (State.cacheLoss s).net = s.net ∧
      (State.cacheLoss s).work = s.work ∧ (State.cacheLoss s).roster = s.roster ∧
      (State.cacheLoss s).mon = s.mon ∧ (State.cacheLoss s).pm = s.pm ∧ (State.cacheLoss s).image = s.image ∧
      (State.cacheLoss s).faults = s.faults ∧ (State.cacheLoss s).tally = s.tally := by
  simp [State.cacheLoss]

@[simp] theorem State.freeCells_frame (s : State) :
    (State.freeCells s).pending = s.pending ∧ (State.freeCells s).now = s.now ∧
      (State.freeCells s).part = s.part ∧ (State.freeCells s).params = s.params ∧
      (State.freeCells s).line = s.line ∧ (State.freeCells s).wake = s.wake ∧
      (State.freeCells s).jomen = s.jomen ∧ (State.freeCells s).radio = s.radio ∧
      (State.freeCells s).time = s.time ∧ (State.freeCells s).sched = s.sched ∧ (State.freeCells s).net = s.net ∧
      (State.freeCells s).work = s.work ∧ (State.freeCells s).roster = s.roster ∧
      (State.freeCells s).mon = s.mon ∧ (State.freeCells s).pm = s.pm ∧ (State.freeCells s).store = s.store ∧
      (State.freeCells s).image = s.image ∧ (State.freeCells s).faults = s.faults ∧
      (State.freeCells s).tally = s.tally := by
  simp [State.freeCells]

@[simp] theorem State.takeBreak_frame (s : State) :
    (State.takeBreak s).pending = s.pending ∧ (State.takeBreak s).now = s.now ∧
      (State.takeBreak s).part = s.part ∧ (State.takeBreak s).params = s.params ∧
      (State.takeBreak s).wake = s.wake ∧ (State.takeBreak s).jomen = s.jomen ∧
      (State.takeBreak s).radio = s.radio ∧ (State.takeBreak s).rx = s.rx ∧ (State.takeBreak s).time = s.time ∧
      (State.takeBreak s).sched = s.sched ∧ (State.takeBreak s).net = s.net ∧ (State.takeBreak s).work = s.work ∧
      (State.takeBreak s).roster = s.roster ∧ (State.takeBreak s).mon = s.mon ∧
      (State.takeBreak s).store = s.store ∧ (State.takeBreak s).image = s.image ∧
      (State.takeBreak s).faults = s.faults := by
  simp [State.takeBreak]

@[simp] theorem State.sendFaultCount_frame (h : Handle) (s : State) :
    (State.sendFaultCount h s).pending = s.pending ∧ (State.sendFaultCount h s).now = s.now ∧
      (State.sendFaultCount h s).part = s.part ∧ (State.sendFaultCount h s).params = s.params ∧
      (State.sendFaultCount h s).line = s.line ∧ (State.sendFaultCount h s).wake = s.wake ∧
      (State.sendFaultCount h s).jomen = s.jomen ∧ (State.sendFaultCount h s).radio = s.radio ∧
      (State.sendFaultCount h s).rx = s.rx ∧ (State.sendFaultCount h s).time = s.time ∧
      (State.sendFaultCount h s).sched = s.sched ∧ (State.sendFaultCount h s).net = s.net ∧
      (State.sendFaultCount h s).work = s.work ∧ (State.sendFaultCount h s).roster = s.roster ∧
      (State.sendFaultCount h s).mon = s.mon ∧ (State.sendFaultCount h s).pm = s.pm ∧
      (State.sendFaultCount h s).store = s.store ∧ (State.sendFaultCount h s).image = s.image ∧
      (State.sendFaultCount h s).faults = s.faults := by
  unfold State.sendFaultCount; (repeat' split) <;> simp

@[simp] theorem State.resetBursts_frame (s : State) :
    (State.resetBursts s).pending = s.pending ∧ (State.resetBursts s).now = s.now ∧
      (State.resetBursts s).part = s.part ∧ (State.resetBursts s).params = s.params ∧
      (State.resetBursts s).line = s.line ∧ (State.resetBursts s).wake = s.wake ∧
      (State.resetBursts s).radio = s.radio ∧ (State.resetBursts s).rx = s.rx ∧
      (State.resetBursts s).time = s.time ∧ (State.resetBursts s).sched = s.sched ∧
      (State.resetBursts s).net = s.net ∧ (State.resetBursts s).work = s.work ∧
      (State.resetBursts s).roster = s.roster ∧ (State.resetBursts s).mon = s.mon ∧
      (State.resetBursts s).pm = s.pm ∧ (State.resetBursts s).store = s.store ∧
      (State.resetBursts s).image = s.image ∧ (State.resetBursts s).faults = s.faults := by
  simp [State.resetBursts]

@[simp] theorem State.roundLose_frame (n : ℕ) (s : State) :
    (State.roundLose n s).pending = s.pending ∧ (State.roundLose n s).now = s.now ∧
      (State.roundLose n s).part = s.part ∧ (State.roundLose n s).params = s.params ∧
      (State.roundLose n s).line = s.line ∧ (State.roundLose n s).wake = s.wake ∧
      (State.roundLose n s).jomen = s.jomen ∧ (State.roundLose n s).radio = s.radio ∧
      (State.roundLose n s).rx = s.rx ∧ (State.roundLose n s).time = s.time ∧
      (State.roundLose n s).sched = s.sched ∧ (State.roundLose n s).net = s.net ∧
      (State.roundLose n s).roster = s.roster ∧ (State.roundLose n s).mon = s.mon ∧
      (State.roundLose n s).pm = s.pm ∧ (State.roundLose n s).store = s.store ∧
      (State.roundLose n s).image = s.image ∧ (State.roundLose n s).faults = s.faults := by
  simp [State.roundLose]

@[simp] theorem State.releaseAll_frame (p : Holder → Bool) (s : State) :
    (State.releaseAll p s).pending = s.pending ∧ (State.releaseAll p s).now = s.now ∧
      (State.releaseAll p s).part = s.part ∧ (State.releaseAll p s).params = s.params ∧
      (State.releaseAll p s).line = s.line ∧ (State.releaseAll p s).wake = s.wake ∧
      (State.releaseAll p s).jomen = s.jomen ∧ (State.releaseAll p s).radio = s.radio ∧
      (State.releaseAll p s).time = s.time ∧ (State.releaseAll p s).sched = s.sched ∧
      (State.releaseAll p s).net = s.net ∧ (State.releaseAll p s).work = s.work ∧
      (State.releaseAll p s).roster = s.roster ∧ (State.releaseAll p s).mon = s.mon ∧
      (State.releaseAll p s).pm = s.pm ∧ (State.releaseAll p s).store = s.store ∧
      (State.releaseAll p s).image = s.image ∧ (State.releaseAll p s).faults = s.faults ∧
      (State.releaseAll p s).tally = s.tally := by
  simp [State.releaseAll]

@[simp] theorem State.wakeEvent_frame (s : State) :
    (State.wakeEvent s).pending = s.pending ∧ (State.wakeEvent s).now = s.now ∧
      (State.wakeEvent s).part = s.part ∧ (State.wakeEvent s).params = s.params ∧
      (State.wakeEvent s).line = s.line ∧ (State.wakeEvent s).wake = s.wake ∧
      (State.wakeEvent s).jomen = s.jomen ∧ (State.wakeEvent s).radio = s.radio ∧ (State.wakeEvent s).rx = s.rx ∧
      (State.wakeEvent s).time = s.time ∧ (State.wakeEvent s).sched = s.sched ∧ (State.wakeEvent s).net = s.net ∧
      (State.wakeEvent s).work = s.work ∧ (State.wakeEvent s).roster = s.roster ∧
      (State.wakeEvent s).mon = s.mon ∧ (State.wakeEvent s).store = s.store ∧
      (State.wakeEvent s).image = s.image ∧ (State.wakeEvent s).faults = s.faults ∧
      (State.wakeEvent s).tally = s.tally := by
  unfold State.wakeEvent; (repeat' split) <;> simp

@[simp] theorem State.losePayloads_frame (b : Block) (name : String) (s : State) :
    (State.losePayloads b name s).pending = s.pending ∧ (State.losePayloads b name s).now = s.now ∧
      (State.losePayloads b name s).part = s.part ∧ (State.losePayloads b name s).params = s.params ∧
      (State.losePayloads b name s).line = s.line ∧ (State.losePayloads b name s).wake = s.wake ∧
      (State.losePayloads b name s).jomen = s.jomen ∧ (State.losePayloads b name s).radio = s.radio ∧
      (State.losePayloads b name s).time = s.time ∧ (State.losePayloads b name s).sched = s.sched ∧
      (State.losePayloads b name s).net = s.net ∧ (State.losePayloads b name s).work = s.work ∧
      (State.losePayloads b name s).roster = s.roster ∧ (State.losePayloads b name s).mon = s.mon ∧
      (State.losePayloads b name s).pm = s.pm ∧ (State.losePayloads b name s).store = s.store ∧
      (State.losePayloads b name s).image = s.image ∧ (State.losePayloads b name s).faults = s.faults := by
  simp [State.losePayloads]

@[simp] theorem State.toLastChance_frame (id : ℕ) (s : State) :
    (State.toLastChance id s).pending = s.pending ∧ (State.toLastChance id s).now = s.now ∧
      (State.toLastChance id s).part = s.part ∧ (State.toLastChance id s).params = s.params ∧
      (State.toLastChance id s).line = s.line ∧ (State.toLastChance id s).wake = s.wake ∧
      (State.toLastChance id s).jomen = s.jomen ∧ (State.toLastChance id s).radio = s.radio ∧
      (State.toLastChance id s).rx = s.rx ∧ (State.toLastChance id s).time = s.time ∧
      (State.toLastChance id s).sched = s.sched ∧ (State.toLastChance id s).net = s.net ∧
      (State.toLastChance id s).roster = s.roster ∧ (State.toLastChance id s).mon = s.mon ∧
      (State.toLastChance id s).pm = s.pm ∧ (State.toLastChance id s).store = s.store ∧
      (State.toLastChance id s).image = s.image ∧ (State.toLastChance id s).faults = s.faults := by
  unfold State.toLastChance; (repeat' split) <;> simp

@[simp] theorem State.takeIndex_frame (s : State) :
    (State.takeIndex s).2.pending = s.pending ∧ (State.takeIndex s).2.now = s.now ∧
      (State.takeIndex s).2.part = s.part ∧ (State.takeIndex s).2.params = s.params ∧
      (State.takeIndex s).2.line = s.line ∧ (State.takeIndex s).2.radio = s.radio ∧
      (State.takeIndex s).2.rx = s.rx ∧ (State.takeIndex s).2.time = s.time ∧
      (State.takeIndex s).2.sched = s.sched ∧ (State.takeIndex s).2.net = s.net ∧
      (State.takeIndex s).2.work = s.work ∧ (State.takeIndex s).2.mon = s.mon ∧ (State.takeIndex s).2.pm = s.pm ∧
      (State.takeIndex s).2.store = s.store ∧ (State.takeIndex s).2.image = s.image ∧
      (State.takeIndex s).2.faults = s.faults ∧ (State.takeIndex s).2.tally = s.tally := by
  unfold State.takeIndex; (repeat' split) <;> simp

theorem State.takeIndex_eq {s : State} {r_ : _} (h_ : (State.takeIndex s) = r_) :
    r_.2.pending = s.pending ∧ r_.2.now = s.now ∧ r_.2.part = s.part ∧ r_.2.params = s.params ∧
      r_.2.line = s.line ∧ r_.2.radio = s.radio ∧ r_.2.rx = s.rx ∧ r_.2.time = s.time ∧ r_.2.sched = s.sched ∧
      r_.2.net = s.net ∧ r_.2.work = s.work ∧ r_.2.mon = s.mon ∧ r_.2.pm = s.pm ∧ r_.2.store = s.store ∧
      r_.2.image = s.image ∧ r_.2.faults = s.faults ∧ r_.2.tally = s.tally := by
  subst h_; exact State.takeIndex_frame s

@[simp] theorem State.setStep_frame (sd : Side) (n : ℕ) (s : State) :
    (State.setStep sd n s).pending = s.pending ∧ (State.setStep sd n s).now = s.now ∧
      (State.setStep sd n s).part = s.part ∧ (State.setStep sd n s).params = s.params ∧
      (State.setStep sd n s).line = s.line ∧ (State.setStep sd n s).wake = s.wake ∧
      (State.setStep sd n s).jomen = s.jomen ∧ (State.setStep sd n s).radio = s.radio ∧
      (State.setStep sd n s).time = s.time ∧ (State.setStep sd n s).sched = s.sched ∧
      (State.setStep sd n s).net = s.net ∧ (State.setStep sd n s).work = s.work ∧
      (State.setStep sd n s).roster = s.roster ∧ (State.setStep sd n s).mon = s.mon ∧
      (State.setStep sd n s).pm = s.pm ∧ (State.setStep sd n s).store = s.store ∧
      (State.setStep sd n s).image = s.image ∧ (State.setStep sd n s).faults = s.faults ∧
      (State.setStep sd n s).tally = s.tally := by
  simp [State.setStep]

@[simp] theorem State.nextBeacon_frame (s : State) :
    (State.nextBeacon s).2.pending = s.pending ∧ (State.nextBeacon s).2.now = s.now ∧
      (State.nextBeacon s).2.part = s.part ∧ (State.nextBeacon s).2.params = s.params ∧
      (State.nextBeacon s).2.line = s.line ∧ (State.nextBeacon s).2.wake = s.wake ∧
      (State.nextBeacon s).2.jomen = s.jomen ∧ (State.nextBeacon s).2.radio = s.radio ∧
      (State.nextBeacon s).2.rx = s.rx ∧ (State.nextBeacon s).2.time = s.time ∧
      (State.nextBeacon s).2.sched = s.sched ∧ (State.nextBeacon s).2.work = s.work ∧
      (State.nextBeacon s).2.roster = s.roster ∧ (State.nextBeacon s).2.mon = s.mon ∧
      (State.nextBeacon s).2.pm = s.pm ∧ (State.nextBeacon s).2.store = s.store ∧
      (State.nextBeacon s).2.image = s.image ∧ (State.nextBeacon s).2.faults = s.faults := by
  simp [State.nextBeacon]

theorem State.nextBeacon_eq {s : State} {r_ : _} (h_ : (State.nextBeacon s) = r_) :
    r_.2.pending = s.pending ∧ r_.2.now = s.now ∧ r_.2.part = s.part ∧ r_.2.params = s.params ∧
      r_.2.line = s.line ∧ r_.2.wake = s.wake ∧ r_.2.jomen = s.jomen ∧ r_.2.radio = s.radio ∧ r_.2.rx = s.rx ∧
      r_.2.time = s.time ∧ r_.2.sched = s.sched ∧ r_.2.work = s.work ∧ r_.2.roster = s.roster ∧ r_.2.mon = s.mon ∧
      r_.2.pm = s.pm ∧ r_.2.store = s.store ∧ r_.2.image = s.image ∧ r_.2.faults = s.faults := by
  subst h_; exact State.nextBeacon_frame s

@[simp] theorem State.countInvalid_frame (n : Fin 16) (from_ : Ticks) (until_ : Ticks) (s : State) :
    (State.countInvalid n from_ until_ s).pending = s.pending ∧
      (State.countInvalid n from_ until_ s).now = s.now ∧ (State.countInvalid n from_ until_ s).part = s.part ∧
      (State.countInvalid n from_ until_ s).params = s.params ∧
      (State.countInvalid n from_ until_ s).line = s.line ∧ (State.countInvalid n from_ until_ s).wake = s.wake ∧
      (State.countInvalid n from_ until_ s).jomen = s.jomen ∧
      (State.countInvalid n from_ until_ s).radio = s.radio ∧
      (State.countInvalid n from_ until_ s).time = s.time ∧
      (State.countInvalid n from_ until_ s).sched = s.sched ∧ (State.countInvalid n from_ until_ s).net = s.net ∧
      (State.countInvalid n from_ until_ s).work = s.work ∧
      (State.countInvalid n from_ until_ s).roster = s.roster ∧
      (State.countInvalid n from_ until_ s).mon = s.mon ∧ (State.countInvalid n from_ until_ s).pm = s.pm ∧
      (State.countInvalid n from_ until_ s).store = s.store ∧
      (State.countInvalid n from_ until_ s).image = s.image ∧
      (State.countInvalid n from_ until_ s).faults = s.faults := by
  simp [State.countInvalid]

@[simp] theorem State.strike_frame (id : ResId) (s : State) :
    (State.strike id s).pending = s.pending ∧ (State.strike id s).now = s.now ∧
      (State.strike id s).part = s.part ∧ (State.strike id s).params = s.params ∧
      (State.strike id s).line = s.line ∧ (State.strike id s).wake = s.wake ∧
      (State.strike id s).jomen = s.jomen ∧ (State.strike id s).radio = s.radio ∧ (State.strike id s).rx = s.rx ∧
      (State.strike id s).time = s.time ∧ (State.strike id s).sched = s.sched ∧ (State.strike id s).net = s.net ∧
      (State.strike id s).work = s.work ∧ (State.strike id s).roster = s.roster ∧
      (State.strike id s).mon = s.mon ∧ (State.strike id s).pm = s.pm ∧ (State.strike id s).store = s.store ∧
      (State.strike id s).image = s.image := by
  simp [State.strike]

@[simp] theorem State.calibrated_frame (temp : ℤ) (s : State) :
    (State.calibrated temp s).pending = s.pending ∧ (State.calibrated temp s).now = s.now ∧
      (State.calibrated temp s).part = s.part ∧ (State.calibrated temp s).params = s.params ∧
      (State.calibrated temp s).line = s.line ∧ (State.calibrated temp s).wake = s.wake ∧
      (State.calibrated temp s).jomen = s.jomen ∧ (State.calibrated temp s).time = s.time ∧
      (State.calibrated temp s).sched = s.sched ∧ (State.calibrated temp s).net = s.net ∧
      (State.calibrated temp s).work = s.work ∧ (State.calibrated temp s).roster = s.roster ∧
      (State.calibrated temp s).mon = s.mon ∧ (State.calibrated temp s).pm = s.pm ∧
      (State.calibrated temp s).store = s.store ∧ (State.calibrated temp s).image = s.image ∧
      (State.calibrated temp s).faults = s.faults ∧ (State.calibrated temp s).tally = s.tally := by
  simp [State.calibrated]

@[simp] theorem State.seenBack_frame (what : Option Sending) (s : State) :
    (State.seenBack what s).pending = s.pending ∧ (State.seenBack what s).now = s.now ∧
      (State.seenBack what s).part = s.part ∧ (State.seenBack what s).params = s.params ∧
      (State.seenBack what s).line = s.line ∧ (State.seenBack what s).jomen = s.jomen ∧
      (State.seenBack what s).radio = s.radio ∧ (State.seenBack what s).rx = s.rx ∧
      (State.seenBack what s).time = s.time ∧ (State.seenBack what s).sched = s.sched ∧
      (State.seenBack what s).net = s.net ∧ (State.seenBack what s).work = s.work ∧
      (State.seenBack what s).roster = s.roster ∧ (State.seenBack what s).mon = s.mon ∧
      (State.seenBack what s).pm = s.pm ∧ (State.seenBack what s).store = s.store ∧
      (State.seenBack what s).image = s.image ∧ (State.seenBack what s).faults = s.faults ∧
      (State.seenBack what s).tally = s.tally := by
  unfold State.seenBack; (repeat' split) <;> simp

@[simp] theorem State.dropCapture_frame (s : State) :
    (State.dropCapture s).pending = s.pending ∧ (State.dropCapture s).now = s.now ∧
      (State.dropCapture s).part = s.part ∧ (State.dropCapture s).params = s.params ∧
      (State.dropCapture s).line = s.line ∧ (State.dropCapture s).wake = s.wake ∧
      (State.dropCapture s).jomen = s.jomen ∧ (State.dropCapture s).radio = s.radio ∧
      (State.dropCapture s).time = s.time ∧ (State.dropCapture s).sched = s.sched ∧
      (State.dropCapture s).net = s.net ∧ (State.dropCapture s).work = s.work ∧
      (State.dropCapture s).roster = s.roster ∧ (State.dropCapture s).mon = s.mon ∧
      (State.dropCapture s).pm = s.pm ∧ (State.dropCapture s).store = s.store ∧
      (State.dropCapture s).image = s.image ∧ (State.dropCapture s).faults = s.faults ∧
      (State.dropCapture s).tally = s.tally := by
  unfold State.dropCapture; (repeat' split) <;> simp

@[simp] theorem State.spillCrc_frame (id : Eui) (s : State) :
    (State.spillCrc id s).pending = s.pending ∧ (State.spillCrc id s).now = s.now ∧
      (State.spillCrc id s).part = s.part ∧ (State.spillCrc id s).params = s.params ∧
      (State.spillCrc id s).line = s.line ∧ (State.spillCrc id s).wake = s.wake ∧
      (State.spillCrc id s).jomen = s.jomen ∧ (State.spillCrc id s).radio = s.radio ∧
      (State.spillCrc id s).rx = s.rx ∧ (State.spillCrc id s).time = s.time ∧
      (State.spillCrc id s).sched = s.sched ∧ (State.spillCrc id s).net = s.net ∧
      (State.spillCrc id s).work = s.work ∧ (State.spillCrc id s).roster = s.roster ∧
      (State.spillCrc id s).mon = s.mon ∧ (State.spillCrc id s).pm = s.pm ∧
      (State.spillCrc id s).store = s.store ∧ (State.spillCrc id s).image = s.image ∧
      (State.spillCrc id s).faults = s.faults := by
  unfold State.spillCrc; (repeat' split) <;> simp

@[simp] theorem State.wmConvert_frame (n : Fin 8) (code : ℕ) (excited : Bool) (s : State) :
    (State.wmConvert n code excited s).pending = s.pending ∧ (State.wmConvert n code excited s).now = s.now ∧
      (State.wmConvert n code excited s).part = s.part ∧ (State.wmConvert n code excited s).params = s.params ∧
      (State.wmConvert n code excited s).line = s.line ∧ (State.wmConvert n code excited s).wake = s.wake ∧
      (State.wmConvert n code excited s).jomen = s.jomen ∧ (State.wmConvert n code excited s).radio = s.radio ∧
      (State.wmConvert n code excited s).rx = s.rx ∧ (State.wmConvert n code excited s).time = s.time ∧
      (State.wmConvert n code excited s).sched = s.sched ∧ (State.wmConvert n code excited s).net = s.net ∧
      (State.wmConvert n code excited s).work = s.work ∧ (State.wmConvert n code excited s).roster = s.roster ∧
      (State.wmConvert n code excited s).pm = s.pm ∧ (State.wmConvert n code excited s).store = s.store ∧
      (State.wmConvert n code excited s).image = s.image ∧
      (State.wmConvert n code excited s).faults = s.faults := by
  simp [State.wmConvert]

@[simp] theorem State.buildHops_frame (mask : ℕ) (s : State) :
    (State.buildHops mask s).pending = s.pending ∧ (State.buildHops mask s).now = s.now ∧
      (State.buildHops mask s).part = s.part ∧ (State.buildHops mask s).params = s.params ∧
      (State.buildHops mask s).line = s.line ∧ (State.buildHops mask s).wake = s.wake ∧
      (State.buildHops mask s).jomen = s.jomen ∧ (State.buildHops mask s).radio = s.radio ∧
      (State.buildHops mask s).rx = s.rx ∧ (State.buildHops mask s).time = s.time ∧
      (State.buildHops mask s).net = s.net ∧ (State.buildHops mask s).work = s.work ∧
      (State.buildHops mask s).roster = s.roster ∧ (State.buildHops mask s).mon = s.mon ∧
      (State.buildHops mask s).pm = s.pm ∧ (State.buildHops mask s).store = s.store ∧
      (State.buildHops mask s).image = s.image ∧ (State.buildHops mask s).faults = s.faults ∧
      (State.buildHops mask s).tally = s.tally := by
  simp [State.buildHops]

@[simp] theorem State.stored_frame (s : State) :
    (State.stored s).pending = s.pending ∧ (State.stored s).now = s.now ∧ (State.stored s).part = s.part := by
  simp [State.stored]

@[simp] theorem State.resolve_frame (l : List Placed) (s : State) :
    (State.resolve l s).2.pending = s.pending ∧ (State.resolve l s).2.now = s.now ∧
      (State.resolve l s).2.part = s.part ∧ (State.resolve l s).2.params = s.params ∧
      (State.resolve l s).2.line = s.line ∧ (State.resolve l s).2.wake = s.wake ∧
      (State.resolve l s).2.jomen = s.jomen ∧ (State.resolve l s).2.radio = s.radio ∧
      (State.resolve l s).2.rx = s.rx ∧ (State.resolve l s).2.time = s.time ∧
      (State.resolve l s).2.sched = s.sched ∧ (State.resolve l s).2.net = s.net ∧
      (State.resolve l s).2.work = s.work ∧ (State.resolve l s).2.roster = s.roster ∧
      (State.resolve l s).2.mon = s.mon ∧ (State.resolve l s).2.pm = s.pm ∧
      (State.resolve l s).2.store = s.store ∧ (State.resolve l s).2.image = s.image ∧
      (State.resolve l s).2.faults = s.faults := by
  simp [State.resolve]

theorem State.resolve_eq {l : List Placed} {s : State} {r_ : _} (h_ : (State.resolve l s) = r_) :
    r_.2.pending = s.pending ∧ r_.2.now = s.now ∧ r_.2.part = s.part ∧ r_.2.params = s.params ∧
      r_.2.line = s.line ∧ r_.2.wake = s.wake ∧ r_.2.jomen = s.jomen ∧ r_.2.radio = s.radio ∧ r_.2.rx = s.rx ∧
      r_.2.time = s.time ∧ r_.2.sched = s.sched ∧ r_.2.net = s.net ∧ r_.2.work = s.work ∧ r_.2.roster = s.roster ∧
      r_.2.mon = s.mon ∧ r_.2.pm = s.pm ∧ r_.2.store = s.store ∧ r_.2.image = s.image ∧
      r_.2.faults = s.faults := by
  subst h_; exact State.resolve_frame l s

@[simp] theorem State.planFlood_frame (f : Flood) (s : State) :
    (State.planFlood f s).pending = s.pending ∧ (State.planFlood f s).now = s.now ∧
      (State.planFlood f s).part = s.part ∧ (State.planFlood f s).params = s.params ∧
      (State.planFlood f s).line = s.line ∧ (State.planFlood f s).wake = s.wake ∧
      (State.planFlood f s).jomen = s.jomen ∧ (State.planFlood f s).radio = s.radio ∧
      (State.planFlood f s).rx = s.rx ∧ (State.planFlood f s).time = s.time ∧
      (State.planFlood f s).sched = s.sched ∧ (State.planFlood f s).net = s.net ∧
      (State.planFlood f s).work = s.work ∧ (State.planFlood f s).mon = s.mon ∧ (State.planFlood f s).pm = s.pm ∧
      (State.planFlood f s).store = s.store ∧ (State.planFlood f s).image = s.image ∧
      (State.planFlood f s).faults = s.faults ∧ (State.planFlood f s).tally = s.tally := by
  simp [State.planFlood]

@[simp] theorem State.takenSlot_frame (s : State) :
    (State.takenSlot s).pending = s.pending ∧ (State.takenSlot s).now = s.now ∧
      (State.takenSlot s).part = s.part ∧ (State.takenSlot s).params = s.params ∧
      (State.takenSlot s).line = s.line ∧ (State.takenSlot s).wake = s.wake ∧
      (State.takenSlot s).jomen = s.jomen ∧ (State.takenSlot s).rx = s.rx ∧ (State.takenSlot s).time = s.time ∧
      (State.takenSlot s).net = s.net ∧ (State.takenSlot s).work = s.work ∧
      (State.takenSlot s).roster = s.roster ∧ (State.takenSlot s).mon = s.mon ∧ (State.takenSlot s).pm = s.pm ∧
      (State.takenSlot s).store = s.store ∧ (State.takenSlot s).image = s.image ∧
      (State.takenSlot s).faults = s.faults := by
  simp [State.takenSlot]

@[simp] theorem State.newFlight_frame (f : Flight) (s : State) :
    (State.newFlight f s).2.pending = s.pending ∧ (State.newFlight f s).2.now = s.now ∧
      (State.newFlight f s).2.part = s.part ∧ (State.newFlight f s).2.params = s.params ∧
      (State.newFlight f s).2.line = s.line ∧ (State.newFlight f s).2.wake = s.wake ∧
      (State.newFlight f s).2.jomen = s.jomen ∧ (State.newFlight f s).2.radio = s.radio ∧
      (State.newFlight f s).2.rx = s.rx ∧ (State.newFlight f s).2.time = s.time ∧
      (State.newFlight f s).2.sched = s.sched ∧ (State.newFlight f s).2.net = s.net ∧
      (State.newFlight f s).2.roster = s.roster ∧ (State.newFlight f s).2.mon = s.mon ∧
      (State.newFlight f s).2.pm = s.pm ∧ (State.newFlight f s).2.store = s.store ∧
      (State.newFlight f s).2.image = s.image ∧ (State.newFlight f s).2.faults = s.faults := by
  simp [State.newFlight]

theorem State.newFlight_eq {f : Flight} {s : State} {r_ : _} (h_ : (State.newFlight f s) = r_) :
    r_.2.pending = s.pending ∧ r_.2.now = s.now ∧ r_.2.part = s.part ∧ r_.2.params = s.params ∧
      r_.2.line = s.line ∧ r_.2.wake = s.wake ∧ r_.2.jomen = s.jomen ∧ r_.2.radio = s.radio ∧ r_.2.rx = s.rx ∧
      r_.2.time = s.time ∧ r_.2.sched = s.sched ∧ r_.2.net = s.net ∧ r_.2.roster = s.roster ∧ r_.2.mon = s.mon ∧
      r_.2.pm = s.pm ∧ r_.2.store = s.store ∧ r_.2.image = s.image ∧ r_.2.faults = s.faults := by
  subst h_; exact State.newFlight_frame f s

@[simp] theorem State.nextTx_frame (i : ℕ) (s : State) :
    (State.nextTx i s).2.pending = s.pending ∧ (State.nextTx i s).2.now = s.now ∧
      (State.nextTx i s).2.part = s.part ∧ (State.nextTx i s).2.params = s.params ∧
      (State.nextTx i s).2.line = s.line ∧ (State.nextTx i s).2.wake = s.wake ∧
      (State.nextTx i s).2.jomen = s.jomen ∧ (State.nextTx i s).2.radio = s.radio ∧
      (State.nextTx i s).2.rx = s.rx ∧ (State.nextTx i s).2.time = s.time ∧ (State.nextTx i s).2.sched = s.sched ∧
      (State.nextTx i s).2.net = s.net ∧ (State.nextTx i s).2.work = s.work ∧ (State.nextTx i s).2.mon = s.mon ∧
      (State.nextTx i s).2.pm = s.pm ∧ (State.nextTx i s).2.store = s.store ∧
      (State.nextTx i s).2.image = s.image ∧ (State.nextTx i s).2.faults = s.faults := by
  unfold State.nextTx; (repeat' split) <;> simp

theorem State.nextTx_eq {i : ℕ} {s : State} {r_ : _} (h_ : (State.nextTx i s) = r_) :
    r_.2.pending = s.pending ∧ r_.2.now = s.now ∧ r_.2.part = s.part ∧ r_.2.params = s.params ∧
      r_.2.line = s.line ∧ r_.2.wake = s.wake ∧ r_.2.jomen = s.jomen ∧ r_.2.radio = s.radio ∧ r_.2.rx = s.rx ∧
      r_.2.time = s.time ∧ r_.2.sched = s.sched ∧ r_.2.net = s.net ∧ r_.2.work = s.work ∧ r_.2.mon = s.mon ∧
      r_.2.pm = s.pm ∧ r_.2.store = s.store ∧ r_.2.image = s.image ∧ r_.2.faults = s.faults := by
  subst h_; exact State.nextTx_frame i s

@[simp] theorem State.bufDrop_frame (s : State) :
    (State.bufDrop s).pending = s.pending ∧ (State.bufDrop s).now = s.now ∧ (State.bufDrop s).part = s.part ∧
      (State.bufDrop s).params = s.params ∧ (State.bufDrop s).line = s.line ∧ (State.bufDrop s).wake = s.wake ∧
      (State.bufDrop s).jomen = s.jomen ∧ (State.bufDrop s).radio = s.radio ∧ (State.bufDrop s).rx = s.rx ∧
      (State.bufDrop s).time = s.time ∧ (State.bufDrop s).sched = s.sched ∧ (State.bufDrop s).net = s.net ∧
      (State.bufDrop s).roster = s.roster ∧ (State.bufDrop s).mon = s.mon ∧ (State.bufDrop s).pm = s.pm ∧
      (State.bufDrop s).store = s.store ∧ (State.bufDrop s).image = s.image ∧
      (State.bufDrop s).faults = s.faults := by
  simp [State.bufDrop]

@[simp] theorem State.lineEdge_frame (s : State) :
    (State.lineEdge s).pending = s.pending ∧ (State.lineEdge s).now = s.now ∧ (State.lineEdge s).part = s.part ∧
      (State.lineEdge s).params = s.params ∧ (State.lineEdge s).wake = s.wake ∧
      (State.lineEdge s).jomen = s.jomen ∧ (State.lineEdge s).radio = s.radio ∧ (State.lineEdge s).rx = s.rx ∧
      (State.lineEdge s).time = s.time ∧ (State.lineEdge s).sched = s.sched ∧ (State.lineEdge s).net = s.net ∧
      (State.lineEdge s).work = s.work ∧ (State.lineEdge s).roster = s.roster ∧ (State.lineEdge s).mon = s.mon ∧
      (State.lineEdge s).store = s.store ∧ (State.lineEdge s).image = s.image ∧
      (State.lineEdge s).faults = s.faults ∧ (State.lineEdge s).tally = s.tally := by
  simp [State.lineEdge]

@[simp] theorem State.seenPut_frame (f : Frame) (s : State) :
    (State.seenPut f s).pending = s.pending ∧ (State.seenPut f s).now = s.now ∧
      (State.seenPut f s).part = s.part ∧ (State.seenPut f s).params = s.params ∧
      (State.seenPut f s).line = s.line ∧ (State.seenPut f s).wake = s.wake ∧
      (State.seenPut f s).jomen = s.jomen ∧ (State.seenPut f s).radio = s.radio ∧ (State.seenPut f s).rx = s.rx ∧
      (State.seenPut f s).time = s.time ∧ (State.seenPut f s).sched = s.sched ∧ (State.seenPut f s).net = s.net ∧
      (State.seenPut f s).work = s.work ∧ (State.seenPut f s).mon = s.mon ∧ (State.seenPut f s).pm = s.pm ∧
      (State.seenPut f s).store = s.store ∧ (State.seenPut f s).image = s.image ∧
      (State.seenPut f s).faults = s.faults := by
  simp [State.seenPut]

@[simp] theorem State.dirPut_frame (id : Eui) (digest : BitVec 64) (seq : ℕ) (s : State) :
    (State.dirPut id digest seq s).pending = s.pending ∧ (State.dirPut id digest seq s).now = s.now ∧
      (State.dirPut id digest seq s).part = s.part ∧ (State.dirPut id digest seq s).params = s.params ∧
      (State.dirPut id digest seq s).line = s.line ∧ (State.dirPut id digest seq s).wake = s.wake ∧
      (State.dirPut id digest seq s).jomen = s.jomen ∧ (State.dirPut id digest seq s).radio = s.radio ∧
      (State.dirPut id digest seq s).rx = s.rx ∧ (State.dirPut id digest seq s).time = s.time ∧
      (State.dirPut id digest seq s).sched = s.sched ∧ (State.dirPut id digest seq s).net = s.net ∧
      (State.dirPut id digest seq s).work = s.work ∧ (State.dirPut id digest seq s).roster = s.roster ∧
      (State.dirPut id digest seq s).mon = s.mon ∧ (State.dirPut id digest seq s).pm = s.pm ∧
      (State.dirPut id digest seq s).image = s.image ∧ (State.dirPut id digest seq s).faults = s.faults := by
  simp [State.dirPut]

@[simp] theorem State.authFailed_frame (s : State) :
    (State.authFailed s).pending = s.pending ∧ (State.authFailed s).now = s.now ∧
      (State.authFailed s).part = s.part ∧ (State.authFailed s).params = s.params ∧
      (State.authFailed s).wake = s.wake ∧ (State.authFailed s).jomen = s.jomen ∧
      (State.authFailed s).radio = s.radio ∧ (State.authFailed s).rx = s.rx ∧ (State.authFailed s).time = s.time ∧
      (State.authFailed s).sched = s.sched ∧ (State.authFailed s).net = s.net ∧
      (State.authFailed s).work = s.work ∧ (State.authFailed s).roster = s.roster ∧
      (State.authFailed s).mon = s.mon ∧ (State.authFailed s).pm = s.pm ∧ (State.authFailed s).store = s.store ∧
      (State.authFailed s).image = s.image ∧ (State.authFailed s).faults = s.faults := by
  simp [State.authFailed]

@[simp] theorem State.openImage_frame (h : Hdr) (r : ImageRef) (len : ℕ) (s : State) :
    (State.openImage h r len s).pending = s.pending ∧ (State.openImage h r len s).now = s.now ∧
      (State.openImage h r len s).part = s.part ∧ (State.openImage h r len s).params = s.params ∧
      (State.openImage h r len s).line = s.line ∧ (State.openImage h r len s).wake = s.wake ∧
      (State.openImage h r len s).jomen = s.jomen ∧ (State.openImage h r len s).radio = s.radio ∧
      (State.openImage h r len s).rx = s.rx ∧ (State.openImage h r len s).time = s.time ∧
      (State.openImage h r len s).sched = s.sched ∧ (State.openImage h r len s).net = s.net ∧
      (State.openImage h r len s).work = s.work ∧ (State.openImage h r len s).roster = s.roster ∧
      (State.openImage h r len s).mon = s.mon ∧ (State.openImage h r len s).pm = s.pm ∧
      (State.openImage h r len s).faults = s.faults ∧ (State.openImage h r len s).tally = s.tally := by
  simp [State.openImage]

@[simp] theorem State.scheduleBurst_frame (code : ℕ) (reason : ℕ) (p : BurstFor) (s : State) :
    (State.scheduleBurst code reason p s).pending = s.pending ∧
      (State.scheduleBurst code reason p s).now = s.now ∧ (State.scheduleBurst code reason p s).part = s.part ∧
      (State.scheduleBurst code reason p s).params = s.params ∧
      (State.scheduleBurst code reason p s).line = s.line ∧ (State.scheduleBurst code reason p s).wake = s.wake ∧
      (State.scheduleBurst code reason p s).radio = s.radio ∧ (State.scheduleBurst code reason p s).rx = s.rx ∧
      (State.scheduleBurst code reason p s).time = s.time ∧
      (State.scheduleBurst code reason p s).sched = s.sched ∧ (State.scheduleBurst code reason p s).net = s.net ∧
      (State.scheduleBurst code reason p s).work = s.work ∧
      (State.scheduleBurst code reason p s).roster = s.roster ∧
      (State.scheduleBurst code reason p s).mon = s.mon ∧ (State.scheduleBurst code reason p s).pm = s.pm ∧
      (State.scheduleBurst code reason p s).store = s.store ∧
      (State.scheduleBurst code reason p s).image = s.image ∧
      (State.scheduleBurst code reason p s).faults = s.faults ∧
      (State.scheduleBurst code reason p s).tally = s.tally := by
  simp [State.scheduleBurst]

@[simp] theorem State.hostDeaf_frame (s : State) :
    (State.hostDeaf s).pending = s.pending ∧ (State.hostDeaf s).now = s.now ∧ (State.hostDeaf s).part = s.part ∧
      (State.hostDeaf s).params = s.params ∧ (State.hostDeaf s).wake = s.wake ∧
      (State.hostDeaf s).jomen = s.jomen ∧ (State.hostDeaf s).radio = s.radio ∧ (State.hostDeaf s).rx = s.rx ∧
      (State.hostDeaf s).time = s.time ∧ (State.hostDeaf s).sched = s.sched ∧ (State.hostDeaf s).net = s.net ∧
      (State.hostDeaf s).work = s.work ∧ (State.hostDeaf s).roster = s.roster ∧ (State.hostDeaf s).mon = s.mon ∧
      (State.hostDeaf s).pm = s.pm ∧ (State.hostDeaf s).store = s.store ∧ (State.hostDeaf s).image = s.image ∧
      (State.hostDeaf s).faults = s.faults ∧ (State.hostDeaf s).tally = s.tally := by
  simp [State.hostDeaf]

@[simp] theorem State.settle_frame (sd : Side) (s : State) :
    (State.settle sd s).pending = s.pending ∧ (State.settle sd s).now = s.now ∧
      (State.settle sd s).part = s.part ∧ (State.settle sd s).params = s.params ∧
      (State.settle sd s).line = s.line ∧ (State.settle sd s).jomen = s.jomen ∧
      (State.settle sd s).radio = s.radio ∧ (State.settle sd s).rx = s.rx ∧ (State.settle sd s).time = s.time ∧
      (State.settle sd s).sched = s.sched ∧ (State.settle sd s).net = s.net ∧ (State.settle sd s).work = s.work ∧
      (State.settle sd s).roster = s.roster ∧ (State.settle sd s).mon = s.mon ∧ (State.settle sd s).pm = s.pm ∧
      (State.settle sd s).store = s.store ∧ (State.settle sd s).image = s.image ∧
      (State.settle sd s).faults = s.faults ∧ (State.settle sd s).tally = s.tally := by
  simp [State.settle]

@[simp] theorem State.openLine_frame (s : State) :
    (State.openLine s).pending = s.pending ∧ (State.openLine s).now = s.now ∧ (State.openLine s).part = s.part ∧
      (State.openLine s).params = s.params ∧ (State.openLine s).wake = s.wake ∧
      (State.openLine s).jomen = s.jomen ∧ (State.openLine s).radio = s.radio ∧ (State.openLine s).rx = s.rx ∧
      (State.openLine s).time = s.time ∧ (State.openLine s).sched = s.sched ∧ (State.openLine s).net = s.net ∧
      (State.openLine s).work = s.work ∧ (State.openLine s).roster = s.roster ∧ (State.openLine s).mon = s.mon ∧
      (State.openLine s).pm = s.pm ∧ (State.openLine s).store = s.store ∧ (State.openLine s).image = s.image ∧
      (State.openLine s).faults = s.faults ∧ (State.openLine s).tally = s.tally := by
  simp [State.openLine]

@[simp] theorem State.resetWork_frame (s : State) :
    (State.resetWork s).pending = s.pending ∧ (State.resetWork s).now = s.now ∧
      (State.resetWork s).part = s.part ∧ (State.resetWork s).params = s.params ∧
      (State.resetWork s).line = s.line ∧ (State.resetWork s).jomen = s.jomen ∧
      (State.resetWork s).radio = s.radio ∧ (State.resetWork s).rx = s.rx ∧ (State.resetWork s).time = s.time ∧
      (State.resetWork s).sched = s.sched ∧ (State.resetWork s).roster = s.roster ∧
      (State.resetWork s).mon = s.mon ∧ (State.resetWork s).pm = s.pm ∧ (State.resetWork s).store = s.store ∧
      (State.resetWork s).image = s.image ∧ (State.resetWork s).faults = s.faults ∧
      (State.resetWork s).tally = s.tally := by
  simp [State.resetWork]

@[simp] theorem State.coexOverride_frame (s : State) :
    (State.coexOverride s).pending = s.pending ∧ (State.coexOverride s).now = s.now ∧
      (State.coexOverride s).part = s.part ∧ (State.coexOverride s).params = s.params ∧
      (State.coexOverride s).line = s.line ∧ (State.coexOverride s).wake = s.wake ∧
      (State.coexOverride s).jomen = s.jomen ∧ (State.coexOverride s).rx = s.rx ∧
      (State.coexOverride s).time = s.time ∧ (State.coexOverride s).sched = s.sched ∧
      (State.coexOverride s).net = s.net ∧ (State.coexOverride s).work = s.work ∧
      (State.coexOverride s).roster = s.roster ∧ (State.coexOverride s).mon = s.mon ∧
      (State.coexOverride s).pm = s.pm ∧ (State.coexOverride s).store = s.store ∧
      (State.coexOverride s).image = s.image ∧ (State.coexOverride s).faults = s.faults ∧
      (State.coexOverride s).tally = s.tally := by
  unfold State.coexOverride; (repeat' split) <;> simp

@[simp] theorem State.reacqBurst_frame (i : ℕ) (s : State) :
    (State.reacqBurst i s).pending = s.pending ∧ (State.reacqBurst i s).now = s.now ∧
      (State.reacqBurst i s).part = s.part ∧ (State.reacqBurst i s).params = s.params ∧
      (State.reacqBurst i s).line = s.line ∧ (State.reacqBurst i s).wake = s.wake ∧
      (State.reacqBurst i s).radio = s.radio ∧ (State.reacqBurst i s).rx = s.rx ∧
      (State.reacqBurst i s).time = s.time ∧ (State.reacqBurst i s).sched = s.sched ∧
      (State.reacqBurst i s).work = s.work ∧ (State.reacqBurst i s).roster = s.roster ∧
      (State.reacqBurst i s).mon = s.mon ∧ (State.reacqBurst i s).pm = s.pm ∧
      (State.reacqBurst i s).store = s.store ∧ (State.reacqBurst i s).image = s.image ∧
      (State.reacqBurst i s).faults = s.faults ∧ (State.reacqBurst i s).tally = s.tally := by
  unfold State.reacqBurst; dsimp only; (repeat' split) <;> simp

@[simp] theorem State.spoilSpan_frame (n : Fin 16) (a : Bool) (b : Bool) (from_ : Ticks) (until_ : Ticks)
    (s : State) :
    (State.spoilSpan n a b from_ until_ s).pending = s.pending ∧
      (State.spoilSpan n a b from_ until_ s).now = s.now ∧ (State.spoilSpan n a b from_ until_ s).part = s.part ∧
      (State.spoilSpan n a b from_ until_ s).params = s.params ∧
      (State.spoilSpan n a b from_ until_ s).line = s.line ∧
      (State.spoilSpan n a b from_ until_ s).wake = s.wake ∧
      (State.spoilSpan n a b from_ until_ s).jomen = s.jomen ∧
      (State.spoilSpan n a b from_ until_ s).radio = s.radio ∧
      (State.spoilSpan n a b from_ until_ s).time = s.time ∧
      (State.spoilSpan n a b from_ until_ s).sched = s.sched ∧
      (State.spoilSpan n a b from_ until_ s).net = s.net ∧ (State.spoilSpan n a b from_ until_ s).work = s.work ∧
      (State.spoilSpan n a b from_ until_ s).roster = s.roster ∧
      (State.spoilSpan n a b from_ until_ s).mon = s.mon ∧ (State.spoilSpan n a b from_ until_ s).pm = s.pm ∧
      (State.spoilSpan n a b from_ until_ s).store = s.store ∧
      (State.spoilSpan n a b from_ until_ s).image = s.image ∧
      (State.spoilSpan n a b from_ until_ s).faults = s.faults := by
  simp [State.spoilSpan]

@[simp] theorem State.programmed_frame (aud : Bool) (n : ℕ) (s : State) :
    (State.programmed aud n s).pending = s.pending ∧ (State.programmed aud n s).now = s.now ∧
      (State.programmed aud n s).part = s.part ∧ (State.programmed aud n s).params = s.params ∧
      (State.programmed aud n s).line = s.line ∧ (State.programmed aud n s).wake = s.wake ∧
      (State.programmed aud n s).jomen = s.jomen ∧ (State.programmed aud n s).radio = s.radio ∧
      (State.programmed aud n s).rx = s.rx ∧ (State.programmed aud n s).time = s.time ∧
      (State.programmed aud n s).sched = s.sched ∧ (State.programmed aud n s).net = s.net ∧
      (State.programmed aud n s).work = s.work ∧ (State.programmed aud n s).roster = s.roster ∧
      (State.programmed aud n s).mon = s.mon ∧ (State.programmed aud n s).pm = s.pm ∧
      (State.programmed aud n s).image = s.image ∧ (State.programmed aud n s).faults = s.faults := by
  simp [State.programmed]

@[simp] theorem State.claimRequest_frame (c : Claim) (s : State) :
    (State.claimRequest c s).pending = s.pending ∧ (State.claimRequest c s).now = s.now ∧
      (State.claimRequest c s).part = s.part ∧ (State.claimRequest c s).params = s.params ∧
      (State.claimRequest c s).line = s.line ∧ (State.claimRequest c s).wake = s.wake ∧
      (State.claimRequest c s).jomen = s.jomen ∧ (State.claimRequest c s).rx = s.rx ∧
      (State.claimRequest c s).time = s.time ∧ (State.claimRequest c s).sched = s.sched ∧
      (State.claimRequest c s).net = s.net ∧ (State.claimRequest c s).work = s.work ∧
      (State.claimRequest c s).roster = s.roster ∧ (State.claimRequest c s).mon = s.mon ∧
      (State.claimRequest c s).pm = s.pm ∧ (State.claimRequest c s).store = s.store ∧
      (State.claimRequest c s).image = s.image ∧ (State.claimRequest c s).faults = s.faults ∧
      (State.claimRequest c s).tally = s.tally := by
  simp [State.claimRequest]

@[simp] theorem State.admitFlight_frame (i : ℕ) (s : State) :
    (State.admitFlight i s).pending = s.pending ∧ (State.admitFlight i s).now = s.now ∧
      (State.admitFlight i s).part = s.part ∧ (State.admitFlight i s).params = s.params ∧
      (State.admitFlight i s).line = s.line ∧ (State.admitFlight i s).wake = s.wake ∧
      (State.admitFlight i s).jomen = s.jomen ∧ (State.admitFlight i s).radio = s.radio ∧
      (State.admitFlight i s).rx = s.rx ∧ (State.admitFlight i s).time = s.time ∧
      (State.admitFlight i s).sched = s.sched ∧ (State.admitFlight i s).net = s.net ∧
      (State.admitFlight i s).mon = s.mon ∧ (State.admitFlight i s).pm = s.pm ∧
      (State.admitFlight i s).store = s.store ∧ (State.admitFlight i s).image = s.image ∧
      (State.admitFlight i s).faults = s.faults := by
  unfold State.admitFlight
  (repeat' split) <;> (try dsimp only) <;> (repeat' split) <;> first
    | (simp; done)
    | (have h := State.newFlight_eq (by assumption); simp_all; done)
    | (have h := State.newFlight_eq (by assumption); simp at h ⊢; (repeat' split) <;> simp [h]; done)

@[simp] theorem State.admitWaiting_frame (s : State) :
    (State.admitWaiting s).pending = s.pending ∧ (State.admitWaiting s).now = s.now ∧
      (State.admitWaiting s).part = s.part ∧ (State.admitWaiting s).params = s.params ∧
      (State.admitWaiting s).line = s.line ∧ (State.admitWaiting s).wake = s.wake ∧
      (State.admitWaiting s).jomen = s.jomen ∧ (State.admitWaiting s).radio = s.radio ∧
      (State.admitWaiting s).rx = s.rx ∧ (State.admitWaiting s).time = s.time ∧
      (State.admitWaiting s).sched = s.sched ∧ (State.admitWaiting s).net = s.net ∧
      (State.admitWaiting s).roster = s.roster ∧ (State.admitWaiting s).mon = s.mon ∧
      (State.admitWaiting s).pm = s.pm ∧ (State.admitWaiting s).store = s.store ∧
      (State.admitWaiting s).image = s.image ∧ (State.admitWaiting s).faults = s.faults := by
  unfold State.admitWaiting; (repeat' split) <;> simp

@[simp] theorem State.vauxOff_frame (s : State) :
    (State.vauxOff s).pending = s.pending ∧ (State.vauxOff s).now = s.now ∧ (State.vauxOff s).part = s.part ∧
      (State.vauxOff s).params = s.params ∧ (State.vauxOff s).wake = s.wake ∧ (State.vauxOff s).jomen = s.jomen ∧
      (State.vauxOff s).radio = s.radio ∧ (State.vauxOff s).rx = s.rx ∧ (State.vauxOff s).time = s.time ∧
      (State.vauxOff s).sched = s.sched ∧ (State.vauxOff s).net = s.net ∧ (State.vauxOff s).work = s.work ∧
      (State.vauxOff s).roster = s.roster ∧ (State.vauxOff s).pm = s.pm ∧ (State.vauxOff s).store = s.store ∧
      (State.vauxOff s).image = s.image ∧ (State.vauxOff s).faults = s.faults ∧
      (State.vauxOff s).tally = s.tally := by
  simp [State.vauxOff]

@[simp] theorem State.armBranches_frame (s : State) :
    (State.armBranches s).pending = s.pending ∧ (State.armBranches s).now = s.now ∧
      (State.armBranches s).part = s.part ∧ (State.armBranches s).params = s.params ∧
      (State.armBranches s).line = s.line ∧ (State.armBranches s).jomen = s.jomen ∧
      (State.armBranches s).radio = s.radio ∧ (State.armBranches s).rx = s.rx ∧
      (State.armBranches s).time = s.time ∧ (State.armBranches s).sched = s.sched ∧
      (State.armBranches s).net = s.net ∧ (State.armBranches s).work = s.work ∧
      (State.armBranches s).roster = s.roster ∧ (State.armBranches s).mon = s.mon ∧
      (State.armBranches s).pm = s.pm ∧ (State.armBranches s).store = s.store ∧
      (State.armBranches s).image = s.image ∧ (State.armBranches s).faults = s.faults ∧
      (State.armBranches s).tally = s.tally := by
  simp [State.armBranches]

@[simp] theorem State.programAll_frame (aud : Bool) (s : State) :
    (State.programAll aud s).pending = s.pending ∧ (State.programAll aud s).now = s.now ∧
      (State.programAll aud s).part = s.part ∧ (State.programAll aud s).params = s.params ∧
      (State.programAll aud s).line = s.line ∧ (State.programAll aud s).wake = s.wake ∧
      (State.programAll aud s).jomen = s.jomen ∧ (State.programAll aud s).radio = s.radio ∧
      (State.programAll aud s).rx = s.rx ∧ (State.programAll aud s).time = s.time ∧
      (State.programAll aud s).sched = s.sched ∧ (State.programAll aud s).net = s.net ∧
      (State.programAll aud s).work = s.work ∧ (State.programAll aud s).roster = s.roster ∧
      (State.programAll aud s).mon = s.mon ∧ (State.programAll aud s).pm = s.pm ∧
      (State.programAll aud s).image = s.image ∧ (State.programAll aud s).faults = s.faults := by
  simp [State.programAll]

@[simp] theorem State.windowEnd_frame (s : State) :
    (State.windowEnd s).pending = s.pending ∧ (State.windowEnd s).now = s.now ∧
      (State.windowEnd s).part = s.part ∧ (State.windowEnd s).params = s.params ∧
      (State.windowEnd s).line = s.line ∧ (State.windowEnd s).wake = s.wake ∧
      (State.windowEnd s).jomen = s.jomen ∧ (State.windowEnd s).radio = s.radio ∧ (State.windowEnd s).rx = s.rx ∧
      (State.windowEnd s).time = s.time ∧ (State.windowEnd s).sched = s.sched ∧ (State.windowEnd s).net = s.net ∧
      (State.windowEnd s).work = s.work ∧ (State.windowEnd s).roster = s.roster ∧
      (State.windowEnd s).mon = s.mon ∧ (State.windowEnd s).pm = s.pm ∧ (State.windowEnd s).store = s.store ∧
      (State.windowEnd s).image = s.image ∧ (State.windowEnd s).faults = s.faults := by
  simp [State.windowEnd]

@[simp] theorem State.powerChain_frame (sd : Side) (s : State) :
    (State.powerChain sd s).pending = s.pending ∧ (State.powerChain sd s).now = s.now ∧
      (State.powerChain sd s).part = s.part ∧ (State.powerChain sd s).params = s.params ∧
      (State.powerChain sd s).line = s.line ∧ (State.powerChain sd s).wake = s.wake ∧
      (State.powerChain sd s).jomen = s.jomen ∧ (State.powerChain sd s).radio = s.radio ∧
      (State.powerChain sd s).time = s.time ∧ (State.powerChain sd s).sched = s.sched ∧
      (State.powerChain sd s).net = s.net ∧ (State.powerChain sd s).work = s.work ∧
      (State.powerChain sd s).roster = s.roster ∧ (State.powerChain sd s).mon = s.mon ∧
      (State.powerChain sd s).pm = s.pm ∧ (State.powerChain sd s).store = s.store ∧
      (State.powerChain sd s).image = s.image ∧ (State.powerChain sd s).faults = s.faults ∧
      (State.powerChain sd s).tally = s.tally := by
  simp [State.powerChain]

@[simp] theorem State.valid_frame (s : State) :
    (State.valid s).pending = s.pending ∧ (State.valid s).now = s.now ∧ (State.valid s).part = s.part ∧
      (State.valid s).params = s.params ∧ (State.valid s).line = s.line ∧ (State.valid s).wake = s.wake ∧
      (State.valid s).jomen = s.jomen ∧ (State.valid s).time = s.time ∧ (State.valid s).sched = s.sched ∧
      (State.valid s).net = s.net ∧ (State.valid s).work = s.work ∧ (State.valid s).roster = s.roster ∧
      (State.valid s).mon = s.mon ∧ (State.valid s).pm = s.pm ∧ (State.valid s).store = s.store ∧
      (State.valid s).image = s.image ∧ (State.valid s).faults = s.faults := by
  unfold State.valid; (repeat' split) <;> simp

@[simp] theorem State.vauxTripped_frame (code : ℕ) (s : State) :
    (State.vauxTripped code s).pending = s.pending ∧ (State.vauxTripped code s).now = s.now ∧
      (State.vauxTripped code s).part = s.part ∧ (State.vauxTripped code s).params = s.params ∧
      (State.vauxTripped code s).wake = s.wake ∧ (State.vauxTripped code s).jomen = s.jomen ∧
      (State.vauxTripped code s).radio = s.radio ∧ (State.vauxTripped code s).rx = s.rx ∧
      (State.vauxTripped code s).time = s.time ∧ (State.vauxTripped code s).sched = s.sched ∧
      (State.vauxTripped code s).net = s.net ∧ (State.vauxTripped code s).work = s.work ∧
      (State.vauxTripped code s).roster = s.roster ∧ (State.vauxTripped code s).pm = s.pm ∧
      (State.vauxTripped code s).store = s.store ∧ (State.vauxTripped code s).image = s.image ∧
      (State.vauxTripped code s).faults = s.faults := by
  simp [State.vauxTripped]

@[simp] theorem State.nextTxFor_frame (id : Eui) (s : State) :
    (State.nextTxFor id s).2.pending = s.pending ∧ (State.nextTxFor id s).2.now = s.now ∧
      (State.nextTxFor id s).2.part = s.part ∧ (State.nextTxFor id s).2.params = s.params ∧
      (State.nextTxFor id s).2.line = s.line ∧ (State.nextTxFor id s).2.wake = s.wake ∧
      (State.nextTxFor id s).2.jomen = s.jomen ∧ (State.nextTxFor id s).2.radio = s.radio ∧
      (State.nextTxFor id s).2.rx = s.rx ∧ (State.nextTxFor id s).2.time = s.time ∧
      (State.nextTxFor id s).2.sched = s.sched ∧ (State.nextTxFor id s).2.net = s.net ∧
      (State.nextTxFor id s).2.work = s.work ∧ (State.nextTxFor id s).2.mon = s.mon ∧
      (State.nextTxFor id s).2.pm = s.pm ∧ (State.nextTxFor id s).2.store = s.store ∧
      (State.nextTxFor id s).2.image = s.image ∧ (State.nextTxFor id s).2.faults = s.faults := by
  unfold State.nextTxFor; (repeat' split) <;> simp

theorem State.nextTxFor_eq {id : Eui} {s : State} {r_ : _} (h_ : (State.nextTxFor id s) = r_) :
    r_.2.pending = s.pending ∧ r_.2.now = s.now ∧ r_.2.part = s.part ∧ r_.2.params = s.params ∧
      r_.2.line = s.line ∧ r_.2.wake = s.wake ∧ r_.2.jomen = s.jomen ∧ r_.2.radio = s.radio ∧ r_.2.rx = s.rx ∧
      r_.2.time = s.time ∧ r_.2.sched = s.sched ∧ r_.2.net = s.net ∧ r_.2.work = s.work ∧ r_.2.mon = s.mon ∧
      r_.2.pm = s.pm ∧ r_.2.store = s.store ∧ r_.2.image = s.image ∧ r_.2.faults = s.faults := by
  subst h_; exact State.nextTxFor_frame id s

@[simp] theorem State.chainsOn_frame (s : State) :
    (State.chainsOn s).pending = s.pending ∧ (State.chainsOn s).now = s.now ∧ (State.chainsOn s).part = s.part ∧
      (State.chainsOn s).params = s.params ∧ (State.chainsOn s).line = s.line ∧ (State.chainsOn s).wake = s.wake ∧
      (State.chainsOn s).jomen = s.jomen ∧ (State.chainsOn s).radio = s.radio ∧ (State.chainsOn s).time = s.time ∧
      (State.chainsOn s).sched = s.sched ∧ (State.chainsOn s).net = s.net ∧ (State.chainsOn s).work = s.work ∧
      (State.chainsOn s).roster = s.roster ∧ (State.chainsOn s).mon = s.mon ∧ (State.chainsOn s).pm = s.pm ∧
      (State.chainsOn s).store = s.store ∧ (State.chainsOn s).image = s.image ∧
      (State.chainsOn s).faults = s.faults ∧ (State.chainsOn s).tally = s.tally := by
  simp [State.chainsOn]

@[simp] theorem State.wmChanged_frame (n : Fin 8) (s : State) (before : State) :
    (State.wmChanged n s before).pending = s.pending ∧ (State.wmChanged n s before).now = s.now ∧
      (State.wmChanged n s before).part = s.part ∧ (State.wmChanged n s before).params = s.params ∧
      (State.wmChanged n s before).line = s.line ∧ (State.wmChanged n s before).wake = s.wake ∧
      (State.wmChanged n s before).jomen = s.jomen ∧ (State.wmChanged n s before).radio = s.radio ∧
      (State.wmChanged n s before).rx = s.rx ∧ (State.wmChanged n s before).time = s.time ∧
      (State.wmChanged n s before).sched = s.sched ∧ (State.wmChanged n s before).net = s.net ∧
      (State.wmChanged n s before).work = s.work ∧ (State.wmChanged n s before).roster = s.roster ∧
      (State.wmChanged n s before).pm = s.pm ∧ (State.wmChanged n s before).store = s.store ∧
      (State.wmChanged n s before).image = s.image ∧ (State.wmChanged n s before).faults = s.faults ∧
      (State.wmChanged n s before).tally = s.tally := by
  simp [State.wmChanged]

@[simp] theorem State.spoilForced_frame (sd : Side) (n : Fin 16) (s : State) :
    (State.spoilForced sd n s).pending = s.pending ∧ (State.spoilForced sd n s).now = s.now ∧
      (State.spoilForced sd n s).part = s.part ∧ (State.spoilForced sd n s).params = s.params ∧
      (State.spoilForced sd n s).line = s.line ∧ (State.spoilForced sd n s).wake = s.wake ∧
      (State.spoilForced sd n s).jomen = s.jomen ∧ (State.spoilForced sd n s).radio = s.radio ∧
      (State.spoilForced sd n s).time = s.time ∧ (State.spoilForced sd n s).sched = s.sched ∧
      (State.spoilForced sd n s).net = s.net ∧ (State.spoilForced sd n s).work = s.work ∧
      (State.spoilForced sd n s).roster = s.roster ∧ (State.spoilForced sd n s).mon = s.mon ∧
      (State.spoilForced sd n s).pm = s.pm ∧ (State.spoilForced sd n s).store = s.store ∧
      (State.spoilForced sd n s).image = s.image ∧ (State.spoilForced sd n s).faults = s.faults := by
  simp [State.spoilForced]

@[simp] theorem State.warmService_frame (cause : WarmCause) (s : State) :
    (State.warmService cause s).pending = s.pending ∧ (State.warmService cause s).now = s.now ∧
      (State.warmService cause s).part = s.part ∧ (State.warmService cause s).params = s.params ∧
      (State.warmService cause s).wake = s.wake ∧ (State.warmService cause s).jomen = s.jomen ∧
      (State.warmService cause s).radio = s.radio ∧ (State.warmService cause s).rx = s.rx ∧
      (State.warmService cause s).work = s.work ∧ (State.warmService cause s).mon = s.mon ∧
      (State.warmService cause s).store = s.store ∧ (State.warmService cause s).image = s.image ∧
      (State.warmService cause s).faults = s.faults := by
  simp [State.warmService]

@[simp] theorem State.flushCache_frame (s : State) :
    (State.flushCache s).pending = s.pending ∧ (State.flushCache s).now = s.now ∧
      (State.flushCache s).part = s.part ∧ (State.flushCache s).params = s.params ∧
      (State.flushCache s).line = s.line ∧ (State.flushCache s).wake = s.wake ∧
      (State.flushCache s).jomen = s.jomen ∧ (State.flushCache s).radio = s.radio ∧
      (State.flushCache s).rx = s.rx ∧ (State.flushCache s).time = s.time ∧ (State.flushCache s).sched = s.sched ∧
      (State.flushCache s).net = s.net ∧ (State.flushCache s).work = s.work ∧
      (State.flushCache s).roster = s.roster ∧ (State.flushCache s).mon = s.mon ∧ (State.flushCache s).pm = s.pm ∧
      (State.flushCache s).image = s.image ∧ (State.flushCache s).faults = s.faults := by
  simp [State.flushCache]

@[simp] theorem State.spoil_frame (n : Fin 16) (a : Bool) (b : Bool) (until_ : Ticks) (s : State) :
    (State.spoil n a b until_ s).pending = s.pending ∧ (State.spoil n a b until_ s).now = s.now ∧
      (State.spoil n a b until_ s).part = s.part ∧ (State.spoil n a b until_ s).params = s.params ∧
      (State.spoil n a b until_ s).line = s.line ∧ (State.spoil n a b until_ s).wake = s.wake ∧
      (State.spoil n a b until_ s).jomen = s.jomen ∧ (State.spoil n a b until_ s).radio = s.radio ∧
      (State.spoil n a b until_ s).time = s.time ∧ (State.spoil n a b until_ s).sched = s.sched ∧
      (State.spoil n a b until_ s).net = s.net ∧ (State.spoil n a b until_ s).work = s.work ∧
      (State.spoil n a b until_ s).roster = s.roster ∧ (State.spoil n a b until_ s).mon = s.mon ∧
      (State.spoil n a b until_ s).pm = s.pm ∧ (State.spoil n a b until_ s).store = s.store ∧
      (State.spoil n a b until_ s).image = s.image ∧ (State.spoil n a b until_ s).faults = s.faults := by
  simp [State.spoil]

@[simp] theorem State.trackBranch_frame (sd : Side) (s : State) :
    (State.trackBranch sd s).pending = s.pending ∧ (State.trackBranch sd s).now = s.now ∧
      (State.trackBranch sd s).part = s.part ∧ (State.trackBranch sd s).params = s.params ∧
      (State.trackBranch sd s).line = s.line ∧ (State.trackBranch sd s).jomen = s.jomen ∧
      (State.trackBranch sd s).radio = s.radio ∧ (State.trackBranch sd s).rx = s.rx ∧
      (State.trackBranch sd s).time = s.time ∧ (State.trackBranch sd s).sched = s.sched ∧
      (State.trackBranch sd s).net = s.net ∧ (State.trackBranch sd s).work = s.work ∧
      (State.trackBranch sd s).roster = s.roster ∧ (State.trackBranch sd s).mon = s.mon ∧
      (State.trackBranch sd s).pm = s.pm ∧ (State.trackBranch sd s).store = s.store ∧
      (State.trackBranch sd s).image = s.image ∧ (State.trackBranch sd s).faults = s.faults ∧
      (State.trackBranch sd s).tally = s.tally := by
  simp [State.trackBranch]

@[simp] theorem State.roundResume_frame (s : State) :
    (State.roundResume s).pending = s.pending ∧ (State.roundResume s).now = s.now ∧
      (State.roundResume s).part = s.part ∧ (State.roundResume s).params = s.params ∧
      (State.roundResume s).line = s.line ∧ (State.roundResume s).wake = s.wake ∧
      (State.roundResume s).jomen = s.jomen ∧ (State.roundResume s).radio = s.radio ∧
      (State.roundResume s).rx = s.rx ∧ (State.roundResume s).time = s.time ∧
      (State.roundResume s).sched = s.sched ∧ (State.roundResume s).net = s.net ∧
      (State.roundResume s).roster = s.roster ∧ (State.roundResume s).mon = s.mon ∧
      (State.roundResume s).pm = s.pm ∧ (State.roundResume s).store = s.store ∧
      (State.roundResume s).image = s.image ∧ (State.roundResume s).faults = s.faults := by
  unfold State.roundResume; (repeat' split) <;> simp

@[simp] theorem State.writeParam_frame (obj : ℕ) (v : PVal) (src : ℕ) (time : Stamp) (s : State) :
    (State.writeParam obj v src time s).pending = s.pending ∧ (State.writeParam obj v src time s).now = s.now ∧
      (State.writeParam obj v src time s).part = s.part ∧ (State.writeParam obj v src time s).line = s.line ∧
      (State.writeParam obj v src time s).wake = s.wake ∧ (State.writeParam obj v src time s).jomen = s.jomen ∧
      (State.writeParam obj v src time s).radio = s.radio ∧ (State.writeParam obj v src time s).rx = s.rx ∧
      (State.writeParam obj v src time s).time = s.time ∧ (State.writeParam obj v src time s).sched = s.sched ∧
      (State.writeParam obj v src time s).net = s.net ∧ (State.writeParam obj v src time s).work = s.work ∧
      (State.writeParam obj v src time s).roster = s.roster ∧ (State.writeParam obj v src time s).mon = s.mon ∧
      (State.writeParam obj v src time s).pm = s.pm ∧ (State.writeParam obj v src time s).store = s.store ∧
      (State.writeParam obj v src time s).image = s.image ∧
      (State.writeParam obj v src time s).faults = s.faults ∧
      (State.writeParam obj v src time s).tally = s.tally := by
  simp [State.writeParam]

@[simp] theorem State.slotChains_frame (s : State) :
    (State.slotChains s).pending = s.pending ∧ (State.slotChains s).now = s.now ∧
      (State.slotChains s).part = s.part ∧ (State.slotChains s).params = s.params ∧
      (State.slotChains s).line = s.line ∧ (State.slotChains s).wake = s.wake ∧
      (State.slotChains s).jomen = s.jomen ∧ (State.slotChains s).radio = s.radio ∧
      (State.slotChains s).time = s.time ∧ (State.slotChains s).sched = s.sched ∧
      (State.slotChains s).net = s.net ∧ (State.slotChains s).work = s.work ∧
      (State.slotChains s).roster = s.roster ∧ (State.slotChains s).mon = s.mon ∧ (State.slotChains s).pm = s.pm ∧
      (State.slotChains s).store = s.store ∧ (State.slotChains s).image = s.image ∧
      (State.slotChains s).faults = s.faults := by
  simp [State.slotChains]

@[simp] theorem State.contactAt_frame (i : ℕ) (at_ : Ticks) (t : BitVec 8) (late : Option ℤ) (s : State) :
    (State.contactAt i at_ t late s).pending = s.pending ∧ (State.contactAt i at_ t late s).now = s.now ∧
      (State.contactAt i at_ t late s).part = s.part ∧ (State.contactAt i at_ t late s).params = s.params ∧
      (State.contactAt i at_ t late s).line = s.line ∧ (State.contactAt i at_ t late s).wake = s.wake ∧
      (State.contactAt i at_ t late s).jomen = s.jomen ∧ (State.contactAt i at_ t late s).radio = s.radio ∧
      (State.contactAt i at_ t late s).rx = s.rx ∧ (State.contactAt i at_ t late s).time = s.time ∧
      (State.contactAt i at_ t late s).sched = s.sched ∧ (State.contactAt i at_ t late s).net = s.net ∧
      (State.contactAt i at_ t late s).work = s.work ∧ (State.contactAt i at_ t late s).mon = s.mon ∧
      (State.contactAt i at_ t late s).pm = s.pm ∧ (State.contactAt i at_ t late s).store = s.store ∧
      (State.contactAt i at_ t late s).image = s.image ∧ (State.contactAt i at_ t late s).faults = s.faults ∧
      (State.contactAt i at_ t late s).tally = s.tally := by
  simp [State.contactAt]

@[simp] theorem State.fire_frame (tr : Trigger) (s : State) :
    (State.fire tr s).pending = s.pending ∧ (State.fire tr s).now = s.now ∧ (State.fire tr s).part = s.part ∧
      (State.fire tr s).line = s.line ∧ (State.fire tr s).wake = s.wake ∧ (State.fire tr s).jomen = s.jomen ∧
      (State.fire tr s).radio = s.radio ∧ (State.fire tr s).rx = s.rx ∧ (State.fire tr s).time = s.time ∧
      (State.fire tr s).sched = s.sched ∧ (State.fire tr s).net = s.net ∧ (State.fire tr s).work = s.work ∧
      (State.fire tr s).roster = s.roster ∧ (State.fire tr s).mon = s.mon ∧ (State.fire tr s).pm = s.pm ∧
      (State.fire tr s).store = s.store ∧ (State.fire tr s).image = s.image ∧
      (State.fire tr s).faults = s.faults ∧ (State.fire tr s).tally = s.tally := by
  simp [State.fire]

@[simp] theorem State.placeCell_frame (slot : ℕ) (x : ℕ × Cell) (l : List Placed) (s : State) :
    (State.placeCell slot x l s).2.pending = s.pending ∧ (State.placeCell slot x l s).2.now = s.now ∧
      (State.placeCell slot x l s).2.part = s.part ∧ (State.placeCell slot x l s).2.params = s.params ∧
      (State.placeCell slot x l s).2.line = s.line ∧ (State.placeCell slot x l s).2.wake = s.wake ∧
      (State.placeCell slot x l s).2.jomen = s.jomen ∧ (State.placeCell slot x l s).2.radio = s.radio ∧
      (State.placeCell slot x l s).2.rx = s.rx ∧ (State.placeCell slot x l s).2.time = s.time ∧
      (State.placeCell slot x l s).2.sched = s.sched ∧ (State.placeCell slot x l s).2.net = s.net ∧
      (State.placeCell slot x l s).2.work = s.work ∧ (State.placeCell slot x l s).2.roster = s.roster ∧
      (State.placeCell slot x l s).2.mon = s.mon ∧ (State.placeCell slot x l s).2.pm = s.pm ∧
      (State.placeCell slot x l s).2.store = s.store ∧ (State.placeCell slot x l s).2.image = s.image ∧
      (State.placeCell slot x l s).2.faults = s.faults := by
  unfold State.placeCell; dsimp only; (repeat' split) <;> simp

theorem State.placeCell_eq {slot : ℕ} {x : ℕ × Cell} {l : List Placed} {s : State} {r_ : _} (h_ : (State.placeCell slot x l s) = r_) :
    r_.2.pending = s.pending ∧ r_.2.now = s.now ∧ r_.2.part = s.part ∧ r_.2.params = s.params ∧
      r_.2.line = s.line ∧ r_.2.wake = s.wake ∧ r_.2.jomen = s.jomen ∧ r_.2.radio = s.radio ∧ r_.2.rx = s.rx ∧
      r_.2.time = s.time ∧ r_.2.sched = s.sched ∧ r_.2.net = s.net ∧ r_.2.work = s.work ∧ r_.2.roster = s.roster ∧
      r_.2.mon = s.mon ∧ r_.2.pm = s.pm ∧ r_.2.store = s.store ∧ r_.2.image = s.image ∧
      r_.2.faults = s.faults := by
  subst h_; exact State.placeCell_frame slot x l s

@[simp] theorem State.applyTables_frame (s : State) :
    (State.applyTables s).pending = s.pending ∧ (State.applyTables s).now = s.now ∧
      (State.applyTables s).part = s.part ∧ (State.applyTables s).line = s.line ∧
      (State.applyTables s).wake = s.wake ∧ (State.applyTables s).jomen = s.jomen ∧
      (State.applyTables s).radio = s.radio ∧ (State.applyTables s).rx = s.rx ∧
      (State.applyTables s).time = s.time ∧ (State.applyTables s).net = s.net ∧
      (State.applyTables s).work = s.work ∧ (State.applyTables s).roster = s.roster ∧
      (State.applyTables s).mon = s.mon ∧ (State.applyTables s).pm = s.pm ∧
      (State.applyTables s).store = s.store ∧ (State.applyTables s).image = s.image ∧
      (State.applyTables s).faults = s.faults ∧ (State.applyTables s).tally = s.tally := by
  unfold State.applyTables; (repeat' split) <;> simp

@[simp] theorem State.ledgerAt_frame (time : Stamp) (b : LBody) (s : State) :
    (State.ledgerAt time b s).pending = s.pending ∧ (State.ledgerAt time b s).now = s.now ∧
      (State.ledgerAt time b s).part = s.part ∧ (State.ledgerAt time b s).line = s.line ∧
      (State.ledgerAt time b s).wake = s.wake ∧ (State.ledgerAt time b s).jomen = s.jomen ∧
      (State.ledgerAt time b s).radio = s.radio ∧ (State.ledgerAt time b s).rx = s.rx ∧
      (State.ledgerAt time b s).time = s.time ∧ (State.ledgerAt time b s).sched = s.sched ∧
      (State.ledgerAt time b s).net = s.net ∧ (State.ledgerAt time b s).work = s.work ∧
      (State.ledgerAt time b s).roster = s.roster ∧ (State.ledgerAt time b s).mon = s.mon ∧
      (State.ledgerAt time b s).pm = s.pm ∧ (State.ledgerAt time b s).image = s.image ∧
      (State.ledgerAt time b s).faults = s.faults ∧ (State.ledgerAt time b s).tally = s.tally := by
  simp [State.ledgerAt]

@[simp] theorem State.takeLine_frame (h : Hdr) (s : State) :
    (State.takeLine h s).pending = s.pending ∧ (State.takeLine h s).now = s.now ∧
      (State.takeLine h s).part = s.part ∧ (State.takeLine h s).wake = s.wake ∧
      (State.takeLine h s).jomen = s.jomen ∧ (State.takeLine h s).radio = s.radio ∧
      (State.takeLine h s).rx = s.rx ∧ (State.takeLine h s).time = s.time ∧ (State.takeLine h s).sched = s.sched ∧
      (State.takeLine h s).net = s.net ∧ (State.takeLine h s).work = s.work ∧
      (State.takeLine h s).roster = s.roster ∧ (State.takeLine h s).mon = s.mon ∧
      (State.takeLine h s).store = s.store ∧ (State.takeLine h s).image = s.image ∧
      (State.takeLine h s).faults = s.faults := by
  simp [State.takeLine]

@[simp] theorem State.placeCells_frame (slot : ℕ) (s : State) :
    (State.placeCells slot s).2.pending = s.pending ∧ (State.placeCells slot s).2.now = s.now ∧
      (State.placeCells slot s).2.part = s.part ∧ (State.placeCells slot s).2.params = s.params ∧
      (State.placeCells slot s).2.line = s.line ∧ (State.placeCells slot s).2.wake = s.wake ∧
      (State.placeCells slot s).2.jomen = s.jomen ∧ (State.placeCells slot s).2.radio = s.radio ∧
      (State.placeCells slot s).2.rx = s.rx ∧ (State.placeCells slot s).2.time = s.time ∧
      (State.placeCells slot s).2.sched = s.sched ∧ (State.placeCells slot s).2.net = s.net ∧
      (State.placeCells slot s).2.work = s.work ∧ (State.placeCells slot s).2.roster = s.roster ∧
      (State.placeCells slot s).2.mon = s.mon ∧ (State.placeCells slot s).2.pm = s.pm ∧
      (State.placeCells slot s).2.store = s.store ∧ (State.placeCells slot s).2.image = s.image ∧
      (State.placeCells slot s).2.faults = s.faults := by
  simp [State.placeCells]

theorem State.placeCells_eq {slot : ℕ} {s : State} {r_ : _} (h_ : (State.placeCells slot s) = r_) :
    r_.2.pending = s.pending ∧ r_.2.now = s.now ∧ r_.2.part = s.part ∧ r_.2.params = s.params ∧
      r_.2.line = s.line ∧ r_.2.wake = s.wake ∧ r_.2.jomen = s.jomen ∧ r_.2.radio = s.radio ∧ r_.2.rx = s.rx ∧
      r_.2.time = s.time ∧ r_.2.sched = s.sched ∧ r_.2.net = s.net ∧ r_.2.work = s.work ∧ r_.2.roster = s.roster ∧
      r_.2.mon = s.mon ∧ r_.2.pm = s.pm ∧ r_.2.store = s.store ∧ r_.2.image = s.image ∧
      r_.2.faults = s.faults := by
  subst h_; exact State.placeCells_frame slot s

@[simp] theorem State.slotTaken_frame (s : State) :
    (State.slotTaken s).pending = s.pending ∧ (State.slotTaken s).now = s.now ∧
      (State.slotTaken s).part = s.part ∧ (State.slotTaken s).params = s.params ∧
      (State.slotTaken s).line = s.line ∧ (State.slotTaken s).wake = s.wake ∧
      (State.slotTaken s).jomen = s.jomen ∧ (State.slotTaken s).radio = s.radio ∧ (State.slotTaken s).rx = s.rx ∧
      (State.slotTaken s).sched = s.sched ∧ (State.slotTaken s).net = s.net ∧ (State.slotTaken s).work = s.work ∧
      (State.slotTaken s).roster = s.roster ∧ (State.slotTaken s).mon = s.mon ∧ (State.slotTaken s).pm = s.pm ∧
      (State.slotTaken s).store = s.store ∧ (State.slotTaken s).image = s.image ∧
      (State.slotTaken s).faults = s.faults ∧ (State.slotTaken s).tally = s.tally := by
  simp [State.slotTaken]

@[simp] theorem State.wakeLedger_frame (l : List WakeRec) (s : State) :
    (State.wakeLedger l s).pending = s.pending ∧ (State.wakeLedger l s).now = s.now ∧
      (State.wakeLedger l s).part = s.part ∧ (State.wakeLedger l s).line = s.line ∧
      (State.wakeLedger l s).wake = s.wake ∧ (State.wakeLedger l s).jomen = s.jomen ∧
      (State.wakeLedger l s).radio = s.radio ∧ (State.wakeLedger l s).rx = s.rx ∧
      (State.wakeLedger l s).time = s.time ∧ (State.wakeLedger l s).sched = s.sched ∧
      (State.wakeLedger l s).net = s.net ∧ (State.wakeLedger l s).work = s.work ∧
      (State.wakeLedger l s).roster = s.roster ∧ (State.wakeLedger l s).mon = s.mon ∧
      (State.wakeLedger l s).pm = s.pm ∧ (State.wakeLedger l s).image = s.image ∧
      (State.wakeLedger l s).faults = s.faults ∧ (State.wakeLedger l s).tally = s.tally := by
  simp [State.wakeLedger]

@[simp] theorem State.captureTick_frame (s : State) :
    (State.captureTick s).pending = s.pending ∧ (State.captureTick s).now = s.now ∧
      (State.captureTick s).part = s.part ∧ (State.captureTick s).params = s.params ∧
      (State.captureTick s).line = s.line ∧ (State.captureTick s).wake = s.wake ∧
      (State.captureTick s).jomen = s.jomen ∧ (State.captureTick s).radio = s.radio ∧
      (State.captureTick s).time = s.time ∧ (State.captureTick s).sched = s.sched ∧
      (State.captureTick s).net = s.net ∧ (State.captureTick s).work = s.work ∧
      (State.captureTick s).roster = s.roster ∧ (State.captureTick s).mon = s.mon ∧
      (State.captureTick s).pm = s.pm ∧ (State.captureTick s).store = s.store ∧
      (State.captureTick s).image = s.image ∧ (State.captureTick s).faults = s.faults ∧
      (State.captureTick s).tally = s.tally := by
  unfold State.captureTick; (repeat' split) <;> simp

@[simp] theorem State.startRound_frame (q : RoundReq) (s : State) :
    (State.startRound q s).pending = s.pending ∧ (State.startRound q s).now = s.now ∧
      (State.startRound q s).part = s.part ∧ (State.startRound q s).line = s.line ∧
      (State.startRound q s).radio = s.radio ∧ (State.startRound q s).rx = s.rx ∧
      (State.startRound q s).time = s.time ∧ (State.startRound q s).sched = s.sched ∧
      (State.startRound q s).net = s.net ∧ (State.startRound q s).roster = s.roster ∧
      (State.startRound q s).mon = s.mon ∧ (State.startRound q s).pm = s.pm ∧
      (State.startRound q s).store = s.store ∧ (State.startRound q s).image = s.image ∧
      (State.startRound q s).faults = s.faults := by
  simp [State.startRound]

@[simp] theorem State.track_frame (parent : Eui) (offset : ℤ) (s : State) :
    (State.track parent offset s).pending = s.pending ∧ (State.track parent offset s).now = s.now ∧
      (State.track parent offset s).part = s.part ∧ (State.track parent offset s).line = s.line ∧
      (State.track parent offset s).wake = s.wake ∧ (State.track parent offset s).jomen = s.jomen ∧
      (State.track parent offset s).radio = s.radio ∧ (State.track parent offset s).rx = s.rx ∧
      (State.track parent offset s).sched = s.sched ∧ (State.track parent offset s).work = s.work ∧
      (State.track parent offset s).roster = s.roster ∧ (State.track parent offset s).mon = s.mon ∧
      (State.track parent offset s).pm = s.pm ∧ (State.track parent offset s).store = s.store ∧
      (State.track parent offset s).image = s.image ∧ (State.track parent offset s).faults = s.faults ∧
      (State.track parent offset s).tally = s.tally := by
  simp [State.track]

@[simp] theorem State.occEdge_frame (wake : Bool) (s : State) :
    (State.occEdge wake s).pending = s.pending ∧ (State.occEdge wake s).now = s.now ∧
      (State.occEdge wake s).part = s.part ∧ (State.occEdge wake s).params = s.params ∧
      (State.occEdge wake s).line = s.line ∧ (State.occEdge wake s).wake = s.wake ∧
      (State.occEdge wake s).jomen = s.jomen ∧ (State.occEdge wake s).radio = s.radio ∧
      (State.occEdge wake s).rx = s.rx ∧ (State.occEdge wake s).time = s.time ∧
      (State.occEdge wake s).sched = s.sched ∧ (State.occEdge wake s).net = s.net ∧
      (State.occEdge wake s).work = s.work ∧ (State.occEdge wake s).roster = s.roster ∧
      (State.occEdge wake s).mon = s.mon ∧ (State.occEdge wake s).pm = s.pm ∧
      (State.occEdge wake s).store = s.store ∧ (State.occEdge wake s).image = s.image ∧
      (State.occEdge wake s).faults = s.faults := by
  simp [State.occEdge]

@[simp] theorem State.enterLarder_frame (s : State) :
    (State.enterLarder s).pending = s.pending ∧ (State.enterLarder s).now = s.now ∧
      (State.enterLarder s).part = s.part ∧ (State.enterLarder s).line = s.line ∧
      (State.enterLarder s).wake = s.wake ∧ (State.enterLarder s).jomen = s.jomen ∧
      (State.enterLarder s).radio = s.radio ∧ (State.enterLarder s).rx = s.rx ∧
      (State.enterLarder s).time = s.time ∧ (State.enterLarder s).sched = s.sched ∧
      (State.enterLarder s).net = s.net ∧ (State.enterLarder s).work = s.work ∧
      (State.enterLarder s).roster = s.roster ∧ (State.enterLarder s).mon = s.mon ∧
      (State.enterLarder s).store = s.store ∧ (State.enterLarder s).image = s.image ∧
      (State.enterLarder s).faults = s.faults ∧ (State.enterLarder s).tally = s.tally := by
  simp [State.enterLarder]

@[simp] theorem State.newRate_frame (s : State) :
    (State.newRate s).pending = s.pending ∧ (State.newRate s).now = s.now ∧ (State.newRate s).part = s.part ∧
      (State.newRate s).wake = s.wake ∧ (State.newRate s).jomen = s.jomen ∧ (State.newRate s).radio = s.radio ∧
      (State.newRate s).rx = s.rx ∧ (State.newRate s).time = s.time ∧ (State.newRate s).sched = s.sched ∧
      (State.newRate s).net = s.net ∧ (State.newRate s).work = s.work ∧ (State.newRate s).roster = s.roster ∧
      (State.newRate s).mon = s.mon ∧ (State.newRate s).pm = s.pm ∧ (State.newRate s).store = s.store ∧
      (State.newRate s).image = s.image ∧ (State.newRate s).faults = s.faults ∧
      (State.newRate s).tally = s.tally := by
  simp [State.newRate]

@[simp] theorem State.requestRound_frame (code : ℕ) (reason : ℕ) (sweep : Bool) (chOff : ℕ) (byDo : Bool)
    (s : State) :
    (State.requestRound code reason sweep chOff byDo s).2.pending = s.pending ∧
      (State.requestRound code reason sweep chOff byDo s).2.now = s.now ∧
      (State.requestRound code reason sweep chOff byDo s).2.part = s.part ∧
      (State.requestRound code reason sweep chOff byDo s).2.line = s.line ∧
      (State.requestRound code reason sweep chOff byDo s).2.radio = s.radio ∧
      (State.requestRound code reason sweep chOff byDo s).2.rx = s.rx ∧
      (State.requestRound code reason sweep chOff byDo s).2.time = s.time ∧
      (State.requestRound code reason sweep chOff byDo s).2.sched = s.sched ∧
      (State.requestRound code reason sweep chOff byDo s).2.net = s.net ∧
      (State.requestRound code reason sweep chOff byDo s).2.roster = s.roster ∧
      (State.requestRound code reason sweep chOff byDo s).2.mon = s.mon ∧
      (State.requestRound code reason sweep chOff byDo s).2.pm = s.pm ∧
      (State.requestRound code reason sweep chOff byDo s).2.store = s.store ∧
      (State.requestRound code reason sweep chOff byDo s).2.image = s.image ∧
      (State.requestRound code reason sweep chOff byDo s).2.faults = s.faults := by
  simp [State.requestRound]

theorem State.requestRound_eq {code : ℕ} {reason : ℕ} {sweep : Bool} {chOff : ℕ} {byDo : Bool} {s : State} {r_ : _} (h_ : (State.requestRound code reason sweep chOff byDo s) = r_) :
    r_.2.pending = s.pending ∧ r_.2.now = s.now ∧ r_.2.part = s.part ∧ r_.2.line = s.line ∧ r_.2.radio = s.radio ∧
      r_.2.rx = s.rx ∧ r_.2.time = s.time ∧ r_.2.sched = s.sched ∧ r_.2.net = s.net ∧ r_.2.roster = s.roster ∧
      r_.2.mon = s.mon ∧ r_.2.pm = s.pm ∧ r_.2.store = s.store ∧ r_.2.image = s.image ∧
      r_.2.faults = s.faults := by
  subst h_; exact State.requestRound_frame code reason sweep chOff byDo s

@[simp] theorem State.readTemp_frame (temp : ℤ) (s : State) :
    (State.readTemp temp s).pending = s.pending ∧ (State.readTemp temp s).now = s.now ∧
      (State.readTemp temp s).part = s.part ∧ (State.readTemp temp s).line = s.line ∧
      (State.readTemp temp s).wake = s.wake ∧ (State.readTemp temp s).jomen = s.jomen ∧
      (State.readTemp temp s).rx = s.rx ∧ (State.readTemp temp s).sched = s.sched ∧
      (State.readTemp temp s).net = s.net ∧ (State.readTemp temp s).work = s.work ∧
      (State.readTemp temp s).roster = s.roster ∧ (State.readTemp temp s).mon = s.mon ∧
      (State.readTemp temp s).pm = s.pm ∧ (State.readTemp temp s).store = s.store ∧
      (State.readTemp temp s).image = s.image ∧ (State.readTemp temp s).faults = s.faults ∧
      (State.readTemp temp s).tally = s.tally := by
  simp [State.readTemp]

@[simp] theorem State.slotSpan_frame (l : List Placed) (s : State) :
    (State.slotSpan l s).2.pending = s.pending ∧ (State.slotSpan l s).2.now = s.now ∧
      (State.slotSpan l s).2.part = s.part ∧ (State.slotSpan l s).2.params = s.params ∧
      (State.slotSpan l s).2.line = s.line ∧ (State.slotSpan l s).2.wake = s.wake ∧
      (State.slotSpan l s).2.jomen = s.jomen ∧ (State.slotSpan l s).2.radio = s.radio ∧
      (State.slotSpan l s).2.time = s.time ∧ (State.slotSpan l s).2.sched = s.sched ∧
      (State.slotSpan l s).2.net = s.net ∧ (State.slotSpan l s).2.work = s.work ∧
      (State.slotSpan l s).2.roster = s.roster ∧ (State.slotSpan l s).2.mon = s.mon ∧
      (State.slotSpan l s).2.pm = s.pm ∧ (State.slotSpan l s).2.store = s.store ∧
      (State.slotSpan l s).2.image = s.image ∧ (State.slotSpan l s).2.faults = s.faults := by
  simp [State.slotSpan]

theorem State.slotSpan_eq {l : List Placed} {s : State} {r_ : _} (h_ : (State.slotSpan l s) = r_) :
    r_.2.pending = s.pending ∧ r_.2.now = s.now ∧ r_.2.part = s.part ∧ r_.2.params = s.params ∧
      r_.2.line = s.line ∧ r_.2.wake = s.wake ∧ r_.2.jomen = s.jomen ∧ r_.2.radio = s.radio ∧ r_.2.time = s.time ∧
      r_.2.sched = s.sched ∧ r_.2.net = s.net ∧ r_.2.work = s.work ∧ r_.2.roster = s.roster ∧ r_.2.mon = s.mon ∧
      r_.2.pm = s.pm ∧ r_.2.store = s.store ∧ r_.2.image = s.image ∧ r_.2.faults = s.faults := by
  subst h_; exact State.slotSpan_frame l s

@[simp] theorem State.auditOne_frame (o : Origin) (action : ℕ) (object : ℕ) (result : ℕ) (old : AVal) (new : AVal)
    (s : State) :
    (State.auditOne o action object result old new s).pending = s.pending ∧
      (State.auditOne o action object result old new s).now = s.now ∧
      (State.auditOne o action object result old new s).part = s.part ∧
      (State.auditOne o action object result old new s).line = s.line ∧
      (State.auditOne o action object result old new s).wake = s.wake ∧
      (State.auditOne o action object result old new s).jomen = s.jomen ∧
      (State.auditOne o action object result old new s).radio = s.radio ∧
      (State.auditOne o action object result old new s).rx = s.rx ∧
      (State.auditOne o action object result old new s).time = s.time ∧
      (State.auditOne o action object result old new s).sched = s.sched ∧
      (State.auditOne o action object result old new s).net = s.net ∧
      (State.auditOne o action object result old new s).work = s.work ∧
      (State.auditOne o action object result old new s).roster = s.roster ∧
      (State.auditOne o action object result old new s).mon = s.mon ∧
      (State.auditOne o action object result old new s).pm = s.pm ∧
      (State.auditOne o action object result old new s).image = s.image ∧
      (State.auditOne o action object result old new s).faults = s.faults ∧
      (State.auditOne o action object result old new s).tally = s.tally := by
  simp [State.auditOne]

@[simp] theorem State.occPeaks_frame (s : State) :
    (State.occPeaks s).pending = s.pending ∧ (State.occPeaks s).now = s.now ∧ (State.occPeaks s).part = s.part ∧
      (State.occPeaks s).params = s.params ∧ (State.occPeaks s).line = s.line ∧ (State.occPeaks s).wake = s.wake ∧
      (State.occPeaks s).jomen = s.jomen ∧ (State.occPeaks s).radio = s.radio ∧ (State.occPeaks s).rx = s.rx ∧
      (State.occPeaks s).time = s.time ∧ (State.occPeaks s).sched = s.sched ∧ (State.occPeaks s).net = s.net ∧
      (State.occPeaks s).work = s.work ∧ (State.occPeaks s).roster = s.roster ∧ (State.occPeaks s).mon = s.mon ∧
      (State.occPeaks s).pm = s.pm ∧ (State.occPeaks s).store = s.store ∧ (State.occPeaks s).image = s.image ∧
      (State.occPeaks s).faults = s.faults := by
  simp [State.occPeaks]

@[simp] theorem State.sweepDue_frame (cls : ℕ) (s : State) :
    (State.sweepDue cls s).pending = s.pending ∧ (State.sweepDue cls s).now = s.now ∧
      (State.sweepDue cls s).part = s.part ∧ (State.sweepDue cls s).line = s.line ∧
      (State.sweepDue cls s).radio = s.radio ∧ (State.sweepDue cls s).rx = s.rx ∧
      (State.sweepDue cls s).time = s.time ∧ (State.sweepDue cls s).sched = s.sched ∧
      (State.sweepDue cls s).net = s.net ∧ (State.sweepDue cls s).roster = s.roster ∧
      (State.sweepDue cls s).mon = s.mon ∧ (State.sweepDue cls s).pm = s.pm ∧
      (State.sweepDue cls s).store = s.store ∧ (State.sweepDue cls s).image = s.image ∧
      (State.sweepDue cls s).faults = s.faults := by
  unfold State.sweepDue
  (repeat' split) <;> (try dsimp only) <;> (repeat' split) <;> first
    | (simp; done)
    | (have h := State.requestRound_eq (by assumption); simp_all; done)
    | (have h := State.requestRound_eq (by assumption); simp at h ⊢; (repeat' split) <;> simp [h]; done)

@[simp] theorem State.spoilAll_frame (a : Bool) (b : Bool) (from_ : Ticks) (samples : ℕ) (s : State) :
    (State.spoilAll a b from_ samples s).pending = s.pending ∧ (State.spoilAll a b from_ samples s).now = s.now ∧
      (State.spoilAll a b from_ samples s).part = s.part ∧
      (State.spoilAll a b from_ samples s).params = s.params ∧
      (State.spoilAll a b from_ samples s).line = s.line ∧ (State.spoilAll a b from_ samples s).wake = s.wake ∧
      (State.spoilAll a b from_ samples s).jomen = s.jomen ∧
      (State.spoilAll a b from_ samples s).radio = s.radio ∧ (State.spoilAll a b from_ samples s).time = s.time ∧
      (State.spoilAll a b from_ samples s).sched = s.sched ∧ (State.spoilAll a b from_ samples s).net = s.net ∧
      (State.spoilAll a b from_ samples s).work = s.work ∧
      (State.spoilAll a b from_ samples s).roster = s.roster ∧ (State.spoilAll a b from_ samples s).mon = s.mon ∧
      (State.spoilAll a b from_ samples s).pm = s.pm ∧ (State.spoilAll a b from_ samples s).store = s.store ∧
      (State.spoilAll a b from_ samples s).image = s.image ∧
      (State.spoilAll a b from_ samples s).faults = s.faults := by
  simp [State.spoilAll]

@[simp] theorem State.sight_frame (x : RxFrame) (h : Option Handle) (plain : List Byte) (s : State) :
    (State.sight x h plain s).pending = s.pending ∧ (State.sight x h plain s).now = s.now ∧
      (State.sight x h plain s).part = s.part ∧ (State.sight x h plain s).line = s.line ∧
      (State.sight x h plain s).wake = s.wake ∧ (State.sight x h plain s).jomen = s.jomen ∧
      (State.sight x h plain s).radio = s.radio ∧ (State.sight x h plain s).rx = s.rx ∧
      (State.sight x h plain s).time = s.time ∧ (State.sight x h plain s).sched = s.sched ∧
      (State.sight x h plain s).net = s.net ∧ (State.sight x h plain s).work = s.work ∧
      (State.sight x h plain s).roster = s.roster ∧ (State.sight x h plain s).mon = s.mon ∧
      (State.sight x h plain s).pm = s.pm ∧ (State.sight x h plain s).image = s.image ∧
      (State.sight x h plain s).faults = s.faults ∧ (State.sight x h plain s).tally = s.tally := by
  simp [State.sight]

@[simp] theorem State.roundCell_frame (c : Cell) (s : State) :
    (State.roundCell c s).pending = s.pending ∧ (State.roundCell c s).now = s.now ∧
      (State.roundCell c s).part = s.part ∧ (State.roundCell c s).line = s.line ∧
      (State.roundCell c s).radio = s.radio ∧ (State.roundCell c s).rx = s.rx ∧
      (State.roundCell c s).time = s.time ∧ (State.roundCell c s).sched = s.sched ∧
      (State.roundCell c s).net = s.net ∧ (State.roundCell c s).roster = s.roster ∧
      (State.roundCell c s).mon = s.mon ∧ (State.roundCell c s).pm = s.pm ∧
      (State.roundCell c s).store = s.store ∧ (State.roundCell c s).image = s.image ∧
      (State.roundCell c s).faults = s.faults := by
  unfold State.roundCell
  (repeat' split) <;> (try dsimp only) <;> (repeat' split) <;> first
    | (simp; done)
    | (have h := State.requestRound_eq (by assumption); simp_all; done)
    | (have h := State.requestRound_eq (by assumption); simp at h ⊢; (repeat' split) <;> simp [h]; done)

@[simp] theorem State.nextRound_frame (s : State) :
    (State.nextRound s).pending = s.pending ∧ (State.nextRound s).now = s.now ∧
      (State.nextRound s).part = s.part ∧ (State.nextRound s).line = s.line ∧
      (State.nextRound s).radio = s.radio ∧ (State.nextRound s).rx = s.rx ∧ (State.nextRound s).time = s.time ∧
      (State.nextRound s).sched = s.sched ∧ (State.nextRound s).net = s.net ∧
      (State.nextRound s).roster = s.roster ∧ (State.nextRound s).mon = s.mon ∧ (State.nextRound s).pm = s.pm ∧
      (State.nextRound s).store = s.store ∧ (State.nextRound s).image = s.image ∧
      (State.nextRound s).faults = s.faults := by
  unfold State.nextRound; (repeat' split) <;> simp

@[simp] theorem State.lockTo_frame (b : Band) (khz : ℕ) (temp : ℤ) (s : State) :
    (State.lockTo b khz temp s).pending = s.pending ∧ (State.lockTo b khz temp s).now = s.now ∧
      (State.lockTo b khz temp s).part = s.part ∧ (State.lockTo b khz temp s).params = s.params ∧
      (State.lockTo b khz temp s).line = s.line ∧ (State.lockTo b khz temp s).wake = s.wake ∧
      (State.lockTo b khz temp s).jomen = s.jomen ∧ (State.lockTo b khz temp s).time = s.time ∧
      (State.lockTo b khz temp s).sched = s.sched ∧ (State.lockTo b khz temp s).net = s.net ∧
      (State.lockTo b khz temp s).work = s.work ∧ (State.lockTo b khz temp s).roster = s.roster ∧
      (State.lockTo b khz temp s).mon = s.mon ∧ (State.lockTo b khz temp s).pm = s.pm ∧
      (State.lockTo b khz temp s).store = s.store ∧ (State.lockTo b khz temp s).image = s.image ∧
      (State.lockTo b khz temp s).faults = s.faults ∧ (State.lockTo b khz temp s).tally = s.tally := by
  simp [State.lockTo]

@[simp] theorem State.bind_frame (n : Fin 16) (hd : Holder) (ch : ℕ) (rate : ℕ) (program : ℕ) (s : State) :
    (State.bind n hd ch rate program s).pending = s.pending ∧ (State.bind n hd ch rate program s).now = s.now ∧
      (State.bind n hd ch rate program s).part = s.part ∧ (State.bind n hd ch rate program s).params = s.params ∧
      (State.bind n hd ch rate program s).line = s.line ∧ (State.bind n hd ch rate program s).wake = s.wake ∧
      (State.bind n hd ch rate program s).jomen = s.jomen ∧ (State.bind n hd ch rate program s).radio = s.radio ∧
      (State.bind n hd ch rate program s).time = s.time ∧ (State.bind n hd ch rate program s).sched = s.sched ∧
      (State.bind n hd ch rate program s).net = s.net ∧ (State.bind n hd ch rate program s).work = s.work ∧
      (State.bind n hd ch rate program s).roster = s.roster ∧ (State.bind n hd ch rate program s).mon = s.mon ∧
      (State.bind n hd ch rate program s).pm = s.pm ∧ (State.bind n hd ch rate program s).store = s.store ∧
      (State.bind n hd ch rate program s).image = s.image ∧
      (State.bind n hd ch rate program s).faults = s.faults := by
  simp [State.bind]

@[simp] theorem State.armSweep_frame (reason : ℕ) (s : State) :
    (State.armSweep reason s).pending = s.pending ∧ (State.armSweep reason s).now = s.now ∧
      (State.armSweep reason s).part = s.part ∧ (State.armSweep reason s).line = s.line ∧
      (State.armSweep reason s).jomen = s.jomen ∧ (State.armSweep reason s).radio = s.radio ∧
      (State.armSweep reason s).rx = s.rx ∧ (State.armSweep reason s).time = s.time ∧
      (State.armSweep reason s).sched = s.sched ∧ (State.armSweep reason s).net = s.net ∧
      (State.armSweep reason s).work = s.work ∧ (State.armSweep reason s).roster = s.roster ∧
      (State.armSweep reason s).mon = s.mon ∧ (State.armSweep reason s).pm = s.pm ∧
      (State.armSweep reason s).store = s.store ∧ (State.armSweep reason s).image = s.image ∧
      (State.armSweep reason s).faults = s.faults ∧ (State.armSweep reason s).tally = s.tally := by
  simp [State.armSweep]

@[simp] theorem State.startValues_frame (cold : Bool) (s : State) :
    (State.startValues cold s).pending = s.pending ∧ (State.startValues cold s).now = s.now ∧
      (State.startValues cold s).part = s.part ∧ (State.startValues cold s).line = s.line ∧
      (State.startValues cold s).wake = s.wake ∧ (State.startValues cold s).radio = s.radio ∧
      (State.startValues cold s).rx = s.rx ∧ (State.startValues cold s).time = s.time ∧
      (State.startValues cold s).sched = s.sched ∧ (State.startValues cold s).net = s.net ∧
      (State.startValues cold s).work = s.work ∧ (State.startValues cold s).roster = s.roster ∧
      (State.startValues cold s).mon = s.mon ∧ (State.startValues cold s).store = s.store ∧
      (State.startValues cold s).image = s.image ∧ (State.startValues cold s).faults = s.faults ∧
      (State.startValues cold s).tally = s.tally := by
  simp [State.startValues]

@[simp] theorem State.idleTime_frame (s : State) :
    (State.idleTime s).pending = s.pending ∧ (State.idleTime s).now = s.now ∧ (State.idleTime s).part = s.part ∧
      (State.idleTime s).line = s.line ∧ (State.idleTime s).wake = s.wake ∧ (State.idleTime s).jomen = s.jomen ∧
      (State.idleTime s).radio = s.radio ∧ (State.idleTime s).rx = s.rx ∧ (State.idleTime s).time = s.time ∧
      (State.idleTime s).sched = s.sched ∧ (State.idleTime s).net = s.net ∧ (State.idleTime s).work = s.work ∧
      (State.idleTime s).roster = s.roster ∧ (State.idleTime s).mon = s.mon ∧ (State.idleTime s).store = s.store ∧
      (State.idleTime s).image = s.image ∧ (State.idleTime s).faults = s.faults ∧
      (State.idleTime s).tally = s.tally := by
  unfold State.idleTime; (repeat' split) <;> simp

@[simp] theorem State.wmSettle_frame (n : Fin 8) (s : State) :
    (State.wmSettle n s).pending = s.pending ∧ (State.wmSettle n s).now = s.now ∧
      (State.wmSettle n s).part = s.part ∧ (State.wmSettle n s).line = s.line ∧
      (State.wmSettle n s).wake = s.wake ∧ (State.wmSettle n s).jomen = s.jomen ∧
      (State.wmSettle n s).radio = s.radio ∧ (State.wmSettle n s).rx = s.rx ∧ (State.wmSettle n s).time = s.time ∧
      (State.wmSettle n s).sched = s.sched ∧ (State.wmSettle n s).net = s.net ∧
      (State.wmSettle n s).work = s.work ∧ (State.wmSettle n s).roster = s.roster ∧
      (State.wmSettle n s).pm = s.pm ∧ (State.wmSettle n s).store = s.store ∧
      (State.wmSettle n s).image = s.image ∧ (State.wmSettle n s).faults = s.faults ∧
      (State.wmSettle n s).tally = s.tally := by
  simp [State.wmSettle]

@[simp] theorem State.originate_frame (f : Frame) (reason : ℕ) (s : State) :
    (State.originate f reason s).pending = s.pending ∧ (State.originate f reason s).now = s.now ∧
      (State.originate f reason s).part = s.part ∧ (State.originate f reason s).line = s.line ∧
      (State.originate f reason s).wake = s.wake ∧ (State.originate f reason s).jomen = s.jomen ∧
      (State.originate f reason s).radio = s.radio ∧ (State.originate f reason s).rx = s.rx ∧
      (State.originate f reason s).time = s.time ∧ (State.originate f reason s).sched = s.sched ∧
      (State.originate f reason s).net = s.net ∧ (State.originate f reason s).work = s.work ∧
      (State.originate f reason s).mon = s.mon ∧ (State.originate f reason s).pm = s.pm ∧
      (State.originate f reason s).store = s.store ∧ (State.originate f reason s).image = s.image ∧
      (State.originate f reason s).faults = s.faults ∧ (State.originate f reason s).tally = s.tally := by
  simp [State.originate]

@[simp] theorem State.audit_frame (o : Origin) (action : ℕ) (object : ℕ) (result : ℕ) (old : AVal) (new : AVal)
    (s : State) :
    (State.audit o action object result old new s).pending = s.pending ∧
      (State.audit o action object result old new s).now = s.now ∧
      (State.audit o action object result old new s).part = s.part ∧
      (State.audit o action object result old new s).line = s.line ∧
      (State.audit o action object result old new s).wake = s.wake ∧
      (State.audit o action object result old new s).jomen = s.jomen ∧
      (State.audit o action object result old new s).radio = s.radio ∧
      (State.audit o action object result old new s).rx = s.rx ∧
      (State.audit o action object result old new s).time = s.time ∧
      (State.audit o action object result old new s).sched = s.sched ∧
      (State.audit o action object result old new s).net = s.net ∧
      (State.audit o action object result old new s).work = s.work ∧
      (State.audit o action object result old new s).roster = s.roster ∧
      (State.audit o action object result old new s).mon = s.mon ∧
      (State.audit o action object result old new s).pm = s.pm ∧
      (State.audit o action object result old new s).image = s.image ∧
      (State.audit o action object result old new s).faults = s.faults ∧
      (State.audit o action object result old new s).tally = s.tally := by
  simp [State.audit]

@[simp] theorem State.startListening_frame (s : State) :
    (State.startListening s).pending = s.pending ∧ (State.startListening s).now = s.now ∧
      (State.startListening s).part = s.part ∧ (State.startListening s).params = s.params ∧
      (State.startListening s).line = s.line ∧ (State.startListening s).wake = s.wake ∧
      (State.startListening s).jomen = s.jomen ∧ (State.startListening s).radio = s.radio ∧
      (State.startListening s).time = s.time ∧ (State.startListening s).sched = s.sched ∧
      (State.startListening s).net = s.net ∧ (State.startListening s).work = s.work ∧
      (State.startListening s).roster = s.roster ∧ (State.startListening s).mon = s.mon ∧
      (State.startListening s).pm = s.pm ∧ (State.startListening s).store = s.store ∧
      (State.startListening s).image = s.image ∧ (State.startListening s).faults = s.faults := by
  simp [State.startListening]

@[simp] theorem State.stageNow_frame (r : ImageRef) (st : Stage) (s : State) :
    (State.stageNow r st s).pending = s.pending ∧ (State.stageNow r st s).now = s.now ∧
      (State.stageNow r st s).part = s.part ∧ (State.stageNow r st s).line = s.line ∧
      (State.stageNow r st s).wake = s.wake ∧ (State.stageNow r st s).jomen = s.jomen ∧
      (State.stageNow r st s).radio = s.radio ∧ (State.stageNow r st s).rx = s.rx ∧
      (State.stageNow r st s).time = s.time ∧ (State.stageNow r st s).sched = s.sched ∧
      (State.stageNow r st s).net = s.net ∧ (State.stageNow r st s).work = s.work ∧
      (State.stageNow r st s).roster = s.roster ∧ (State.stageNow r st s).mon = s.mon ∧
      (State.stageNow r st s).pm = s.pm ∧ (State.stageNow r st s).faults = s.faults ∧
      (State.stageNow r st s).tally = s.tally := by
  simp [State.stageNow]

@[simp] theorem State.coexAfter_frame (off : Ticks) (s : State) :
    (State.coexAfter off s).pending = s.pending ∧ (State.coexAfter off s).now = s.now ∧
      (State.coexAfter off s).part = s.part ∧ (State.coexAfter off s).params = s.params ∧
      (State.coexAfter off s).line = s.line ∧ (State.coexAfter off s).wake = s.wake ∧
      (State.coexAfter off s).jomen = s.jomen ∧ (State.coexAfter off s).rx = s.rx ∧
      (State.coexAfter off s).time = s.time ∧ (State.coexAfter off s).sched = s.sched ∧
      (State.coexAfter off s).net = s.net ∧ (State.coexAfter off s).roster = s.roster ∧
      (State.coexAfter off s).mon = s.mon ∧ (State.coexAfter off s).pm = s.pm ∧
      (State.coexAfter off s).store = s.store ∧ (State.coexAfter off s).image = s.image ∧
      (State.coexAfter off s).faults = s.faults ∧ (State.coexAfter off s).tally = s.tally := by
  unfold State.coexAfter; dsimp only; (repeat' split) <;> simp

@[simp] theorem State.joinSender_frame (b : Beacon) (offset : Option ℤ) (s : State) :
    (State.joinSender b offset s).pending = s.pending ∧ (State.joinSender b offset s).now = s.now ∧
      (State.joinSender b offset s).part = s.part ∧ (State.joinSender b offset s).line = s.line ∧
      (State.joinSender b offset s).wake = s.wake ∧ (State.joinSender b offset s).jomen = s.jomen ∧
      (State.joinSender b offset s).radio = s.radio ∧ (State.joinSender b offset s).rx = s.rx ∧
      (State.joinSender b offset s).sched = s.sched ∧ (State.joinSender b offset s).work = s.work ∧
      (State.joinSender b offset s).roster = s.roster ∧ (State.joinSender b offset s).mon = s.mon ∧
      (State.joinSender b offset s).pm = s.pm ∧ (State.joinSender b offset s).store = s.store ∧
      (State.joinSender b offset s).image = s.image ∧ (State.joinSender b offset s).faults = s.faults ∧
      (State.joinSender b offset s).tally = s.tally := by
  unfold State.joinSender; (repeat' split) <;> simp

@[simp] theorem State.startFlush_frame (latest : Ticks) (s : State) :
    (State.startFlush latest s).pending = s.pending ∧ (State.startFlush latest s).now = s.now ∧
      (State.startFlush latest s).part = s.part ∧ (State.startFlush latest s).line = s.line ∧
      (State.startFlush latest s).wake = s.wake ∧ (State.startFlush latest s).jomen = s.jomen ∧
      (State.startFlush latest s).radio = s.radio ∧ (State.startFlush latest s).rx = s.rx ∧
      (State.startFlush latest s).time = s.time ∧ (State.startFlush latest s).sched = s.sched ∧
      (State.startFlush latest s).net = s.net ∧ (State.startFlush latest s).work = s.work ∧
      (State.startFlush latest s).roster = s.roster ∧ (State.startFlush latest s).mon = s.mon ∧
      (State.startFlush latest s).pm = s.pm ∧ (State.startFlush latest s).image = s.image ∧
      (State.startFlush latest s).faults = s.faults ∧ (State.startFlush latest s).tally = s.tally := by
  simp [State.startFlush]

@[simp] theorem State.lateRetune_frame (n : Fin 16) (ch : ℕ) (rate : ℕ) (s : State) :
    (State.lateRetune n ch rate s).pending = s.pending ∧ (State.lateRetune n ch rate s).now = s.now ∧
      (State.lateRetune n ch rate s).part = s.part ∧ (State.lateRetune n ch rate s).params = s.params ∧
      (State.lateRetune n ch rate s).line = s.line ∧ (State.lateRetune n ch rate s).wake = s.wake ∧
      (State.lateRetune n ch rate s).jomen = s.jomen ∧ (State.lateRetune n ch rate s).radio = s.radio ∧
      (State.lateRetune n ch rate s).time = s.time ∧ (State.lateRetune n ch rate s).sched = s.sched ∧
      (State.lateRetune n ch rate s).net = s.net ∧ (State.lateRetune n ch rate s).work = s.work ∧
      (State.lateRetune n ch rate s).roster = s.roster ∧ (State.lateRetune n ch rate s).mon = s.mon ∧
      (State.lateRetune n ch rate s).pm = s.pm ∧ (State.lateRetune n ch rate s).store = s.store ∧
      (State.lateRetune n ch rate s).image = s.image ∧ (State.lateRetune n ch rate s).faults = s.faults := by
  simp [State.lateRetune]

@[simp] theorem bindRound_frame (l : List (Fin 16)) (cs : List Nat) (s : State) :
    (bindRound l cs s).pending = s.pending ∧ (bindRound l cs s).now = s.now ∧ (bindRound l cs s).part = s.part ∧
      (bindRound l cs s).params = s.params ∧ (bindRound l cs s).line = s.line ∧ (bindRound l cs s).wake = s.wake ∧
      (bindRound l cs s).jomen = s.jomen ∧ (bindRound l cs s).radio = s.radio ∧ (bindRound l cs s).time = s.time ∧
      (bindRound l cs s).sched = s.sched ∧ (bindRound l cs s).net = s.net ∧ (bindRound l cs s).work = s.work ∧
      (bindRound l cs s).roster = s.roster ∧ (bindRound l cs s).mon = s.mon ∧ (bindRound l cs s).pm = s.pm ∧
      (bindRound l cs s).store = s.store ∧ (bindRound l cs s).image = s.image ∧
      (bindRound l cs s).faults = s.faults := by
  induction l generalizing cs s with
  | nil => simp [bindRound]
  | cons n ns ih => cases cs <;> simp [bindRound, ih]

@[simp] theorem State.keepLost_frame (s : State) :
    (State.keepLost s).pending = s.pending ∧ (State.keepLost s).now = s.now ∧ (State.keepLost s).part = s.part ∧
      (State.keepLost s).wake = s.wake ∧ (State.keepLost s).jomen = s.jomen ∧ (State.keepLost s).radio = s.radio ∧
      (State.keepLost s).rx = s.rx ∧ (State.keepLost s).sched = s.sched ∧ (State.keepLost s).work = s.work ∧
      (State.keepLost s).roster = s.roster ∧ (State.keepLost s).image = s.image ∧
      (State.keepLost s).faults = s.faults ∧ (State.keepLost s).tally = s.tally := by
  simp [State.keepLost]

@[simp] theorem State.moveEvents_frame (s : State) :
    (State.moveEvents s).pending = s.pending ∧ (State.moveEvents s).now = s.now ∧
      (State.moveEvents s).part = s.part ∧ (State.moveEvents s).wake = s.wake ∧
      (State.moveEvents s).jomen = s.jomen ∧ (State.moveEvents s).radio = s.radio ∧
      (State.moveEvents s).rx = s.rx ∧ (State.moveEvents s).time = s.time ∧ (State.moveEvents s).sched = s.sched ∧
      (State.moveEvents s).net = s.net ∧ (State.moveEvents s).work = s.work ∧
      (State.moveEvents s).roster = s.roster ∧ (State.moveEvents s).mon = s.mon ∧ (State.moveEvents s).pm = s.pm ∧
      (State.moveEvents s).image = s.image ∧ (State.moveEvents s).faults = s.faults ∧
      (State.moveEvents s).tally = s.tally := by
  simp [State.moveEvents]

@[simp] theorem State.cclkEdge_frame (s : State) :
    (State.cclkEdge s).pending = s.pending ∧ (State.cclkEdge s).now = s.now ∧ (State.cclkEdge s).part = s.part ∧
      (State.cclkEdge s).params = s.params ∧ (State.cclkEdge s).line = s.line ∧ (State.cclkEdge s).wake = s.wake ∧
      (State.cclkEdge s).jomen = s.jomen ∧ (State.cclkEdge s).radio = s.radio ∧
      (State.cclkEdge s).sched = s.sched ∧ (State.cclkEdge s).net = s.net ∧ (State.cclkEdge s).work = s.work ∧
      (State.cclkEdge s).roster = s.roster ∧ (State.cclkEdge s).mon = s.mon ∧ (State.cclkEdge s).pm = s.pm ∧
      (State.cclkEdge s).store = s.store ∧ (State.cclkEdge s).image = s.image ∧
      (State.cclkEdge s).faults = s.faults := by
  simp [State.cclkEdge]

@[simp] theorem State.ledger_frame (b : LBody) (s : State) :
    (State.ledger b s).pending = s.pending ∧ (State.ledger b s).now = s.now ∧ (State.ledger b s).part = s.part ∧
      (State.ledger b s).line = s.line ∧ (State.ledger b s).wake = s.wake ∧ (State.ledger b s).jomen = s.jomen ∧
      (State.ledger b s).radio = s.radio ∧ (State.ledger b s).rx = s.rx ∧ (State.ledger b s).time = s.time ∧
      (State.ledger b s).sched = s.sched ∧ (State.ledger b s).net = s.net ∧ (State.ledger b s).work = s.work ∧
      (State.ledger b s).roster = s.roster ∧ (State.ledger b s).mon = s.mon ∧ (State.ledger b s).pm = s.pm ∧
      (State.ledger b s).image = s.image ∧ (State.ledger b s).faults = s.faults ∧
      (State.ledger b s).tally = s.tally := by
  simp [State.ledger]

@[simp] theorem State.setFilter_frame (sd : Side) (f : Filter) (s : State) :
    (State.setFilter sd f s).pending = s.pending ∧ (State.setFilter sd f s).now = s.now ∧
      (State.setFilter sd f s).part = s.part ∧ (State.setFilter sd f s).params = s.params ∧
      (State.setFilter sd f s).line = s.line ∧ (State.setFilter sd f s).wake = s.wake ∧
      (State.setFilter sd f s).jomen = s.jomen ∧ (State.setFilter sd f s).radio = s.radio ∧
      (State.setFilter sd f s).time = s.time ∧ (State.setFilter sd f s).sched = s.sched ∧
      (State.setFilter sd f s).net = s.net ∧ (State.setFilter sd f s).work = s.work ∧
      (State.setFilter sd f s).roster = s.roster ∧ (State.setFilter sd f s).mon = s.mon ∧
      (State.setFilter sd f s).pm = s.pm ∧ (State.setFilter sd f s).store = s.store ∧
      (State.setFilter sd f s).image = s.image ∧ (State.setFilter sd f s).faults = s.faults := by
  simp [State.setFilter]

@[simp] theorem State.tuned_frame (b : Band) (khz : ℕ) (temp : ℤ) (s : State) :
    (State.tuned b khz temp s).pending = s.pending ∧ (State.tuned b khz temp s).now = s.now ∧
      (State.tuned b khz temp s).part = s.part ∧ (State.tuned b khz temp s).params = s.params ∧
      (State.tuned b khz temp s).line = s.line ∧ (State.tuned b khz temp s).wake = s.wake ∧
      (State.tuned b khz temp s).jomen = s.jomen ∧ (State.tuned b khz temp s).time = s.time ∧
      (State.tuned b khz temp s).sched = s.sched ∧ (State.tuned b khz temp s).net = s.net ∧
      (State.tuned b khz temp s).work = s.work ∧ (State.tuned b khz temp s).roster = s.roster ∧
      (State.tuned b khz temp s).mon = s.mon ∧ (State.tuned b khz temp s).pm = s.pm ∧
      (State.tuned b khz temp s).store = s.store ∧ (State.tuned b khz temp s).image = s.image ∧
      (State.tuned b khz temp s).faults = s.faults := by
  simp [State.tuned]

@[simp] theorem State.escalate_frame (i : Item) (s : State) :
    (State.escalate i s).pending = s.pending ∧ (State.escalate i s).now = s.now ∧
      (State.escalate i s).part = s.part ∧ (State.escalate i s).jomen = s.jomen ∧
      (State.escalate i s).radio = s.radio ∧ (State.escalate i s).image = s.image := by
  unfold State.escalate; (repeat' split) <;> simp

@[simp] theorem State.moveRadio_frame (s : State) :
    (State.moveRadio s).pending = s.pending ∧ (State.moveRadio s).now = s.now ∧
      (State.moveRadio s).part = s.part ∧ (State.moveRadio s).params = s.params ∧
      (State.moveRadio s).line = s.line ∧ (State.moveRadio s).wake = s.wake ∧
      (State.moveRadio s).jomen = s.jomen ∧ (State.moveRadio s).time = s.time ∧
      (State.moveRadio s).sched = s.sched ∧ (State.moveRadio s).net = s.net ∧ (State.moveRadio s).work = s.work ∧
      (State.moveRadio s).roster = s.roster ∧ (State.moveRadio s).mon = s.mon ∧ (State.moveRadio s).pm = s.pm ∧
      (State.moveRadio s).store = s.store ∧ (State.moveRadio s).image = s.image ∧
      (State.moveRadio s).faults = s.faults := by
  unfold State.moveRadio; (repeat' split) <;> simp

@[simp] theorem State.pushRecord_frame (f : Flight) (p : PushSess) (event : ℕ) (o : Option Outcome) (s : State) :
    (State.pushRecord f p event o s).pending = s.pending ∧ (State.pushRecord f p event o s).now = s.now ∧
      (State.pushRecord f p event o s).part = s.part ∧ (State.pushRecord f p event o s).line = s.line ∧
      (State.pushRecord f p event o s).wake = s.wake ∧ (State.pushRecord f p event o s).jomen = s.jomen ∧
      (State.pushRecord f p event o s).radio = s.radio ∧ (State.pushRecord f p event o s).rx = s.rx ∧
      (State.pushRecord f p event o s).time = s.time ∧ (State.pushRecord f p event o s).sched = s.sched ∧
      (State.pushRecord f p event o s).net = s.net ∧ (State.pushRecord f p event o s).work = s.work ∧
      (State.pushRecord f p event o s).roster = s.roster ∧ (State.pushRecord f p event o s).mon = s.mon ∧
      (State.pushRecord f p event o s).pm = s.pm ∧ (State.pushRecord f p event o s).image = s.image ∧
      (State.pushRecord f p event o s).faults = s.faults := by
  simp [State.pushRecord]

@[simp] theorem State.pushNote_frame (id : ℕ) (event : ℕ) (s : State) :
    (State.pushNote id event s).pending = s.pending ∧ (State.pushNote id event s).now = s.now ∧
      (State.pushNote id event s).part = s.part ∧ (State.pushNote id event s).line = s.line ∧
      (State.pushNote id event s).wake = s.wake ∧ (State.pushNote id event s).jomen = s.jomen ∧
      (State.pushNote id event s).radio = s.radio ∧ (State.pushNote id event s).rx = s.rx ∧
      (State.pushNote id event s).time = s.time ∧ (State.pushNote id event s).sched = s.sched ∧
      (State.pushNote id event s).net = s.net ∧ (State.pushNote id event s).work = s.work ∧
      (State.pushNote id event s).roster = s.roster ∧ (State.pushNote id event s).mon = s.mon ∧
      (State.pushNote id event s).pm = s.pm ∧ (State.pushNote id event s).image = s.image ∧
      (State.pushNote id event s).faults = s.faults := by
  unfold State.pushNote; (repeat' split) <;> simp

@[simp] theorem State.laneTick_frame (n : Fin 16) (s : State) :
    (State.laneTick n s).pending = s.pending ∧ (State.laneTick n s).now = s.now ∧
      (State.laneTick n s).part = s.part ∧ (State.laneTick n s).params = s.params ∧
      (State.laneTick n s).line = s.line ∧ (State.laneTick n s).wake = s.wake ∧
      (State.laneTick n s).jomen = s.jomen ∧ (State.laneTick n s).radio = s.radio ∧
      (State.laneTick n s).time = s.time ∧ (State.laneTick n s).sched = s.sched ∧
      (State.laneTick n s).net = s.net ∧ (State.laneTick n s).work = s.work ∧
      (State.laneTick n s).roster = s.roster ∧ (State.laneTick n s).mon = s.mon ∧ (State.laneTick n s).pm = s.pm ∧
      (State.laneTick n s).store = s.store ∧ (State.laneTick n s).image = s.image ∧
      (State.laneTick n s).faults = s.faults := by
  unfold State.laneTick; dsimp only; (repeat' split) <;> simp

@[simp] theorem State.flushEnd_frame (s : State) :
    (State.flushEnd s).pending = s.pending ∧ (State.flushEnd s).now = s.now ∧ (State.flushEnd s).part = s.part ∧
      (State.flushEnd s).line = s.line ∧ (State.flushEnd s).wake = s.wake ∧ (State.flushEnd s).jomen = s.jomen ∧
      (State.flushEnd s).radio = s.radio ∧ (State.flushEnd s).rx = s.rx ∧ (State.flushEnd s).time = s.time ∧
      (State.flushEnd s).sched = s.sched ∧ (State.flushEnd s).net = s.net ∧ (State.flushEnd s).work = s.work ∧
      (State.flushEnd s).roster = s.roster ∧ (State.flushEnd s).mon = s.mon ∧ (State.flushEnd s).pm = s.pm ∧
      (State.flushEnd s).image = s.image ∧ (State.flushEnd s).faults = s.faults := by
  simp [State.flushEnd]

@[simp] theorem State.coexEnd_frame (tx : Tx) (off : Ticks) (s : State) :
    (State.coexEnd tx off s).pending = s.pending ∧ (State.coexEnd tx off s).now = s.now ∧
      (State.coexEnd tx off s).part = s.part ∧ (State.coexEnd tx off s).params = s.params ∧
      (State.coexEnd tx off s).line = s.line ∧ (State.coexEnd tx off s).wake = s.wake ∧
      (State.coexEnd tx off s).jomen = s.jomen ∧ (State.coexEnd tx off s).rx = s.rx ∧
      (State.coexEnd tx off s).time = s.time ∧ (State.coexEnd tx off s).sched = s.sched ∧
      (State.coexEnd tx off s).net = s.net ∧ (State.coexEnd tx off s).roster = s.roster ∧
      (State.coexEnd tx off s).mon = s.mon ∧ (State.coexEnd tx off s).pm = s.pm ∧
      (State.coexEnd tx off s).store = s.store ∧ (State.coexEnd tx off s).image = s.image ∧
      (State.coexEnd tx off s).faults = s.faults ∧ (State.coexEnd tx off s).tally = s.tally := by
  simp [State.coexEnd]

@[simp] theorem State.warmChecks_frame (failed : List Item) (temp : ℤ) (s : State) :
    (State.warmChecks failed temp s).2.pending = s.pending ∧ (State.warmChecks failed temp s).2.now = s.now ∧
      (State.warmChecks failed temp s).2.part = s.part ∧
      (State.warmChecks failed temp s).2.image = s.image := by
  simp [State.warmChecks]

theorem State.warmChecks_eq {failed : List Item} {temp : ℤ} {s : State} {r_ : _} (h_ : (State.warmChecks failed temp s) = r_) :
    r_.2.pending = s.pending ∧ r_.2.now = s.now ∧ r_.2.part = s.part ∧ r_.2.image = s.image := by
  subst h_; exact State.warmChecks_frame failed temp s

@[simp] theorem State.answered_frame (x : RxFrame) (i : ℕ) (s : State) :
    (State.answered x i s).pending = s.pending ∧ (State.answered x i s).now = s.now ∧
      (State.answered x i s).part = s.part ∧ (State.answered x i s).params = s.params ∧
      (State.answered x i s).line = s.line ∧ (State.answered x i s).wake = s.wake ∧
      (State.answered x i s).jomen = s.jomen ∧ (State.answered x i s).radio = s.radio ∧
      (State.answered x i s).time = s.time ∧ (State.answered x i s).sched = s.sched ∧
      (State.answered x i s).net = s.net ∧ (State.answered x i s).roster = s.roster ∧
      (State.answered x i s).mon = s.mon ∧ (State.answered x i s).pm = s.pm ∧
      (State.answered x i s).store = s.store ∧ (State.answered x i s).image = s.image ∧
      (State.answered x i s).faults = s.faults ∧ (State.answered x i s).tally = s.tally := by
  unfold State.answered; dsimp only; (repeat' split) <;> simp

@[simp] theorem State.pgAsk_frame (g : Fin 4) (s : State) :
    (State.pgAsk g s).2.pending = s.pending ∧ (State.pgAsk g s).2.now = s.now ∧
      (State.pgAsk g s).2.part = s.part ∧ (State.pgAsk g s).2.params = s.params ∧
      (State.pgAsk g s).2.line = s.line ∧ (State.pgAsk g s).2.wake = s.wake ∧
      (State.pgAsk g s).2.jomen = s.jomen ∧ (State.pgAsk g s).2.radio = s.radio ∧ (State.pgAsk g s).2.rx = s.rx ∧
      (State.pgAsk g s).2.time = s.time ∧ (State.pgAsk g s).2.sched = s.sched ∧ (State.pgAsk g s).2.net = s.net ∧
      (State.pgAsk g s).2.work = s.work ∧ (State.pgAsk g s).2.roster = s.roster ∧
      (State.pgAsk g s).2.store = s.store ∧ (State.pgAsk g s).2.image = s.image ∧
      (State.pgAsk g s).2.faults = s.faults := by
  simp [State.pgAsk]

theorem State.pgAsk_eq {g : Fin 4} {s : State} {r_ : _} (h_ : (State.pgAsk g s) = r_) :
    r_.2.pending = s.pending ∧ r_.2.now = s.now ∧ r_.2.part = s.part ∧ r_.2.params = s.params ∧
      r_.2.line = s.line ∧ r_.2.wake = s.wake ∧ r_.2.jomen = s.jomen ∧ r_.2.radio = s.radio ∧ r_.2.rx = s.rx ∧
      r_.2.time = s.time ∧ r_.2.sched = s.sched ∧ r_.2.net = s.net ∧ r_.2.work = s.work ∧ r_.2.roster = s.roster ∧
      r_.2.store = s.store ∧ r_.2.image = s.image ∧ r_.2.faults = s.faults := by
  subst h_; exact State.pgAsk_frame g s

@[simp] theorem State.cutCal_frame (c : CalWhy) (s : State) :
    (State.cutCal c s).pending = s.pending ∧ (State.cutCal c s).now = s.now ∧ (State.cutCal c s).part = s.part ∧
      (State.cutCal c s).line = s.line ∧ (State.cutCal c s).wake = s.wake ∧ (State.cutCal c s).jomen = s.jomen ∧
      (State.cutCal c s).radio = s.radio ∧ (State.cutCal c s).rx = s.rx ∧ (State.cutCal c s).time = s.time ∧
      (State.cutCal c s).sched = s.sched ∧ (State.cutCal c s).net = s.net ∧ (State.cutCal c s).work = s.work ∧
      (State.cutCal c s).roster = s.roster ∧ (State.cutCal c s).mon = s.mon ∧ (State.cutCal c s).pm = s.pm ∧
      (State.cutCal c s).image = s.image ∧ (State.cutCal c s).faults = s.faults ∧
      (State.cutCal c s).tally = s.tally := by
  unfold State.cutCal; (repeat' split) <;> simp

@[simp] theorem State.send_frame (out : List OutLine) (cc : Bool) (what : Sending) (s : State) :
    (State.send out cc what s).pending = s.pending ∧ (State.send out cc what s).now = s.now ∧
      (State.send out cc what s).part = s.part ∧ (State.send out cc what s).params = s.params ∧
      (State.send out cc what s).wake = s.wake ∧ (State.send out cc what s).jomen = s.jomen ∧
      (State.send out cc what s).radio = s.radio ∧ (State.send out cc what s).rx = s.rx ∧
      (State.send out cc what s).time = s.time ∧ (State.send out cc what s).sched = s.sched ∧
      (State.send out cc what s).net = s.net ∧ (State.send out cc what s).work = s.work ∧
      (State.send out cc what s).roster = s.roster ∧ (State.send out cc what s).mon = s.mon ∧
      (State.send out cc what s).pm = s.pm ∧ (State.send out cc what s).store = s.store ∧
      (State.send out cc what s).image = s.image ∧ (State.send out cc what s).faults = s.faults ∧
      (State.send out cc what s).tally = s.tally := by
  simp [State.send]

@[simp] theorem State.reply_frame (h : Hdr) (out : List OutLine) (s : State) :
    (State.reply h out s).pending = s.pending ∧ (State.reply h out s).now = s.now ∧
      (State.reply h out s).part = s.part ∧ (State.reply h out s).params = s.params ∧
      (State.reply h out s).wake = s.wake ∧ (State.reply h out s).jomen = s.jomen ∧
      (State.reply h out s).radio = s.radio ∧ (State.reply h out s).rx = s.rx ∧
      (State.reply h out s).time = s.time ∧ (State.reply h out s).sched = s.sched ∧
      (State.reply h out s).net = s.net ∧ (State.reply h out s).work = s.work ∧
      (State.reply h out s).roster = s.roster ∧ (State.reply h out s).mon = s.mon ∧
      (State.reply h out s).pm = s.pm ∧ (State.reply h out s).store = s.store ∧
      (State.reply h out s).image = s.image ∧ (State.reply h out s).faults = s.faults ∧
      (State.reply h out s).tally = s.tally := by
  simp [State.reply]

@[simp] theorem State.beaconActs_frame (b : Beacon) (offset : Option ℤ) (s : State) :
    (State.beaconActs b offset s).pending = s.pending ∧ (State.beaconActs b offset s).now = s.now ∧
      (State.beaconActs b offset s).part = s.part ∧ (State.beaconActs b offset s).line = s.line ∧
      (State.beaconActs b offset s).wake = s.wake ∧ (State.beaconActs b offset s).jomen = s.jomen ∧
      (State.beaconActs b offset s).radio = s.radio ∧ (State.beaconActs b offset s).rx = s.rx ∧
      (State.beaconActs b offset s).sched = s.sched ∧ (State.beaconActs b offset s).work = s.work ∧
      (State.beaconActs b offset s).roster = s.roster ∧ (State.beaconActs b offset s).mon = s.mon ∧
      (State.beaconActs b offset s).pm = s.pm ∧ (State.beaconActs b offset s).store = s.store ∧
      (State.beaconActs b offset s).image = s.image ∧ (State.beaconActs b offset s).faults = s.faults := by
  unfold State.beaconActs; (repeat' split) <;> simp

@[simp] theorem State.slotFilters_frame (s : State) :
    (State.slotFilters s).pending = s.pending ∧ (State.slotFilters s).now = s.now ∧
      (State.slotFilters s).part = s.part ∧ (State.slotFilters s).params = s.params ∧
      (State.slotFilters s).line = s.line ∧ (State.slotFilters s).wake = s.wake ∧
      (State.slotFilters s).jomen = s.jomen ∧ (State.slotFilters s).radio = s.radio ∧
      (State.slotFilters s).time = s.time ∧ (State.slotFilters s).sched = s.sched ∧
      (State.slotFilters s).net = s.net ∧ (State.slotFilters s).work = s.work ∧
      (State.slotFilters s).roster = s.roster ∧ (State.slotFilters s).mon = s.mon ∧
      (State.slotFilters s).pm = s.pm ∧ (State.slotFilters s).store = s.store ∧
      (State.slotFilters s).image = s.image ∧ (State.slotFilters s).faults = s.faults := by
  simp [State.slotFilters]

@[simp] theorem State.rxTick_frame (s : State) :
    (State.rxTick s).pending = s.pending ∧ (State.rxTick s).now = s.now ∧ (State.rxTick s).part = s.part ∧
      (State.rxTick s).params = s.params ∧ (State.rxTick s).line = s.line ∧ (State.rxTick s).wake = s.wake ∧
      (State.rxTick s).jomen = s.jomen ∧ (State.rxTick s).radio = s.radio ∧ (State.rxTick s).time = s.time ∧
      (State.rxTick s).sched = s.sched ∧ (State.rxTick s).net = s.net ∧ (State.rxTick s).work = s.work ∧
      (State.rxTick s).roster = s.roster ∧ (State.rxTick s).mon = s.mon ∧ (State.rxTick s).pm = s.pm ∧
      (State.rxTick s).store = s.store ∧ (State.rxTick s).image = s.image ∧
      (State.rxTick s).faults = s.faults := by
  simp [State.rxTick]

@[simp] theorem State.goTx_frame (tx : Tx) (s : State) :
    (State.goTx tx s).pending = s.pending ∧ (State.goTx tx s).now = s.now ∧ (State.goTx tx s).part = s.part ∧
      (State.goTx tx s).params = s.params ∧ (State.goTx tx s).line = s.line ∧ (State.goTx tx s).wake = s.wake ∧
      (State.goTx tx s).jomen = s.jomen ∧ (State.goTx tx s).time = s.time ∧ (State.goTx tx s).sched = s.sched ∧
      (State.goTx tx s).net = s.net ∧ (State.goTx tx s).work = s.work ∧ (State.goTx tx s).roster = s.roster ∧
      (State.goTx tx s).mon = s.mon ∧ (State.goTx tx s).pm = s.pm ∧ (State.goTx tx s).store = s.store ∧
      (State.goTx tx s).image = s.image ∧ (State.goTx tx s).faults = s.faults := by
  simp [State.goTx]

@[simp] theorem State.vauxAttempt_frame (s : State) :
    (State.vauxAttempt s).pending = s.pending ∧ (State.vauxAttempt s).now = s.now ∧
      (State.vauxAttempt s).part = s.part ∧ (State.vauxAttempt s).wake = s.wake ∧
      (State.vauxAttempt s).jomen = s.jomen ∧ (State.vauxAttempt s).radio = s.radio ∧
      (State.vauxAttempt s).rx = s.rx ∧ (State.vauxAttempt s).time = s.time ∧
      (State.vauxAttempt s).sched = s.sched ∧ (State.vauxAttempt s).net = s.net ∧
      (State.vauxAttempt s).work = s.work ∧ (State.vauxAttempt s).roster = s.roster ∧
      (State.vauxAttempt s).store = s.store ∧ (State.vauxAttempt s).image = s.image ∧
      (State.vauxAttempt s).faults = s.faults := by
  simp [State.vauxAttempt]

@[simp] theorem State.transmit_frame (tx : Tx) (s : State) :
    (State.transmit tx s).pending = s.pending ∧ (State.transmit tx s).now = s.now ∧
      (State.transmit tx s).part = s.part ∧ (State.transmit tx s).line = s.line ∧
      (State.transmit tx s).wake = s.wake ∧ (State.transmit tx s).jomen = s.jomen ∧
      (State.transmit tx s).time = s.time ∧ (State.transmit tx s).sched = s.sched ∧
      (State.transmit tx s).net = s.net ∧ (State.transmit tx s).work = s.work ∧
      (State.transmit tx s).roster = s.roster ∧ (State.transmit tx s).mon = s.mon ∧
      (State.transmit tx s).pm = s.pm ∧ (State.transmit tx s).store = s.store ∧
      (State.transmit tx s).image = s.image ∧ (State.transmit tx s).faults = s.faults := by
  simp [State.transmit]

@[simp] theorem State.runCapture_frame (c : Capture) (s : State) :
    (State.runCapture c s).pending = s.pending ∧ (State.runCapture c s).now = s.now ∧
      (State.runCapture c s).part = s.part ∧ (State.runCapture c s).params = s.params ∧
      (State.runCapture c s).line = s.line ∧ (State.runCapture c s).wake = s.wake ∧
      (State.runCapture c s).jomen = s.jomen ∧ (State.runCapture c s).time = s.time ∧
      (State.runCapture c s).sched = s.sched ∧ (State.runCapture c s).net = s.net ∧
      (State.runCapture c s).work = s.work ∧ (State.runCapture c s).roster = s.roster ∧
      (State.runCapture c s).mon = s.mon ∧ (State.runCapture c s).pm = s.pm ∧
      (State.runCapture c s).store = s.store ∧ (State.runCapture c s).image = s.image ∧
      (State.runCapture c s).faults = s.faults := by
  simp [State.runCapture]

@[simp] theorem State.coexGo_frame (granted : Bool) (w : Tx) (s : State) :
    (State.coexGo granted w s).pending = s.pending ∧ (State.coexGo granted w s).now = s.now ∧
      (State.coexGo granted w s).part = s.part ∧ (State.coexGo granted w s).params = s.params ∧
      (State.coexGo granted w s).line = s.line ∧ (State.coexGo granted w s).wake = s.wake ∧
      (State.coexGo granted w s).jomen = s.jomen ∧ (State.coexGo granted w s).time = s.time ∧
      (State.coexGo granted w s).sched = s.sched ∧ (State.coexGo granted w s).net = s.net ∧
      (State.coexGo granted w s).work = s.work ∧ (State.coexGo granted w s).roster = s.roster ∧
      (State.coexGo granted w s).mon = s.mon ∧ (State.coexGo granted w s).pm = s.pm ∧
      (State.coexGo granted w s).store = s.store ∧ (State.coexGo granted w s).image = s.image ∧
      (State.coexGo granted w s).faults = s.faults := by
  simp [State.coexGo]

@[simp] theorem State.listenOn_frame (n : Fin 16) (hd : Holder) (ch : ℕ) (program : ℕ) (s : State) :
    (State.listenOn n hd ch program s).pending = s.pending ∧ (State.listenOn n hd ch program s).now = s.now ∧
      (State.listenOn n hd ch program s).part = s.part ∧ (State.listenOn n hd ch program s).params = s.params ∧
      (State.listenOn n hd ch program s).line = s.line ∧ (State.listenOn n hd ch program s).wake = s.wake ∧
      (State.listenOn n hd ch program s).jomen = s.jomen ∧ (State.listenOn n hd ch program s).time = s.time ∧
      (State.listenOn n hd ch program s).sched = s.sched ∧ (State.listenOn n hd ch program s).net = s.net ∧
      (State.listenOn n hd ch program s).work = s.work ∧ (State.listenOn n hd ch program s).roster = s.roster ∧
      (State.listenOn n hd ch program s).mon = s.mon ∧ (State.listenOn n hd ch program s).pm = s.pm ∧
      (State.listenOn n hd ch program s).store = s.store ∧ (State.listenOn n hd ch program s).image = s.image ∧
      (State.listenOn n hd ch program s).faults = s.faults := by
  unfold State.listenOn; (repeat' split) <;> simp

@[simp] theorem State.vauxPolicy_frame (s : State) :
    (State.vauxPolicy s).pending = s.pending ∧ (State.vauxPolicy s).now = s.now ∧
      (State.vauxPolicy s).part = s.part ∧ (State.vauxPolicy s).wake = s.wake ∧
      (State.vauxPolicy s).jomen = s.jomen ∧ (State.vauxPolicy s).radio = s.radio ∧
      (State.vauxPolicy s).rx = s.rx ∧ (State.vauxPolicy s).time = s.time ∧ (State.vauxPolicy s).sched = s.sched ∧
      (State.vauxPolicy s).net = s.net ∧ (State.vauxPolicy s).work = s.work ∧
      (State.vauxPolicy s).roster = s.roster ∧ (State.vauxPolicy s).store = s.store ∧
      (State.vauxPolicy s).image = s.image ∧ (State.vauxPolicy s).faults = s.faults := by
  simp [State.vauxPolicy]

@[simp] theorem State.cutChanges_frame (s : State) :
    (State.cutChanges s).pending = s.pending ∧ (State.cutChanges s).now = s.now ∧
      (State.cutChanges s).part = s.part ∧ (State.cutChanges s).line = s.line ∧
      (State.cutChanges s).wake = s.wake ∧ (State.cutChanges s).jomen = s.jomen ∧ (State.cutChanges s).rx = s.rx ∧
      (State.cutChanges s).time = s.time ∧ (State.cutChanges s).sched = s.sched ∧
      (State.cutChanges s).net = s.net ∧ (State.cutChanges s).work = s.work ∧
      (State.cutChanges s).roster = s.roster ∧ (State.cutChanges s).pm = s.pm ∧
      (State.cutChanges s).image = s.image ∧ (State.cutChanges s).faults = s.faults ∧
      (State.cutChanges s).tally = s.tally := by
  unfold State.cutChanges; (repeat' split) <;> simp

@[simp] theorem State.resume_frame (s : State) :
    (State.resume s).pending = s.pending ∧ (State.resume s).now = s.now ∧ (State.resume s).part = s.part ∧
      (State.resume s).line = s.line ∧ (State.resume s).wake = s.wake ∧ (State.resume s).jomen = s.jomen ∧
      (State.resume s).time = s.time ∧ (State.resume s).sched = s.sched ∧ (State.resume s).net = s.net ∧
      (State.resume s).work = s.work ∧ (State.resume s).roster = s.roster ∧ (State.resume s).mon = s.mon ∧
      (State.resume s).pm = s.pm ∧ (State.resume s).store = s.store ∧ (State.resume s).image = s.image ∧
      (State.resume s).faults = s.faults := by
  unfold State.resume; (repeat' split) <;> simp

@[simp] theorem State.exciteFor_frame (n : Fin 8) (s : State) :
    (State.exciteFor n s).2.pending = s.pending ∧ (State.exciteFor n s).2.now = s.now ∧
      (State.exciteFor n s).2.part = s.part ∧ (State.exciteFor n s).2.line = s.line ∧
      (State.exciteFor n s).2.wake = s.wake ∧ (State.exciteFor n s).2.jomen = s.jomen ∧
      (State.exciteFor n s).2.radio = s.radio ∧ (State.exciteFor n s).2.rx = s.rx ∧
      (State.exciteFor n s).2.time = s.time ∧ (State.exciteFor n s).2.sched = s.sched ∧
      (State.exciteFor n s).2.net = s.net ∧ (State.exciteFor n s).2.work = s.work ∧
      (State.exciteFor n s).2.roster = s.roster ∧ (State.exciteFor n s).2.store = s.store ∧
      (State.exciteFor n s).2.image = s.image ∧ (State.exciteFor n s).2.faults = s.faults := by
  unfold State.exciteFor; dsimp only; (repeat' split) <;> simp

theorem State.exciteFor_eq {n : Fin 8} {s : State} {r_ : _} (h_ : (State.exciteFor n s) = r_) :
    r_.2.pending = s.pending ∧ r_.2.now = s.now ∧ r_.2.part = s.part ∧ r_.2.line = s.line ∧ r_.2.wake = s.wake ∧
      r_.2.jomen = s.jomen ∧ r_.2.radio = s.radio ∧ r_.2.rx = s.rx ∧ r_.2.time = s.time ∧ r_.2.sched = s.sched ∧
      r_.2.net = s.net ∧ r_.2.work = s.work ∧ r_.2.roster = s.roster ∧ r_.2.store = s.store ∧
      r_.2.image = s.image ∧ r_.2.faults = s.faults := by
  subst h_; exact State.exciteFor_frame n s

@[simp] theorem State.listenStart_frame (hd : Holder) (d : Ticks) (s : State) :
    (State.listenStart hd d s).pending = s.pending ∧ (State.listenStart hd d s).now = s.now ∧
      (State.listenStart hd d s).part = s.part ∧ (State.listenStart hd d s).params = s.params ∧
      (State.listenStart hd d s).line = s.line ∧ (State.listenStart hd d s).wake = s.wake ∧
      (State.listenStart hd d s).jomen = s.jomen ∧ (State.listenStart hd d s).time = s.time ∧
      (State.listenStart hd d s).sched = s.sched ∧ (State.listenStart hd d s).net = s.net ∧
      (State.listenStart hd d s).work = s.work ∧ (State.listenStart hd d s).roster = s.roster ∧
      (State.listenStart hd d s).mon = s.mon ∧ (State.listenStart hd d s).pm = s.pm ∧
      (State.listenStart hd d s).store = s.store ∧ (State.listenStart hd d s).image = s.image ∧
      (State.listenStart hd d s).faults = s.faults := by
  unfold State.listenStart; (repeat' split) <;> simp

@[simp] theorem State.refuse_frame (h : Hdr) (v : Verb) (e : Err) (tok : ℕ) (obj : Option ℕ) (s : State) :
    (State.refuse h v e tok obj s).pending = s.pending ∧ (State.refuse h v e tok obj s).now = s.now ∧
      (State.refuse h v e tok obj s).part = s.part ∧ (State.refuse h v e tok obj s).params = s.params ∧
      (State.refuse h v e tok obj s).wake = s.wake ∧ (State.refuse h v e tok obj s).jomen = s.jomen ∧
      (State.refuse h v e tok obj s).radio = s.radio ∧ (State.refuse h v e tok obj s).rx = s.rx ∧
      (State.refuse h v e tok obj s).time = s.time ∧ (State.refuse h v e tok obj s).sched = s.sched ∧
      (State.refuse h v e tok obj s).net = s.net ∧ (State.refuse h v e tok obj s).work = s.work ∧
      (State.refuse h v e tok obj s).roster = s.roster ∧ (State.refuse h v e tok obj s).mon = s.mon ∧
      (State.refuse h v e tok obj s).pm = s.pm ∧ (State.refuse h v e tok obj s).store = s.store ∧
      (State.refuse h v e tok obj s).image = s.image ∧ (State.refuse h v e tok obj s).faults = s.faults := by
  simp [State.refuse]

@[simp] theorem State.queue_frame (e : Ev) (s : State) :
    (State.queue e s).pending = s.pending ∧ (State.queue e s).now = s.now ∧ (State.queue e s).part = s.part ∧
      (State.queue e s).wake = s.wake ∧ (State.queue e s).jomen = s.jomen ∧ (State.queue e s).radio = s.radio ∧
      (State.queue e s).rx = s.rx ∧ (State.queue e s).time = s.time ∧ (State.queue e s).sched = s.sched ∧
      (State.queue e s).net = s.net ∧ (State.queue e s).work = s.work ∧ (State.queue e s).roster = s.roster ∧
      (State.queue e s).store = s.store ∧ (State.queue e s).image = s.image ∧
      (State.queue e s).faults = s.faults := by
  simp [State.queue]

@[simp] theorem State.lineTick_frame (s : State) :
    (State.lineTick s).pending = s.pending ∧ (State.lineTick s).now = s.now ∧ (State.lineTick s).part = s.part ∧
      (State.lineTick s).wake = s.wake ∧ (State.lineTick s).jomen = s.jomen ∧ (State.lineTick s).radio = s.radio ∧
      (State.lineTick s).rx = s.rx ∧ (State.lineTick s).time = s.time ∧ (State.lineTick s).sched = s.sched ∧
      (State.lineTick s).net = s.net ∧ (State.lineTick s).work = s.work ∧ (State.lineTick s).roster = s.roster ∧
      (State.lineTick s).store = s.store ∧ (State.lineTick s).image = s.image ∧
      (State.lineTick s).faults = s.faults := by
  unfold State.lineTick; dsimp only; (repeat' split) <;> simp

@[simp] theorem State.ledgerLoss_frame (gone : List LRec) (s : State) :
    (State.ledgerLoss gone s).pending = s.pending ∧ (State.ledgerLoss gone s).now = s.now ∧
      (State.ledgerLoss gone s).part = s.part ∧ (State.ledgerLoss gone s).wake = s.wake ∧
      (State.ledgerLoss gone s).jomen = s.jomen ∧ (State.ledgerLoss gone s).radio = s.radio ∧
      (State.ledgerLoss gone s).rx = s.rx ∧ (State.ledgerLoss gone s).time = s.time ∧
      (State.ledgerLoss gone s).sched = s.sched ∧ (State.ledgerLoss gone s).net = s.net ∧
      (State.ledgerLoss gone s).work = s.work ∧ (State.ledgerLoss gone s).roster = s.roster ∧
      (State.ledgerLoss gone s).store = s.store ∧ (State.ledgerLoss gone s).image = s.image ∧
      (State.ledgerLoss gone s).faults = s.faults := by
  simp [State.ledgerLoss]

@[simp] theorem State.spillFull_frame (s : State) :
    (State.spillFull s).pending = s.pending ∧ (State.spillFull s).now = s.now ∧
      (State.spillFull s).part = s.part ∧ (State.spillFull s).wake = s.wake ∧
      (State.spillFull s).jomen = s.jomen ∧ (State.spillFull s).radio = s.radio ∧ (State.spillFull s).rx = s.rx ∧
      (State.spillFull s).time = s.time ∧ (State.spillFull s).sched = s.sched ∧ (State.spillFull s).net = s.net ∧
      (State.spillFull s).work = s.work ∧ (State.spillFull s).store = s.store ∧
      (State.spillFull s).image = s.image ∧ (State.spillFull s).faults = s.faults := by
  simp [State.spillFull]

@[simp] theorem State.cellarExit_frame (failed : List Item) (s : State) :
    (State.cellarExit failed s).pending = s.pending ∧ (State.cellarExit failed s).now = s.now ∧
      (State.cellarExit failed s).part = s.part ∧ (State.cellarExit failed s).jomen = s.jomen ∧
      (State.cellarExit failed s).radio = s.radio ∧ (State.cellarExit failed s).image = s.image := by
  simp [State.cellarExit]

@[simp] theorem State.found_frame (i : ℕ) (s : State) :
    (State.found i s).pending = s.pending ∧ (State.found i s).now = s.now ∧ (State.found i s).part = s.part ∧
      (State.found i s).wake = s.wake ∧ (State.found i s).jomen = s.jomen ∧ (State.found i s).radio = s.radio ∧
      (State.found i s).time = s.time ∧ (State.found i s).sched = s.sched ∧ (State.found i s).work = s.work ∧
      (State.found i s).roster = s.roster ∧ (State.found i s).store = s.store ∧
      (State.found i s).image = s.image ∧ (State.found i s).faults = s.faults := by
  simp [State.found]

@[simp] theorem State.listenTake_frame (hd : Holder) (until_ : Ticks) (s : State) :
    (State.listenTake hd until_ s).pending = s.pending ∧ (State.listenTake hd until_ s).now = s.now ∧
      (State.listenTake hd until_ s).part = s.part ∧ (State.listenTake hd until_ s).params = s.params ∧
      (State.listenTake hd until_ s).line = s.line ∧ (State.listenTake hd until_ s).wake = s.wake ∧
      (State.listenTake hd until_ s).jomen = s.jomen ∧ (State.listenTake hd until_ s).time = s.time ∧
      (State.listenTake hd until_ s).sched = s.sched ∧ (State.listenTake hd until_ s).net = s.net ∧
      (State.listenTake hd until_ s).work = s.work ∧ (State.listenTake hd until_ s).roster = s.roster ∧
      (State.listenTake hd until_ s).mon = s.mon ∧ (State.listenTake hd until_ s).pm = s.pm ∧
      (State.listenTake hd until_ s).store = s.store ∧ (State.listenTake hd until_ s).image = s.image ∧
      (State.listenTake hd until_ s).faults = s.faults := by
  unfold State.listenTake; (repeat' split) <;> simp

@[simp] theorem State.wmClear_frame (n : Fin 8) (s : State) :
    (State.wmClear n s).pending = s.pending ∧ (State.wmClear n s).now = s.now ∧
      (State.wmClear n s).part = s.part ∧ (State.wmClear n s).wake = s.wake ∧
      (State.wmClear n s).jomen = s.jomen ∧ (State.wmClear n s).radio = s.radio ∧ (State.wmClear n s).rx = s.rx ∧
      (State.wmClear n s).time = s.time ∧ (State.wmClear n s).sched = s.sched ∧ (State.wmClear n s).net = s.net ∧
      (State.wmClear n s).work = s.work ∧ (State.wmClear n s).roster = s.roster ∧
      (State.wmClear n s).store = s.store ∧ (State.wmClear n s).image = s.image ∧
      (State.wmClear n s).faults = s.faults := by
  simp [State.wmClear]

@[simp] theorem State.driveWake_frame (s : State) :
    (State.driveWake s).pending = s.pending ∧ (State.driveWake s).now = s.now ∧
      (State.driveWake s).part = s.part ∧ (State.driveWake s).jomen = s.jomen ∧
      (State.driveWake s).radio = s.radio ∧ (State.driveWake s).rx = s.rx ∧ (State.driveWake s).time = s.time ∧
      (State.driveWake s).sched = s.sched ∧ (State.driveWake s).net = s.net ∧ (State.driveWake s).work = s.work ∧
      (State.driveWake s).roster = s.roster ∧ (State.driveWake s).store = s.store ∧
      (State.driveWake s).image = s.image ∧ (State.driveWake s).faults = s.faults := by
  simp [State.driveWake]

@[simp] theorem State.coexTick_frame (s : State) :
    (State.coexTick s).pending = s.pending ∧ (State.coexTick s).now = s.now ∧ (State.coexTick s).part = s.part ∧
      (State.coexTick s).params = s.params ∧ (State.coexTick s).line = s.line ∧ (State.coexTick s).wake = s.wake ∧
      (State.coexTick s).jomen = s.jomen ∧ (State.coexTick s).time = s.time ∧ (State.coexTick s).sched = s.sched ∧
      (State.coexTick s).net = s.net ∧ (State.coexTick s).work = s.work ∧ (State.coexTick s).roster = s.roster ∧
      (State.coexTick s).mon = s.mon ∧ (State.coexTick s).pm = s.pm ∧ (State.coexTick s).store = s.store ∧
      (State.coexTick s).image = s.image ∧ (State.coexTick s).faults = s.faults := by
  unfold State.coexTick; dsimp only; (repeat' split) <;> simp

@[simp] theorem State.lineFault_frame (k : LineFaultKind) (s : State) :
    (State.lineFault k s).pending = s.pending ∧ (State.lineFault k s).now = s.now ∧
      (State.lineFault k s).part = s.part ∧ (State.lineFault k s).wake = s.wake ∧
      (State.lineFault k s).jomen = s.jomen ∧ (State.lineFault k s).radio = s.radio ∧
      (State.lineFault k s).rx = s.rx ∧ (State.lineFault k s).time = s.time ∧
      (State.lineFault k s).sched = s.sched ∧ (State.lineFault k s).net = s.net ∧
      (State.lineFault k s).work = s.work ∧ (State.lineFault k s).roster = s.roster ∧
      (State.lineFault k s).store = s.store ∧ (State.lineFault k s).image = s.image ∧
      (State.lineFault k s).faults = s.faults := by
  simp [State.lineFault]

@[simp] theorem State.archiveRoom_frame (s : State) :
    (State.archiveRoom s).pending = s.pending ∧ (State.archiveRoom s).now = s.now ∧
      (State.archiveRoom s).part = s.part ∧ (State.archiveRoom s).wake = s.wake ∧
      (State.archiveRoom s).jomen = s.jomen ∧ (State.archiveRoom s).radio = s.radio ∧
      (State.archiveRoom s).rx = s.rx ∧ (State.archiveRoom s).time = s.time ∧
      (State.archiveRoom s).sched = s.sched ∧ (State.archiveRoom s).net = s.net ∧
      (State.archiveRoom s).work = s.work ∧ (State.archiveRoom s).roster = s.roster ∧
      (State.archiveRoom s).image = s.image ∧ (State.archiveRoom s).faults = s.faults := by
  simp [State.archiveRoom]

@[simp] theorem State.floorSaid_frame (id : ResId) (s : State) :
    (State.floorSaid id s).pending = s.pending ∧ (State.floorSaid id s).now = s.now ∧
      (State.floorSaid id s).part = s.part ∧ (State.floorSaid id s).wake = s.wake ∧
      (State.floorSaid id s).jomen = s.jomen ∧ (State.floorSaid id s).radio = s.radio ∧
      (State.floorSaid id s).rx = s.rx ∧ (State.floorSaid id s).time = s.time ∧
      (State.floorSaid id s).sched = s.sched ∧ (State.floorSaid id s).net = s.net ∧
      (State.floorSaid id s).work = s.work ∧ (State.floorSaid id s).roster = s.roster ∧
      (State.floorSaid id s).store = s.store ∧ (State.floorSaid id s).image = s.image ∧
      (State.floorSaid id s).faults = s.faults := by
  simp [State.floorSaid]

@[simp] theorem State.heardFrom_frame (i : ℕ) (s : State) :
    (State.heardFrom i s).pending = s.pending ∧ (State.heardFrom i s).now = s.now ∧
      (State.heardFrom i s).part = s.part ∧ (State.heardFrom i s).wake = s.wake ∧
      (State.heardFrom i s).jomen = s.jomen ∧ (State.heardFrom i s).radio = s.radio ∧
      (State.heardFrom i s).rx = s.rx ∧ (State.heardFrom i s).time = s.time ∧
      (State.heardFrom i s).sched = s.sched ∧ (State.heardFrom i s).net = s.net ∧
      (State.heardFrom i s).work = s.work ∧ (State.heardFrom i s).store = s.store ∧
      (State.heardFrom i s).image = s.image := by
  simp [State.heardFrom]

@[simp] theorem State.queueAll_frame (l : List Ev) (s : State) :
    (State.queueAll l s).pending = s.pending ∧ (State.queueAll l s).now = s.now ∧
      (State.queueAll l s).part = s.part ∧ (State.queueAll l s).wake = s.wake ∧
      (State.queueAll l s).jomen = s.jomen ∧ (State.queueAll l s).radio = s.radio ∧
      (State.queueAll l s).rx = s.rx ∧ (State.queueAll l s).time = s.time ∧ (State.queueAll l s).sched = s.sched ∧
      (State.queueAll l s).net = s.net ∧ (State.queueAll l s).work = s.work ∧
      (State.queueAll l s).roster = s.roster ∧ (State.queueAll l s).store = s.store ∧
      (State.queueAll l s).image = s.image ∧ (State.queueAll l s).faults = s.faults := by
  simp [State.queueAll]

@[simp] theorem State.setNet_frame (st : NetState) (s : State) :
    (State.setNet st s).pending = s.pending ∧ (State.setNet st s).now = s.now ∧
      (State.setNet st s).part = s.part ∧ (State.setNet st s).wake = s.wake ∧
      (State.setNet st s).jomen = s.jomen ∧ (State.setNet st s).radio = s.radio ∧ (State.setNet st s).rx = s.rx ∧
      (State.setNet st s).time = s.time ∧ (State.setNet st s).sched = s.sched ∧
      (State.setNet st s).work = s.work ∧ (State.setNet st s).roster = s.roster ∧
      (State.setNet st s).image = s.image ∧ (State.setNet st s).faults = s.faults := by
  simp [State.setNet]

@[simp] theorem State.foldNow_frame (rule : Option SelfRule) (target : Option ℕ) (s : State) :
    (State.foldNow rule target s).pending = s.pending ∧ (State.foldNow rule target s).now = s.now ∧
      (State.foldNow rule target s).part = s.part ∧ (State.foldNow rule target s).wake = s.wake ∧
      (State.foldNow rule target s).jomen = s.jomen ∧ (State.foldNow rule target s).radio = s.radio ∧
      (State.foldNow rule target s).rx = s.rx ∧ (State.foldNow rule target s).sched = s.sched ∧
      (State.foldNow rule target s).net = s.net ∧ (State.foldNow rule target s).work = s.work ∧
      (State.foldNow rule target s).roster = s.roster ∧ (State.foldNow rule target s).image = s.image ∧
      (State.foldNow rule target s).faults = s.faults := by
  unfold State.foldNow; (repeat' split) <;> simp

@[simp] theorem State.revertImage_frame (s : State) :
    (State.revertImage s).pending = s.pending ∧ (State.revertImage s).now = s.now ∧
      (State.revertImage s).part = s.part ∧ (State.revertImage s).wake = s.wake ∧
      (State.revertImage s).jomen = s.jomen ∧ (State.revertImage s).radio = s.radio ∧
      (State.revertImage s).rx = s.rx ∧ (State.revertImage s).time = s.time ∧
      (State.revertImage s).sched = s.sched ∧ (State.revertImage s).net = s.net ∧
      (State.revertImage s).work = s.work ∧ (State.revertImage s).roster = s.roster ∧
      (State.revertImage s).faults = s.faults := by
  simp [State.revertImage]

@[simp] theorem State.rosterCheck_frame (s : State) :
    (State.rosterCheck s).pending = s.pending ∧ (State.rosterCheck s).now = s.now ∧
      (State.rosterCheck s).part = s.part ∧ (State.rosterCheck s).wake = s.wake ∧
      (State.rosterCheck s).jomen = s.jomen ∧ (State.rosterCheck s).radio = s.radio ∧
      (State.rosterCheck s).rx = s.rx ∧ (State.rosterCheck s).time = s.time ∧
      (State.rosterCheck s).sched = s.sched ∧ (State.rosterCheck s).net = s.net ∧
      (State.rosterCheck s).work = s.work ∧ (State.rosterCheck s).store = s.store ∧
      (State.rosterCheck s).image = s.image ∧ (State.rosterCheck s).faults = s.faults := by
  simp [State.rosterCheck]

@[simp] theorem State.endFlight_frame (id : ℕ) (o : Outcome) (s : State) :
    (State.endFlight id o s).pending = s.pending ∧ (State.endFlight id o s).now = s.now ∧
      (State.endFlight id o s).part = s.part ∧ (State.endFlight id o s).wake = s.wake ∧
      (State.endFlight id o s).radio = s.radio ∧ (State.endFlight id o s).time = s.time ∧
      (State.endFlight id o s).sched = s.sched ∧ (State.endFlight id o s).net = s.net ∧
      (State.endFlight id o s).image = s.image ∧ (State.endFlight id o s).faults = s.faults := by
  unfold State.endFlight; dsimp only; (repeat' split) <;> simp

@[simp] theorem State.pushOver_frame (id : ℕ) (s : State) :
    (State.pushOver id s).pending = s.pending ∧ (State.pushOver id s).now = s.now ∧
      (State.pushOver id s).part = s.part ∧ (State.pushOver id s).wake = s.wake ∧
      (State.pushOver id s).radio = s.radio ∧ (State.pushOver id s).time = s.time ∧
      (State.pushOver id s).sched = s.sched ∧ (State.pushOver id s).net = s.net ∧
      (State.pushOver id s).image = s.image ∧ (State.pushOver id s).faults = s.faults := by
  unfold State.pushOver; (repeat' split) <;> simp

@[simp] theorem State.pushAcked_frame (f : Flight) (s : State) :
    (State.pushAcked f s).pending = s.pending ∧ (State.pushAcked f s).now = s.now ∧
      (State.pushAcked f s).part = s.part ∧ (State.pushAcked f s).wake = s.wake ∧
      (State.pushAcked f s).radio = s.radio ∧ (State.pushAcked f s).time = s.time ∧
      (State.pushAcked f s).sched = s.sched ∧ (State.pushAcked f s).net = s.net ∧
      (State.pushAcked f s).image = s.image ∧ (State.pushAcked f s).faults = s.faults := by
  unfold State.pushAcked; dsimp only; (repeat' split) <;> simp

@[simp] theorem State.expire_frame (id : ℕ) (o : Outcome) (s : State) :
    (State.expire id o s).pending = s.pending ∧ (State.expire id o s).now = s.now ∧
      (State.expire id o s).part = s.part ∧ (State.expire id o s).wake = s.wake ∧
      (State.expire id o s).radio = s.radio ∧ (State.expire id o s).time = s.time ∧
      (State.expire id o s).sched = s.sched ∧ (State.expire id o s).net = s.net ∧
      (State.expire id o s).image = s.image ∧ (State.expire id o s).faults = s.faults := by
  unfold State.expire; (repeat' split) <;> simp

@[simp] theorem State.stepNow_frame (ns : ℤ) (o : Option Origin) (s : State) :
    (State.stepNow ns o s).pending = s.pending ∧ (State.stepNow ns o s).now = s.now ∧
      (State.stepNow ns o s).part = s.part ∧ (State.stepNow ns o s).wake = s.wake ∧
      (State.stepNow ns o s).jomen = s.jomen ∧ (State.stepNow ns o s).radio = s.radio ∧
      (State.stepNow ns o s).rx = s.rx ∧ (State.stepNow ns o s).sched = s.sched ∧
      (State.stepNow ns o s).image = s.image ∧ (State.stepNow ns o s).faults = s.faults := by
  unfold State.stepNow; (repeat' split) <;> simp

@[simp] theorem State.radioTick_frame (s : State) :
    (State.radioTick s).pending = s.pending ∧ (State.radioTick s).now = s.now ∧
      (State.radioTick s).part = s.part ∧ (State.radioTick s).line = s.line ∧ (State.radioTick s).wake = s.wake ∧
      (State.radioTick s).jomen = s.jomen ∧ (State.radioTick s).time = s.time ∧
      (State.radioTick s).sched = s.sched ∧ (State.radioTick s).net = s.net ∧ (State.radioTick s).work = s.work ∧
      (State.radioTick s).roster = s.roster ∧ (State.radioTick s).mon = s.mon ∧ (State.radioTick s).pm = s.pm ∧
      (State.radioTick s).store = s.store ∧ (State.radioTick s).image = s.image ∧
      (State.radioTick s).faults = s.faults := by
  simp [State.radioTick]

@[simp] theorem State.afterAttempt_frame (id : ℕ) (s : State) :
    (State.afterAttempt id s).pending = s.pending ∧ (State.afterAttempt id s).now = s.now ∧
      (State.afterAttempt id s).part = s.part ∧ (State.afterAttempt id s).wake = s.wake ∧
      (State.afterAttempt id s).radio = s.radio ∧ (State.afterAttempt id s).time = s.time ∧
      (State.afterAttempt id s).sched = s.sched ∧ (State.afterAttempt id s).net = s.net ∧
      (State.afterAttempt id s).image = s.image ∧ (State.afterAttempt id s).faults = s.faults := by
  unfold State.afterAttempt; dsimp only; (repeat' split) <;> simp

@[simp] theorem State.restSaid_frame (id : ResId) (period : Ticks) (s : State) :
    (State.restSaid id period s).pending = s.pending ∧ (State.restSaid id period s).now = s.now ∧
      (State.restSaid id period s).part = s.part ∧ (State.restSaid id period s).wake = s.wake ∧
      (State.restSaid id period s).jomen = s.jomen ∧ (State.restSaid id period s).radio = s.radio ∧
      (State.restSaid id period s).rx = s.rx ∧ (State.restSaid id period s).time = s.time ∧
      (State.restSaid id period s).sched = s.sched ∧ (State.restSaid id period s).net = s.net ∧
      (State.restSaid id period s).work = s.work ∧ (State.restSaid id period s).roster = s.roster ∧
      (State.restSaid id period s).store = s.store ∧ (State.restSaid id period s).image = s.image ∧
      (State.restSaid id period s).faults = s.faults := by
  simp [State.restSaid]

@[simp] theorem State.loseEnum_frame (n : ℕ) (s : State) :
    (State.loseEnum n s).pending = s.pending ∧ (State.loseEnum n s).now = s.now ∧
      (State.loseEnum n s).part = s.part ∧ (State.loseEnum n s).wake = s.wake ∧
      (State.loseEnum n s).jomen = s.jomen ∧ (State.loseEnum n s).radio = s.radio ∧
      (State.loseEnum n s).rx = s.rx ∧ (State.loseEnum n s).time = s.time ∧ (State.loseEnum n s).sched = s.sched ∧
      (State.loseEnum n s).net = s.net ∧ (State.loseEnum n s).work = s.work ∧
      (State.loseEnum n s).roster = s.roster ∧ (State.loseEnum n s).image = s.image ∧
      (State.loseEnum n s).faults = s.faults := by
  simp [State.loseEnum]

@[simp] theorem State.toCounter_frame (s : State) :
    (State.toCounter s).pending = s.pending ∧ (State.toCounter s).now = s.now ∧
      (State.toCounter s).part = s.part ∧ (State.toCounter s).wake = s.wake ∧
      (State.toCounter s).jomen = s.jomen ∧ (State.toCounter s).radio = s.radio ∧ (State.toCounter s).rx = s.rx ∧
      (State.toCounter s).sched = s.sched ∧ (State.toCounter s).net = s.net ∧ (State.toCounter s).work = s.work ∧
      (State.toCounter s).roster = s.roster ∧ (State.toCounter s).store = s.store ∧
      (State.toCounter s).image = s.image ∧ (State.toCounter s).faults = s.faults := by
  simp [State.toCounter]

@[simp] theorem State.retire_frame (o : Origin) (id : ResId) (cause : ℕ) (s : State) :
    (State.retire o id cause s).pending = s.pending ∧ (State.retire o id cause s).now = s.now ∧
      (State.retire o id cause s).part = s.part ∧ (State.retire o id cause s).wake = s.wake ∧
      (State.retire o id cause s).jomen = s.jomen ∧ (State.retire o id cause s).radio = s.radio ∧
      (State.retire o id cause s).rx = s.rx ∧ (State.retire o id cause s).time = s.time ∧
      (State.retire o id cause s).sched = s.sched ∧ (State.retire o id cause s).net = s.net ∧
      (State.retire o id cause s).work = s.work ∧ (State.retire o id cause s).roster = s.roster ∧
      (State.retire o id cause s).image = s.image := by
  simp [State.retire]

@[simp] theorem State.fold_frame (sd : Side) (det : WakeDet) (code : ℕ) (reason : ℕ) (s : State) :
    (State.fold sd det code reason s).pending = s.pending ∧ (State.fold sd det code reason s).now = s.now ∧
      (State.fold sd det code reason s).part = s.part ∧ (State.fold sd det code reason s).jomen = s.jomen ∧
      (State.fold sd det code reason s).radio = s.radio ∧ (State.fold sd det code reason s).rx = s.rx ∧
      (State.fold sd det code reason s).time = s.time ∧ (State.fold sd det code reason s).sched = s.sched ∧
      (State.fold sd det code reason s).net = s.net ∧ (State.fold sd det code reason s).work = s.work ∧
      (State.fold sd det code reason s).roster = s.roster ∧ (State.fold sd det code reason s).store = s.store ∧
      (State.fold sd det code reason s).image = s.image ∧
      (State.fold sd det code reason s).faults = s.faults := by
  simp [State.fold]

@[simp] theorem State.wmAct_frame (n : Fin 8) (s : State) :
    (State.wmAct n s).pending = s.pending ∧ (State.wmAct n s).now = s.now ∧ (State.wmAct n s).part = s.part ∧
      (State.wmAct n s).wake = s.wake ∧ (State.wmAct n s).jomen = s.jomen ∧ (State.wmAct n s).radio = s.radio ∧
      (State.wmAct n s).rx = s.rx ∧ (State.wmAct n s).time = s.time ∧ (State.wmAct n s).sched = s.sched ∧
      (State.wmAct n s).net = s.net ∧ (State.wmAct n s).work = s.work ∧ (State.wmAct n s).roster = s.roster ∧
      (State.wmAct n s).store = s.store ∧ (State.wmAct n s).image = s.image ∧
      (State.wmAct n s).faults = s.faults := by
  simp [State.wmAct]

@[simp] theorem State.join_frame (s : State) :
    (State.join s).pending = s.pending ∧ (State.join s).now = s.now ∧ (State.join s).part = s.part ∧
      (State.join s).wake = s.wake ∧ (State.join s).jomen = s.jomen ∧ (State.join s).radio = s.radio ∧
      (State.join s).rx = s.rx ∧ (State.join s).time = s.time ∧ (State.join s).sched = s.sched ∧
      (State.join s).work = s.work ∧ (State.join s).roster = s.roster ∧ (State.join s).image = s.image ∧
      (State.join s).faults = s.faults := by
  unfold State.join; (repeat' split) <;> simp

@[simp] theorem State.burstWork_frame (p : BurstFor) (s : State) :
    (State.burstWork p s).pending = s.pending ∧ (State.burstWork p s).now = s.now ∧
      (State.burstWork p s).part = s.part ∧ (State.burstWork p s).params = s.params ∧
      (State.burstWork p s).line = s.line ∧ (State.burstWork p s).wake = s.wake ∧
      (State.burstWork p s).jomen = s.jomen ∧ (State.burstWork p s).time = s.time ∧
      (State.burstWork p s).sched = s.sched ∧ (State.burstWork p s).roster = s.roster ∧
      (State.burstWork p s).mon = s.mon ∧ (State.burstWork p s).pm = s.pm ∧
      (State.burstWork p s).store = s.store ∧ (State.burstWork p s).image = s.image ∧
      (State.burstWork p s).faults = s.faults := by
  unfold State.burstWork; dsimp only; (repeat' split) <;> simp

@[simp] theorem State.bufCheck_frame (s : State) :
    (State.bufCheck s).pending = s.pending ∧ (State.bufCheck s).now = s.now ∧ (State.bufCheck s).part = s.part ∧
      (State.bufCheck s).wake = s.wake ∧ (State.bufCheck s).jomen = s.jomen ∧ (State.bufCheck s).radio = s.radio ∧
      (State.bufCheck s).time = s.time ∧ (State.bufCheck s).sched = s.sched ∧ (State.bufCheck s).net = s.net ∧
      (State.bufCheck s).work = s.work ∧ (State.bufCheck s).roster = s.roster ∧
      (State.bufCheck s).store = s.store ∧ (State.bufCheck s).image = s.image ∧
      (State.bufCheck s).faults = s.faults := by
  simp [State.bufCheck]

@[simp] theorem State.finish_frame (o : Origin) (h : Hdr) (v : Verb) (d : Done) :
    (State.finish o h v d).pending = d.s.pending ∧ (State.finish o h v d).now = d.s.now ∧
      (State.finish o h v d).part = d.s.part ∧ (State.finish o h v d).wake = d.s.wake ∧
      (State.finish o h v d).jomen = d.s.jomen ∧ (State.finish o h v d).radio = d.s.radio ∧
      (State.finish o h v d).rx = d.s.rx ∧ (State.finish o h v d).time = d.s.time ∧
      (State.finish o h v d).sched = d.s.sched ∧ (State.finish o h v d).net = d.s.net ∧
      (State.finish o h v d).work = d.s.work ∧ (State.finish o h v d).roster = d.s.roster ∧
      (State.finish o h v d).mon = d.s.mon ∧ (State.finish o h v d).pm = d.s.pm ∧
      (State.finish o h v d).image = d.s.image ∧ (State.finish o h v d).faults = d.s.faults := by
  unfold State.finish State.recordLine State.refusedAud; (repeat' split) <;> simp

@[simp] theorem State.vauxAnswer_frame (e : Option Err) (w : String) (s : State) :
    (State.vauxAnswer e w s).pending = s.pending ∧ (State.vauxAnswer e w s).now = s.now ∧
      (State.vauxAnswer e w s).part = s.part ∧ (State.vauxAnswer e w s).wake = s.wake ∧
      (State.vauxAnswer e w s).jomen = s.jomen ∧ (State.vauxAnswer e w s).radio = s.radio ∧
      (State.vauxAnswer e w s).rx = s.rx ∧ (State.vauxAnswer e w s).time = s.time ∧
      (State.vauxAnswer e w s).sched = s.sched ∧ (State.vauxAnswer e w s).net = s.net ∧
      (State.vauxAnswer e w s).work = s.work ∧ (State.vauxAnswer e w s).roster = s.roster ∧
      (State.vauxAnswer e w s).pm = s.pm ∧ (State.vauxAnswer e w s).image = s.image ∧
      (State.vauxAnswer e w s).faults = s.faults := by
  unfold State.vauxAnswer; (repeat' split) <;> simp

@[simp] theorem State.retireBlock_frame (o : Origin) (block : ℕ) (cause : ℕ) (s : State) :
    (State.retireBlock o block cause s).pending = s.pending ∧ (State.retireBlock o block cause s).now = s.now ∧
      (State.retireBlock o block cause s).part = s.part ∧ (State.retireBlock o block cause s).wake = s.wake ∧
      (State.retireBlock o block cause s).jomen = s.jomen ∧ (State.retireBlock o block cause s).radio = s.radio ∧
      (State.retireBlock o block cause s).rx = s.rx ∧ (State.retireBlock o block cause s).time = s.time ∧
      (State.retireBlock o block cause s).sched = s.sched ∧ (State.retireBlock o block cause s).net = s.net ∧
      (State.retireBlock o block cause s).work = s.work ∧ (State.retireBlock o block cause s).roster = s.roster ∧
      (State.retireBlock o block cause s).image = s.image := by
  simp [State.retireBlock]

@[simp] theorem State.listenLc_frame (q : LcSeq) (s : State) :
    (State.listenLc q s).pending = s.pending ∧ (State.listenLc q s).now = s.now ∧
      (State.listenLc q s).part = s.part ∧ (State.listenLc q s).params = s.params ∧
      (State.listenLc q s).line = s.line ∧ (State.listenLc q s).wake = s.wake ∧
      (State.listenLc q s).jomen = s.jomen ∧ (State.listenLc q s).time = s.time ∧
      (State.listenLc q s).sched = s.sched ∧ (State.listenLc q s).net = s.net ∧
      (State.listenLc q s).work = s.work ∧ (State.listenLc q s).roster = s.roster ∧
      (State.listenLc q s).mon = s.mon ∧ (State.listenLc q s).pm = s.pm ∧ (State.listenLc q s).store = s.store ∧
      (State.listenLc q s).image = s.image ∧ (State.listenLc q s).faults = s.faults := by
  unfold State.listenLc; (repeat' split) <;> simp

@[simp] theorem State.loseReply_frame (s : State) :
    (State.loseReply s).pending = s.pending ∧ (State.loseReply s).now = s.now ∧
      (State.loseReply s).part = s.part ∧ (State.loseReply s).wake = s.wake ∧
      (State.loseReply s).jomen = s.jomen ∧ (State.loseReply s).radio = s.radio ∧ (State.loseReply s).rx = s.rx ∧
      (State.loseReply s).time = s.time ∧ (State.loseReply s).sched = s.sched ∧ (State.loseReply s).net = s.net ∧
      (State.loseReply s).work = s.work ∧ (State.loseReply s).roster = s.roster ∧
      (State.loseReply s).store = s.store ∧ (State.loseReply s).image = s.image ∧
      (State.loseReply s).faults = s.faults := by
  simp [State.loseReply]

@[simp] theorem State.giveIndex_frame (i : ℕ) (e : Entry) (s : State) :
    (State.giveIndex i e s).pending = s.pending ∧ (State.giveIndex i e s).now = s.now ∧
      (State.giveIndex i e s).part = s.part ∧ (State.giveIndex i e s).radio = s.radio ∧
      (State.giveIndex i e s).rx = s.rx ∧ (State.giveIndex i e s).time = s.time ∧
      (State.giveIndex i e s).sched = s.sched ∧ (State.giveIndex i e s).net = s.net ∧
      (State.giveIndex i e s).work = s.work ∧ (State.giveIndex i e s).store = s.store ∧
      (State.giveIndex i e s).image = s.image ∧ (State.giveIndex i e s).faults = s.faults := by
  simp [State.giveIndex]

@[simp] theorem State.reinstate_frame (o : Origin) (id : ResId) (s : State) :
    (State.reinstate o id s).pending = s.pending ∧ (State.reinstate o id s).now = s.now ∧
      (State.reinstate o id s).part = s.part ∧ (State.reinstate o id s).wake = s.wake ∧
      (State.reinstate o id s).jomen = s.jomen ∧ (State.reinstate o id s).radio = s.radio ∧
      (State.reinstate o id s).rx = s.rx ∧ (State.reinstate o id s).time = s.time ∧
      (State.reinstate o id s).sched = s.sched ∧ (State.reinstate o id s).net = s.net ∧
      (State.reinstate o id s).work = s.work ∧ (State.reinstate o id s).roster = s.roster ∧
      (State.reinstate o id s).image = s.image := by
  simp [State.reinstate]

@[simp] theorem State.lcNote_frame (i : ℕ) (attempt : ℕ) (r : LcResult) (s : State) :
    (State.lcNote i attempt r s).pending = s.pending ∧ (State.lcNote i attempt r s).now = s.now ∧
      (State.lcNote i attempt r s).part = s.part ∧ (State.lcNote i attempt r s).wake = s.wake ∧
      (State.lcNote i attempt r s).jomen = s.jomen ∧ (State.lcNote i attempt r s).radio = s.radio ∧
      (State.lcNote i attempt r s).rx = s.rx ∧ (State.lcNote i attempt r s).time = s.time ∧
      (State.lcNote i attempt r s).sched = s.sched ∧ (State.lcNote i attempt r s).net = s.net ∧
      (State.lcNote i attempt r s).roster = s.roster ∧ (State.lcNote i attempt r s).store = s.store ∧
      (State.lcNote i attempt r s).image = s.image ∧ (State.lcNote i attempt r s).faults = s.faults := by
  simp [State.lcNote]

@[simp] theorem State.coldMode_frame (wasNormal : Bool) (s : State) :
    (State.coldMode wasNormal s).pending = s.pending ∧ (State.coldMode wasNormal s).now = s.now ∧
      (State.coldMode wasNormal s).part = s.part ∧ (State.coldMode wasNormal s).wake = s.wake ∧
      (State.coldMode wasNormal s).jomen = s.jomen ∧ (State.coldMode wasNormal s).radio = s.radio ∧
      (State.coldMode wasNormal s).rx = s.rx ∧ (State.coldMode wasNormal s).time = s.time ∧
      (State.coldMode wasNormal s).sched = s.sched ∧ (State.coldMode wasNormal s).net = s.net ∧
      (State.coldMode wasNormal s).work = s.work ∧ (State.coldMode wasNormal s).roster = s.roster ∧
      (State.coldMode wasNormal s).image = s.image ∧ (State.coldMode wasNormal s).faults = s.faults := by
  simp [State.coldMode]

@[simp] theorem State.restAerial_frame (sd : Side) (s : State) :
    (State.restAerial sd s).pending = s.pending ∧ (State.restAerial sd s).now = s.now ∧
      (State.restAerial sd s).part = s.part ∧ (State.restAerial sd s).wake = s.wake ∧
      (State.restAerial sd s).jomen = s.jomen ∧ (State.restAerial sd s).rx = s.rx ∧
      (State.restAerial sd s).time = s.time ∧ (State.restAerial sd s).sched = s.sched ∧
      (State.restAerial sd s).net = s.net ∧ (State.restAerial sd s).work = s.work ∧
      (State.restAerial sd s).roster = s.roster ∧ (State.restAerial sd s).store = s.store ∧
      (State.restAerial sd s).image = s.image ∧ (State.restAerial sd s).faults = s.faults := by
  simp [State.restAerial]

@[simp] theorem State.listenReacq_frame (q : Reacq) (s : State) :
    (State.listenReacq q s).pending = s.pending ∧ (State.listenReacq q s).now = s.now ∧
      (State.listenReacq q s).part = s.part ∧ (State.listenReacq q s).params = s.params ∧
      (State.listenReacq q s).line = s.line ∧ (State.listenReacq q s).wake = s.wake ∧
      (State.listenReacq q s).jomen = s.jomen ∧ (State.listenReacq q s).time = s.time ∧
      (State.listenReacq q s).sched = s.sched ∧ (State.listenReacq q s).net = s.net ∧
      (State.listenReacq q s).work = s.work ∧ (State.listenReacq q s).roster = s.roster ∧
      (State.listenReacq q s).mon = s.mon ∧ (State.listenReacq q s).pm = s.pm ∧
      (State.listenReacq q s).store = s.store ∧ (State.listenReacq q s).image = s.image ∧
      (State.listenReacq q s).faults = s.faults := by
  simp [State.listenReacq]

@[simp] theorem State.coexHigh_frame (s : State) :
    (State.coexHigh s).pending = s.pending ∧ (State.coexHigh s).now = s.now ∧ (State.coexHigh s).part = s.part ∧
      (State.coexHigh s).wake = s.wake ∧ (State.coexHigh s).jomen = s.jomen ∧ (State.coexHigh s).rx = s.rx ∧
      (State.coexHigh s).time = s.time ∧ (State.coexHigh s).sched = s.sched ∧ (State.coexHigh s).net = s.net ∧
      (State.coexHigh s).work = s.work ∧ (State.coexHigh s).roster = s.roster ∧
      (State.coexHigh s).store = s.store ∧ (State.coexHigh s).image = s.image ∧
      (State.coexHigh s).faults = s.faults := by
  simp [State.coexHigh]

@[simp] theorem State.listenWaits_frame (s : State) :
    (State.listenWaits s).pending = s.pending ∧ (State.listenWaits s).now = s.now ∧
      (State.listenWaits s).part = s.part ∧ (State.listenWaits s).params = s.params ∧
      (State.listenWaits s).line = s.line ∧ (State.listenWaits s).wake = s.wake ∧
      (State.listenWaits s).jomen = s.jomen ∧ (State.listenWaits s).time = s.time ∧
      (State.listenWaits s).sched = s.sched ∧ (State.listenWaits s).net = s.net ∧
      (State.listenWaits s).work = s.work ∧ (State.listenWaits s).roster = s.roster ∧
      (State.listenWaits s).mon = s.mon ∧ (State.listenWaits s).pm = s.pm ∧
      (State.listenWaits s).store = s.store ∧ (State.listenWaits s).image = s.image ∧
      (State.listenWaits s).faults = s.faults := by
  simp [State.listenWaits]

@[simp] theorem State.unattached_frame (s : State) :
    (State.unattached s).pending = s.pending ∧ (State.unattached s).now = s.now ∧
      (State.unattached s).part = s.part ∧ (State.unattached s).wake = s.wake ∧
      (State.unattached s).jomen = s.jomen ∧ (State.unattached s).radio = s.radio ∧
      (State.unattached s).rx = s.rx ∧ (State.unattached s).time = s.time ∧ (State.unattached s).sched = s.sched ∧
      (State.unattached s).net = s.net ∧ (State.unattached s).work = s.work ∧
      (State.unattached s).store = s.store ∧ (State.unattached s).image = s.image ∧
      (State.unattached s).faults = s.faults := by
  simp [State.unattached]

@[simp] theorem execWakeSeen.take_frame (s : State) (r : Option ℕ) :
    (execWakeSeen.take s r).s.pending = s.pending ∧ (execWakeSeen.take s r).s.now = s.now ∧
      (execWakeSeen.take s r).s.part = s.part ∧ (execWakeSeen.take s r).s.jomen = s.jomen ∧
      (execWakeSeen.take s r).s.radio = s.radio ∧ (execWakeSeen.take s r).s.rx = s.rx ∧
      (execWakeSeen.take s r).s.time = s.time ∧ (execWakeSeen.take s r).s.sched = s.sched ∧
      (execWakeSeen.take s r).s.net = s.net ∧ (execWakeSeen.take s r).s.work = s.work ∧
      (execWakeSeen.take s r).s.store = s.store ∧ (execWakeSeen.take s r).s.image = s.image ∧
      (execWakeSeen.take s r).s.faults = s.faults := by
  simp [execWakeSeen.take]

@[simp] theorem State.wclkEdge_frame (s : State) :
    (State.wclkEdge s).pending = s.pending ∧ (State.wclkEdge s).now = s.now ∧ (State.wclkEdge s).part = s.part ∧
      (State.wclkEdge s).jomen = s.jomen ∧ (State.wclkEdge s).radio = s.radio ∧ (State.wclkEdge s).rx = s.rx ∧
      (State.wclkEdge s).time = s.time ∧ (State.wclkEdge s).sched = s.sched ∧ (State.wclkEdge s).net = s.net ∧
      (State.wclkEdge s).work = s.work ∧ (State.wclkEdge s).roster = s.roster ∧
      (State.wclkEdge s).store = s.store ∧ (State.wclkEdge s).image = s.image ∧
      (State.wclkEdge s).faults = s.faults := by
  simp [State.wclkEdge]

@[simp] theorem State.branchLimit_frame (sd : Side) (s : State) :
    (State.branchLimit sd s).pending = s.pending ∧ (State.branchLimit sd s).now = s.now ∧
      (State.branchLimit sd s).part = s.part ∧ (State.branchLimit sd s).jomen = s.jomen ∧
      (State.branchLimit sd s).radio = s.radio ∧ (State.branchLimit sd s).rx = s.rx ∧
      (State.branchLimit sd s).time = s.time ∧ (State.branchLimit sd s).sched = s.sched ∧
      (State.branchLimit sd s).net = s.net ∧ (State.branchLimit sd s).work = s.work ∧
      (State.branchLimit sd s).roster = s.roster ∧ (State.branchLimit sd s).image = s.image := by
  simp [State.branchLimit]

@[simp] theorem State.abandon_frame (s : State) :
    (State.abandon s).pending = s.pending ∧ (State.abandon s).now = s.now ∧ (State.abandon s).part = s.part ∧
      (State.abandon s).jomen = s.jomen ∧ (State.abandon s).radio = s.radio ∧ (State.abandon s).rx = s.rx ∧
      (State.abandon s).time = s.time ∧ (State.abandon s).sched = s.sched ∧ (State.abandon s).net = s.net ∧
      (State.abandon s).work = s.work ∧ (State.abandon s).roster = s.roster ∧ (State.abandon s).store = s.store ∧
      (State.abandon s).image = s.image ∧ (State.abandon s).faults = s.faults := by
  unfold State.abandon; dsimp only; (repeat' split) <;> simp

@[simp] theorem State.acceptEntry_frame (i : ℕ) (l : BitVec 32) (w : BitVec 32) (x : RxFrame) (s : State) :
    (State.acceptEntry i l w x s).pending = s.pending ∧ (State.acceptEntry i l w x s).now = s.now ∧
      (State.acceptEntry i l w x s).part = s.part ∧ (State.acceptEntry i l w x s).wake = s.wake ∧
      (State.acceptEntry i l w x s).jomen = s.jomen ∧ (State.acceptEntry i l w x s).radio = s.radio ∧
      (State.acceptEntry i l w x s).time = s.time ∧ (State.acceptEntry i l w x s).sched = s.sched ∧
      (State.acceptEntry i l w x s).work = s.work ∧ (State.acceptEntry i l w x s).store = s.store ∧
      (State.acceptEntry i l w x s).image = s.image := by
  simp [State.acceptEntry]

@[simp] theorem State.unlatch_frame (n : Fin 8) (s : State) :
    (State.unlatch n s).pending = s.pending ∧ (State.unlatch n s).now = s.now ∧
      (State.unlatch n s).part = s.part ∧ (State.unlatch n s).wake = s.wake ∧
      (State.unlatch n s).jomen = s.jomen ∧ (State.unlatch n s).radio = s.radio ∧ (State.unlatch n s).rx = s.rx ∧
      (State.unlatch n s).time = s.time ∧ (State.unlatch n s).sched = s.sched ∧ (State.unlatch n s).net = s.net ∧
      (State.unlatch n s).work = s.work ∧ (State.unlatch n s).roster = s.roster ∧
      (State.unlatch n s).store = s.store ∧ (State.unlatch n s).image = s.image ∧
      (State.unlatch n s).faults = s.faults := by
  simp [State.unlatch]

@[simp] theorem State.singleCell_frame (id : ℕ) (sub : ℕ) (k : ℕ) (f : Frame) (r : RxInfo) (s : State) :
    (State.singleCell id sub k f r s).2.pending = s.pending ∧ (State.singleCell id sub k f r s).2.now = s.now ∧
      (State.singleCell id sub k f r s).2.part = s.part ∧ (State.singleCell id sub k f r s).2.wake = s.wake ∧
      (State.singleCell id sub k f r s).2.jomen = s.jomen ∧ (State.singleCell id sub k f r s).2.radio = s.radio ∧
      (State.singleCell id sub k f r s).2.time = s.time ∧ (State.singleCell id sub k f r s).2.sched = s.sched ∧
      (State.singleCell id sub k f r s).2.net = s.net ∧ (State.singleCell id sub k f r s).2.roster = s.roster ∧
      (State.singleCell id sub k f r s).2.store = s.store ∧ (State.singleCell id sub k f r s).2.image = s.image ∧
      (State.singleCell id sub k f r s).2.faults = s.faults := by
  unfold State.singleCell; (repeat' split) <;> simp

theorem State.singleCell_eq {id : ℕ} {sub : ℕ} {k : ℕ} {f : Frame} {r : RxInfo} {s : State} {r_ : _} (h_ : (State.singleCell id sub k f r s) = r_) :
    r_.2.pending = s.pending ∧ r_.2.now = s.now ∧ r_.2.part = s.part ∧ r_.2.wake = s.wake ∧ r_.2.jomen = s.jomen ∧
      r_.2.radio = s.radio ∧ r_.2.time = s.time ∧ r_.2.sched = s.sched ∧ r_.2.net = s.net ∧
      r_.2.roster = s.roster ∧ r_.2.store = s.store ∧ r_.2.image = s.image ∧ r_.2.faults = s.faults := by
  subst h_; exact State.singleCell_frame id sub k f r s

@[simp] theorem State.recordUnattached_frame (e : Entry) (l : BitVec 32) (w : BitVec 32) (x : RxFrame)
    (plain : List Byte) (admission : Bool) (s : State) :
    (State.recordUnattached e l w x plain admission s).2.pending = s.pending ∧
      (State.recordUnattached e l w x plain admission s).2.now = s.now ∧
      (State.recordUnattached e l w x plain admission s).2.part = s.part ∧
      (State.recordUnattached e l w x plain admission s).2.wake = s.wake ∧
      (State.recordUnattached e l w x plain admission s).2.jomen = s.jomen ∧
      (State.recordUnattached e l w x plain admission s).2.radio = s.radio ∧
      (State.recordUnattached e l w x plain admission s).2.time = s.time ∧
      (State.recordUnattached e l w x plain admission s).2.sched = s.sched ∧
      (State.recordUnattached e l w x plain admission s).2.net = s.net ∧
      (State.recordUnattached e l w x plain admission s).2.work = s.work ∧
      (State.recordUnattached e l w x plain admission s).2.image = s.image ∧
      (State.recordUnattached e l w x plain admission s).2.faults = s.faults := by
  simp [State.recordUnattached]

theorem State.recordUnattached_eq {e : Entry} {l : BitVec 32} {w : BitVec 32} {x : RxFrame} {plain : List Byte} {admission : Bool} {s : State} {r_ : _} (h_ : (State.recordUnattached e l w x plain admission s) = r_) :
    r_.2.pending = s.pending ∧ r_.2.now = s.now ∧ r_.2.part = s.part ∧ r_.2.wake = s.wake ∧ r_.2.jomen = s.jomen ∧
      r_.2.radio = s.radio ∧ r_.2.time = s.time ∧ r_.2.sched = s.sched ∧ r_.2.net = s.net ∧ r_.2.work = s.work ∧
      r_.2.image = s.image ∧ r_.2.faults = s.faults := by
  subst h_; exact State.recordUnattached_frame e l w x plain admission s

@[simp] theorem State.loader_frame (selfTest : Bool) (s : State) :
    (State.loader selfTest s).pending = s.pending ∧ (State.loader selfTest s).now = s.now ∧
      (State.loader selfTest s).part = s.part ∧ (State.loader selfTest s).wake = s.wake ∧
      (State.loader selfTest s).jomen = s.jomen ∧ (State.loader selfTest s).radio = s.radio ∧
      (State.loader selfTest s).rx = s.rx ∧ (State.loader selfTest s).time = s.time ∧
      (State.loader selfTest s).sched = s.sched ∧ (State.loader selfTest s).net = s.net ∧
      (State.loader selfTest s).work = s.work ∧ (State.loader selfTest s).roster = s.roster ∧
      (State.loader selfTest s).faults = s.faults := by
  simp [State.loader]

@[simp] theorem State.record_frame (sd : Side) (det : WakeDet) (d : Decoded) (syncErr : ℕ) (rssi : ℤ) (s : State) :
    (State.record sd det d syncErr rssi s).pending = s.pending ∧
      (State.record sd det d syncErr rssi s).now = s.now ∧ (State.record sd det d syncErr rssi s).part = s.part ∧
      (State.record sd det d syncErr rssi s).jomen = s.jomen ∧
      (State.record sd det d syncErr rssi s).radio = s.radio ∧ (State.record sd det d syncErr rssi s).rx = s.rx ∧
      (State.record sd det d syncErr rssi s).time = s.time ∧
      (State.record sd det d syncErr rssi s).sched = s.sched ∧
      (State.record sd det d syncErr rssi s).net = s.net ∧ (State.record sd det d syncErr rssi s).work = s.work ∧
      (State.record sd det d syncErr rssi s).roster = s.roster ∧
      (State.record sd det d syncErr rssi s).store = s.store ∧
      (State.record sd det d syncErr rssi s).image = s.image ∧
      (State.record sd det d syncErr rssi s).faults = s.faults := by
  simp [State.record]

@[simp] theorem State.reinstateAny.channel_frame (o : Origin) (r : ResId) (s : State) :
    (State.reinstateAny.channel o r s).pending = s.pending ∧ (State.reinstateAny.channel o r s).now = s.now ∧
      (State.reinstateAny.channel o r s).part = s.part ∧ (State.reinstateAny.channel o r s).wake = s.wake ∧
      (State.reinstateAny.channel o r s).jomen = s.jomen ∧ (State.reinstateAny.channel o r s).radio = s.radio ∧
      (State.reinstateAny.channel o r s).rx = s.rx ∧ (State.reinstateAny.channel o r s).time = s.time ∧
      (State.reinstateAny.channel o r s).net = s.net ∧ (State.reinstateAny.channel o r s).work = s.work ∧
      (State.reinstateAny.channel o r s).roster = s.roster ∧
      (State.reinstateAny.channel o r s).image = s.image := by
  simp [State.reinstateAny.channel]

@[simp] theorem State.markUnreach_frame (i : ℕ) (s : State) :
    (State.markUnreach i s).pending = s.pending ∧ (State.markUnreach i s).now = s.now ∧
      (State.markUnreach i s).part = s.part ∧ (State.markUnreach i s).wake = s.wake ∧
      (State.markUnreach i s).radio = s.radio ∧ (State.markUnreach i s).time = s.time ∧
      (State.markUnreach i s).sched = s.sched ∧ (State.markUnreach i s).net = s.net ∧
      (State.markUnreach i s).image = s.image := by
  simp [State.markUnreach]

@[simp] theorem State.deadlines_frame (s : State) :
    (State.deadlines s).pending = s.pending ∧ (State.deadlines s).now = s.now ∧
      (State.deadlines s).part = s.part ∧ (State.deadlines s).wake = s.wake ∧
      (State.deadlines s).radio = s.radio ∧ (State.deadlines s).time = s.time ∧
      (State.deadlines s).sched = s.sched ∧ (State.deadlines s).net = s.net ∧
      (State.deadlines s).image = s.image ∧ (State.deadlines s).faults = s.faults := by
  simp [State.deadlines]

@[simp] theorem State.endRound_frame (s : State) :
    (State.endRound s).pending = s.pending ∧ (State.endRound s).now = s.now ∧ (State.endRound s).part = s.part ∧
      (State.endRound s).time = s.time ∧ (State.endRound s).sched = s.sched ∧ (State.endRound s).net = s.net ∧
      (State.endRound s).image = s.image ∧ (State.endRound s).faults = s.faults := by
  unfold State.endRound; (repeat' split) <;> simp

@[simp] theorem State.adoptChannel_frame (eff : ℕ) (set : ℕ) (id : ResId) (s : State) :
    (State.adoptChannel eff set id s).pending = s.pending ∧ (State.adoptChannel eff set id s).now = s.now ∧
      (State.adoptChannel eff set id s).part = s.part ∧ (State.adoptChannel eff set id s).wake = s.wake ∧
      (State.adoptChannel eff set id s).jomen = s.jomen ∧ (State.adoptChannel eff set id s).radio = s.radio ∧
      (State.adoptChannel eff set id s).rx = s.rx ∧ (State.adoptChannel eff set id s).time = s.time ∧
      (State.adoptChannel eff set id s).net = s.net ∧ (State.adoptChannel eff set id s).work = s.work ∧
      (State.adoptChannel eff set id s).roster = s.roster ∧
      (State.adoptChannel eff set id s).image = s.image := by
  simp [State.adoptChannel]

@[simp] theorem State.pushReport_frame (i : ℕ) (plain : List Byte) (s : State) :
    (State.pushReport i plain s).pending = s.pending ∧ (State.pushReport i plain s).now = s.now ∧
      (State.pushReport i plain s).part = s.part ∧ (State.pushReport i plain s).wake = s.wake ∧
      (State.pushReport i plain s).radio = s.radio ∧ (State.pushReport i plain s).time = s.time ∧
      (State.pushReport i plain s).sched = s.sched ∧ (State.pushReport i plain s).net = s.net ∧
      (State.pushReport i plain s).image = s.image ∧ (State.pushReport i plain s).faults = s.faults := by
  unfold State.pushReport; dsimp only; (repeat' split) <;> simp

@[simp] theorem State.loseContact_frame (h : Handle) (s : State) :
    (State.loseContact h s).pending = s.pending ∧ (State.loseContact h s).now = s.now ∧
      (State.loseContact h s).part = s.part ∧ (State.loseContact h s).wake = s.wake ∧
      (State.loseContact h s).radio = s.radio ∧ (State.loseContact h s).rx = s.rx ∧
      (State.loseContact h s).time = s.time ∧ (State.loseContact h s).sched = s.sched ∧
      (State.loseContact h s).work = s.work ∧ (State.loseContact h s).roster = s.roster ∧
      (State.loseContact h s).image = s.image ∧ (State.loseContact h s).faults = s.faults := by
  unfold State.loseContact; dsimp only; (repeat' split) <;> simp

@[simp] theorem State.reacqFailed_frame (i : ℕ) (s : State) :
    (State.reacqFailed i s).pending = s.pending ∧ (State.reacqFailed i s).now = s.now ∧
      (State.reacqFailed i s).part = s.part ∧ (State.reacqFailed i s).wake = s.wake ∧
      (State.reacqFailed i s).radio = s.radio ∧ (State.reacqFailed i s).time = s.time ∧
      (State.reacqFailed i s).sched = s.sched ∧ (State.reacqFailed i s).image = s.image := by
  simp [State.reacqFailed]

@[simp] theorem State.retirePeer_frame (o : Origin) (i : ℕ) (cause : ℕ) (s : State) :
    (State.retirePeer o i cause s).pending = s.pending ∧ (State.retirePeer o i cause s).now = s.now ∧
      (State.retirePeer o i cause s).part = s.part ∧ (State.retirePeer o i cause s).radio = s.radio ∧
      (State.retirePeer o i cause s).time = s.time ∧ (State.retirePeer o i cause s).sched = s.sched ∧
      (State.retirePeer o i cause s).net = s.net ∧ (State.retirePeer o i cause s).image = s.image := by
  unfold State.retirePeer; (repeat' split) <;> simp

@[simp] theorem State.applyTime_frame (s : State) :
    (State.applyTime s).2.pending = s.pending ∧ (State.applyTime s).2.now = s.now ∧
      (State.applyTime s).2.part = s.part ∧ (State.applyTime s).2.wake = s.wake ∧
      (State.applyTime s).2.jomen = s.jomen ∧ (State.applyTime s).2.radio = s.radio ∧
      (State.applyTime s).2.rx = s.rx ∧ (State.applyTime s).2.sched = s.sched ∧
      (State.applyTime s).2.image = s.image ∧ (State.applyTime s).2.faults = s.faults := by
  unfold State.applyTime; dsimp only; (repeat' split) <;> simp

theorem State.applyTime_eq {s : State} {r_ : _} (h_ : (State.applyTime s) = r_) :
    r_.2.pending = s.pending ∧ r_.2.now = s.now ∧ r_.2.part = s.part ∧ r_.2.wake = s.wake ∧ r_.2.jomen = s.jomen ∧
      r_.2.radio = s.radio ∧ r_.2.rx = s.rx ∧ r_.2.sched = s.sched ∧ r_.2.image = s.image ∧
      r_.2.faults = s.faults := by
  subst h_; exact State.applyTime_frame s

@[simp] theorem State.relatch_frame (n : Fin 8) (s : State) :
    (State.relatch n s).pending = s.pending ∧ (State.relatch n s).now = s.now ∧
      (State.relatch n s).part = s.part ∧ (State.relatch n s).wake = s.wake ∧
      (State.relatch n s).jomen = s.jomen ∧ (State.relatch n s).radio = s.radio ∧ (State.relatch n s).rx = s.rx ∧
      (State.relatch n s).time = s.time ∧ (State.relatch n s).sched = s.sched ∧ (State.relatch n s).net = s.net ∧
      (State.relatch n s).work = s.work ∧ (State.relatch n s).roster = s.roster ∧
      (State.relatch n s).store = s.store ∧ (State.relatch n s).image = s.image ∧
      (State.relatch n s).faults = s.faults := by
  simp [State.relatch]

@[simp] theorem State.restFor_frame (id : ResId) (period : Ticks) (s : State) :
    (State.restFor id period s).pending = s.pending ∧ (State.restFor id period s).now = s.now ∧
      (State.restFor id period s).part = s.part ∧ (State.restFor id period s).wake = s.wake ∧
      (State.restFor id period s).jomen = s.jomen ∧ (State.restFor id period s).radio = s.radio ∧
      (State.restFor id period s).rx = s.rx ∧ (State.restFor id period s).time = s.time ∧
      (State.restFor id period s).sched = s.sched ∧ (State.restFor id period s).net = s.net ∧
      (State.restFor id period s).work = s.work ∧ (State.restFor id period s).roster = s.roster ∧
      (State.restFor id period s).store = s.store ∧ (State.restFor id period s).image = s.image := by
  simp [State.restFor]

@[simp] theorem State.reinstateAny_frame (o : Origin) (r : ResId) (s : State) :
    (State.reinstateAny o r s).pending = s.pending ∧ (State.reinstateAny o r s).now = s.now ∧
      (State.reinstateAny o r s).part = s.part ∧ (State.reinstateAny o r s).jomen = s.jomen ∧
      (State.reinstateAny o r s).radio = s.radio ∧ (State.reinstateAny o r s).rx = s.rx ∧
      (State.reinstateAny o r s).time = s.time ∧ (State.reinstateAny o r s).net = s.net ∧
      (State.reinstateAny o r s).work = s.work ∧ (State.reinstateAny o r s).image = s.image := by
  unfold State.reinstateAny; dsimp only; (repeat' split) <;> simp

@[simp] theorem State.closeRecord_frame (r : WakeRec) (s : State) :
    (State.closeRecord r s).pending = s.pending ∧ (State.closeRecord r s).now = s.now ∧
      (State.closeRecord r s).part = s.part ∧ (State.closeRecord r s).jomen = s.jomen ∧
      (State.closeRecord r s).radio = s.radio ∧ (State.closeRecord r s).rx = s.rx ∧
      (State.closeRecord r s).time = s.time ∧ (State.closeRecord r s).sched = s.sched ∧
      (State.closeRecord r s).net = s.net ∧ (State.closeRecord r s).work = s.work ∧
      (State.closeRecord r s).roster = s.roster ∧ (State.closeRecord r s).image = s.image := by
  simp [State.closeRecord]

@[simp] theorem State.rejected_frame (id : Eui) (b : Block) (name : String) (s : State) :
    (State.rejected id b name s).pending = s.pending ∧ (State.rejected id b name s).now = s.now ∧
      (State.rejected id b name s).part = s.part ∧ (State.rejected id b name s).radio = s.radio ∧
      (State.rejected id b name s).time = s.time ∧ (State.rejected id b name s).sched = s.sched ∧
      (State.rejected id b name s).net = s.net ∧ (State.rejected id b name s).image = s.image := by
  unfold State.rejected; dsimp only; (repeat' split) <;> simp

@[simp] theorem State.clockEdges_frame (s : State) :
    (State.clockEdges s).pending = s.pending ∧ (State.clockEdges s).now = s.now ∧
      (State.clockEdges s).part = s.part ∧ (State.clockEdges s).jomen = s.jomen ∧
      (State.clockEdges s).radio = s.radio ∧ (State.clockEdges s).sched = s.sched ∧
      (State.clockEdges s).net = s.net ∧ (State.clockEdges s).work = s.work ∧
      (State.clockEdges s).roster = s.roster ∧ (State.clockEdges s).store = s.store ∧
      (State.clockEdges s).image = s.image ∧ (State.clockEdges s).faults = s.faults := by
  simp [State.clockEdges]

@[simp] theorem State.activate_frame (i : ℕ) (e : Entry) (s : State) :
    (State.activate i e s).pending = s.pending ∧ (State.activate i e s).now = s.now ∧
      (State.activate i e s).part = s.part ∧ (State.activate i e s).radio = s.radio ∧
      (State.activate i e s).rx = s.rx ∧ (State.activate i e s).time = s.time ∧
      (State.activate i e s).sched = s.sched ∧ (State.activate i e s).net = s.net ∧
      (State.activate i e s).work = s.work ∧ (State.activate i e s).store = s.store ∧
      (State.activate i e s).image = s.image ∧ (State.activate i e s).faults = s.faults := by
  simp [State.activate]

@[simp] theorem State.retireOrRest_frame (id : ResId) (cause : ℕ) (s : State) :
    (State.retireOrRest id cause s).pending = s.pending ∧ (State.retireOrRest id cause s).now = s.now ∧
      (State.retireOrRest id cause s).part = s.part ∧ (State.retireOrRest id cause s).wake = s.wake ∧
      (State.retireOrRest id cause s).jomen = s.jomen ∧ (State.retireOrRest id cause s).radio = s.radio ∧
      (State.retireOrRest id cause s).rx = s.rx ∧ (State.retireOrRest id cause s).time = s.time ∧
      (State.retireOrRest id cause s).sched = s.sched ∧ (State.retireOrRest id cause s).net = s.net ∧
      (State.retireOrRest id cause s).work = s.work ∧ (State.retireOrRest id cause s).roster = s.roster ∧
      (State.retireOrRest id cause s).image = s.image := by
  simp [State.retireOrRest]

@[simp] theorem State.bistRetire_frame (b : Bist) (s : State) :
    (State.bistRetire b s).pending = s.pending ∧ (State.bistRetire b s).now = s.now ∧
      (State.bistRetire b s).part = s.part ∧ (State.bistRetire b s).wake = s.wake ∧
      (State.bistRetire b s).jomen = s.jomen ∧ (State.bistRetire b s).radio = s.radio ∧
      (State.bistRetire b s).rx = s.rx ∧ (State.bistRetire b s).time = s.time ∧
      (State.bistRetire b s).sched = s.sched ∧ (State.bistRetire b s).net = s.net ∧
      (State.bistRetire b s).work = s.work ∧ (State.bistRetire b s).roster = s.roster ∧
      (State.bistRetire b s).image = s.image := by
  simp [State.bistRetire]

@[simp] theorem State.judgeWord_frame (sd : Side) (det : WakeDet) (d : Decoded) (syncErr : ℕ) (rssi : ℤ) (s : State) :
    (State.judgeWord sd det d syncErr rssi s).pending = s.pending ∧
      (State.judgeWord sd det d syncErr rssi s).now = s.now ∧
      (State.judgeWord sd det d syncErr rssi s).part = s.part ∧
      (State.judgeWord sd det d syncErr rssi s).jomen = s.jomen ∧
      (State.judgeWord sd det d syncErr rssi s).radio = s.radio ∧
      (State.judgeWord sd det d syncErr rssi s).rx = s.rx ∧
      (State.judgeWord sd det d syncErr rssi s).time = s.time ∧
      (State.judgeWord sd det d syncErr rssi s).sched = s.sched ∧
      (State.judgeWord sd det d syncErr rssi s).net = s.net ∧
      (State.judgeWord sd det d syncErr rssi s).work = s.work ∧
      (State.judgeWord sd det d syncErr rssi s).roster = s.roster ∧
      (State.judgeWord sd det d syncErr rssi s).store = s.store ∧
      (State.judgeWord sd det d syncErr rssi s).image = s.image ∧
      (State.judgeWord sd det d syncErr rssi s).faults = s.faults := by
  unfold State.judgeWord; dsimp only; (repeat' split) <;> simp

@[simp] theorem State.collide_frame (what : Sending) (s : State) :
    (State.collide what s).pending = s.pending ∧ (State.collide what s).now = s.now ∧
      (State.collide what s).part = s.part ∧ (State.collide what s).jomen = s.jomen ∧
      (State.collide what s).radio = s.radio ∧ (State.collide what s).rx = s.rx ∧
      (State.collide what s).time = s.time ∧ (State.collide what s).sched = s.sched ∧
      (State.collide what s).net = s.net ∧ (State.collide what s).work = s.work ∧
      (State.collide what s).roster = s.roster ∧ (State.collide what s).image = s.image ∧
      (State.collide what s).faults = s.faults := by
  unfold State.collide; (repeat' split) <;> simp

@[simp] theorem State.failAttempt_frame (id : ℕ) (silence : Bool) (s : State) :
    (State.failAttempt id silence s).pending = s.pending ∧ (State.failAttempt id silence s).now = s.now ∧
      (State.failAttempt id silence s).part = s.part ∧ (State.failAttempt id silence s).wake = s.wake ∧
      (State.failAttempt id silence s).radio = s.radio ∧ (State.failAttempt id silence s).time = s.time ∧
      (State.failAttempt id silence s).sched = s.sched ∧ (State.failAttempt id silence s).net = s.net ∧
      (State.failAttempt id silence s).image = s.image := by
  unfold State.failAttempt; (repeat' split) <;> simp

@[simp] theorem State.calledAttempt_frame (f : Flight) (s : State) :
    (State.calledAttempt f s).pending = s.pending ∧ (State.calledAttempt f s).now = s.now ∧
      (State.calledAttempt f s).part = s.part ∧ (State.calledAttempt f s).wake = s.wake ∧
      (State.calledAttempt f s).time = s.time ∧ (State.calledAttempt f s).sched = s.sched ∧
      (State.calledAttempt f s).net = s.net ∧ (State.calledAttempt f s).image = s.image := by
  unfold State.calledAttempt; dsimp only; (repeat' split) <;> simp

@[simp] theorem State.coldStart_frame (cause : ColdCause) (b : Bist) (temp : ℤ) (s : State) :
    (State.coldStart cause b temp s).pending = s.pending ∧ (State.coldStart cause b temp s).now = s.now ∧
      (State.coldStart cause b temp s).part = s.part := by
  simp [State.coldStart]

@[simp] theorem State.transient_frame (id : ResId) (s : State) :
    (State.transient id s).pending = s.pending ∧ (State.transient id s).now = s.now ∧
      (State.transient id s).part = s.part ∧ (State.transient id s).wake = s.wake ∧
      (State.transient id s).jomen = s.jomen ∧ (State.transient id s).radio = s.radio ∧
      (State.transient id s).rx = s.rx ∧ (State.transient id s).time = s.time ∧
      (State.transient id s).sched = s.sched ∧ (State.transient id s).net = s.net ∧
      (State.transient id s).work = s.work ∧ (State.transient id s).roster = s.roster ∧
      (State.transient id s).store = s.store ∧ (State.transient id s).image = s.image := by
  simp [State.transient]

@[simp] theorem State.owedRetire_frame (i : ℕ) (s : State) :
    (State.owedRetire i s).pending = s.pending ∧ (State.owedRetire i s).now = s.now ∧
      (State.owedRetire i s).part = s.part ∧ (State.owedRetire i s).radio = s.radio ∧
      (State.owedRetire i s).time = s.time ∧ (State.owedRetire i s).sched = s.sched ∧
      (State.owedRetire i s).net = s.net ∧ (State.owedRetire i s).image = s.image := by
  unfold State.owedRetire; (repeat' split) <;> simp

@[simp] theorem State.burstCut_frame (b : Burst) (s : State) :
    (State.burstCut b s).pending = s.pending ∧ (State.burstCut b s).now = s.now ∧
      (State.burstCut b s).part = s.part ∧ (State.burstCut b s).time = s.time ∧
      (State.burstCut b s).sched = s.sched ∧ (State.burstCut b s).image = s.image := by
  unfold State.burstCut; (repeat' split) <;> simp

@[simp] theorem State.matchWord_frame (sd : Side) (w : ℕ) (syncErr : ℕ) (rssi : ℤ) (s : State) :
    (State.matchWord sd w syncErr rssi s).pending = s.pending ∧
      (State.matchWord sd w syncErr rssi s).now = s.now ∧ (State.matchWord sd w syncErr rssi s).part = s.part ∧
      (State.matchWord sd w syncErr rssi s).jomen = s.jomen ∧
      (State.matchWord sd w syncErr rssi s).radio = s.radio ∧ (State.matchWord sd w syncErr rssi s).rx = s.rx ∧
      (State.matchWord sd w syncErr rssi s).time = s.time ∧
      (State.matchWord sd w syncErr rssi s).sched = s.sched ∧ (State.matchWord sd w syncErr rssi s).net = s.net ∧
      (State.matchWord sd w syncErr rssi s).roster = s.roster ∧
      (State.matchWord sd w syncErr rssi s).store = s.store ∧
      (State.matchWord sd w syncErr rssi s).image = s.image ∧
      (State.matchWord sd w syncErr rssi s).faults = s.faults := by
  unfold State.matchWord; dsimp only; (repeat' split) <;> simp

@[simp] theorem State.classify_frame (id : ℕ) (sub : ℕ) (k : ℕ) (c : CellSeen) (s : State) :
    (State.classify id sub k c s).2.pending = s.pending ∧ (State.classify id sub k c s).2.now = s.now ∧
      (State.classify id sub k c s).2.part = s.part ∧ (State.classify id sub k c s).2.wake = s.wake ∧
      (State.classify id sub k c s).2.jomen = s.jomen ∧ (State.classify id sub k c s).2.radio = s.radio ∧
      (State.classify id sub k c s).2.time = s.time ∧ (State.classify id sub k c s).2.sched = s.sched ∧
      (State.classify id sub k c s).2.net = s.net ∧ (State.classify id sub k c s).2.roster = s.roster ∧
      (State.classify id sub k c s).2.store = s.store ∧ (State.classify id sub k c s).2.image = s.image ∧
      (State.classify id sub k c s).2.faults = s.faults := by
  unfold State.classify; (repeat' split) <;> simp

theorem State.classify_eq {id : ℕ} {sub : ℕ} {k : ℕ} {c : CellSeen} {s : State} {r_ : _} (h_ : (State.classify id sub k c s) = r_) :
    r_.2.pending = s.pending ∧ r_.2.now = s.now ∧ r_.2.part = s.part ∧ r_.2.wake = s.wake ∧ r_.2.jomen = s.jomen ∧
      r_.2.radio = s.radio ∧ r_.2.time = s.time ∧ r_.2.sched = s.sched ∧ r_.2.net = s.net ∧
      r_.2.roster = s.roster ∧ r_.2.store = s.store ∧ r_.2.image = s.image ∧ r_.2.faults = s.faults := by
  subst h_; exact State.classify_frame id sub k c s

@[simp] theorem State.adoptSet_frame (b : Beacon) (s : State) :
    (State.adoptSet b s).pending = s.pending ∧ (State.adoptSet b s).now = s.now ∧
      (State.adoptSet b s).part = s.part ∧ (State.adoptSet b s).wake = s.wake ∧
      (State.adoptSet b s).jomen = s.jomen ∧ (State.adoptSet b s).radio = s.radio ∧
      (State.adoptSet b s).rx = s.rx ∧ (State.adoptSet b s).time = s.time ∧ (State.adoptSet b s).net = s.net ∧
      (State.adoptSet b s).work = s.work ∧ (State.adoptSet b s).roster = s.roster ∧
      (State.adoptSet b s).image = s.image := by
  unfold State.adoptSet; (repeat' split) <;> simp

@[simp] theorem State.guardCell_frame (p : Placed) (l : List Placed) (s : State) :
    (State.guardCell p l s).2.pending = s.pending ∧ (State.guardCell p l s).2.now = s.now ∧
      (State.guardCell p l s).2.part = s.part ∧ (State.guardCell p l s).2.wake = s.wake ∧
      (State.guardCell p l s).2.radio = s.radio ∧ (State.guardCell p l s).2.rx = s.rx ∧
      (State.guardCell p l s).2.time = s.time ∧ (State.guardCell p l s).2.sched = s.sched ∧
      (State.guardCell p l s).2.work = s.work ∧ (State.guardCell p l s).2.roster = s.roster ∧
      (State.guardCell p l s).2.image = s.image ∧ (State.guardCell p l s).2.faults = s.faults := by
  unfold State.guardCell; dsimp only; (repeat' split) <;> simp

theorem State.guardCell_eq {p : Placed} {l : List Placed} {s : State} {r_ : _} (h_ : (State.guardCell p l s) = r_) :
    r_.2.pending = s.pending ∧ r_.2.now = s.now ∧ r_.2.part = s.part ∧ r_.2.wake = s.wake ∧ r_.2.radio = s.radio ∧
      r_.2.rx = s.rx ∧ r_.2.time = s.time ∧ r_.2.sched = s.sched ∧ r_.2.work = s.work ∧ r_.2.roster = s.roster ∧
      r_.2.image = s.image ∧ r_.2.faults = s.faults := by
  subst h_; exact State.guardCell_frame p l s

@[simp] theorem State.retireAny_frame (o : Origin) (r : ResId) (cause : ℕ) (s : State) :
    (State.retireAny o r cause s).pending = s.pending ∧ (State.retireAny o r cause s).now = s.now ∧
      (State.retireAny o r cause s).part = s.part ∧ (State.retireAny o r cause s).radio = s.radio ∧
      (State.retireAny o r cause s).time = s.time ∧ (State.retireAny o r cause s).net = s.net ∧
      (State.retireAny o r cause s).image = s.image := by
  unfold State.retireAny; (repeat' split) <;> simp

@[simp] theorem State.displace_frame (n : Fin 16) (s : State) :
    (State.displace n s).pending = s.pending ∧ (State.displace n s).now = s.now ∧
      (State.displace n s).part = s.part ∧ (State.displace n s).wake = s.wake ∧
      (State.displace n s).radio = s.radio ∧ (State.displace n s).time = s.time ∧
      (State.displace n s).sched = s.sched ∧ (State.displace n s).net = s.net ∧
      (State.displace n s).image = s.image := by
  unfold State.displace; (repeat' split) <;> simp

@[simp] theorem State.leaveRetired_frame (s : State) :
    (State.leaveRetired s).pending = s.pending ∧ (State.leaveRetired s).now = s.now ∧
      (State.leaveRetired s).part = s.part ∧ (State.leaveRetired s).wake = s.wake ∧
      (State.leaveRetired s).radio = s.radio ∧ (State.leaveRetired s).time = s.time ∧
      (State.leaveRetired s).sched = s.sched ∧ (State.leaveRetired s).net = s.net ∧
      (State.leaveRetired s).image = s.image := by
  simp [State.leaveRetired]

@[simp] theorem State.wmPaOff_frame (s : State) :
    (State.wmPaOff s).pending = s.pending ∧ (State.wmPaOff s).now = s.now ∧ (State.wmPaOff s).part = s.part ∧
      (State.wmPaOff s).wake = s.wake ∧ (State.wmPaOff s).jomen = s.jomen ∧ (State.wmPaOff s).radio = s.radio ∧
      (State.wmPaOff s).rx = s.rx ∧ (State.wmPaOff s).time = s.time ∧ (State.wmPaOff s).sched = s.sched ∧
      (State.wmPaOff s).net = s.net ∧ (State.wmPaOff s).work = s.work ∧ (State.wmPaOff s).roster = s.roster ∧
      (State.wmPaOff s).store = s.store ∧ (State.wmPaOff s).image = s.image ∧
      (State.wmPaOff s).faults = s.faults := by
  simp [State.wmPaOff]

@[simp] theorem State.judgeChain_frame (sd : Side) (good : Bool) (s : State) :
    (State.judgeChain sd good s).pending = s.pending ∧ (State.judgeChain sd good s).now = s.now ∧
      (State.judgeChain sd good s).part = s.part ∧ (State.judgeChain sd good s).wake = s.wake ∧
      (State.judgeChain sd good s).jomen = s.jomen ∧ (State.judgeChain sd good s).radio = s.radio ∧
      (State.judgeChain sd good s).rx = s.rx ∧ (State.judgeChain sd good s).time = s.time ∧
      (State.judgeChain sd good s).sched = s.sched ∧ (State.judgeChain sd good s).net = s.net ∧
      (State.judgeChain sd good s).work = s.work ∧ (State.judgeChain sd good s).roster = s.roster ∧
      (State.judgeChain sd good s).image = s.image := by
  simp [State.judgeChain]

@[simp] theorem State.paOff_frame (band : Band) (ramp : Ticks) (s : State) :
    (State.paOff band ramp s).pending = s.pending ∧ (State.paOff band ramp s).now = s.now ∧
      (State.paOff band ramp s).part = s.part ∧ (State.paOff band ramp s).jomen = s.jomen ∧
      (State.paOff band ramp s).rx = s.rx ∧ (State.paOff band ramp s).time = s.time ∧
      (State.paOff band ramp s).sched = s.sched ∧ (State.paOff band ramp s).net = s.net ∧
      (State.paOff band ramp s).work = s.work ∧ (State.paOff band ramp s).roster = s.roster ∧
      (State.paOff band ramp s).store = s.store ∧ (State.paOff band ramp s).image = s.image ∧
      (State.paOff band ramp s).faults = s.faults := by
  unfold State.paOff; (repeat' split) <;> simp

@[simp] theorem State.lcOver_frame (i : ℕ) (s : State) :
    (State.lcOver i s).pending = s.pending ∧ (State.lcOver i s).now = s.now ∧ (State.lcOver i s).part = s.part ∧
      (State.lcOver i s).radio = s.radio ∧ (State.lcOver i s).time = s.time ∧ (State.lcOver i s).sched = s.sched ∧
      (State.lcOver i s).net = s.net ∧ (State.lcOver i s).image = s.image := by
  simp [State.lcOver]

@[simp] theorem State.powerOn_frame (cause : ColdCause) (test : Bool) (b : Bist) (temp : ℤ) (fails : ℕ) (s : State) :
    (State.powerOn cause test b temp fails s).pending = s.pending ∧
      (State.powerOn cause test b temp fails s).now = s.now ∧
      (State.powerOn cause test b temp fails s).part = s.part := by
  simp [State.powerOn]

@[simp] theorem State.classifyAll_frame (id sub k : Nat) (l : List CellSeen) (s : State) :
    (State.classifyAll id sub k l s).2.pending = s.pending ∧ (State.classifyAll id sub k l s).2.now = s.now ∧
      (State.classifyAll id sub k l s).2.part = s.part ∧ (State.classifyAll id sub k l s).2.wake = s.wake ∧
      (State.classifyAll id sub k l s).2.jomen = s.jomen ∧ (State.classifyAll id sub k l s).2.radio = s.radio ∧
      (State.classifyAll id sub k l s).2.time = s.time ∧ (State.classifyAll id sub k l s).2.sched = s.sched ∧
      (State.classifyAll id sub k l s).2.net = s.net ∧ (State.classifyAll id sub k l s).2.roster = s.roster ∧
      (State.classifyAll id sub k l s).2.store = s.store ∧ (State.classifyAll id sub k l s).2.image = s.image ∧
      (State.classifyAll id sub k l s).2.faults = s.faults := by
  induction l generalizing k s with
  | nil => simp [State.classifyAll]
  | cons c cs ih => simp [State.classifyAll, ih]

@[simp] theorem State.lcSuccess_frame (f : Flight) (s : State) :
    (State.lcSuccess f s).pending = s.pending ∧ (State.lcSuccess f s).now = s.now ∧
      (State.lcSuccess f s).part = s.part ∧ (State.lcSuccess f s).radio = s.radio ∧
      (State.lcSuccess f s).time = s.time ∧ (State.lcSuccess f s).sched = s.sched ∧
      (State.lcSuccess f s).net = s.net ∧ (State.lcSuccess f s).image = s.image := by
  unfold State.lcSuccess; dsimp only; (repeat' split) <;> simp

@[simp] theorem State.cancelFlight_frame (f : Flight) (s : State) :
    (State.cancelFlight f s).pending = s.pending ∧ (State.cancelFlight f s).now = s.now ∧
      (State.cancelFlight f s).part = s.part ∧ (State.cancelFlight f s).radio = s.radio ∧
      (State.cancelFlight f s).time = s.time ∧ (State.cancelFlight f s).sched = s.sched ∧
      (State.cancelFlight f s).net = s.net ∧ (State.cancelFlight f s).image = s.image := by
  simp [State.cancelFlight]

@[simp] theorem State.guards_frame (l : List Placed) (s : State) :
    (State.guards l s).2.pending = s.pending ∧ (State.guards l s).2.now = s.now ∧
      (State.guards l s).2.part = s.part ∧ (State.guards l s).2.wake = s.wake ∧
      (State.guards l s).2.radio = s.radio ∧ (State.guards l s).2.rx = s.rx ∧ (State.guards l s).2.time = s.time ∧
      (State.guards l s).2.sched = s.sched ∧ (State.guards l s).2.work = s.work ∧
      (State.guards l s).2.roster = s.roster ∧ (State.guards l s).2.image = s.image ∧
      (State.guards l s).2.faults = s.faults := by
  simp [State.guards]

theorem State.guards_eq {l : List Placed} {s : State} {r_ : _} (h_ : (State.guards l s) = r_) :
    r_.2.pending = s.pending ∧ r_.2.now = s.now ∧ r_.2.part = s.part ∧ r_.2.wake = s.wake ∧ r_.2.radio = s.radio ∧
      r_.2.rx = s.rx ∧ r_.2.time = s.time ∧ r_.2.sched = s.sched ∧ r_.2.work = s.work ∧ r_.2.roster = s.roster ∧
      r_.2.image = s.image ∧ r_.2.faults = s.faults := by
  subst h_; exact State.guards_frame l s

@[simp] theorem State.txLost_frame (tx : Tx) (s : State) :
    (State.txLost tx s).pending = s.pending ∧ (State.txLost tx s).now = s.now ∧
      (State.txLost tx s).part = s.part ∧ (State.txLost tx s).time = s.time ∧
      (State.txLost tx s).sched = s.sched ∧ (State.txLost tx s).image = s.image := by
  unfold State.txLost; (repeat' split) <;> simp

@[simp] theorem State.endTx_frame (tx : Tx) (s : State) :
    (State.endTx tx s).pending = s.pending ∧ (State.endTx tx s).now = s.now ∧ (State.endTx tx s).part = s.part ∧
      (State.endTx tx s).jomen = s.jomen ∧ (State.endTx tx s).rx = s.rx ∧ (State.endTx tx s).time = s.time ∧
      (State.endTx tx s).sched = s.sched ∧ (State.endTx tx s).net = s.net ∧ (State.endTx tx s).roster = s.roster ∧
      (State.endTx tx s).store = s.store ∧ (State.endTx tx s).image = s.image ∧
      (State.endTx tx s).faults = s.faults := by
  simp [State.endTx]

@[simp] theorem State.endCal_frame (c : CalRun) (temp : ℤ) (out : List Side) (s : State) :
    (State.endCal c temp out s).pending = s.pending ∧ (State.endCal c temp out s).now = s.now ∧
      (State.endCal c temp out s).part = s.part ∧ (State.endCal c temp out s).wake = s.wake ∧
      (State.endCal c temp out s).jomen = s.jomen ∧ (State.endCal c temp out s).time = s.time ∧
      (State.endCal c temp out s).sched = s.sched ∧ (State.endCal c temp out s).net = s.net ∧
      (State.endCal c temp out s).work = s.work ∧ (State.endCal c temp out s).roster = s.roster ∧
      (State.endCal c temp out s).image = s.image := by
  unfold State.endCal; (repeat' split) <;> simp

@[simp] theorem State.callBack_frame (s : State) :
    (State.callBack s).pending = s.pending ∧ (State.callBack s).now = s.now ∧ (State.callBack s).part = s.part ∧
      (State.callBack s).time = s.time ∧ (State.callBack s).sched = s.sched ∧
      (State.callBack s).image = s.image := by
  unfold State.callBack; (repeat' split) <;> simp

@[simp] theorem State.cutTx_frame (s : State) :
    (State.cutTx s).pending = s.pending ∧ (State.cutTx s).now = s.now ∧ (State.cutTx s).part = s.part ∧
      (State.cutTx s).time = s.time ∧ (State.cutTx s).sched = s.sched ∧ (State.cutTx s).image = s.image := by
  unfold State.cutTx; (repeat' split) <;> simp

@[simp] theorem State.flightDone_frame (f : Flight) (s : State) :
    (State.flightDone f s).pending = s.pending ∧ (State.flightDone f s).now = s.now ∧
      (State.flightDone f s).part = s.part ∧ (State.flightDone f s).radio = s.radio ∧
      (State.flightDone f s).time = s.time ∧ (State.flightDone f s).sched = s.sched ∧
      (State.flightDone f s).net = s.net ∧ (State.flightDone f s).image = s.image := by
  simp [State.flightDone]

@[simp] theorem State.displaceOn_frame (c : ℕ) (s : State) :
    (State.displaceOn c s).pending = s.pending ∧ (State.displaceOn c s).now = s.now ∧
      (State.displaceOn c s).part = s.part ∧ (State.displaceOn c s).wake = s.wake ∧
      (State.displaceOn c s).radio = s.radio ∧ (State.displaceOn c s).time = s.time ∧
      (State.displaceOn c s).sched = s.sched ∧ (State.displaceOn c s).net = s.net ∧
      (State.displaceOn c s).image = s.image := by
  unfold State.displaceOn; (repeat' split) <;> simp

@[simp] theorem State.captureDue_frame (s : State) :
    (State.captureDue s).pending = s.pending ∧ (State.captureDue s).now = s.now ∧
      (State.captureDue s).part = s.part ∧ (State.captureDue s).wake = s.wake ∧
      (State.captureDue s).time = s.time ∧ (State.captureDue s).sched = s.sched ∧
      (State.captureDue s).net = s.net ∧ (State.captureDue s).image = s.image := by
  unfold State.captureDue; (repeat' split) <;> simp

@[simp] theorem State.bindCell_frame (i : ℕ) (c : Cell) (ch : ℕ) (program : ℕ) (s : State) :
    (State.bindCell i c ch program s).pending = s.pending ∧ (State.bindCell i c ch program s).now = s.now ∧
      (State.bindCell i c ch program s).part = s.part ∧ (State.bindCell i c ch program s).wake = s.wake ∧
      (State.bindCell i c ch program s).time = s.time ∧ (State.bindCell i c ch program s).net = s.net ∧
      (State.bindCell i c ch program s).image = s.image := by
  unfold State.bindCell; dsimp only; (repeat' split) <;> simp

@[simp] theorem State.quiet_frame (s : State) :
    (State.quiet s).pending = s.pending ∧ (State.quiet s).now = s.now ∧ (State.quiet s).part = s.part ∧
      (State.quiet s).jomen = s.jomen ∧ (State.quiet s).time = s.time ∧ (State.quiet s).sched = s.sched ∧
      (State.quiet s).net = s.net ∧ (State.quiet s).work = s.work ∧ (State.quiet s).roster = s.roster ∧
      (State.quiet s).store = s.store ∧ (State.quiet s).image = s.image ∧
      (State.quiet s).faults = s.faults := by
  unfold State.quiet; (repeat' split) <;> simp

@[simp] theorem State.lcFail_frame (i : ℕ) (r : LcResult) (s : State) :
    (State.lcFail i r s).pending = s.pending ∧ (State.lcFail i r s).now = s.now ∧
      (State.lcFail i r s).part = s.part ∧ (State.lcFail i r s).radio = s.radio ∧
      (State.lcFail i r s).time = s.time ∧ (State.lcFail i r s).sched = s.sched ∧
      (State.lcFail i r s).net = s.net ∧ (State.lcFail i r s).image = s.image := by
  unfold State.lcFail; (repeat' split) <;> simp

@[simp] theorem State.exchangeDone_frame (x : RxFrame) (i : ℕ) (s : State) :
    (State.exchangeDone x i s).pending = s.pending ∧ (State.exchangeDone x i s).now = s.now ∧
      (State.exchangeDone x i s).part = s.part ∧ (State.exchangeDone x i s).radio = s.radio ∧
      (State.exchangeDone x i s).time = s.time ∧ (State.exchangeDone x i s).sched = s.sched ∧
      (State.exchangeDone x i s).net = s.net ∧ (State.exchangeDone x i s).image = s.image := by
  unfold State.exchangeDone; (repeat' split) <;> simp

@[simp] theorem State.burstSkipped_frame (p : BurstFor) (s : State) :
    (State.burstSkipped p s).pending = s.pending ∧ (State.burstSkipped p s).now = s.now ∧
      (State.burstSkipped p s).part = s.part ∧ (State.burstSkipped p s).time = s.time ∧
      (State.burstSkipped p s).sched = s.sched ∧ (State.burstSkipped p s).image = s.image := by
  unfold State.burstSkipped; (repeat' split) <;> simp

@[simp] theorem State.startTx_frame (tx : Tx) (s : State) :
    (State.startTx tx s).pending = s.pending ∧ (State.startTx tx s).now = s.now ∧
      (State.startTx tx s).part = s.part ∧ (State.startTx tx s).time = s.time ∧
      (State.startTx tx s).sched = s.sched ∧ (State.startTx tx s).image = s.image := by
  simp [State.startTx]

@[simp] theorem State.startCal_frame (why : CalWhy) (kind : CalKind) (band : BandSel) (groups : List (Band × ℕ))
    (s : State) :
    (State.startCal why kind band groups s).pending = s.pending ∧
      (State.startCal why kind band groups s).now = s.now ∧
      (State.startCal why kind band groups s).part = s.part ∧
      (State.startCal why kind band groups s).time = s.time ∧
      (State.startCal why kind band groups s).sched = s.sched ∧
      (State.startCal why kind band groups s).image = s.image := by
  simp [State.startCal]

@[simp] theorem State.roundSlot_frame (s : State) :
    (State.roundSlot s).pending = s.pending ∧ (State.roundSlot s).now = s.now ∧
      (State.roundSlot s).part = s.part ∧ (State.roundSlot s).wake = s.wake ∧ (State.roundSlot s).time = s.time ∧
      (State.roundSlot s).sched = s.sched ∧ (State.roundSlot s).net = s.net ∧
      (State.roundSlot s).image = s.image := by
  unfold State.roundSlot; (repeat' split) <;> simp

@[simp] theorem State.recordEntry_frame (i : ℕ) (l : BitVec 32) (w : BitVec 32) (x : RxFrame) (plain : List Byte)
    (admission : Bool) (s : State) :
    (State.recordEntry i l w x plain admission s).2.pending = s.pending ∧
      (State.recordEntry i l w x plain admission s).2.now = s.now ∧
      (State.recordEntry i l w x plain admission s).2.part = s.part ∧
      (State.recordEntry i l w x plain admission s).2.radio = s.radio ∧
      (State.recordEntry i l w x plain admission s).2.time = s.time ∧
      (State.recordEntry i l w x plain admission s).2.sched = s.sched ∧
      (State.recordEntry i l w x plain admission s).2.image = s.image := by
  simp [State.recordEntry]

theorem State.recordEntry_eq {i : ℕ} {l : BitVec 32} {w : BitVec 32} {x : RxFrame} {plain : List Byte} {admission : Bool} {s : State} {r_ : _} (h_ : (State.recordEntry i l w x plain admission s) = r_) :
    r_.2.pending = s.pending ∧ r_.2.now = s.now ∧ r_.2.part = s.part ∧ r_.2.radio = s.radio ∧ r_.2.time = s.time ∧
      r_.2.sched = s.sched ∧ r_.2.image = s.image := by
  subst h_; exact State.recordEntry_frame i l w x plain admission s

@[simp] theorem State.stopTx_frame (s : State) :
    (State.stopTx s).pending = s.pending ∧ (State.stopTx s).now = s.now ∧ (State.stopTx s).part = s.part ∧
      (State.stopTx s).time = s.time ∧ (State.stopTx s).sched = s.sched ∧ (State.stopTx s).image = s.image := by
  simp [State.stopTx]

@[simp] theorem State.clearAir_frame (s : State) :
    (State.clearAir s).pending = s.pending ∧ (State.clearAir s).now = s.now ∧ (State.clearAir s).part = s.part ∧
      (State.clearAir s).time = s.time ∧ (State.clearAir s).sched = s.sched ∧
      (State.clearAir s).image = s.image := by
  simp [State.clearAir]

@[simp] theorem State.beginTx_frame (s : State) :
    (State.beginTx s).pending = s.pending ∧ (State.beginTx s).now = s.now ∧ (State.beginTx s).part = s.part ∧
      (State.beginTx s).time = s.time ∧ (State.beginTx s).sched = s.sched ∧
      (State.beginTx s).image = s.image := by
  unfold State.beginTx; (repeat' split) <;> simp

@[simp] theorem State.endCut_frame (s : State) :
    (State.endCut s).pending = s.pending ∧ (State.endCut s).now = s.now ∧ (State.endCut s).part = s.part ∧
      (State.endCut s).radio = s.radio ∧ (State.endCut s).time = s.time ∧ (State.endCut s).sched = s.sched ∧
      (State.endCut s).net = s.net ∧ (State.endCut s).image = s.image := by
  simp [State.endCut]

@[simp] theorem State.startAskedCal_frame (s : State) :
    (State.startAskedCal s).pending = s.pending ∧ (State.startAskedCal s).now = s.now ∧
      (State.startAskedCal s).part = s.part ∧ (State.startAskedCal s).time = s.time ∧
      (State.startAskedCal s).sched = s.sched ∧ (State.startAskedCal s).image = s.image := by
  unfold State.startAskedCal; (repeat' split) <;> simp

@[simp] theorem State.xoStops_frame (s : State) :
    (State.xoStops s).pending = s.pending ∧ (State.xoStops s).now = s.now ∧ (State.xoStops s).part = s.part ∧
      (State.xoStops s).time = s.time ∧ (State.xoStops s).image = s.image := by
  simp [State.xoStops]

@[simp] theorem State.takeAir_frame (b : Band) (path : Ticks) (s : State) :
    (State.takeAir b path s).2.pending = s.pending ∧ (State.takeAir b path s).2.now = s.now ∧
      (State.takeAir b path s).2.part = s.part ∧ (State.takeAir b path s).2.time = s.time ∧
      (State.takeAir b path s).2.sched = s.sched ∧ (State.takeAir b path s).2.image = s.image := by
  unfold State.takeAir; dsimp only; (repeat' split) <;> simp

theorem State.takeAir_eq {b : Band} {path : Ticks} {s : State} {r_ : _} (h_ : (State.takeAir b path s) = r_) :
    r_.2.pending = s.pending ∧ r_.2.now = s.now ∧ r_.2.part = s.part ∧ r_.2.time = s.time ∧ r_.2.sched = s.sched ∧
      r_.2.image = s.image := by
  subst h_; exact State.takeAir_frame b path s

@[simp] theorem State.restoreSpill_frame (e : Entry) (l : BitVec 32) (w : BitVec 32) (x : RxFrame)
    (plain : List Byte) (s : State) :
    (State.restoreSpill e l w x plain s).2.pending = s.pending ∧
      (State.restoreSpill e l w x plain s).2.now = s.now ∧ (State.restoreSpill e l w x plain s).2.part = s.part ∧
      (State.restoreSpill e l w x plain s).2.radio = s.radio ∧
      (State.restoreSpill e l w x plain s).2.time = s.time ∧
      (State.restoreSpill e l w x plain s).2.sched = s.sched ∧
      (State.restoreSpill e l w x plain s).2.image = s.image := by
  unfold State.restoreSpill
  (repeat' split) <;> (try dsimp only) <;> (repeat' split) <;> first
    | (simp; done)
    | (have h := State.takeIndex_eq (by assumption); simp_all; done)
    | (have h := State.takeIndex_eq (by assumption); simp at h ⊢; (repeat' split) <;> simp [h]; done)

theorem State.restoreSpill_eq {e : Entry} {l : BitVec 32} {w : BitVec 32} {x : RxFrame} {plain : List Byte} {s : State} {r_ : _} (h_ : (State.restoreSpill e l w x plain s) = r_) :
    r_.2.pending = s.pending ∧ r_.2.now = s.now ∧ r_.2.part = s.part ∧ r_.2.radio = s.radio ∧ r_.2.time = s.time ∧
      r_.2.sched = s.sched ∧ r_.2.image = s.image := by
  subst h_; exact State.restoreSpill_frame e l w x plain s

@[simp] theorem State.resetEdge_frame (s : State) :
    (State.resetEdge s).pending = s.pending ∧ (State.resetEdge s).now = s.now ∧
      (State.resetEdge s).part = s.part ∧ (State.resetEdge s).roster = s.roster ∧
      (State.resetEdge s).faults = s.faults := by
  simp [State.resetEdge]

@[simp] theorem State.admitNew_frame (x : RxFrame) (plain : List Byte) (s : State) :
    (State.admitNew x plain s).2.pending = s.pending ∧ (State.admitNew x plain s).2.now = s.now ∧
      (State.admitNew x plain s).2.part = s.part ∧ (State.admitNew x plain s).2.radio = s.radio ∧
      (State.admitNew x plain s).2.time = s.time ∧ (State.admitNew x plain s).2.sched = s.sched ∧
      (State.admitNew x plain s).2.image = s.image := by
  unfold State.admitNew
  (repeat' split) <;> (try dsimp only) <;> (repeat' split) <;> first
    | (simp; done)
    | (have h := State.takeIndex_eq (by assumption); simp_all; done)
    | (have h := State.takeIndex_eq (by assumption); simp at h ⊢; (repeat' split) <;> simp [h]; done)

theorem State.admitNew_eq {x : RxFrame} {plain : List Byte} {s : State} {r_ : _} (h_ : (State.admitNew x plain s) = r_) :
    r_.2.pending = s.pending ∧ r_.2.now = s.now ∧ r_.2.part = s.part ∧ r_.2.radio = s.radio ∧ r_.2.time = s.time ∧
      r_.2.sched = s.sched ∧ r_.2.image = s.image := by
  subst h_; exact State.admitNew_frame x plain s

@[simp] theorem State.warmNews_frame (cause : WarmCause) (failed : List Item) (wasNormal : Bool) (selfTest : Bool)
    (s : State) :
    (State.warmNews cause failed wasNormal selfTest s).pending = s.pending ∧
      (State.warmNews cause failed wasNormal selfTest s).now = s.now ∧
      (State.warmNews cause failed wasNormal selfTest s).part = s.part ∧
      (State.warmNews cause failed wasNormal selfTest s).radio = s.radio ∧
      (State.warmNews cause failed wasNormal selfTest s).time = s.time ∧
      (State.warmNews cause failed wasNormal selfTest s).sched = s.sched ∧
      (State.warmNews cause failed wasNormal selfTest s).net = s.net := by
  simp [State.warmNews]

@[simp] theorem State.commitCellar_frame (s : State) :
    (State.commitCellar s).pending = s.pending ∧ (State.commitCellar s).now = s.now ∧
      (State.commitCellar s).part = s.part ∧ (State.commitCellar s).time = s.time ∧
      (State.commitCellar s).image = s.image := by
  simp [State.commitCellar]

@[simp] theorem State.exitFrom_frame (failed : List Item) (p : Power) (s : State) :
    (State.exitFrom failed p s).pending = s.pending ∧ (State.exitFrom failed p s).now = s.now ∧
      (State.exitFrom failed p s).part = s.part ∧ (State.exitFrom failed p s).image = s.image := by
  unfold State.exitFrom; dsimp only; (repeat' split) <;> simp

@[simp] theorem State.coldEdge_frame (c : ColdCause) (until_ : Option Ticks) (s : State) :
    (State.coldEdge c until_ s).pending = s.pending ∧ (State.coldEdge c until_ s).now = s.now ∧
      (State.coldEdge c until_ s).part = s.part ∧ (State.coldEdge c until_ s).roster = s.roster ∧
      (State.coldEdge c until_ s).faults = s.faults := by
  simp [State.coldEdge]

@[simp] theorem State.tripPa_frame (s : State) :
    (State.tripPa s).pending = s.pending ∧ (State.tripPa s).now = s.now ∧ (State.tripPa s).part = s.part ∧
      (State.tripPa s).time = s.time ∧ (State.tripPa s).sched = s.sched ∧ (State.tripPa s).image = s.image := by
  unfold State.tripPa; (repeat' split) <;> simp

@[simp] theorem State.replayStep_frame (x : RxFrame) (s : State) :
    (State.replayStep x s).2.pending = s.pending ∧ (State.replayStep x s).2.now = s.now ∧
      (State.replayStep x s).2.part = s.part ∧ (State.replayStep x s).2.radio = s.radio ∧
      (State.replayStep x s).2.time = s.time ∧ (State.replayStep x s).2.sched = s.sched ∧
      (State.replayStep x s).2.image = s.image := by
  unfold State.replayStep; (repeat' split) <;> simp

theorem State.replayStep_eq {x : RxFrame} {s : State} {r_ : _} (h_ : (State.replayStep x s) = r_) :
    r_.2.pending = s.pending ∧ r_.2.now = s.now ∧ r_.2.part = s.part ∧ r_.2.radio = s.radio ∧ r_.2.time = s.time ∧
      r_.2.sched = s.sched ∧ r_.2.image = s.image := by
  subst h_; exact State.replayStep_frame x s

@[simp] theorem State.warmEdge_frame (c : WarmCause) (s : State) :
    (State.warmEdge c s).pending = s.pending ∧ (State.warmEdge c s).now = s.now ∧
      (State.warmEdge c s).part = s.part ∧ (State.warmEdge c s).roster = s.roster ∧
      (State.warmEdge c s).faults = s.faults := by
  simp [State.warmEdge]

@[simp] theorem State.resetDue_frame (s : State) :
    (State.resetDue s).pending = s.pending ∧ (State.resetDue s).now = s.now ∧ (State.resetDue s).part = s.part ∧
      (State.resetDue s).roster = s.roster ∧ (State.resetDue s).faults = s.faults := by
  unfold State.resetDue; (repeat' split) <;> simp

@[simp] theorem State.joinFrame_frame (x : RxFrame) (s : State) :
    (State.joinFrame x s).2.pending = s.pending ∧ (State.joinFrame x s).2.now = s.now ∧
      (State.joinFrame x s).2.part = s.part ∧ (State.joinFrame x s).2.radio = s.radio ∧
      (State.joinFrame x s).2.time = s.time ∧ (State.joinFrame x s).2.sched = s.sched ∧
      (State.joinFrame x s).2.image = s.image := by
  unfold State.joinFrame; dsimp only; (repeat' split) <;> simp

theorem State.joinFrame_eq {x : RxFrame} {s : State} {r_ : _} (h_ : (State.joinFrame x s) = r_) :
    r_.2.pending = s.pending ∧ r_.2.now = s.now ∧ r_.2.part = s.part ∧ r_.2.radio = s.radio ∧ r_.2.time = s.time ∧
      r_.2.sched = s.sched ∧ r_.2.image = s.image := by
  subst h_; exact State.joinFrame_frame x s

@[simp] theorem State.launch_frame (path : Ticks) (tx : Tx) (s : State) :
    (State.launch path tx s).pending = s.pending ∧ (State.launch path tx s).now = s.now ∧
      (State.launch path tx s).part = s.part ∧ (State.launch path tx s).time = s.time ∧
      (State.launch path tx s).sched = s.sched ∧ (State.launch path tx s).image = s.image := by
  simp [State.launch]

@[simp] theorem State.reach_frame (dest : RadioSt) (s : State) :
    (State.reach dest s).pending = s.pending ∧ (State.reach dest s).now = s.now ∧
      (State.reach dest s).part = s.part ∧ (State.reach dest s).time = s.time ∧
      (State.reach dest s).sched = s.sched ∧ (State.reach dest s).image = s.image := by
  unfold State.reach; (repeat' split) <;> simp

@[simp] theorem State.processFrame_frame (x : RxFrame) (s : State) :
    (State.processFrame x s).2.pending = s.pending ∧ (State.processFrame x s).2.now = s.now ∧
      (State.processFrame x s).2.part = s.part ∧ (State.processFrame x s).2.radio = s.radio ∧
      (State.processFrame x s).2.time = s.time ∧ (State.processFrame x s).2.sched = s.sched ∧
      (State.processFrame x s).2.image = s.image := by
  unfold State.processFrame; dsimp only; (repeat' split) <;> simp

theorem State.processFrame_eq {x : RxFrame} {s : State} {r_ : _} (h_ : (State.processFrame x s) = r_) :
    r_.2.pending = s.pending ∧ r_.2.now = s.now ∧ r_.2.part = s.part ∧ r_.2.radio = s.radio ∧ r_.2.time = s.time ∧
      r_.2.sched = s.sched ∧ r_.2.image = s.image := by
  subst h_; exact State.processFrame_frame x s

@[simp] theorem State.commitLarder_frame (s : State) :
    (State.commitLarder s).pending = s.pending ∧ (State.commitLarder s).now = s.now ∧
      (State.commitLarder s).part = s.part ∧ (State.commitLarder s).image = s.image := by
  simp [State.commitLarder]

@[simp] theorem State.sendBeacon_frame (start : Bool) (offset : ℕ) (rate : ℕ) (ch : ℕ) (s : State) :
    (State.sendBeacon start offset rate ch s).pending = s.pending ∧
      (State.sendBeacon start offset rate ch s).now = s.now ∧
      (State.sendBeacon start offset rate ch s).part = s.part ∧
      (State.sendBeacon start offset rate ch s).time = s.time ∧
      (State.sendBeacon start offset rate ch s).sched = s.sched ∧
      (State.sendBeacon start offset rate ch s).image = s.image := by
  unfold State.sendBeacon
  (repeat' split) <;> (try dsimp only) <;> (repeat' split) <;> first
    | (simp; done)
    | (have h := State.nextBeacon_eq (by assumption); simp_all; done)
    | (have h := State.nextBeacon_eq (by assumption); simp at h ⊢; (repeat' split) <;> simp [h]; done)

@[simp] theorem State.commitShelf_frame (s : State) :
    (State.commitShelf s).pending = s.pending ∧ (State.commitShelf s).now = s.now ∧
      (State.commitShelf s).part = s.part ∧ (State.commitShelf s).time = s.time ∧
      (State.commitShelf s).image = s.image := by
  simp [State.commitShelf]

@[simp] theorem State.ackTx_frame (inCell : Bool) (tx : Tx) (s : State) :
    (State.ackTx inCell tx s).pending = s.pending ∧ (State.ackTx inCell tx s).now = s.now ∧
      (State.ackTx inCell tx s).part = s.part ∧ (State.ackTx inCell tx s).time = s.time ∧
      (State.ackTx inCell tx s).sched = s.sched ∧ (State.ackTx inCell tx s).image = s.image := by
  simp [State.ackTx]

@[simp] theorem State.beaconCell_frame (c : Cell) (ch : ℕ) (s : State) :
    (State.beaconCell c ch s).pending = s.pending ∧ (State.beaconCell c ch s).now = s.now ∧
      (State.beaconCell c ch s).part = s.part ∧ (State.beaconCell c ch s).time = s.time ∧
      (State.beaconCell c ch s).sched = s.sched ∧ (State.beaconCell c ch s).image = s.image := by
  unfold State.beaconCell
  (repeat' split) <;> (try dsimp only) <;> (repeat' split) <;> first
    | (simp; done)
    | (have h := State.takeAir_eq (by assumption); simp_all; done)
    | (have h := State.takeAir_eq (by assumption); simp at h ⊢; (repeat' split) <;> simp [h]; done)

@[simp] theorem State.laneCell_frame (i : ℕ) (c : Cell) (ch : ℕ) (s : State) :
    (State.laneCell i c ch s).pending = s.pending ∧ (State.laneCell i c ch s).now = s.now ∧
      (State.laneCell i c ch s).part = s.part ∧ (State.laneCell i c ch s).time = s.time ∧
      (State.laneCell i c ch s).image = s.image := by
  unfold State.laneCell; (repeat' split) <;> simp

@[simp] theorem State.pgFall_frame (g : Fin 4) (s : State) :
    (State.pgFall g s).pending = s.pending ∧ (State.pgFall g s).now = s.now ∧ (State.pgFall g s).part = s.part ∧
      (State.pgFall g s).time = s.time ∧ (State.pgFall g s).sched = s.sched ∧
      (State.pgFall g s).image = s.image := by
  unfold State.pgFall; dsimp only; (repeat' split) <;> simp

@[simp] theorem State.sendAck_frame (n : Fin 16) (inCell : Bool) (a : AckDue) (s : State) :
    (State.sendAck n inCell a s).pending = s.pending ∧ (State.sendAck n inCell a s).now = s.now ∧
      (State.sendAck n inCell a s).part = s.part ∧ (State.sendAck n inCell a s).time = s.time ∧
      (State.sendAck n inCell a s).sched = s.sched ∧ (State.sendAck n inCell a s).image = s.image := by
  unfold State.sendAck
  (repeat' split) <;> (try dsimp only) <;> (repeat' split) <;> first
    | (simp; done)
    | (have h := State.nextTxFor_eq (by assumption); simp_all; done)
    | (have h := State.nextTxFor_eq (by assumption); simp at h ⊢; (repeat' split) <;> simp [h]; done)

@[simp] theorem State.sendFlight_frame (f : Flight) (n : Fin 16) (rate : ℕ) (ch : ℕ) (scheduled : Bool) (s : State) :
    (State.sendFlight f n rate ch scheduled s).pending = s.pending ∧
      (State.sendFlight f n rate ch scheduled s).now = s.now ∧
      (State.sendFlight f n rate ch scheduled s).part = s.part ∧
      (State.sendFlight f n rate ch scheduled s).time = s.time ∧
      (State.sendFlight f n rate ch scheduled s).sched = s.sched ∧
      (State.sendFlight f n rate ch scheduled s).image = s.image := by
  unfold State.sendFlight
  (repeat' split) <;> (try dsimp only) <;> (repeat' split) <;> first
    | (simp; done)
    | (have h := State.nextTx_eq (by assumption); simp_all; done)
    | (have h := State.nextTx_eq (by assumption); simp at h ⊢; (repeat' split) <;> simp [h]; done)

@[simp] theorem State.entrySteps_frame (s : State) :
    (State.entrySteps s).pending = s.pending ∧ (State.entrySteps s).now = s.now ∧
      (State.entrySteps s).part = s.part ∧ (State.entrySteps s).image = s.image := by
  unfold State.entrySteps; (repeat' split) <;> simp

@[simp] theorem State.pgFallAll_frame (s : State) :
    (State.pgFallAll s).pending = s.pending ∧ (State.pgFallAll s).now = s.now ∧
      (State.pgFallAll s).part = s.part ∧ (State.pgFallAll s).time = s.time ∧
      (State.pgFallAll s).sched = s.sched ∧ (State.pgFallAll s).image = s.image := by
  simp [State.pgFallAll]

@[simp] theorem State.drainBuf_frame (k : Nat) (s : State) :
    (State.drainBuf k s).pending = s.pending ∧ (State.drainBuf k s).now = s.now ∧
      (State.drainBuf k s).part = s.part ∧ (State.drainBuf k s).radio = s.radio ∧
      (State.drainBuf k s).time = s.time ∧ (State.drainBuf k s).sched = s.sched ∧
      (State.drainBuf k s).image = s.image := by
  induction k generalizing s with
  | zero => simp [State.drainBuf]
  | succ k ih =>
    unfold State.drainBuf
    (repeat' split) <;> first
      | (simp; done)
      | (have h := State.processFrame_eq (by assumption); simp_all; done)

@[simp] theorem State.sendDue_frame (f : Flight) (s : State) :
    (State.sendDue f s).pending = s.pending ∧ (State.sendDue f s).now = s.now ∧
      (State.sendDue f s).part = s.part ∧ (State.sendDue f s).time = s.time ∧
      (State.sendDue f s).sched = s.sched ∧ (State.sendDue f s).image = s.image := by
  unfold State.sendDue; (repeat' split) <;> simp

@[simp] theorem State.cellTurn_frame (f : Flight) (i : ℕ) (n : Fin 16) (rate ch : ℕ) (s : State) :
    (State.cellTurn f i n rate ch s).pending = s.pending ∧ (State.cellTurn f i n rate ch s).now = s.now ∧
      (State.cellTurn f i n rate ch s).part = s.part ∧ (State.cellTurn f i n rate ch s).time = s.time ∧
      (State.cellTurn f i n rate ch s).image = s.image := by
  unfold State.cellTurn
  split <;> (have h := State.takeAir_eq (by assumption); simp_all [State.flightAir])

@[simp] theorem State.cellAttempt_frame (f : Flight) (i : ℕ) (s : State) :
    (State.cellAttempt f i s).pending = s.pending ∧ (State.cellAttempt f i s).now = s.now ∧
      (State.cellAttempt f i s).part = s.part ∧ (State.cellAttempt f i s).time = s.time ∧
      (State.cellAttempt f i s).image = s.image := by
  unfold State.cellAttempt; (repeat' split) <;> simp

@[simp] theorem State.warmStart_frame (cause : WarmCause) (failed : List Item) (temp : ℤ) (selfTest : Bool)
    (s : State) :
    (State.warmStart cause failed temp selfTest s).pending = s.pending ∧
      (State.warmStart cause failed temp selfTest s).now = s.now ∧
      (State.warmStart cause failed temp selfTest s).part = s.part := by
  simp [State.warmStart]

@[simp] theorem State.arrive_frame (n : Fin 16) (f : Frame) (psdu : ℕ) (flooded : Bool) (s : State) :
    (State.arrive n f psdu flooded s).pending = s.pending ∧ (State.arrive n f psdu flooded s).now = s.now ∧
      (State.arrive n f psdu flooded s).part = s.part ∧ (State.arrive n f psdu flooded s).radio = s.radio ∧
      (State.arrive n f psdu flooded s).time = s.time ∧ (State.arrive n f psdu flooded s).sched = s.sched ∧
      (State.arrive n f psdu flooded s).image = s.image := by
  simp [State.arrive]

@[simp] theorem State.written_frame (obj : ℕ) (s : State) (before : State) :
    (State.written obj s before).pending = s.pending ∧ (State.written obj s before).now = s.now ∧
      (State.written obj s before).part = s.part ∧ (State.written obj s before).time = s.time ∧
      (State.written obj s before).image = s.image := by
  unfold State.written; (repeat' split) <;> simp

@[simp] theorem State.conv_frame (n : Fin 8) (code : ℕ) (s : State) :
    (State.conv n code s).pending = s.pending ∧ (State.conv n code s).now = s.now ∧
      (State.conv n code s).part = s.part ∧ (State.conv n code s).time = s.time ∧
      (State.conv n code s).sched = s.sched ∧ (State.conv n code s).image = s.image := by
  simp [State.conv]

@[simp] theorem State.applySet_frame (o : Origin) (obj : ℕ) (v : PVal) (s : State) :
    (State.applySet o obj v s).s.pending = s.pending ∧ (State.applySet o obj v s).s.now = s.now ∧
      (State.applySet o obj v s).s.part = s.part ∧ (State.applySet o obj v s).s.time = s.time ∧
      (State.applySet o obj v s).s.image = s.image := by
  simp [State.applySet]

end Sys2Proof.Machine
end

