-- ==== Sys2Proof/Laws/Lines.lean ====
section
/-!
SUPPORT. Sys2Proof/Laws/Lines.lean: what taking a line leaves alone: a verb changes nothing but the line, PMU, the
parameters that wait, the store, the counters and what its own work changes.
-/

namespace Sys2Proof.Machine

theorem State.judge_pending (h : Hdr) (v : Verb) (run : State → Done) (s : State)
    (hr : ∀ s, (run s).s.pending = s.pending) : (s.judge h v run).pending = s.pending := by
  unfold State.judge
  dsimp only
  split <;> simp [hr]

theorem State.judge_now (h : Hdr) (v : Verb) (run : State → Done) (s : State)
    (hr : ∀ s, (run s).s.now = s.now) : (s.judge h v run).now = s.now := by
  unfold State.judge
  dsimp only
  split <;> simp [hr]

theorem State.judge_part (h : Hdr) (v : Verb) (run : State → Done) (s : State)
    (hr : ∀ s, (run s).s.part = s.part) : (s.judge h v run).part = s.part := by
  unfold State.judge
  dsimp only
  split <;> simp [hr]

theorem State.judge_wake (h : Hdr) (v : Verb) (run : State → Done) (s : State)
    (hr : ∀ s, (run s).s.wake = s.wake) : (s.judge h v run).wake = s.wake := by
  unfold State.judge
  dsimp only
  split <;> simp [hr]

theorem State.judge_jomen (h : Hdr) (v : Verb) (run : State → Done) (s : State)
    (hr : ∀ s, (run s).s.jomen = s.jomen) : (s.judge h v run).jomen = s.jomen := by
  unfold State.judge
  dsimp only
  split <;> simp [hr]

theorem State.judge_radio (h : Hdr) (v : Verb) (run : State → Done) (s : State)
    (hr : ∀ s, (run s).s.radio = s.radio) : (s.judge h v run).radio = s.radio := by
  unfold State.judge
  dsimp only
  split <;> simp [hr]

theorem State.judge_rx (h : Hdr) (v : Verb) (run : State → Done) (s : State)
    (hr : ∀ s, (run s).s.rx = s.rx) : (s.judge h v run).rx = s.rx := by
  unfold State.judge
  dsimp only
  split <;> simp [hr]

theorem State.judge_time (h : Hdr) (v : Verb) (run : State → Done) (s : State)
    (hr : ∀ s, (run s).s.time = s.time) : (s.judge h v run).time = s.time := by
  unfold State.judge
  dsimp only
  split <;> simp [hr]

theorem State.judge_sched (h : Hdr) (v : Verb) (run : State → Done) (s : State)
    (hr : ∀ s, (run s).s.sched = s.sched) : (s.judge h v run).sched = s.sched := by
  unfold State.judge
  dsimp only
  split <;> simp [hr]

theorem State.judge_net (h : Hdr) (v : Verb) (run : State → Done) (s : State)
    (hr : ∀ s, (run s).s.net = s.net) : (s.judge h v run).net = s.net := by
  unfold State.judge
  dsimp only
  split <;> simp [hr]

theorem State.judge_work (h : Hdr) (v : Verb) (run : State → Done) (s : State)
    (hr : ∀ s, (run s).s.work = s.work) : (s.judge h v run).work = s.work := by
  unfold State.judge
  dsimp only
  split <;> simp [hr]

theorem State.judge_roster (h : Hdr) (v : Verb) (run : State → Done) (s : State)
    (hr : ∀ s, (run s).s.roster = s.roster) : (s.judge h v run).roster = s.roster := by
  unfold State.judge
  dsimp only
  split <;> simp [hr]

theorem State.judge_mon (h : Hdr) (v : Verb) (run : State → Done) (s : State)
    (hr : ∀ s, (run s).s.mon = s.mon) : (s.judge h v run).mon = s.mon := by
  unfold State.judge
  dsimp only
  split <;> simp [hr]

theorem State.judge_image (h : Hdr) (v : Verb) (run : State → Done) (s : State)
    (hr : ∀ s, (run s).s.image = s.image) : (s.judge h v run).image = s.image := by
  unfold State.judge
  dsimp only
  split <;> simp [hr]

theorem State.judge_faults (h : Hdr) (v : Verb) (run : State → Done) (s : State)
    (hr : ∀ s, (run s).s.faults = s.faults) : (s.judge h v run).faults = s.faults := by
  unfold State.judge
  dsimp only
  split <;> simp [hr]

theorem State.takeVerb_pending (c : Option Instr) (h : Hdr) (v : Verb) (b a : Bool) (run : State → Done) (s : State)
    (hr : ∀ s, (run s).s.pending = s.pending) : (s.takeVerb c h v b a run).pending = s.pending := by
  unfold State.takeVerb
  split
  · dsimp only
    split
    · simp
    · cases c with
      | none => simp [State.judge_pending h v run _ hr]
      | some c =>
        dsimp only
        split
        · simp [State.onStore]
        · simp [State.judge_pending h v run _ hr]
  · simp

theorem State.takeVerb_now (c : Option Instr) (h : Hdr) (v : Verb) (b a : Bool) (run : State → Done) (s : State)
    (hr : ∀ s, (run s).s.now = s.now) : (s.takeVerb c h v b a run).now = s.now := by
  unfold State.takeVerb
  split
  · dsimp only
    split
    · simp
    · cases c with
      | none => simp [State.judge_now h v run _ hr]
      | some c =>
        dsimp only
        split
        · simp [State.onStore]
        · simp [State.judge_now h v run _ hr]
  · simp

theorem State.takeVerb_part (c : Option Instr) (h : Hdr) (v : Verb) (b a : Bool) (run : State → Done) (s : State)
    (hr : ∀ s, (run s).s.part = s.part) : (s.takeVerb c h v b a run).part = s.part := by
  unfold State.takeVerb
  split
  · dsimp only
    split
    · simp
    · cases c with
      | none => simp [State.judge_part h v run _ hr]
      | some c =>
        dsimp only
        split
        · simp [State.onStore]
        · simp [State.judge_part h v run _ hr]
  · simp

theorem State.takeVerb_wake (c : Option Instr) (h : Hdr) (v : Verb) (b a : Bool) (run : State → Done) (s : State)
    (hr : ∀ s, (run s).s.wake = s.wake) : (s.takeVerb c h v b a run).wake = s.wake := by
  unfold State.takeVerb
  split
  · dsimp only
    split
    · simp
    · cases c with
      | none => simp [State.judge_wake h v run _ hr]
      | some c =>
        dsimp only
        split
        · simp [State.onStore]
        · simp [State.judge_wake h v run _ hr]
  · simp

theorem State.takeVerb_jomen (c : Option Instr) (h : Hdr) (v : Verb) (b a : Bool) (run : State → Done) (s : State)
    (hr : ∀ s, (run s).s.jomen = s.jomen) : (s.takeVerb c h v b a run).jomen = s.jomen := by
  unfold State.takeVerb
  split
  · dsimp only
    split
    · simp
    · cases c with
      | none => simp [State.judge_jomen h v run _ hr]
      | some c =>
        dsimp only
        split
        · simp [State.onStore]
        · simp [State.judge_jomen h v run _ hr]
  · simp

theorem State.takeVerb_radio (c : Option Instr) (h : Hdr) (v : Verb) (b a : Bool) (run : State → Done) (s : State)
    (hr : ∀ s, (run s).s.radio = s.radio) : (s.takeVerb c h v b a run).radio = s.radio := by
  unfold State.takeVerb
  split
  · dsimp only
    split
    · simp
    · cases c with
      | none => simp [State.judge_radio h v run _ hr]
      | some c =>
        dsimp only
        split
        · simp [State.onStore]
        · simp [State.judge_radio h v run _ hr]
  · simp

theorem State.takeVerb_rx (c : Option Instr) (h : Hdr) (v : Verb) (b a : Bool) (run : State → Done) (s : State)
    (hr : ∀ s, (run s).s.rx = s.rx) : (s.takeVerb c h v b a run).rx = s.rx := by
  unfold State.takeVerb
  split
  · dsimp only
    split
    · simp
    · cases c with
      | none => simp [State.judge_rx h v run _ hr]
      | some c =>
        dsimp only
        split
        · simp [State.onStore]
        · simp [State.judge_rx h v run _ hr]
  · simp

theorem State.takeVerb_time (c : Option Instr) (h : Hdr) (v : Verb) (b a : Bool) (run : State → Done) (s : State)
    (hr : ∀ s, (run s).s.time = s.time) : (s.takeVerb c h v b a run).time = s.time := by
  unfold State.takeVerb
  split
  · dsimp only
    split
    · simp
    · cases c with
      | none => simp [State.judge_time h v run _ hr]
      | some c =>
        dsimp only
        split
        · simp [State.onStore]
        · simp [State.judge_time h v run _ hr]
  · simp

theorem State.takeVerb_sched (c : Option Instr) (h : Hdr) (v : Verb) (b a : Bool) (run : State → Done) (s : State)
    (hr : ∀ s, (run s).s.sched = s.sched) : (s.takeVerb c h v b a run).sched = s.sched := by
  unfold State.takeVerb
  split
  · dsimp only
    split
    · simp
    · cases c with
      | none => simp [State.judge_sched h v run _ hr]
      | some c =>
        dsimp only
        split
        · simp [State.onStore]
        · simp [State.judge_sched h v run _ hr]
  · simp

theorem State.takeVerb_net (c : Option Instr) (h : Hdr) (v : Verb) (b a : Bool) (run : State → Done) (s : State)
    (hr : ∀ s, (run s).s.net = s.net) : (s.takeVerb c h v b a run).net = s.net := by
  unfold State.takeVerb
  split
  · dsimp only
    split
    · simp
    · cases c with
      | none => simp [State.judge_net h v run _ hr]
      | some c =>
        dsimp only
        split
        · simp [State.onStore]
        · simp [State.judge_net h v run _ hr]
  · simp

theorem State.takeVerb_work (c : Option Instr) (h : Hdr) (v : Verb) (b a : Bool) (run : State → Done) (s : State)
    (hr : ∀ s, (run s).s.work = s.work) : (s.takeVerb c h v b a run).work = s.work := by
  unfold State.takeVerb
  split
  · dsimp only
    split
    · simp
    · cases c with
      | none => simp [State.judge_work h v run _ hr]
      | some c =>
        dsimp only
        split
        · simp [State.onStore]
        · simp [State.judge_work h v run _ hr]
  · simp

theorem State.takeVerb_roster (c : Option Instr) (h : Hdr) (v : Verb) (b a : Bool) (run : State → Done) (s : State)
    (hr : ∀ s, (run s).s.roster = s.roster) : (s.takeVerb c h v b a run).roster = s.roster := by
  unfold State.takeVerb
  split
  · dsimp only
    split
    · simp
    · cases c with
      | none => simp [State.judge_roster h v run _ hr]
      | some c =>
        dsimp only
        split
        · simp [State.onStore]
        · simp [State.judge_roster h v run _ hr]
  · simp

theorem State.takeVerb_mon (c : Option Instr) (h : Hdr) (v : Verb) (b a : Bool) (run : State → Done) (s : State)
    (hr : ∀ s, (run s).s.mon = s.mon) : (s.takeVerb c h v b a run).mon = s.mon := by
  unfold State.takeVerb
  split
  · dsimp only
    split
    · simp
    · cases c with
      | none => simp [State.judge_mon h v run _ hr]
      | some c =>
        dsimp only
        split
        · simp [State.onStore]
        · simp [State.judge_mon h v run _ hr]
  · simp

theorem State.takeVerb_image (c : Option Instr) (h : Hdr) (v : Verb) (b a : Bool) (run : State → Done) (s : State)
    (hr : ∀ s, (run s).s.image = s.image) : (s.takeVerb c h v b a run).image = s.image := by
  unfold State.takeVerb
  split
  · dsimp only
    split
    · simp
    · cases c with
      | none => simp [State.judge_image h v run _ hr]
      | some c =>
        dsimp only
        split
        · simp [State.onStore]
        · simp [State.judge_image h v run _ hr]
  · simp

theorem State.takeVerb_faults (c : Option Instr) (h : Hdr) (v : Verb) (b a : Bool) (run : State → Done) (s : State)
    (hr : ∀ s, (run s).s.faults = s.faults) : (s.takeVerb c h v b a run).faults = s.faults := by
  unfold State.takeVerb
  split
  · dsimp only
    split
    · simp
    · cases c with
      | none => simp [State.judge_faults h v run _ hr]
      | some c =>
        dsimp only
        split
        · simp [State.onStore]
        · simp [State.judge_faults h v run _ hr]
  · simp

@[simp] theorem State.verb_pending (h : Hdr) (v : Verb) (b a : Bool) (run : State → Done) (s : State)
    (hr : ∀ s, (run s).s.pending = s.pending) : (s.verb h v b a run).pending = s.pending := State.takeVerb_pending none h v b a run s hr

@[simp] theorem State.change_pending (c : Instr) (h : Hdr) (v : Verb) (b a : Bool) (run : State → Done) (s : State)
    (hr : ∀ s, (run s).s.pending = s.pending) : (s.change c h v b a run).pending = s.pending := State.takeVerb_pending (some c) h v b a run s hr

@[simp] theorem State.verb_now (h : Hdr) (v : Verb) (b a : Bool) (run : State → Done) (s : State)
    (hr : ∀ s, (run s).s.now = s.now) : (s.verb h v b a run).now = s.now := State.takeVerb_now none h v b a run s hr

@[simp] theorem State.change_now (c : Instr) (h : Hdr) (v : Verb) (b a : Bool) (run : State → Done) (s : State)
    (hr : ∀ s, (run s).s.now = s.now) : (s.change c h v b a run).now = s.now := State.takeVerb_now (some c) h v b a run s hr

@[simp] theorem State.verb_part (h : Hdr) (v : Verb) (b a : Bool) (run : State → Done) (s : State)
    (hr : ∀ s, (run s).s.part = s.part) : (s.verb h v b a run).part = s.part := State.takeVerb_part none h v b a run s hr

@[simp] theorem State.change_part (c : Instr) (h : Hdr) (v : Verb) (b a : Bool) (run : State → Done) (s : State)
    (hr : ∀ s, (run s).s.part = s.part) : (s.change c h v b a run).part = s.part := State.takeVerb_part (some c) h v b a run s hr

@[simp] theorem State.verb_wake (h : Hdr) (v : Verb) (b a : Bool) (run : State → Done) (s : State)
    (hr : ∀ s, (run s).s.wake = s.wake) : (s.verb h v b a run).wake = s.wake := State.takeVerb_wake none h v b a run s hr

@[simp] theorem State.change_wake (c : Instr) (h : Hdr) (v : Verb) (b a : Bool) (run : State → Done) (s : State)
    (hr : ∀ s, (run s).s.wake = s.wake) : (s.change c h v b a run).wake = s.wake := State.takeVerb_wake (some c) h v b a run s hr

@[simp] theorem State.verb_jomen (h : Hdr) (v : Verb) (b a : Bool) (run : State → Done) (s : State)
    (hr : ∀ s, (run s).s.jomen = s.jomen) : (s.verb h v b a run).jomen = s.jomen := State.takeVerb_jomen none h v b a run s hr

@[simp] theorem State.change_jomen (c : Instr) (h : Hdr) (v : Verb) (b a : Bool) (run : State → Done) (s : State)
    (hr : ∀ s, (run s).s.jomen = s.jomen) : (s.change c h v b a run).jomen = s.jomen := State.takeVerb_jomen (some c) h v b a run s hr

@[simp] theorem State.verb_radio (h : Hdr) (v : Verb) (b a : Bool) (run : State → Done) (s : State)
    (hr : ∀ s, (run s).s.radio = s.radio) : (s.verb h v b a run).radio = s.radio := State.takeVerb_radio none h v b a run s hr

@[simp] theorem State.change_radio (c : Instr) (h : Hdr) (v : Verb) (b a : Bool) (run : State → Done) (s : State)
    (hr : ∀ s, (run s).s.radio = s.radio) : (s.change c h v b a run).radio = s.radio := State.takeVerb_radio (some c) h v b a run s hr

@[simp] theorem State.verb_rx (h : Hdr) (v : Verb) (b a : Bool) (run : State → Done) (s : State)
    (hr : ∀ s, (run s).s.rx = s.rx) : (s.verb h v b a run).rx = s.rx := State.takeVerb_rx none h v b a run s hr

@[simp] theorem State.change_rx (c : Instr) (h : Hdr) (v : Verb) (b a : Bool) (run : State → Done) (s : State)
    (hr : ∀ s, (run s).s.rx = s.rx) : (s.change c h v b a run).rx = s.rx := State.takeVerb_rx (some c) h v b a run s hr

@[simp] theorem State.verb_time (h : Hdr) (v : Verb) (b a : Bool) (run : State → Done) (s : State)
    (hr : ∀ s, (run s).s.time = s.time) : (s.verb h v b a run).time = s.time := State.takeVerb_time none h v b a run s hr

@[simp] theorem State.change_time (c : Instr) (h : Hdr) (v : Verb) (b a : Bool) (run : State → Done) (s : State)
    (hr : ∀ s, (run s).s.time = s.time) : (s.change c h v b a run).time = s.time := State.takeVerb_time (some c) h v b a run s hr

@[simp] theorem State.verb_sched (h : Hdr) (v : Verb) (b a : Bool) (run : State → Done) (s : State)
    (hr : ∀ s, (run s).s.sched = s.sched) : (s.verb h v b a run).sched = s.sched := State.takeVerb_sched none h v b a run s hr

@[simp] theorem State.change_sched (c : Instr) (h : Hdr) (v : Verb) (b a : Bool) (run : State → Done) (s : State)
    (hr : ∀ s, (run s).s.sched = s.sched) : (s.change c h v b a run).sched = s.sched := State.takeVerb_sched (some c) h v b a run s hr

@[simp] theorem State.verb_net (h : Hdr) (v : Verb) (b a : Bool) (run : State → Done) (s : State)
    (hr : ∀ s, (run s).s.net = s.net) : (s.verb h v b a run).net = s.net := State.takeVerb_net none h v b a run s hr

@[simp] theorem State.change_net (c : Instr) (h : Hdr) (v : Verb) (b a : Bool) (run : State → Done) (s : State)
    (hr : ∀ s, (run s).s.net = s.net) : (s.change c h v b a run).net = s.net := State.takeVerb_net (some c) h v b a run s hr

@[simp] theorem State.verb_work (h : Hdr) (v : Verb) (b a : Bool) (run : State → Done) (s : State)
    (hr : ∀ s, (run s).s.work = s.work) : (s.verb h v b a run).work = s.work := State.takeVerb_work none h v b a run s hr

@[simp] theorem State.change_work (c : Instr) (h : Hdr) (v : Verb) (b a : Bool) (run : State → Done) (s : State)
    (hr : ∀ s, (run s).s.work = s.work) : (s.change c h v b a run).work = s.work := State.takeVerb_work (some c) h v b a run s hr

@[simp] theorem State.verb_roster (h : Hdr) (v : Verb) (b a : Bool) (run : State → Done) (s : State)
    (hr : ∀ s, (run s).s.roster = s.roster) : (s.verb h v b a run).roster = s.roster := State.takeVerb_roster none h v b a run s hr

@[simp] theorem State.change_roster (c : Instr) (h : Hdr) (v : Verb) (b a : Bool) (run : State → Done) (s : State)
    (hr : ∀ s, (run s).s.roster = s.roster) : (s.change c h v b a run).roster = s.roster := State.takeVerb_roster (some c) h v b a run s hr

@[simp] theorem State.verb_mon (h : Hdr) (v : Verb) (b a : Bool) (run : State → Done) (s : State)
    (hr : ∀ s, (run s).s.mon = s.mon) : (s.verb h v b a run).mon = s.mon := State.takeVerb_mon none h v b a run s hr

@[simp] theorem State.change_mon (c : Instr) (h : Hdr) (v : Verb) (b a : Bool) (run : State → Done) (s : State)
    (hr : ∀ s, (run s).s.mon = s.mon) : (s.change c h v b a run).mon = s.mon := State.takeVerb_mon (some c) h v b a run s hr

@[simp] theorem State.verb_image (h : Hdr) (v : Verb) (b a : Bool) (run : State → Done) (s : State)
    (hr : ∀ s, (run s).s.image = s.image) : (s.verb h v b a run).image = s.image := State.takeVerb_image none h v b a run s hr

@[simp] theorem State.change_image (c : Instr) (h : Hdr) (v : Verb) (b a : Bool) (run : State → Done) (s : State)
    (hr : ∀ s, (run s).s.image = s.image) : (s.change c h v b a run).image = s.image := State.takeVerb_image (some c) h v b a run s hr

@[simp] theorem State.verb_faults (h : Hdr) (v : Verb) (b a : Bool) (run : State → Done) (s : State)
    (hr : ∀ s, (run s).s.faults = s.faults) : (s.verb h v b a run).faults = s.faults := State.takeVerb_faults none h v b a run s hr

@[simp] theorem State.change_faults (c : Instr) (h : Hdr) (v : Verb) (b a : Bool) (run : State → Done) (s : State)
    (hr : ∀ s, (run s).s.faults = s.faults) : (s.change c h v b a run).faults = s.faults := State.takeVerb_faults (some c) h v b a run s hr

/-! ## The state in which a line is judged -/

/-- A line that the part judges is judged in the state in which it is heard. -/
theorem State.verb_judged {h : Hdr} {s : State} (v : Verb) (b : Bool) (run : State → Done) (hj : s.judges h)
    (hb : h.addr = some 0 → b = true) :
    s.verb h v b false run = State.finish ((s.heard h).lineOrigin h) h v (run (s.heard h)) := by
  obtain ⟨h1, h2, h3⟩ := hj
  have h4 : (h.addr == some 0 && !b) = false := by
    by_cases h0 : h.addr = some 0
    · simp [hb h0]
    · simp [h0]
  simp only [State.heard] at h3
  simp [State.verb, State.takeVerb, State.judge, State.heard, h1, h2, h3, h4]

theorem State.verb_takes {h : Hdr} {s : State} (v : Verb) (b : Bool) (run : State → Done) (ht : s.takes h) :
    s.verb h v b false run = State.finish ((s.heard h).lineOrigin h) h v (run (s.heard h)) :=
  State.verb_judged v b run ht.1 (fun h0 => absurd h0 ht.2)

/-- Nothing keeps a change waiting. -/
theorem State.mustWait_free {s : State} (c : Instr) (hw : s.noWait) : s.mustWait c = false := by
  obtain ⟨h1, h2, h3⟩ := hw
  simp [State.mustWait, h1, h2, h3]

/-- A change that does not wait is judged as any other line. -/
theorem State.change_judged {h : Hdr} {s : State} (c : Instr) (v : Verb) (b : Bool) (run : State → Done)
    (hj : s.judgesAtOnce h) (hb : h.addr = some 0 → b = true) :
    s.change c h v b false run = State.finish ((s.heard h).lineOrigin h) h v (run (s.heard h)) := by
  rw [← State.verb_judged v b run hj.1 hb]
  obtain ⟨⟨h1, h2, h3⟩, hw⟩ := hj
  have h4 : (h.addr == some 0 && !b) = false := by
    by_cases h0 : h.addr = some 0
    · simp [hb h0]
    · simp [h0]
  have h5 := State.mustWait_free c hw
  simp only [State.heard] at h3 h5
  simp [State.change, State.verb, State.takeVerb, h1, h2, h4, h5]

/-- A change that has to wait joins the changes that wait. -/
theorem State.change_waits {h : Hdr} {s : State} (c : Instr) (v : Verb) (b : Bool) (run : State → Done)
    (hj : s.judges h) (hb : h.addr = some 0 → b = true) (hw : (s.heard h).mustWait c = true) :
    s.change c h v b false run = (s.heard h).onStore (fun x => { x with heldLines := x.heldLines ++ [c] }) := by
  obtain ⟨h1, h2, h3⟩ := hj
  have h4 : (h.addr == some 0 && !b) = false := by
    by_cases h0 : h.addr = some 0
    · simp [hb h0]
    · simp [h0]
  simp only [State.heard] at h3 hw ⊢
  simp [State.change, State.takeVerb, h1, h2, h4, hw]

theorem State.change_takes {h : Hdr} {s : State} (c : Instr) (v : Verb) (b : Bool) (run : State → Done)
    (ht : s.takesAtOnce h) :
    s.change c h v b false run = State.finish ((s.heard h).lineOrigin h) h v (run (s.heard h)) :=
  State.change_judged c v b run ht.1 (fun h0 => absurd h0 ht.2)

theorem actionRun_heard (h : Hdr) (s : State) (obj : Nat) (l : Level) (work : State → Option Aud → Done) :
    actionRun obj l work (s.heard h) =
      needs l (s.acting h) (some obj)
        (some { action := 4, obj := obj, old := .num 0, new := .hash (Config.freeHash (s.heard h).fresh) })
        (work (s.acting h) (some { action := 4, obj := obj, old := .num 0, new := .hash (Config.freeHash (s.heard h).fresh) })) :=
  rfl

theorem State.report_judged {h : Hdr} {s : State} (obj : Nat) (l : Level) (work : State → Done) (hj : s.judges h) :
    s.report h obj l work = State.finish ((s.heard h).lineOrigin h) h .do_
      (needs l (s.heard h) (some obj) none (work (s.heard h))) := by
  rw [State.report, State.verb_judged _ _ _ hj (fun _ => rfl)]

theorem needs_allowed {l : Level} {s : State} {obj : Option Nat} {aud : Option Aud} {k : Done} (hl : s.allowed l = true) :
    needs l s obj aud k = k := by simp [needs, hl]

@[simp] theorem State.acting_allowed (h : Hdr) (s : State) (l : Level) : (s.acting h).allowed l = (s.heard h).allowed l := rfl

@[simp] theorem State.finish_good (o : Origin) (h : Hdr) (v : Verb) (s : State) (out : List OutLine) (obj : Option Nat) :
    State.finish o h v (good s out obj none) = s.reply h out := rfl

@[simp] theorem State.finish_good_some (o : Origin) (h : Hdr) (v : Verb) (s : State) (out : List OutLine) (obj : Option Nat)
    (a : Aud) : State.finish o h v (good s out obj (some a)) = (s.audit o a.action a.obj 0 a.old a.new).reply h out := rfl

@[simp] theorem State.finish_bad (o : Origin) (h : Hdr) (v : Verb) (s : State) (e : Err) (tok : Nat) (obj : Option Nat)
    (h0 : h.addr ≠ some 0) : State.finish o h v (bad s e tok obj none) = s.refuse h v e tok obj := by
  simp [State.finish, State.recordLine, bad, h0]

@[simp] theorem State.finish_bad_some (o : Origin) (h : Hdr) (v : Verb) (s : State) (e : Err) (tok : Nat) (obj : Option Nat)
    (a : Aud) : State.finish o h v (bad s e tok obj (some a)) =
      (s.audit o a.action a.obj (errNum e) a.old a.new).refuse h v e tok obj := rfl

end Sys2Proof.Machine
end

