-- ==== Sys2Proof/Laws/Memory.lean ====
section
/-!
SUPPORT. Sys2Proof/Laws/Memory.lean: the memories of the matcher: a write keeps the canonical form, a byte reads as it was
last written, and a write leaves every other byte alone.
-/

namespace Sys2Proof.Machine

theorem Mem.wfFrom_mono {lo hi : Nat} (h : lo ≤ hi) : ∀ {m : Mem}, Mem.wfFrom hi m = true → Mem.wfFrom lo m = true
  | [], _ => rfl
  | (k, v) :: m, w => by
    simp only [Mem.wfFrom, Bool.and_eq_true, decide_eq_true_eq] at w ⊢
    exact ⟨⟨h.trans w.1.1, w.1.2⟩, w.2⟩

theorem Mem.wfFrom_cons {lo k : Nat} {v : Byte} {m : Mem} :
    Mem.wfFrom lo ((k, v) :: m) = true ↔ lo ≤ k ∧ v ≠ 0 ∧ Mem.wfFrom (k + 1) m = true := by
  simp [Mem.wfFrom, and_assoc]

theorem Mem.wfFrom_write {lo a : Nat} (b : Byte) (h : lo ≤ a) : ∀ {m : Mem}, Mem.wfFrom lo m = true →
    Mem.wfFrom lo (Mem.write m a b) = true
  | [], _ => by
    unfold Mem.write
    split
    · rfl
    · exact Mem.wfFrom_cons.2 ⟨h, ‹_›, rfl⟩
  | (k, v) :: m, w => by
    obtain ⟨w1, w2, w3⟩ := Mem.wfFrom_cons.1 w
    unfold Mem.write
    split
    · split
      · exact w
      · exact Mem.wfFrom_cons.2 ⟨h, ‹_›, Mem.wfFrom_cons.2 ⟨‹_›, w2, w3⟩⟩
    · split
      · subst a
        split
        · exact Mem.wfFrom_mono (by omega) w3
        · exact Mem.wfFrom_cons.2 ⟨h, ‹_›, w3⟩
      · exact Mem.wfFrom_cons.2 ⟨w1, w2, Mem.wfFrom_write b (by omega) w3⟩

/-- A write keeps the canonical form. -/
theorem Mem.wf_write {m : Mem} (a : Nat) (b : Byte) (h : m.wf = true) : (m.write a b).wf = true :=
  Mem.wfFrom_write b (Nat.zero_le a) h

theorem Mem.wf_writeAll (cells : List Host.Cell) : ∀ {m : Mem}, m.wf = true → (m.writeAll cells).wf = true := by
  induction cells with
  | nil => exact id
  | cons c cs ih => exact fun h => ih (Mem.wf_write _ _ h)

theorem Mem.wf_orAll (cells : List Host.Cell) : ∀ {m : Mem}, m.wf = true → (m.orAll cells).wf = true := by
  induction cells with
  | nil => exact id
  | cons c cs ih => exact fun h => ih (Mem.wf_write _ _ h)

/-- A byte below every listed address reads 0. -/
theorem Mem.read_below {lo a : Nat} (h : a < lo) : ∀ {m : Mem}, Mem.wfFrom lo m = true → m.read a = 0
  | [], _ => rfl
  | (k, v) :: m, w => by
    obtain ⟨w1, -, w3⟩ := Mem.wfFrom_cons.1 w
    rw [Mem.read, if_neg (by omega)]
    exact Mem.read_below (by omega) w3

/-- A byte reads as it was written, and every other byte as before. -/
theorem Mem.read_write_from {lo : Nat} (a : Nat) (b : Byte) (c : Nat) : ∀ {m : Mem}, Mem.wfFrom lo m = true →
    (m.write a b).read c = if c = a then b else m.read c
  | [], _ => by
    unfold Mem.write
    by_cases hc : c = a
    · subst c; split <;> simp_all [Mem.read]
    · have := Ne.symm hc; split <;> simp_all [Mem.read]
  | (k, v) :: m, w => by
    obtain ⟨w1, w2, w3⟩ := Mem.wfFrom_cons.1 w
    have ih := Mem.read_write_from a b c w3
    unfold Mem.write
    by_cases hc : c = a
    · subst c
      rw [if_pos rfl] at ih ⊢
      split
      · have hz : Mem.read m a = 0 := Mem.read_below (by omega) w3
        split
        · rw [Mem.read, if_neg (by omega), hz]; exact Eq.symm ‹_›
        · rw [Mem.read, if_pos rfl]
      · split
        · subst k
          have hz : Mem.read m a = 0 := Mem.read_below (by omega) w3
          split
          · rw [hz]; exact Eq.symm ‹_›
          · rw [Mem.read, if_pos rfl]
        · rw [Mem.read, if_neg (by omega), ih]
    · rw [if_neg hc] at ih ⊢
      split
      · split
        · rfl
        · rw [Mem.read, if_neg (Ne.symm hc)]
      · split
        · subst k
          split
          · rw [Mem.read, if_neg (Ne.symm hc)]
          · rw [Mem.read, if_neg (Ne.symm hc), Mem.read, if_neg (Ne.symm hc)]
        · rw [Mem.read, ih, Mem.read]

theorem Mem.read_write {m : Mem} (a : Nat) (b : Byte) (c : Nat) (h : m.wf = true) :
    (m.write a b).read c = if c = a then b else m.read c := Mem.read_write_from a b c h

end Sys2Proof.Machine
end

