-- ==== Sys2Proof/Laws/Params.lean ====
section
/-!
SUPPORT. Sys2Proof/Laws/Params.lean: what a trigger brings into force: nothing of a parameter whose card takes effect at
another.
-/

namespace Sys2Proof.Machine

theorem PRow.settle_obj (r : PRow) : r.settle.obj = r.obj := by unfold PRow.settle; split <;> rfl

/-- The rows after a trigger. -/
theorem State.prow_fire (tr : Trigger) (obj : Nat) (s : State) :
    (s.fire tr).prow obj = (s.prow obj).map (fun r => if (cardOf obj).map Card.eff = some tr then r.settle else r) := by
  simp only [State.prow, State.fire]
  induction s.params with
  | nil => rfl
  | cons r l ih =>
    have hr : (if (cardOf r.obj).map Card.eff = some tr then r.settle else r).obj = r.obj := by
      split
      · exact PRow.settle_obj r
      · rfl
    by_cases h : r.obj = obj
    · subst h
      rw [List.map_cons, List.find?_cons_of_pos (by rw [hr]; exact beq_self_eq_true _),
        List.find?_cons_of_pos (p := fun x : PRow => x.obj == r.obj) (beq_self_eq_true _), Option.map_some]
    · rw [List.map_cons, List.find?_cons_of_neg (by rw [hr]; exact fun e => h (eq_of_beq e)), ih,
        List.find?_cons_of_neg (p := fun x : PRow => x.obj == obj) (fun e => h (eq_of_beq e))]

theorem State.prow_fire_other {tr : Trigger} {obj : Nat} (s : State) (h : (cardOf obj).map Card.eff ≠ some tr) :
    (s.fire tr).prow obj = s.prow obj := by
  rw [State.prow_fire, if_neg_fun h]
  simp
where
  /-- A branch that is never taken. -/
  if_neg_fun {p : Prop} [Decidable p] (h : ¬p) : (fun r : PRow => if p then r.settle else r) = id := by
    funext r; simp [h]

/-- A parameter keeps its value at a trigger that is not its card's. -/
theorem State.pval_fire {tr : Trigger} {obj : Nat} (s : State) (h : (cardOf obj).map Card.eff ≠ some tr) :
    (s.fire tr).pval obj = s.pval obj := by
  unfold State.pval
  rw [State.prow_fire_other s h]
  rfl

theorem State.pnext_fire {tr : Trigger} {obj : Nat} (s : State) (h : (cardOf obj).map Card.eff ≠ some tr) :
    (s.fire tr).pnext obj = s.pnext obj := by
  unfold State.pnext
  rw [State.prow_fire_other s h]

theorem State.pint_fire {tr : Trigger} {obj : Nat} (s : State) (h : (cardOf obj).map Card.eff ≠ some tr) :
    (s.fire tr).pint obj = s.pint obj := by
  unfold State.pint
  rw [State.pval_fire s h]

theorem State.pnat_fire {tr : Trigger} {obj : Nat} (s : State) (h : (cardOf obj).map Card.eff ≠ some tr) :
    (s.fire tr).pnat obj = s.pnat obj := by
  unfold State.pnat
  rw [State.pint_fire s h]

end Sys2Proof.Machine
end

