-- ==== Sys2Proof/Laws/State.lean ====
section
/-!
SUPPORT. Sys2Proof/Laws/State.lean: for each named update of a group of State, what every field of State is after it. All
are true by definition; with them no proof unfolds a record update.
-/

namespace Sys2Proof.Machine

@[simp] theorem State.onLine_pending (f : Line → Line) (s : State) : (s.onLine f).pending = s.pending := rfl
@[simp] theorem State.onLine_now (f : Line → Line) (s : State) : (s.onLine f).now = s.now := rfl
@[simp] theorem State.onLine_fresh (f : Line → Line) (s : State) : (s.onLine f).fresh = s.fresh := rfl
@[simp] theorem State.onLine_part (f : Line → Line) (s : State) : (s.onLine f).part = s.part := rfl
@[simp] theorem State.onLine_params (f : Line → Line) (s : State) : (s.onLine f).params = s.params := rfl
@[simp] theorem State.onLine_line (f : Line → Line) (s : State) : (s.onLine f).line = f s.line := rfl
@[simp] theorem State.onLine_wake (f : Line → Line) (s : State) : (s.onLine f).wake = s.wake := rfl
@[simp] theorem State.onLine_jomen (f : Line → Line) (s : State) : (s.onLine f).jomen = s.jomen := rfl
@[simp] theorem State.onLine_radio (f : Line → Line) (s : State) : (s.onLine f).radio = s.radio := rfl
@[simp] theorem State.onLine_rx (f : Line → Line) (s : State) : (s.onLine f).rx = s.rx := rfl
@[simp] theorem State.onLine_time (f : Line → Line) (s : State) : (s.onLine f).time = s.time := rfl
@[simp] theorem State.onLine_sched (f : Line → Line) (s : State) : (s.onLine f).sched = s.sched := rfl
@[simp] theorem State.onLine_net (f : Line → Line) (s : State) : (s.onLine f).net = s.net := rfl
@[simp] theorem State.onLine_work (f : Line → Line) (s : State) : (s.onLine f).work = s.work := rfl
@[simp] theorem State.onLine_roster (f : Line → Line) (s : State) : (s.onLine f).roster = s.roster := rfl
@[simp] theorem State.onLine_mon (f : Line → Line) (s : State) : (s.onLine f).mon = s.mon := rfl
@[simp] theorem State.onLine_pm (f : Line → Line) (s : State) : (s.onLine f).pm = s.pm := rfl
@[simp] theorem State.onLine_store (f : Line → Line) (s : State) : (s.onLine f).store = s.store := rfl
@[simp] theorem State.onLine_image (f : Line → Line) (s : State) : (s.onLine f).image = s.image := rfl
@[simp] theorem State.onLine_faults (f : Line → Line) (s : State) : (s.onLine f).faults = s.faults := rfl
@[simp] theorem State.onLine_tally (f : Line → Line) (s : State) : (s.onLine f).tally = s.tally := rfl
@[simp] theorem State.onLine_onLine (f g : Line → Line) (s : State) : (s.onLine f).onLine g = s.onLine (fun x => g (f x)) := rfl

@[simp] theorem State.onWake_pending (f : Wake → Wake) (s : State) : (s.onWake f).pending = s.pending := rfl
@[simp] theorem State.onWake_now (f : Wake → Wake) (s : State) : (s.onWake f).now = s.now := rfl
@[simp] theorem State.onWake_fresh (f : Wake → Wake) (s : State) : (s.onWake f).fresh = s.fresh := rfl
@[simp] theorem State.onWake_part (f : Wake → Wake) (s : State) : (s.onWake f).part = s.part := rfl
@[simp] theorem State.onWake_params (f : Wake → Wake) (s : State) : (s.onWake f).params = s.params := rfl
@[simp] theorem State.onWake_line (f : Wake → Wake) (s : State) : (s.onWake f).line = s.line := rfl
@[simp] theorem State.onWake_wake (f : Wake → Wake) (s : State) : (s.onWake f).wake = f s.wake := rfl
@[simp] theorem State.onWake_jomen (f : Wake → Wake) (s : State) : (s.onWake f).jomen = s.jomen := rfl
@[simp] theorem State.onWake_radio (f : Wake → Wake) (s : State) : (s.onWake f).radio = s.radio := rfl
@[simp] theorem State.onWake_rx (f : Wake → Wake) (s : State) : (s.onWake f).rx = s.rx := rfl
@[simp] theorem State.onWake_time (f : Wake → Wake) (s : State) : (s.onWake f).time = s.time := rfl
@[simp] theorem State.onWake_sched (f : Wake → Wake) (s : State) : (s.onWake f).sched = s.sched := rfl
@[simp] theorem State.onWake_net (f : Wake → Wake) (s : State) : (s.onWake f).net = s.net := rfl
@[simp] theorem State.onWake_work (f : Wake → Wake) (s : State) : (s.onWake f).work = s.work := rfl
@[simp] theorem State.onWake_roster (f : Wake → Wake) (s : State) : (s.onWake f).roster = s.roster := rfl
@[simp] theorem State.onWake_mon (f : Wake → Wake) (s : State) : (s.onWake f).mon = s.mon := rfl
@[simp] theorem State.onWake_pm (f : Wake → Wake) (s : State) : (s.onWake f).pm = s.pm := rfl
@[simp] theorem State.onWake_store (f : Wake → Wake) (s : State) : (s.onWake f).store = s.store := rfl
@[simp] theorem State.onWake_image (f : Wake → Wake) (s : State) : (s.onWake f).image = s.image := rfl
@[simp] theorem State.onWake_faults (f : Wake → Wake) (s : State) : (s.onWake f).faults = s.faults := rfl
@[simp] theorem State.onWake_tally (f : Wake → Wake) (s : State) : (s.onWake f).tally = s.tally := rfl
@[simp] theorem State.onWake_onWake (f g : Wake → Wake) (s : State) : (s.onWake f).onWake g = s.onWake (fun x => g (f x)) := rfl

@[simp] theorem State.onJomen_pending (f : Jomen → Jomen) (s : State) : (s.onJomen f).pending = s.pending := rfl
@[simp] theorem State.onJomen_now (f : Jomen → Jomen) (s : State) : (s.onJomen f).now = s.now := rfl
@[simp] theorem State.onJomen_fresh (f : Jomen → Jomen) (s : State) : (s.onJomen f).fresh = s.fresh := rfl
@[simp] theorem State.onJomen_part (f : Jomen → Jomen) (s : State) : (s.onJomen f).part = s.part := rfl
@[simp] theorem State.onJomen_params (f : Jomen → Jomen) (s : State) : (s.onJomen f).params = s.params := rfl
@[simp] theorem State.onJomen_line (f : Jomen → Jomen) (s : State) : (s.onJomen f).line = s.line := rfl
@[simp] theorem State.onJomen_wake (f : Jomen → Jomen) (s : State) : (s.onJomen f).wake = s.wake := rfl
@[simp] theorem State.onJomen_jomen (f : Jomen → Jomen) (s : State) : (s.onJomen f).jomen = f s.jomen := rfl
@[simp] theorem State.onJomen_radio (f : Jomen → Jomen) (s : State) : (s.onJomen f).radio = s.radio := rfl
@[simp] theorem State.onJomen_rx (f : Jomen → Jomen) (s : State) : (s.onJomen f).rx = s.rx := rfl
@[simp] theorem State.onJomen_time (f : Jomen → Jomen) (s : State) : (s.onJomen f).time = s.time := rfl
@[simp] theorem State.onJomen_sched (f : Jomen → Jomen) (s : State) : (s.onJomen f).sched = s.sched := rfl
@[simp] theorem State.onJomen_net (f : Jomen → Jomen) (s : State) : (s.onJomen f).net = s.net := rfl
@[simp] theorem State.onJomen_work (f : Jomen → Jomen) (s : State) : (s.onJomen f).work = s.work := rfl
@[simp] theorem State.onJomen_roster (f : Jomen → Jomen) (s : State) : (s.onJomen f).roster = s.roster := rfl
@[simp] theorem State.onJomen_mon (f : Jomen → Jomen) (s : State) : (s.onJomen f).mon = s.mon := rfl
@[simp] theorem State.onJomen_pm (f : Jomen → Jomen) (s : State) : (s.onJomen f).pm = s.pm := rfl
@[simp] theorem State.onJomen_store (f : Jomen → Jomen) (s : State) : (s.onJomen f).store = s.store := rfl
@[simp] theorem State.onJomen_image (f : Jomen → Jomen) (s : State) : (s.onJomen f).image = s.image := rfl
@[simp] theorem State.onJomen_faults (f : Jomen → Jomen) (s : State) : (s.onJomen f).faults = s.faults := rfl
@[simp] theorem State.onJomen_tally (f : Jomen → Jomen) (s : State) : (s.onJomen f).tally = s.tally := rfl
@[simp] theorem State.onJomen_onJomen (f g : Jomen → Jomen) (s : State) : (s.onJomen f).onJomen g = s.onJomen (fun x => g (f x)) := rfl

@[simp] theorem State.onRadio_pending (f : Radio → Radio) (s : State) : (s.onRadio f).pending = s.pending := rfl
@[simp] theorem State.onRadio_now (f : Radio → Radio) (s : State) : (s.onRadio f).now = s.now := rfl
@[simp] theorem State.onRadio_fresh (f : Radio → Radio) (s : State) : (s.onRadio f).fresh = s.fresh := rfl
@[simp] theorem State.onRadio_part (f : Radio → Radio) (s : State) : (s.onRadio f).part = s.part := rfl
@[simp] theorem State.onRadio_params (f : Radio → Radio) (s : State) : (s.onRadio f).params = s.params := rfl
@[simp] theorem State.onRadio_line (f : Radio → Radio) (s : State) : (s.onRadio f).line = s.line := rfl
@[simp] theorem State.onRadio_wake (f : Radio → Radio) (s : State) : (s.onRadio f).wake = s.wake := rfl
@[simp] theorem State.onRadio_jomen (f : Radio → Radio) (s : State) : (s.onRadio f).jomen = s.jomen := rfl
@[simp] theorem State.onRadio_radio (f : Radio → Radio) (s : State) : (s.onRadio f).radio = f s.radio := rfl
@[simp] theorem State.onRadio_rx (f : Radio → Radio) (s : State) : (s.onRadio f).rx = s.rx := rfl
@[simp] theorem State.onRadio_time (f : Radio → Radio) (s : State) : (s.onRadio f).time = s.time := rfl
@[simp] theorem State.onRadio_sched (f : Radio → Radio) (s : State) : (s.onRadio f).sched = s.sched := rfl
@[simp] theorem State.onRadio_net (f : Radio → Radio) (s : State) : (s.onRadio f).net = s.net := rfl
@[simp] theorem State.onRadio_work (f : Radio → Radio) (s : State) : (s.onRadio f).work = s.work := rfl
@[simp] theorem State.onRadio_roster (f : Radio → Radio) (s : State) : (s.onRadio f).roster = s.roster := rfl
@[simp] theorem State.onRadio_mon (f : Radio → Radio) (s : State) : (s.onRadio f).mon = s.mon := rfl
@[simp] theorem State.onRadio_pm (f : Radio → Radio) (s : State) : (s.onRadio f).pm = s.pm := rfl
@[simp] theorem State.onRadio_store (f : Radio → Radio) (s : State) : (s.onRadio f).store = s.store := rfl
@[simp] theorem State.onRadio_image (f : Radio → Radio) (s : State) : (s.onRadio f).image = s.image := rfl
@[simp] theorem State.onRadio_faults (f : Radio → Radio) (s : State) : (s.onRadio f).faults = s.faults := rfl
@[simp] theorem State.onRadio_tally (f : Radio → Radio) (s : State) : (s.onRadio f).tally = s.tally := rfl
@[simp] theorem State.onRadio_onRadio (f g : Radio → Radio) (s : State) : (s.onRadio f).onRadio g = s.onRadio (fun x => g (f x)) := rfl

@[simp] theorem State.onRx_pending (f : Rx → Rx) (s : State) : (s.onRx f).pending = s.pending := rfl
@[simp] theorem State.onRx_now (f : Rx → Rx) (s : State) : (s.onRx f).now = s.now := rfl
@[simp] theorem State.onRx_fresh (f : Rx → Rx) (s : State) : (s.onRx f).fresh = s.fresh := rfl
@[simp] theorem State.onRx_part (f : Rx → Rx) (s : State) : (s.onRx f).part = s.part := rfl
@[simp] theorem State.onRx_params (f : Rx → Rx) (s : State) : (s.onRx f).params = s.params := rfl
@[simp] theorem State.onRx_line (f : Rx → Rx) (s : State) : (s.onRx f).line = s.line := rfl
@[simp] theorem State.onRx_wake (f : Rx → Rx) (s : State) : (s.onRx f).wake = s.wake := rfl
@[simp] theorem State.onRx_jomen (f : Rx → Rx) (s : State) : (s.onRx f).jomen = s.jomen := rfl
@[simp] theorem State.onRx_radio (f : Rx → Rx) (s : State) : (s.onRx f).radio = s.radio := rfl
@[simp] theorem State.onRx_rx (f : Rx → Rx) (s : State) : (s.onRx f).rx = f s.rx := rfl
@[simp] theorem State.onRx_time (f : Rx → Rx) (s : State) : (s.onRx f).time = s.time := rfl
@[simp] theorem State.onRx_sched (f : Rx → Rx) (s : State) : (s.onRx f).sched = s.sched := rfl
@[simp] theorem State.onRx_net (f : Rx → Rx) (s : State) : (s.onRx f).net = s.net := rfl
@[simp] theorem State.onRx_work (f : Rx → Rx) (s : State) : (s.onRx f).work = s.work := rfl
@[simp] theorem State.onRx_roster (f : Rx → Rx) (s : State) : (s.onRx f).roster = s.roster := rfl
@[simp] theorem State.onRx_mon (f : Rx → Rx) (s : State) : (s.onRx f).mon = s.mon := rfl
@[simp] theorem State.onRx_pm (f : Rx → Rx) (s : State) : (s.onRx f).pm = s.pm := rfl
@[simp] theorem State.onRx_store (f : Rx → Rx) (s : State) : (s.onRx f).store = s.store := rfl
@[simp] theorem State.onRx_image (f : Rx → Rx) (s : State) : (s.onRx f).image = s.image := rfl
@[simp] theorem State.onRx_faults (f : Rx → Rx) (s : State) : (s.onRx f).faults = s.faults := rfl
@[simp] theorem State.onRx_tally (f : Rx → Rx) (s : State) : (s.onRx f).tally = s.tally := rfl
@[simp] theorem State.onRx_onRx (f g : Rx → Rx) (s : State) : (s.onRx f).onRx g = s.onRx (fun x => g (f x)) := rfl

@[simp] theorem State.onTime_pending (f : Time → Time) (s : State) : (s.onTime f).pending = s.pending := rfl
@[simp] theorem State.onTime_now (f : Time → Time) (s : State) : (s.onTime f).now = s.now := rfl
@[simp] theorem State.onTime_fresh (f : Time → Time) (s : State) : (s.onTime f).fresh = s.fresh := rfl
@[simp] theorem State.onTime_part (f : Time → Time) (s : State) : (s.onTime f).part = s.part := rfl
@[simp] theorem State.onTime_params (f : Time → Time) (s : State) : (s.onTime f).params = s.params := rfl
@[simp] theorem State.onTime_line (f : Time → Time) (s : State) : (s.onTime f).line = s.line := rfl
@[simp] theorem State.onTime_wake (f : Time → Time) (s : State) : (s.onTime f).wake = s.wake := rfl
@[simp] theorem State.onTime_jomen (f : Time → Time) (s : State) : (s.onTime f).jomen = s.jomen := rfl
@[simp] theorem State.onTime_radio (f : Time → Time) (s : State) : (s.onTime f).radio = s.radio := rfl
@[simp] theorem State.onTime_rx (f : Time → Time) (s : State) : (s.onTime f).rx = s.rx := rfl
@[simp] theorem State.onTime_time (f : Time → Time) (s : State) : (s.onTime f).time = f s.time := rfl
@[simp] theorem State.onTime_sched (f : Time → Time) (s : State) : (s.onTime f).sched = s.sched := rfl
@[simp] theorem State.onTime_net (f : Time → Time) (s : State) : (s.onTime f).net = s.net := rfl
@[simp] theorem State.onTime_work (f : Time → Time) (s : State) : (s.onTime f).work = s.work := rfl
@[simp] theorem State.onTime_roster (f : Time → Time) (s : State) : (s.onTime f).roster = s.roster := rfl
@[simp] theorem State.onTime_mon (f : Time → Time) (s : State) : (s.onTime f).mon = s.mon := rfl
@[simp] theorem State.onTime_pm (f : Time → Time) (s : State) : (s.onTime f).pm = s.pm := rfl
@[simp] theorem State.onTime_store (f : Time → Time) (s : State) : (s.onTime f).store = s.store := rfl
@[simp] theorem State.onTime_image (f : Time → Time) (s : State) : (s.onTime f).image = s.image := rfl
@[simp] theorem State.onTime_faults (f : Time → Time) (s : State) : (s.onTime f).faults = s.faults := rfl
@[simp] theorem State.onTime_tally (f : Time → Time) (s : State) : (s.onTime f).tally = s.tally := rfl
@[simp] theorem State.onTime_onTime (f g : Time → Time) (s : State) : (s.onTime f).onTime g = s.onTime (fun x => g (f x)) := rfl

@[simp] theorem State.onSched_pending (f : Sched → Sched) (s : State) : (s.onSched f).pending = s.pending := rfl
@[simp] theorem State.onSched_now (f : Sched → Sched) (s : State) : (s.onSched f).now = s.now := rfl
@[simp] theorem State.onSched_fresh (f : Sched → Sched) (s : State) : (s.onSched f).fresh = s.fresh := rfl
@[simp] theorem State.onSched_part (f : Sched → Sched) (s : State) : (s.onSched f).part = s.part := rfl
@[simp] theorem State.onSched_params (f : Sched → Sched) (s : State) : (s.onSched f).params = s.params := rfl
@[simp] theorem State.onSched_line (f : Sched → Sched) (s : State) : (s.onSched f).line = s.line := rfl
@[simp] theorem State.onSched_wake (f : Sched → Sched) (s : State) : (s.onSched f).wake = s.wake := rfl
@[simp] theorem State.onSched_jomen (f : Sched → Sched) (s : State) : (s.onSched f).jomen = s.jomen := rfl
@[simp] theorem State.onSched_radio (f : Sched → Sched) (s : State) : (s.onSched f).radio = s.radio := rfl
@[simp] theorem State.onSched_rx (f : Sched → Sched) (s : State) : (s.onSched f).rx = s.rx := rfl
@[simp] theorem State.onSched_time (f : Sched → Sched) (s : State) : (s.onSched f).time = s.time := rfl
@[simp] theorem State.onSched_sched (f : Sched → Sched) (s : State) : (s.onSched f).sched = f s.sched := rfl
@[simp] theorem State.onSched_net (f : Sched → Sched) (s : State) : (s.onSched f).net = s.net := rfl
@[simp] theorem State.onSched_work (f : Sched → Sched) (s : State) : (s.onSched f).work = s.work := rfl
@[simp] theorem State.onSched_roster (f : Sched → Sched) (s : State) : (s.onSched f).roster = s.roster := rfl
@[simp] theorem State.onSched_mon (f : Sched → Sched) (s : State) : (s.onSched f).mon = s.mon := rfl
@[simp] theorem State.onSched_pm (f : Sched → Sched) (s : State) : (s.onSched f).pm = s.pm := rfl
@[simp] theorem State.onSched_store (f : Sched → Sched) (s : State) : (s.onSched f).store = s.store := rfl
@[simp] theorem State.onSched_image (f : Sched → Sched) (s : State) : (s.onSched f).image = s.image := rfl
@[simp] theorem State.onSched_faults (f : Sched → Sched) (s : State) : (s.onSched f).faults = s.faults := rfl
@[simp] theorem State.onSched_tally (f : Sched → Sched) (s : State) : (s.onSched f).tally = s.tally := rfl
@[simp] theorem State.onSched_onSched (f g : Sched → Sched) (s : State) : (s.onSched f).onSched g = s.onSched (fun x => g (f x)) := rfl

@[simp] theorem State.onNet_pending (f : Net → Net) (s : State) : (s.onNet f).pending = s.pending := rfl
@[simp] theorem State.onNet_now (f : Net → Net) (s : State) : (s.onNet f).now = s.now := rfl
@[simp] theorem State.onNet_fresh (f : Net → Net) (s : State) : (s.onNet f).fresh = s.fresh := rfl
@[simp] theorem State.onNet_part (f : Net → Net) (s : State) : (s.onNet f).part = s.part := rfl
@[simp] theorem State.onNet_params (f : Net → Net) (s : State) : (s.onNet f).params = s.params := rfl
@[simp] theorem State.onNet_line (f : Net → Net) (s : State) : (s.onNet f).line = s.line := rfl
@[simp] theorem State.onNet_wake (f : Net → Net) (s : State) : (s.onNet f).wake = s.wake := rfl
@[simp] theorem State.onNet_jomen (f : Net → Net) (s : State) : (s.onNet f).jomen = s.jomen := rfl
@[simp] theorem State.onNet_radio (f : Net → Net) (s : State) : (s.onNet f).radio = s.radio := rfl
@[simp] theorem State.onNet_rx (f : Net → Net) (s : State) : (s.onNet f).rx = s.rx := rfl
@[simp] theorem State.onNet_time (f : Net → Net) (s : State) : (s.onNet f).time = s.time := rfl
@[simp] theorem State.onNet_sched (f : Net → Net) (s : State) : (s.onNet f).sched = s.sched := rfl
@[simp] theorem State.onNet_net (f : Net → Net) (s : State) : (s.onNet f).net = f s.net := rfl
@[simp] theorem State.onNet_work (f : Net → Net) (s : State) : (s.onNet f).work = s.work := rfl
@[simp] theorem State.onNet_roster (f : Net → Net) (s : State) : (s.onNet f).roster = s.roster := rfl
@[simp] theorem State.onNet_mon (f : Net → Net) (s : State) : (s.onNet f).mon = s.mon := rfl
@[simp] theorem State.onNet_pm (f : Net → Net) (s : State) : (s.onNet f).pm = s.pm := rfl
@[simp] theorem State.onNet_store (f : Net → Net) (s : State) : (s.onNet f).store = s.store := rfl
@[simp] theorem State.onNet_image (f : Net → Net) (s : State) : (s.onNet f).image = s.image := rfl
@[simp] theorem State.onNet_faults (f : Net → Net) (s : State) : (s.onNet f).faults = s.faults := rfl
@[simp] theorem State.onNet_tally (f : Net → Net) (s : State) : (s.onNet f).tally = s.tally := rfl
@[simp] theorem State.onNet_onNet (f g : Net → Net) (s : State) : (s.onNet f).onNet g = s.onNet (fun x => g (f x)) := rfl

@[simp] theorem State.onWork_pending (f : Work → Work) (s : State) : (s.onWork f).pending = s.pending := rfl
@[simp] theorem State.onWork_now (f : Work → Work) (s : State) : (s.onWork f).now = s.now := rfl
@[simp] theorem State.onWork_fresh (f : Work → Work) (s : State) : (s.onWork f).fresh = s.fresh := rfl
@[simp] theorem State.onWork_part (f : Work → Work) (s : State) : (s.onWork f).part = s.part := rfl
@[simp] theorem State.onWork_params (f : Work → Work) (s : State) : (s.onWork f).params = s.params := rfl
@[simp] theorem State.onWork_line (f : Work → Work) (s : State) : (s.onWork f).line = s.line := rfl
@[simp] theorem State.onWork_wake (f : Work → Work) (s : State) : (s.onWork f).wake = s.wake := rfl
@[simp] theorem State.onWork_jomen (f : Work → Work) (s : State) : (s.onWork f).jomen = s.jomen := rfl
@[simp] theorem State.onWork_radio (f : Work → Work) (s : State) : (s.onWork f).radio = s.radio := rfl
@[simp] theorem State.onWork_rx (f : Work → Work) (s : State) : (s.onWork f).rx = s.rx := rfl
@[simp] theorem State.onWork_time (f : Work → Work) (s : State) : (s.onWork f).time = s.time := rfl
@[simp] theorem State.onWork_sched (f : Work → Work) (s : State) : (s.onWork f).sched = s.sched := rfl
@[simp] theorem State.onWork_net (f : Work → Work) (s : State) : (s.onWork f).net = s.net := rfl
@[simp] theorem State.onWork_work (f : Work → Work) (s : State) : (s.onWork f).work = f s.work := rfl
@[simp] theorem State.onWork_roster (f : Work → Work) (s : State) : (s.onWork f).roster = s.roster := rfl
@[simp] theorem State.onWork_mon (f : Work → Work) (s : State) : (s.onWork f).mon = s.mon := rfl
@[simp] theorem State.onWork_pm (f : Work → Work) (s : State) : (s.onWork f).pm = s.pm := rfl
@[simp] theorem State.onWork_store (f : Work → Work) (s : State) : (s.onWork f).store = s.store := rfl
@[simp] theorem State.onWork_image (f : Work → Work) (s : State) : (s.onWork f).image = s.image := rfl
@[simp] theorem State.onWork_faults (f : Work → Work) (s : State) : (s.onWork f).faults = s.faults := rfl
@[simp] theorem State.onWork_tally (f : Work → Work) (s : State) : (s.onWork f).tally = s.tally := rfl
@[simp] theorem State.onWork_onWork (f g : Work → Work) (s : State) : (s.onWork f).onWork g = s.onWork (fun x => g (f x)) := rfl

@[simp] theorem State.onRoster_pending (f : Roster → Roster) (s : State) : (s.onRoster f).pending = s.pending := rfl
@[simp] theorem State.onRoster_now (f : Roster → Roster) (s : State) : (s.onRoster f).now = s.now := rfl
@[simp] theorem State.onRoster_fresh (f : Roster → Roster) (s : State) : (s.onRoster f).fresh = s.fresh := rfl
@[simp] theorem State.onRoster_part (f : Roster → Roster) (s : State) : (s.onRoster f).part = s.part := rfl
@[simp] theorem State.onRoster_params (f : Roster → Roster) (s : State) : (s.onRoster f).params = s.params := rfl
@[simp] theorem State.onRoster_line (f : Roster → Roster) (s : State) : (s.onRoster f).line = s.line := rfl
@[simp] theorem State.onRoster_wake (f : Roster → Roster) (s : State) : (s.onRoster f).wake = s.wake := rfl
@[simp] theorem State.onRoster_jomen (f : Roster → Roster) (s : State) : (s.onRoster f).jomen = s.jomen := rfl
@[simp] theorem State.onRoster_radio (f : Roster → Roster) (s : State) : (s.onRoster f).radio = s.radio := rfl
@[simp] theorem State.onRoster_rx (f : Roster → Roster) (s : State) : (s.onRoster f).rx = s.rx := rfl
@[simp] theorem State.onRoster_time (f : Roster → Roster) (s : State) : (s.onRoster f).time = s.time := rfl
@[simp] theorem State.onRoster_sched (f : Roster → Roster) (s : State) : (s.onRoster f).sched = s.sched := rfl
@[simp] theorem State.onRoster_net (f : Roster → Roster) (s : State) : (s.onRoster f).net = s.net := rfl
@[simp] theorem State.onRoster_work (f : Roster → Roster) (s : State) : (s.onRoster f).work = s.work := rfl
@[simp] theorem State.onRoster_roster (f : Roster → Roster) (s : State) : (s.onRoster f).roster = f s.roster := rfl
@[simp] theorem State.onRoster_mon (f : Roster → Roster) (s : State) : (s.onRoster f).mon = s.mon := rfl
@[simp] theorem State.onRoster_pm (f : Roster → Roster) (s : State) : (s.onRoster f).pm = s.pm := rfl
@[simp] theorem State.onRoster_store (f : Roster → Roster) (s : State) : (s.onRoster f).store = s.store := rfl
@[simp] theorem State.onRoster_image (f : Roster → Roster) (s : State) : (s.onRoster f).image = s.image := rfl
@[simp] theorem State.onRoster_faults (f : Roster → Roster) (s : State) : (s.onRoster f).faults = s.faults := rfl
@[simp] theorem State.onRoster_tally (f : Roster → Roster) (s : State) : (s.onRoster f).tally = s.tally := rfl
@[simp] theorem State.onRoster_onRoster (f g : Roster → Roster) (s : State) : (s.onRoster f).onRoster g = s.onRoster (fun x => g (f x)) := rfl

@[simp] theorem State.onMon_pending (f : Mons → Mons) (s : State) : (s.onMon f).pending = s.pending := rfl
@[simp] theorem State.onMon_now (f : Mons → Mons) (s : State) : (s.onMon f).now = s.now := rfl
@[simp] theorem State.onMon_fresh (f : Mons → Mons) (s : State) : (s.onMon f).fresh = s.fresh := rfl
@[simp] theorem State.onMon_part (f : Mons → Mons) (s : State) : (s.onMon f).part = s.part := rfl
@[simp] theorem State.onMon_params (f : Mons → Mons) (s : State) : (s.onMon f).params = s.params := rfl
@[simp] theorem State.onMon_line (f : Mons → Mons) (s : State) : (s.onMon f).line = s.line := rfl
@[simp] theorem State.onMon_wake (f : Mons → Mons) (s : State) : (s.onMon f).wake = s.wake := rfl
@[simp] theorem State.onMon_jomen (f : Mons → Mons) (s : State) : (s.onMon f).jomen = s.jomen := rfl
@[simp] theorem State.onMon_radio (f : Mons → Mons) (s : State) : (s.onMon f).radio = s.radio := rfl
@[simp] theorem State.onMon_rx (f : Mons → Mons) (s : State) : (s.onMon f).rx = s.rx := rfl
@[simp] theorem State.onMon_time (f : Mons → Mons) (s : State) : (s.onMon f).time = s.time := rfl
@[simp] theorem State.onMon_sched (f : Mons → Mons) (s : State) : (s.onMon f).sched = s.sched := rfl
@[simp] theorem State.onMon_net (f : Mons → Mons) (s : State) : (s.onMon f).net = s.net := rfl
@[simp] theorem State.onMon_work (f : Mons → Mons) (s : State) : (s.onMon f).work = s.work := rfl
@[simp] theorem State.onMon_roster (f : Mons → Mons) (s : State) : (s.onMon f).roster = s.roster := rfl
@[simp] theorem State.onMon_mon (f : Mons → Mons) (s : State) : (s.onMon f).mon = f s.mon := rfl
@[simp] theorem State.onMon_pm (f : Mons → Mons) (s : State) : (s.onMon f).pm = s.pm := rfl
@[simp] theorem State.onMon_store (f : Mons → Mons) (s : State) : (s.onMon f).store = s.store := rfl
@[simp] theorem State.onMon_image (f : Mons → Mons) (s : State) : (s.onMon f).image = s.image := rfl
@[simp] theorem State.onMon_faults (f : Mons → Mons) (s : State) : (s.onMon f).faults = s.faults := rfl
@[simp] theorem State.onMon_tally (f : Mons → Mons) (s : State) : (s.onMon f).tally = s.tally := rfl
@[simp] theorem State.onMon_onMon (f g : Mons → Mons) (s : State) : (s.onMon f).onMon g = s.onMon (fun x => g (f x)) := rfl

@[simp] theorem State.onPm_pending (f : Pm → Pm) (s : State) : (s.onPm f).pending = s.pending := rfl
@[simp] theorem State.onPm_now (f : Pm → Pm) (s : State) : (s.onPm f).now = s.now := rfl
@[simp] theorem State.onPm_fresh (f : Pm → Pm) (s : State) : (s.onPm f).fresh = s.fresh := rfl
@[simp] theorem State.onPm_part (f : Pm → Pm) (s : State) : (s.onPm f).part = s.part := rfl
@[simp] theorem State.onPm_params (f : Pm → Pm) (s : State) : (s.onPm f).params = s.params := rfl
@[simp] theorem State.onPm_line (f : Pm → Pm) (s : State) : (s.onPm f).line = s.line := rfl
@[simp] theorem State.onPm_wake (f : Pm → Pm) (s : State) : (s.onPm f).wake = s.wake := rfl
@[simp] theorem State.onPm_jomen (f : Pm → Pm) (s : State) : (s.onPm f).jomen = s.jomen := rfl
@[simp] theorem State.onPm_radio (f : Pm → Pm) (s : State) : (s.onPm f).radio = s.radio := rfl
@[simp] theorem State.onPm_rx (f : Pm → Pm) (s : State) : (s.onPm f).rx = s.rx := rfl
@[simp] theorem State.onPm_time (f : Pm → Pm) (s : State) : (s.onPm f).time = s.time := rfl
@[simp] theorem State.onPm_sched (f : Pm → Pm) (s : State) : (s.onPm f).sched = s.sched := rfl
@[simp] theorem State.onPm_net (f : Pm → Pm) (s : State) : (s.onPm f).net = s.net := rfl
@[simp] theorem State.onPm_work (f : Pm → Pm) (s : State) : (s.onPm f).work = s.work := rfl
@[simp] theorem State.onPm_roster (f : Pm → Pm) (s : State) : (s.onPm f).roster = s.roster := rfl
@[simp] theorem State.onPm_mon (f : Pm → Pm) (s : State) : (s.onPm f).mon = s.mon := rfl
@[simp] theorem State.onPm_pm (f : Pm → Pm) (s : State) : (s.onPm f).pm = f s.pm := rfl
@[simp] theorem State.onPm_store (f : Pm → Pm) (s : State) : (s.onPm f).store = s.store := rfl
@[simp] theorem State.onPm_image (f : Pm → Pm) (s : State) : (s.onPm f).image = s.image := rfl
@[simp] theorem State.onPm_faults (f : Pm → Pm) (s : State) : (s.onPm f).faults = s.faults := rfl
@[simp] theorem State.onPm_tally (f : Pm → Pm) (s : State) : (s.onPm f).tally = s.tally := rfl
@[simp] theorem State.onPm_onPm (f g : Pm → Pm) (s : State) : (s.onPm f).onPm g = s.onPm (fun x => g (f x)) := rfl

@[simp] theorem State.onStore_pending (f : Store → Store) (s : State) : (s.onStore f).pending = s.pending := rfl
@[simp] theorem State.onStore_now (f : Store → Store) (s : State) : (s.onStore f).now = s.now := rfl
@[simp] theorem State.onStore_fresh (f : Store → Store) (s : State) : (s.onStore f).fresh = s.fresh := rfl
@[simp] theorem State.onStore_part (f : Store → Store) (s : State) : (s.onStore f).part = s.part := rfl
@[simp] theorem State.onStore_params (f : Store → Store) (s : State) : (s.onStore f).params = s.params := rfl
@[simp] theorem State.onStore_line (f : Store → Store) (s : State) : (s.onStore f).line = s.line := rfl
@[simp] theorem State.onStore_wake (f : Store → Store) (s : State) : (s.onStore f).wake = s.wake := rfl
@[simp] theorem State.onStore_jomen (f : Store → Store) (s : State) : (s.onStore f).jomen = s.jomen := rfl
@[simp] theorem State.onStore_radio (f : Store → Store) (s : State) : (s.onStore f).radio = s.radio := rfl
@[simp] theorem State.onStore_rx (f : Store → Store) (s : State) : (s.onStore f).rx = s.rx := rfl
@[simp] theorem State.onStore_time (f : Store → Store) (s : State) : (s.onStore f).time = s.time := rfl
@[simp] theorem State.onStore_sched (f : Store → Store) (s : State) : (s.onStore f).sched = s.sched := rfl
@[simp] theorem State.onStore_net (f : Store → Store) (s : State) : (s.onStore f).net = s.net := rfl
@[simp] theorem State.onStore_work (f : Store → Store) (s : State) : (s.onStore f).work = s.work := rfl
@[simp] theorem State.onStore_roster (f : Store → Store) (s : State) : (s.onStore f).roster = s.roster := rfl
@[simp] theorem State.onStore_mon (f : Store → Store) (s : State) : (s.onStore f).mon = s.mon := rfl
@[simp] theorem State.onStore_pm (f : Store → Store) (s : State) : (s.onStore f).pm = s.pm := rfl
@[simp] theorem State.onStore_store (f : Store → Store) (s : State) : (s.onStore f).store = f s.store := rfl
@[simp] theorem State.onStore_image (f : Store → Store) (s : State) : (s.onStore f).image = s.image := rfl
@[simp] theorem State.onStore_faults (f : Store → Store) (s : State) : (s.onStore f).faults = s.faults := rfl
@[simp] theorem State.onStore_tally (f : Store → Store) (s : State) : (s.onStore f).tally = s.tally := rfl
@[simp] theorem State.onStore_onStore (f g : Store → Store) (s : State) : (s.onStore f).onStore g = s.onStore (fun x => g (f x)) := rfl

@[simp] theorem State.onImage_pending (f : Images → Images) (s : State) : (s.onImage f).pending = s.pending := rfl
@[simp] theorem State.onImage_now (f : Images → Images) (s : State) : (s.onImage f).now = s.now := rfl
@[simp] theorem State.onImage_fresh (f : Images → Images) (s : State) : (s.onImage f).fresh = s.fresh := rfl
@[simp] theorem State.onImage_part (f : Images → Images) (s : State) : (s.onImage f).part = s.part := rfl
@[simp] theorem State.onImage_params (f : Images → Images) (s : State) : (s.onImage f).params = s.params := rfl
@[simp] theorem State.onImage_line (f : Images → Images) (s : State) : (s.onImage f).line = s.line := rfl
@[simp] theorem State.onImage_wake (f : Images → Images) (s : State) : (s.onImage f).wake = s.wake := rfl
@[simp] theorem State.onImage_jomen (f : Images → Images) (s : State) : (s.onImage f).jomen = s.jomen := rfl
@[simp] theorem State.onImage_radio (f : Images → Images) (s : State) : (s.onImage f).radio = s.radio := rfl
@[simp] theorem State.onImage_rx (f : Images → Images) (s : State) : (s.onImage f).rx = s.rx := rfl
@[simp] theorem State.onImage_time (f : Images → Images) (s : State) : (s.onImage f).time = s.time := rfl
@[simp] theorem State.onImage_sched (f : Images → Images) (s : State) : (s.onImage f).sched = s.sched := rfl
@[simp] theorem State.onImage_net (f : Images → Images) (s : State) : (s.onImage f).net = s.net := rfl
@[simp] theorem State.onImage_work (f : Images → Images) (s : State) : (s.onImage f).work = s.work := rfl
@[simp] theorem State.onImage_roster (f : Images → Images) (s : State) : (s.onImage f).roster = s.roster := rfl
@[simp] theorem State.onImage_mon (f : Images → Images) (s : State) : (s.onImage f).mon = s.mon := rfl
@[simp] theorem State.onImage_pm (f : Images → Images) (s : State) : (s.onImage f).pm = s.pm := rfl
@[simp] theorem State.onImage_store (f : Images → Images) (s : State) : (s.onImage f).store = s.store := rfl
@[simp] theorem State.onImage_image (f : Images → Images) (s : State) : (s.onImage f).image = f s.image := rfl
@[simp] theorem State.onImage_faults (f : Images → Images) (s : State) : (s.onImage f).faults = s.faults := rfl
@[simp] theorem State.onImage_tally (f : Images → Images) (s : State) : (s.onImage f).tally = s.tally := rfl
@[simp] theorem State.onImage_onImage (f g : Images → Images) (s : State) : (s.onImage f).onImage g = s.onImage (fun x => g (f x)) := rfl

@[simp] theorem State.onFaults_pending (f : List Res → List Res) (s : State) : (s.onFaults f).pending = s.pending := rfl
@[simp] theorem State.onFaults_now (f : List Res → List Res) (s : State) : (s.onFaults f).now = s.now := rfl
@[simp] theorem State.onFaults_fresh (f : List Res → List Res) (s : State) : (s.onFaults f).fresh = s.fresh := rfl
@[simp] theorem State.onFaults_part (f : List Res → List Res) (s : State) : (s.onFaults f).part = s.part := rfl
@[simp] theorem State.onFaults_params (f : List Res → List Res) (s : State) : (s.onFaults f).params = s.params := rfl
@[simp] theorem State.onFaults_line (f : List Res → List Res) (s : State) : (s.onFaults f).line = s.line := rfl
@[simp] theorem State.onFaults_wake (f : List Res → List Res) (s : State) : (s.onFaults f).wake = s.wake := rfl
@[simp] theorem State.onFaults_jomen (f : List Res → List Res) (s : State) : (s.onFaults f).jomen = s.jomen := rfl
@[simp] theorem State.onFaults_radio (f : List Res → List Res) (s : State) : (s.onFaults f).radio = s.radio := rfl
@[simp] theorem State.onFaults_rx (f : List Res → List Res) (s : State) : (s.onFaults f).rx = s.rx := rfl
@[simp] theorem State.onFaults_time (f : List Res → List Res) (s : State) : (s.onFaults f).time = s.time := rfl
@[simp] theorem State.onFaults_sched (f : List Res → List Res) (s : State) : (s.onFaults f).sched = s.sched := rfl
@[simp] theorem State.onFaults_net (f : List Res → List Res) (s : State) : (s.onFaults f).net = s.net := rfl
@[simp] theorem State.onFaults_work (f : List Res → List Res) (s : State) : (s.onFaults f).work = s.work := rfl
@[simp] theorem State.onFaults_roster (f : List Res → List Res) (s : State) : (s.onFaults f).roster = s.roster := rfl
@[simp] theorem State.onFaults_mon (f : List Res → List Res) (s : State) : (s.onFaults f).mon = s.mon := rfl
@[simp] theorem State.onFaults_pm (f : List Res → List Res) (s : State) : (s.onFaults f).pm = s.pm := rfl
@[simp] theorem State.onFaults_store (f : List Res → List Res) (s : State) : (s.onFaults f).store = s.store := rfl
@[simp] theorem State.onFaults_image (f : List Res → List Res) (s : State) : (s.onFaults f).image = s.image := rfl
@[simp] theorem State.onFaults_faults (f : List Res → List Res) (s : State) : (s.onFaults f).faults = f s.faults := rfl
@[simp] theorem State.onFaults_tally (f : List Res → List Res) (s : State) : (s.onFaults f).tally = s.tally := rfl
@[simp] theorem State.onFaults_onFaults (f g : List Res → List Res) (s : State) : (s.onFaults f).onFaults g = s.onFaults (fun x => g (f x)) := rfl

@[simp] theorem State.onTally_pending (f : Tally → Tally) (s : State) : (s.onTally f).pending = s.pending := rfl
@[simp] theorem State.onTally_now (f : Tally → Tally) (s : State) : (s.onTally f).now = s.now := rfl
@[simp] theorem State.onTally_fresh (f : Tally → Tally) (s : State) : (s.onTally f).fresh = s.fresh := rfl
@[simp] theorem State.onTally_part (f : Tally → Tally) (s : State) : (s.onTally f).part = s.part := rfl
@[simp] theorem State.onTally_params (f : Tally → Tally) (s : State) : (s.onTally f).params = s.params := rfl
@[simp] theorem State.onTally_line (f : Tally → Tally) (s : State) : (s.onTally f).line = s.line := rfl
@[simp] theorem State.onTally_wake (f : Tally → Tally) (s : State) : (s.onTally f).wake = s.wake := rfl
@[simp] theorem State.onTally_jomen (f : Tally → Tally) (s : State) : (s.onTally f).jomen = s.jomen := rfl
@[simp] theorem State.onTally_radio (f : Tally → Tally) (s : State) : (s.onTally f).radio = s.radio := rfl
@[simp] theorem State.onTally_rx (f : Tally → Tally) (s : State) : (s.onTally f).rx = s.rx := rfl
@[simp] theorem State.onTally_time (f : Tally → Tally) (s : State) : (s.onTally f).time = s.time := rfl
@[simp] theorem State.onTally_sched (f : Tally → Tally) (s : State) : (s.onTally f).sched = s.sched := rfl
@[simp] theorem State.onTally_net (f : Tally → Tally) (s : State) : (s.onTally f).net = s.net := rfl
@[simp] theorem State.onTally_work (f : Tally → Tally) (s : State) : (s.onTally f).work = s.work := rfl
@[simp] theorem State.onTally_roster (f : Tally → Tally) (s : State) : (s.onTally f).roster = s.roster := rfl
@[simp] theorem State.onTally_mon (f : Tally → Tally) (s : State) : (s.onTally f).mon = s.mon := rfl
@[simp] theorem State.onTally_pm (f : Tally → Tally) (s : State) : (s.onTally f).pm = s.pm := rfl
@[simp] theorem State.onTally_store (f : Tally → Tally) (s : State) : (s.onTally f).store = s.store := rfl
@[simp] theorem State.onTally_image (f : Tally → Tally) (s : State) : (s.onTally f).image = s.image := rfl
@[simp] theorem State.onTally_faults (f : Tally → Tally) (s : State) : (s.onTally f).faults = s.faults := rfl
@[simp] theorem State.onTally_tally (f : Tally → Tally) (s : State) : (s.onTally f).tally = f s.tally := rfl
@[simp] theorem State.onTally_onTally (f g : Tally → Tally) (s : State) : (s.onTally f).onTally g = s.onTally (fun x => g (f x)) := rfl

end Sys2Proof.Machine
end

