-- ==== Sys2Proof/WellFormed.lean ====
section
/-!
DEFINITION. Sys2Proof/WellFormed.lean: which commands describe something that can happen: the bounds the manual puts on
what an event brings with it. A line's own arguments are never ill-formed here: a value outside its range is a line
that the part answers with `!RANGE`.
-/

namespace Sys2Proof

/-- A lane rate of R223, in kb/s. -/
def rateOk (r : Nat) : Bool := r == 50 || r == 100 || r == 200 || r == 1000

/-- A frame within the lengths of R242 and R450: at most 103 payload octets. -/
def Frame.wf (f : Frame) : Bool := f.payload.length ≤ 103

/-- Reception fields within R220, R232, R240 and R242. -/
def RxInfo.wf (r : RxInfo) : Bool :=
  rateOk r.rate && r.channel ≤ 128 && r.gainStep ≤ 15 && 5 ≤ r.psduLen && r.psduLen ≤ 127
    && decide (-128 ≤ r.rssi) && decide (r.rssi ≤ 0)

/-- A beacon within the field widths of R344. -/
def Beacon.wf (b : Beacon) : Bool :=
  b.slot < 2 ^ 40 && b.offset < 2 ^ 22 && b.rankPrio < 256 && b.slotLen < 3

/-- A cell of an inventory sub-slot with frames in bounds (R311). -/
def CellSeen.wf : CellSeen → Bool
  | .single f r => f.wf && r.wf
  | _ => true

/-- A resource number within R495. -/
def ResId.wf (r : ResId) : Bool :=
  match r.kind with
  | .chan => r.num ≤ 128
  | .bb => r.num ≤ 19
  | .branch => r.num ≤ 1
  | .lane => r.num ≤ 15
  | .chain => r.num ≤ 1
  | .block => true
  | .peer => r.num < 65536

/-- The commands that can happen. -/
def Instr.wf : Instr → Bool
  | .captureEnd ws => ws.length ≤ 8192
  | .codeWordComplete _ readings _ => readings.length ≤ 89
  | .laneRetune _ chan rate => chan ≤ 128 && rateOk rate
  | .frameReceived f r _ => f.wf && r.wf
  | .joinReceived f r => f.wf && r.wf
  | .ackReceived f r _ => f.wf && r.wf
  | .beaconReceived b r => b.wf && r.wf
  | .floodReceived f r => f.inner.wf && r.wf && f.hops ≤ 15
  | .answerReceived f r => f.wf && r.wf
  | .replyWindowEnd cells => cells.length ≤ 16 && cells.all CellSeen.wf
  | .channelJudgingWindow r _ _ => r.wf
  | .restPeriodEnd r => r.wf
  | .restWindowExpiry r => r.wf
  | .sfdFound _ sfd _ n => decide (sfd < 65536) && decide (n < 2048)
  | .branchAlignment _ chips _ _ => chips.length == 8
  | .imageData _ _ d => 1 ≤ d.length && d.length ≤ 64
  | .send _ _ _ _ _ _ _ d => d.length ≤ 100
  | _ => true

end Sys2Proof
end

