-- ==== Sys2Proof/Tests/Slice0.lean ====
section
/-!
SUPPORT. Sys2Proof/Tests/Slice0.lean: small checks of the model. `wf_` an ill-formed command for each check of
WellFormed; `test_` values worked out from the manual; `wit_` for each statement of Obligations states and operands
that meet its hypotheses, clause by clause.
-/

namespace Sys2Proof.Tests

open Sys2Proof.Machine

-- The tests are checked one after another: side by side, each would hold a thread and its stack until the kernel has
-- worked through the package before it.
set_option Elab.async false

/-! ## States and operands of the tests -/

/-- A part in service, its line open and its session at CUSTODIAN. -/
def up : State :=
  { State.reset with
    line := { Line.reset with isOpen := true, level := .custodian }
    wake := { Wake.reset with armed := true }
    roster := { Roster.reset with loaded := true, netKey := some 0 }
    pm := { Pm.reset with run := .running, crystal := true, ioLow := false } }

/-- A line without an address. -/
def me : Hdr := { addr := none, cc := false }

/-- A broadcast. -/
def everyone : Hdr := { addr := some 0, cc := false }

/-- A line for unit 5. -/
def unit5 : Hdr := { addr := some 5, cc := false }

/-- A state with a parameter at a value. -/
def withP (obj : Nat) (v : PVal) (s : State) : State :=
  { s with params := putRow { obj := obj, now := v, stored := v, pending := none, src := 0, time := .c 0 } s.params }

/-- A state at a moment. -/
def atNow (t : Ticks) (s : State) : State := { s with now := t }

/-- A session below OPERATOR. -/
def low (s : State) : State := s.onLine (fun l => { l with level := .observer })

/-- A frame of endpoint 7. -/
def frame0 : Frame :=
  { kind := .data, micLen := 1, ackReq := true, dir := false, sync := 0, anyAnchor := false, id := 7, ctr := 1,
    reason := 0, temp := 0x80, payload := [], mic := 0, ackCtr := 0, channel := 0xFF }

/-- Reception on lane 0. -/
def rx0 : RxInfo :=
  { lane := 0, chain := .a, held := false, qualityA := none, qualityB := none, rssi := -80, channel := 10, rate := 100,
    gainStep := 3, gainFlag := false, invalid := false, psduLen := 20 }

/-- A beacon of unit 9. -/
def beacon0 : Beacon :=
  { isStart := false, sync := 0, sender := 9, ctr := 1, slot := 5, offset := 0, rankPrio := 1, rankEui := 9, slotLen := 1,
    planCheck := 0, retired := none, mic := 0 }

/-! ## Ill-formed commands -/

theorem wf_captureEnd : (Instr.captureEnd (List.replicate 8193 0)).wf = false := by
  show decide ((List.replicate 8193 (0 : BitVec 32)).length ≤ 8192) = false
  rw [List.length_replicate]; rfl
theorem wf_codeWord : (Instr.codeWordComplete .a (List.replicate 90 []) 0).wf = false := by decide
theorem wf_laneRetune : (Instr.laneRetune 0 129 100).wf = false ∧ (Instr.laneRetune 0 10 300).wf = false := by decide
theorem wf_frame : (Instr.frameReceived { frame0 with payload := List.replicate 104 0 } rx0 true).wf = false := by decide
theorem wf_rxRate : (Instr.joinReceived frame0 { rx0 with rate := 250 }).wf = false := by decide
theorem wf_rxChannel : (Instr.answerReceived frame0 { rx0 with channel := 129 }).wf = false := by decide
theorem wf_rxGain : (Instr.ackReceived frame0 { rx0 with gainStep := 16 } 0).wf = false := by decide
theorem wf_rxLength : (Instr.frameReceived frame0 { rx0 with psduLen := 4 } true).wf = false ∧
    (Instr.frameReceived frame0 { rx0 with psduLen := 128 } true).wf = false := by decide
theorem wf_rxLevel : (Instr.frameReceived frame0 { rx0 with rssi := -129 } true).wf = false ∧
    (Instr.frameReceived frame0 { rx0 with rssi := 1 } true).wf = false := by decide
theorem wf_beaconSlot : (Instr.beaconReceived { beacon0 with slot := 2 ^ 40 } rx0).wf = false ∧
    (Instr.beaconReceived { beacon0 with offset := 2 ^ 22 } rx0).wf = false := by decide
theorem wf_beaconRank : (Instr.beaconReceived { beacon0 with rankPrio := 256 } rx0).wf = false ∧
    (Instr.beaconReceived { beacon0 with slotLen := 3 } rx0).wf = false := by decide
theorem wf_flood : (Instr.floodReceived ⟨16, 0, .data, frame0⟩ rx0).wf = false := by decide
theorem wf_cells : (Instr.replyWindowEnd (List.replicate 17 .empty)).wf = false ∧
    (Instr.replyWindowEnd [.single frame0 { rx0 with rate := 0 }]).wf = false := by decide
theorem wf_resources : (Instr.restPeriodEnd ⟨.chan, 129⟩).wf = false ∧ (Instr.restWindowExpiry ⟨.bb, 20⟩).wf = false ∧
    (Instr.restPeriodEnd ⟨.branch, 2⟩).wf = false ∧ (Instr.restPeriodEnd ⟨.lane, 16⟩).wf = false ∧
    (Instr.restPeriodEnd ⟨.chain, 2⟩).wf = false ∧ (Instr.restPeriodEnd ⟨.peer, 65536⟩).wf = false := by decide
theorem wf_judging : (Instr.channelJudgingWindow ⟨.chan, 129⟩ 0 0).wf = false := by decide
theorem wf_sfd : (Instr.sfdFound 0 65536 ⟨false, false, false⟩ 20).wf = false ∧
    (Instr.sfdFound 0 0x904E ⟨false, false, false⟩ 2048).wf = false := by decide
theorem wf_alignment : (Instr.branchAlignment .a [] 0 0).wf = false ∧
    (Instr.branchAlignment .a (List.replicate 9 (0, [])) 0 0).wf = false := by decide
theorem wf_imageData : (Instr.imageData me 0 []).wf = false ∧
    (Instr.imageData me 0 (List.replicate 65 0)).wf = false := by decide
theorem wf_send : (Instr.send me ⟨16, 0⟩ .data none none none none (List.replicate 101 0)).wf = false := by decide
theorem wf_good : (Instr.frameReceived frame0 rx0 true).wf = true ∧ (Instr.beaconReceived beacon0 rx0).wf = true ∧
    (Instr.channelJudgingWindow ⟨.chan, 128⟩ 0 0).wf = true := by decide

/-! ## Witnesses: lines -/

theorem up_judges : up.judges me := ⟨by decide, by decide, by decide⟩
theorem up_takes : up.takes me := ⟨up_judges, by decide⟩
theorem up_everyone : up.judges everyone := ⟨by decide, by decide, by decide⟩
theorem up_noWait : (up.heard me).noWait ∧ (up.heard everyone).noWait := ⟨⟨rfl, rfl, by decide⟩, rfl, rfl, by decide⟩
theorem up_atOnce : up.takesAtOnce me := ⟨⟨up_judges, up_noWait.1⟩, by decide⟩
theorem up_everyoneAtOnce : up.judgesAtOnce everyone := ⟨up_everyone, up_noWait.2⟩

theorem wit_StepTakesFront : ({ up with pending := [.roundPause] } : State).pending = .roundPause :: [] := rfl

theorem wit_CommandsKeepQueueAndClock : ∃ t, exec .spillWriteComplete up = .next t := ⟨_, rfl⟩

theorem wit_SleepClockKeepsTime : let s := { up with pm := { up.pm with power := .larder } }
    s.pending = [] ∧ s.running = true ∧ (s.pm.power = .larder ∨ s.pm.power = .cellar) ∧ s.pm.entering = none ∧
      s.pm.exiting = none ∧ s.pm.resetAt = none ∧ (∀ f ∈ s.work.table, f.frameAt = none) ∧ s.radio.yielded = none := by decide

theorem wit_LineNotForThisUnit : ((Instr.showPart me).hdr = some me ∧ State.reset.hears = false) ∧
    ((Instr.showPart unit5).hdr = some unit5 ∧ up.hears = true ∧ up.forUnit unit5 = false) ∧
    ((Instr.showPart everyone).hdr = some everyone ∧ up.hears = true ∧ everyone.addr = some 0 ∧
      (Instr.showPart everyone).toAll = false) := by decide

theorem wit_ChecksumFirst : let s := withP Obj.lineMode (.int 1) up
    (Instr.showPart me).hdr = some me ∧ s.hears = true ∧ s.forUnit me = true ∧ me.addr ≠ some 0 ∧
      (s.heard me).noCheck me = true ∧ (s.heard me).noWait := ⟨rfl, by decide, by decide, by decide, by decide, rfl, rfl, by decide⟩

theorem low_judges : (low up).judges me ∧ (low up).judges everyone :=
  ⟨⟨by decide, by decide, by decide⟩, by decide, by decide, by decide⟩

theorem wit_PrivilegeFirst : (Instr.resetCold me).hdr = some me ∧ (Instr.resetCold everyone).hdr = some everyone ∧
    (Instr.resetCold me).level = some .custodian ∧ (Instr.resetCold everyone).toAll = true ∧
    levelNum (low up).line.level < levelNum .custodian ∧ me.addr ≠ some 0 ∧
    ((low up).heard me).allowed .operator = false ∧ ((low up).heard me).noWait ∧ ((low up).heard everyone).noWait :=
  ⟨rfl, rfl, rfl, rfl, by decide, by decide, by decide, ⟨rfl, rfl, by decide⟩, rfl, rfl, by decide⟩

/-- A part with a change that waits behind an earlier one, and one whose flush runs. -/
def holding : State := up.onStore (fun c => { c with heldLines := [.doWmClear me 3] })
def flushing : State := up.onStore (fun c => { c with flush := some 0 })

theorem wit_ChangesAreTakenInOrder :
    (Instr.resetCold me).hdr = some me ∧ (Instr.resetCold me).changes = true ∧ up.hears = true ∧ up.forUnit me = true ∧
    me.addr ≠ some 0 ∧ (up.heard me).noCheck me = false ∧ (holding.heardBy (.resetCold me) me).mustWait (.resetCold me) = true ∧
    (flushing.heardBy (.resetCold me) me).mustWait (.resetCold me) = true ∧
    (up.heardBy (.resetCold me) me).mustWait (.resetCold me) = false ∧ up.noWait ∧ flushing.store.flush ≠ none ∧
    holding.store.heldLines = .doWmClear me 3 :: [] ∧ holding.ccOn = true ∧ holding.store.flush = none ∧
    holding.changeOpen = false ∧
    (up.onMon (fun m => { m with onOwed := some (me, .self .auditWrap, false) })).changeOpen = true ∧
    (∀ h, Instr.resetCold me ≠ .doVaux h false) :=
  ⟨rfl, rfl, by decide, by decide, by decide, by decide, by decide, by decide, by decide, ⟨rfl, rfl, by decide⟩, by decide,
    rfl, by decide, rfl, by decide, by decide, fun _ => by simp⟩

theorem wit_RepliesAndErrors : me.addr ≠ some 0 ∧ everyone.addr = some 0 ∧ Sending.answers up.line.sending = false ∧
    [OutLine.dot] ≠ [] ∧ 2 * up.charTime ≤ ms 200 ∧ OutLine.dot.isBare = false ∧
    (([0x22, 0x22] : List Byte).filter (· == 0x22)).length % 2 = 0 := by decide

theorem wit_LedgerRecords : up.store.flush = none ∧ up.store.auditCount < auditRing ∧
    ({ up.store with flush := some 0 } : Store).flush ≠ none := by decide

theorem wit_ParameterReports : cardOf 1 ≠ none ∧ cardOf 175 = none ∧ matchingObjs "" ≠ [] := by decide +kernel

theorem wit_SetWrites : let u := up.heard me
    (cardOf 7).isSome = true ∧ u.allowed .custodian = true ∧ u.rangeOk 7 (u.asked 7 (.val (.int 60))) = true ∧
      u.setBlocked 7 (.int 60) = false ∧ u.takesNow 7 (.int 60) = false ∧ (cardOf Obj.correct).isSome = true ∧
      u.rangeOk Obj.correct (.int 2) = true ∧ u.setBlocked Obj.correct (.int 2) = false ∧
      u.takesNow Obj.correct (.int 2) = true ∧ 8 ≠ 7 := by decide

/-- The state in which a challenge is out. -/
def challenged : State := up.onLine (fun l => { l with level := .observer, challenge := some ⟨.operator, 0, 0⟩ })

theorem wit_AuthAndLogout : let v := (up.takeLine me).beginLine true
    ((low up).heard me).lockedOut = false ∧ ((low up).heard me).allowed .operator = false ∧ (up.heard me).lockedOut = false ∧
      (up.heard me).allowed .operator = true ∧ v.lockedOut = false ∧
      v.authOk .operator 0 = false ∧ (up.heard me).allowed .custodian = true ∧ Level.operator ≠ .observer := by decide

/-- A right response exists: the one the part computes. -/
theorem wit_AuthAndLogout_right : ∃ r, ((challenged.takeLine me).beginLine true).authOk .operator r = true :=
  ⟨((challenged.takeLine me).beginLine true).authAnswer ⟨.operator, 0, 0⟩, by
    simp [State.authOk, challenged, State.beginLine, State.takeLine, State.draw]; decide⟩

theorem wit_EnumAndRoll : everyone.addr = some 0 ∧ (up.heard everyone).line.address = 0 ∧ (1 : Int) ≤ 16 ∧
    (let s := atNow (2 * 16 * up.charTime) (up.onLine (fun l => { l with rollAt := some 0, address := 16 }))
     s.line.address ≠ 0 ∧ 0 + 2 * s.line.address * s.charTime ≤ s.now ∧
       s.now < 0 + 2 * s.line.address * s.charTime + 2 * s.charTime) := by decide

theorem wit_EventsAreRead : argOr 16 (some 0) < 1 ∧ 64 < argOr 16 (some 65) ∧ (1 : Int) ≤ argOr 16 (some 64) ∧ argOr 16 (some 64) ≤ 64 ∧ (1 : Int) ≤ argOr 16 (some 1) ∧
    (let s := atNow (secs 1) <| withP Obj.lineEvents (.int 1) (up.onLine (fun l => { l with events := [⟨.c 0, .bufHigh⟩] }))
     s.hears = true ∧ s.line.solo = true ∧ s.pnat Obj.lineEvents = 1 ∧ s.line.partialLine = [] ∧ s.replyOwed = false ∧
       s.line.pushHeld = false ∧ s.line.events = ⟨.c 0, .bufHigh⟩ :: [] ∧ s.line.lost = 0) ∧
    (up.onLine (fun l => { l with lost := 1 })).line.lost ≠ 0 := by decide

/-! ## Witnesses: the wake queue, LOG, TALLY -/

/-- A closed wake record. -/
def rec0 : WakeRec :=
  { seq := 7, code := 20, reason := 1, aNamed := true, bNamed := false, first := .a, agreed := false, isOpen := false,
    det := .envelope, errors := 0, syncErr := 0, skew := 0, repeats := 0, rssiA := -60, rssiB := -128, syncIdx := 0,
    stamp := .c 0, t1 := 0, window := 4, lastMatch := 0, closeAt := 5, frameLen := 63, word := 0 }

/-- A part whose wake queue holds an open and a closed record. -/
def waked : State := up.onWake (fun w => { w with queue := [{ rec0 with seq := 6, isOpen := true }, rec0], seen := [(20, 2)] })

theorem waked_takes : waked.takes me := ⟨⟨by decide, by decide, by decide⟩, by decide⟩

theorem wit_WakeQueueIsRead : (1 : Int) ≤ argOr 16 (some 16) ∧ argOr 16 (some 16) ≤ 16 ∧
    (waked.heard me).wake.queue = [{ rec0 with seq := 6, isOpen := true }] ++ rec0 :: [] ∧ rec0.isOpen = false ∧
    (∀ x ∈ [{ rec0 with seq := 6, isOpen := true }], x.isOpen = false → x.seq ≠ rec0.seq) ∧
    (waked.heard me).store.flush = none ∧
    (∀ r ∈ (waked.heard me).wake.queue, r.isOpen = false → (r.seq.toNat : Int) ≠ 6) := by decide

theorem wit_SeenBitsAreRead : Mem.wf (waked.heard me).wake.seen = true ∧
    (up.onLine (fun l => { l with sending := some (.seen [(20, 2)] true), sendEnd := 1 })).onWire = some (.seen [(20, 2)] true) := by
  decide

theorem wit_LogIsRead : inRange 0 (2 ^ 40 - 1) (2 ^ 40 - 1) = true ∧ inRange 1 256 (argOr 16 (some 256)) = true ∧
    inRange 0 31 31 = true ∧ inRange 0 0xFFFFFE 0xFFFFFE = true ∧ (up.heard me).noWait ∧
    (up.heard me).allowed .operator = true := ⟨by decide, by decide, by decide, by decide, up_noWait.1, by decide⟩

theorem wit_Tally : (up.heard me).allowed .operator = true ∧ someCounter none = true ∧ someCounter (some "wur.hold") = true ∧
    (let c : State := up.onTally (fun t =>
        { t with ctrs := [{ block := .line, name := "line.break", value := 1, ovf := false }], frozen := some (0, .c 0),
                 snap := some ⟨[{ block := .line, name := "line.break", value := 1, ovf := false }], [], .c 0⟩ })
     (c.heard me).tally.frozen = some (0, .c 0) ∧ (up.heard me).tally.frozen = none ∧
     ((c.heard me).tally.snap.map Snap.at_ = some (.c 0)) ∧ c.tally.frozen = some (0, .c 0) ∧
     0 + secs 60 ≤ (atNow (secs 60) c).now) ∧
    (let s := atNow (secs 60) up
     s.cellarOn = true ∧ s.tally.bwFrom + ms (s.pnat Obj.bwWindow) ≤ s.now) := by decide

/-! ## Witnesses: flights -/

/-- Endpoint 7 in entry 16, with code 20. -/
def ep7 : Entry := { Entry.fresh 7 0 with code := 20, keySlot := 16 }

/-- A flight to it. -/
def fl0 : Flight := { Flight.make ⟨16, 0⟩ .data 3 false 1000 0 [] none none with id := 1 }

/-- The handle of its entry. -/
def at16 : HandleArg := ⟨16, 0⟩

/-- A part with the endpoint. -/
def withEp : State := up.onRoster (fun r => { r with entries := [(16, ep7)] })

/-- A part with a flight. -/
def withFl (f : Flight) : State := withEp.onWork (fun w => { w with table := [f] })

theorem withEp_takes : withEp.takes me := ⟨⟨by decide, by decide, by decide⟩, by decide⟩

theorem wit_SendEntersFlight : let u := (withEp.heard me).fire .send
    u.allowed .operator = true ∧ FlightKind.data ≠ .push ∧ inRange 0 7 (argOr 3 (some 7)) = true ∧
    inRange 10 1000000 (argOr (u.pint Obj.flightDeadline) none) = true ∧ inRange 10 1000000 10 = true ∧
    inRange 0 7 (argOr 0 (some 7)) = true ∧ inRange 0 1 (argOr 0 (some 1)) = true ∧
    ¬(argOr 0 (some 1) = 1 ∧ at16.index = 0) ∧ at16.fits = true ∧ at16.get = ⟨16, 0⟩ ∧ u.sendFault at16.get 7 = none ∧
    u.work.table.length < 32 ∧ u.unreachable 16 = false ∧
    32 ≤ (List.replicate 32 fl0).length ∧ (List.replicate 255 fl0).length < 256 ∧ 256 ≤ (List.replicate 256 fl0).length := by
  decide +kernel

theorem wit_FlightListAndCancel : ((withFl fl0).heard me).flight 1 = some fl0 ∧ fl0.st = .ready ∧
    ((withFl fl0).heard me).noWait ∧ ((withFl { fl0 with st := .air }).heard me).noWait ∧
    ((withFl { fl0 with st := .air }).heard me).flight 1 = some { fl0 with st := .air } :=
  ⟨by decide, rfl, ⟨rfl, rfl, by decide⟩, ⟨rfl, rfl, by decide⟩, by decide⟩

theorem wit_FlightEnds : (withFl fl0).flight 1 = some fl0 ∧ (withFl fl0).store.flush = none ∧ (2 : Nat) ≠ 1 := by decide

theorem wit_FlightAttempts_backoff : let f := { fl0 with st := .air, called := true }
    let s := withFl f
    let v := s.fire .failedAttempt
    s.flight 1 = some f ∧ f.lane = none ∧ f.cancel = false ∧ f.late = false ∧ s.unreachable 16 = false ∧
    min 255 (f.attempts + 1) < v.pnat Obj.flightTries ∧
    ((s.entry 16).map Entry.fails).getD 0 + 1 < v.pnat Obj.failLimit := by decide

theorem wit_FlightAttempts : let f := { fl0 with called := true }
    let s := withFl f
    (s.work.table.find? (fun f => f.id == 1) = some f ∧ s.txBarred = false ∧ s.roundRuns = false ∧ f.frameAt = none ∧
      f.st = .ready ∧
      s.listenLane ((s.makeBurst 20 6 (s.pnat Obj.sync) (s.pnat Obj.txRepeat) (.called 1)).length + ms 100) s.startChannel
        = some 15 ∧ (s.entry 16).map (codeOf 16) = some 20) ∧
    (let c : Cell := { frame := 0, kind := .tx, ch := 0, hop := 0, slot := 0, offset := 0, rate := 0, lane := 2, arg := 0,
                       handle := some ⟨16, 0⟩, n := 0 }
     let s := ((withFl fl0).onSched (fun k => { k with run := [(3, 9)], cells := [(3, c)] })).onLane 2 (fun l =>
       { l with holder := .cell 3 })
     assoc 3 s.sched.run = some 9 ∧ assoc 3 s.sched.cells = some c ∧ c.kind = .tx ∧
       s.rx.lanes[Fin.ofNat 16 c.lane].holder = .cell 3 ∧ (bestWaiting (s.cellFlights c)).map Flight.id = some 1 ∧
       s.txBarred = false ∧ s.roundRuns = false ∧ fl0.frameAt = none) ∧
    (let g := { fl0 with st := .air, lane := some 2, awaiting := true, sentEnd := 0 }
     let s := atNow (us 1100) (withFl g)
     g.st = .air ∧ s.unanswered g = true) ∧
    (let g := { fl0 with st := .air, called := true, lane := some 4, nextTry := 0 }
     let s := (withFl g).onLane 4 (fun l => { l with holder := .called 1 })
     g.frameAt = none ∧ g.awaiting = false ∧ s.burstPending (.called 1) = false ∧ g.nextTry ≤ s.now ∧
       s.rx.lanes[(4 : Fin 16)].holder = .called 1) := by decide

theorem wit_LastChanceAndReacquisition :
    let q : LcSeq := ⟨16, 0, 1, none, false⟩
    let f := { fl0 with st := .lastchance, prio := 7 }
    let s := (withFl f).onWork (fun w => { w with lc := [q] })
    (s.lcOf 16 = some q ∧ q.attempt ≤ 3 ∧ s.burstPending (.lastChance 16) = false ∧ q.trigger + secs (q.attempt - 1) ≤ s.now ∧
      (s.entry 16).map (codeOf 16) = some 20) ∧
    (let s := (withFl f).onWork (fun w => { w with lc := [{ q with listen := some 0 }] })
     s.work.table.find? (fun f => f.id == 1) = some f ∧ s.lcOf 16 = some { q with listen := some 0 }) ∧
    ((up.onWork (fun w => { w with lc := [{ q with attempt := 4 }] })).lcFlights 16 = []) ∧
    ((withFl f).lcFlights 16 = [f] ∧ (withP Obj.relayFlood (.int 0) (withFl f)).floodFlight f = none ∧
      ((withP Obj.relayFlood (.int 1) (withFl f)).floodFlight f).isSome = true) ∧
    (let s := up.onNet (fun n => { n with reacq := [⟨16, 2, 0, false, 0⟩] })
     s.net.reacq.filter (fun q => decide (q.nextAt ≤ s.now)) = [⟨16, 2, 0, false, 0⟩] ∧
       s.burstPending (.reacquire 16) = false) := by decide

/-! ## Witnesses: STORE and images -/

theorem wit_StoreEvents :
    (let r : CRec := .ledger ⟨1, .c 0, false, .flush 0, false⟩ 0
     let s := atNow (secs 100000) (up.onStore (fun c => { c with cache := List.replicate 30 r }))
     s.storeOn = true ∧ s.store.running = none ∧ 0 < s.pageRecords false) ∧
    (let r : CRec := .audit ⟨1, .self .auditWrap, 0, .c 0, 0, 0, .num 0, .num 0, false⟩ 0
     let s := atNow (secs 100000) (up.onStore (fun c => { c with cache := List.replicate 30 r }))
     s.pageRecords false = 0 ∧ 0 < s.pageRecords true) ∧
    ((up.onStore (fun c => { c with running := some (true, 1) })).store.running = some (true, 1)) ∧
    ((up.onStore (fun c => { c with moves := [7] })).store.moves = 7 :: [] ∧ up.store.running = none) ∧
    (let s := up.onStore (fun c => { c with flush := some 0, spare := 1, free := 3, pecks := [0], pushUsed := 262144 })
     s.store.flush ≠ none ∧ s.ccOn = true ∧ s.isRetired .block 0 = false ∧ 0 < s.store.spare ∧ 48 < 72 ∧ 72 < 73) ∧
    (let s := up.onStore (fun c => { c with free := 3, pecks := [0], pushUsed := 262144 })
     s.storeOn = true ∧ s.store.free < 4 ∧ s.store.pecks ≠ [] ∧ 262144 ≤ s.store.pushUsed ∧ 0 < s.store.freeArch) := by
  decide

/-- Erases of peck 0 up to one more than its region's limit. -/
def worn : Wear := { Wear.reset with counts := [(0, 600)] }

theorem wit_StoreEvents_wear : 0 < 8192 ∧ 1 ∈ regionPecks 0 ∧
    (worn.erase 0).erases ((worn.erase 0).blockOf 1) + wearLimit 0 < (worn.erase 0).erases ((worn.erase 0).blockOf 0) ∧
    (regionPecks 0).all (fun q => (Wear.reset.erase 0).erases 0 ≤ (Wear.reset.erase 0).erases ((Wear.reset.erase 0).blockOf q)
      + wearLimit 0) = true ∧
    State.reset.store.wear.peckOf 5 = some 5 ∧ State.reset.store.wear.peckOf 6000 = some 6000 ∧
    0 < ({ State.reset.store with spare := 1 } : Store).spare ∧
    ({ State.reset.store with spare := 0 } : Store).spare = 0 ∧ tlcPeck 5 = false ∧ tlcPeck 6000 = true := by
  decide +kernel

/-- A complete library image of 4,097 bytes is long to write out; one of no bytes meets the same conditions. -/
def img0 : Img := { len := 0, bytes := [], head := some ⟨1, 5, (1, 0, 0), 0, 0, 1, 0⟩, pecks := 0, ok := true }

theorem wit_ImageDownload : let u := up.heard me
    u.store.flush = none ∧ u.store.heldLines = [] ∧ u.changeOpen = false ∧ u.allowed .custodian = true ∧ inRange 4097 25165824 4097 = true ∧ inRange 4097 16777216 16777216 = true ∧
    u.image.download = none ∧ u.image.stage = .idle ∧ slotOk 0 = true ∧ u.imgBusy (.lib 0) = false ∧
    (let d : Download := ⟨.lib 0, [], 0, false⟩
     let i : Img := { img0 with len := 64, head := none, ok := false }
     let s := atNow (secs 4) (up.onImage (fun m => { m with download := some d, lib := [(0, i)] }))
     let v := s.heard me
     v.image.download = some d ∧ v.img (.lib 0) = some i ∧ i.bytes.length + 64 ≤ i.len ∧ s.running = true ∧
       d.last + d.patience ≤ s.now ∧ s.img d.what = some i) := by decide

theorem wit_ImageVerification : let s := up.onImage (fun m => { m with lib := [(0, img0)] })
    let u := s.heard me
    u.store.flush = none ∧ u.store.heldLines = [] ∧ u.changeOpen = false ∧ refOk (some 0) = true ∧ refOk none = true ∧ u.img (refOf (some 0)) = some img0 ∧ img0.head ≠ none ∧
    img0.bytes.length = img0.len ∧ u.image.verify = none ∧ u.imgBusy (refOf (some 0)) = false ∧
    u.stageOf (refOf (some 0)) ≠ .trial ∧
    (let v := s.onImage (fun m => { m with verify := some (.lib 0) })
     v.image.verify = some (.lib 0) ∧ v.ccOn = true ∧ v.img (.lib 0) = some img0) := by decide

theorem wit_ImageActivation_bootCopies : up.image.inStep ∧
    (fun b : BootSel => { b with seq := b.seq + 1, trial := true }) up.image.boot =
      { up.image.boot with seq := up.image.boot.seq + 1, trial := true } ∧ us 490 ≤ (atNow (us 490) up).now :=
  ⟨by simp [Images.inStep, up, State.reset, Images.reset], rfl, by decide⟩

theorem wit_ImageActivation :
    (let u := (up.onImage (fun m => { m with selfImg := some img0, stage := .verified })).heard me
     u.image.selfImg = some img0 ∧ img0.ok = true ∧ u.image.stage = .verified ∧ u.image.boot.trial = false ∧
       (∀ f ∈ u.work.table, f.st ≠ .lastchance)) ∧
    (((up.onImage (fun m => { m with stage := .trial })).heard me).image.stage = .trial) ∧
    (((up.onImage (fun m => { m with download := some ⟨.lib 0, [], 0, false⟩, lib := [(0, img0)] })).heard me).abortRef ≠
      none) ∧
    (let u := (up.onImage (fun m => { m with lib := [(0, img0)] })).heard me
     slotOk 0 = true ∧ u.pushUses 0 = false ∧ u.imgBusy (.lib 0) = false ∧ u.img (.lib 0) ≠ none) ∧
    (let s := up.onImage (fun m => { m with confirmAt := some 0 })
     s.image.confirmAt = some 0 ∧ s.running = true ∧ s.pm.power ≠ .shelf) := by decide

theorem wit_ImagePush :
    (let s := (withEp.onImage (fun m => { m with lib := [(0, img0)], libStage := [(0, .verified)] })).onRoster (fun r =>
       { r with entries := [(16, { ep7 with model := 5 })] })
     let u := s.heard me
     let x : ImgHead := ⟨1, 5, (1, 0, 0), 0, 0, 1, 0⟩
     inRange 0 6 (argOr 2 (some 6)) = true ∧ inRange 10 1000000 (argOr 10 (some 1000000)) = true ∧
       at16.fits = true ∧ u.sendFault at16.get 6 = none ∧ assoc 0 u.image.lib = some img0 ∧
       u.byHandle at16.get = some { ep7 with model := 5 } ∧ img0.head = some x ∧ u.stageOf (.lib 0) = .verified ∧
       u.hasPush ⟨16, 0⟩ = false ∧ (u.pushResume 0 7 x).complete = false) := by decide

/-- A library image with one block of payload, and a session that sends it to entry 16 in cell 3. -/
def img1 : Img := { img0 with head := some ⟨1, 5, (1, 0, 0), 0, 64, 1, 0⟩ }
def push1 : PushSess :=
  { lib := 0, digest := (⟨1, 5, (1, 0, 0), 0, 64, 1, 0⟩ : ImgHead).digest, pecks := 1, peck := 0, block := 0, bitmap := 0,
    header := false, blocks := 0, bad := [], queue := [] }
def pushCell3 : Cell :=
  { frame := 0, kind := .lane, ch := 0, hop := 0, slot := 0, offset := 0, rate := 3, lane := 2, arg := 4, handle := none, n := 0 }
def pushing (coex : Int) : State :=
  withP Obj.coexEnable (.int coex) <|
    (((withEp.onImage (fun m => { m with lib := [(0, img1)] })).onWork (fun w =>
      { w with table := [{ fl0 with kind := .push, push := some push1 }] })).onSched (fun k =>
        { k with run := [(3, 9)], cells := [(3, pushCell3)] })).onLane 2 (fun l => { l with holder := .cell 3 })

theorem wit_ImagePush_block :
    (let s := pushing 0
     s.pushCell 3 = some (pushCell3, 9) ∧ s.ccOn = true ∧ s.txBarred = false ∧ s.roundRuns = false ∧
       s.blockFits (s.cellRate pushCell3.rate) = true ∧ (s.pushFlight pushCell3).bind Flight.push = some push1 ∧
       s.pushImg push1 = some img1 ∧ s.coexOn (bandOf (s.cellRate pushCell3.rate)) = false ∧
       (s.takeAir (bandOf (s.cellRate pushCell3.rate)) (s.blockPath pushCell3)).1 = .go) ∧
    (let s := pushing 1
     s.blockPath pushCell3 = 0 ∧ (s.takeAir (bandOf (s.cellRate pushCell3.rate)) 0).1 = .denied) ∧
    (let s := atNow (us 100) (pushing 1)
     s.pushCell 3 = some (pushCell3, 9) ∧ s.txBarred = false ∧ s.blockFits (s.cellRate pushCell3.rate) = true ∧
       (s.pushFlight pushCell3).bind Flight.push = some push1 ∧ s.blockPath pushCell3 ≠ 0 ∧
       s.coexOn (bandOf (s.cellRate pushCell3.rate)) = true ∧ s.txFree = true ∧ s.anyPayload = false) := by decide +kernel

/-! ## Witnesses: power, masks, bursts -/

/-- A part with PMU at a value. -/
def withPm (f : Pm → Pm) : State := up.onPm f

theorem wit_PowerDescends :
    (let s := atNow (ms 20) (withPm (fun p => { p with idleFrom := some 0 }))
     s.steady = true ∧ s.pm.power = .active ∧ (s.fire .timerCompare).noWork = true ∧ s.pm.idleFrom = some 0 ∧
       1 ≤ (s.fire .timerCompare).pnat Obj.pmFloor ∧ 0 + ms ((s.fire .timerCompare).pnat Obj.idleLoft) ≤ s.now) ∧
    (let s := atNow (secs 10) (withPm (fun p => { p with power := .loft, loftFrom := some 0 }))
     let t := s.fire .timerCompare
     s.steady = true ∧ 2 ≤ t.pnat Obj.pmFloor ∧ 0 + ms (t.pnat Obj.idleLarder) ≤ s.now ∧ t.larderOk = true) ∧
    (let s := withP Obj.pmFloor (.int 3) (atNow (secs 10000) (withPm (fun p => { p with power := .loft })))
     let t := s.fire .timerCompare
     s.steady = true ∧ 3 ≤ t.pnat Obj.pmFloor ∧ s.pm.lineIdle + secs (t.pnat Obj.idleCellar) ≤ s.now ∧
       t.cellarOk = true ∧ s.holdOver = true) ∧
    (let s := withP Obj.pmFloor (.int 3) (atNow (secs 10000) (withPm (fun p => { p with power := .larder })))
     let t := s.fire .timerCompare
     s.steady = true ∧ 3 ≤ t.pnat Obj.pmFloor ∧ t.cellarOk = true ∧ s.holdOver = true) ∧
    (let u := up.heard me
     u.store.flush = none ∧ u.store.heldLines = [] ∧ u.changeOpen = false ∧ u.allowed .custodian = true ∧
       u.cellarOk = true ∧ u.larderOk = true ∧ u.pm.crystal = true) := by decide +kernel

theorem wit_WakingUp :
    (let s := withPm (fun p => { p with power := .larder })
     s.running = true ∧ s.pm.exiting = none ∧ s.pm.entering = none ∧ WakeCause.wakes .line s.pm.power = true ∧
       s.lineHeeded = true) ∧
    ((withPm (fun p => { p with entering := some (.larder, ms 1) })).pm.entering = some (.larder, ms 1)) ∧
    ((withPm (fun p => { p with exiting := some (.cellar, 0) })).pm.exiting = some (.cellar, 0) ∧ up.pm.thenCellar = false) ∧
    (let s := atNow (ms 9) (withPm (fun p => { p with power := .larder }))
     let s := (s.onNet (fun n => { n with started := true })).onTime (fun t => { t with q := 9 * 1000000 * 2 ^ 39, counterMode := false })
     (s.pm.power = .loft ∨ s.pm.power = .larder) ∧ s.slotSoon (wakeLead s.pm.power) = true ∧ s.pm.exiting = none ∧ s.pm.entering = none) ∧
    (let s := atNow (ms 10) (withPm (fun p => { p with power := .cellar, cellarAt := some 0 }))
     s.pm.cellarAt = some 0 ∧ s.pm.power = .cellar ∧ s.running = true) ∧
    (let s := withPm (fun p => { p with reload := [.roster] })
     s.ccOn = true ∧ s.pm.reload ≠ [] ∧ s.rx.buf = []) := by decide +kernel

theorem wit_Resets :
    (let u := up.heard me
     u.store.flush = none ∧ u.store.heldLines = [] ∧ u.changeOpen = false ∧ u.allowed .operator = true ∧
       u.allowed .custodian = true) ∧
    (let s := atNow (ms 5) (withPm (fun p => { p with resetAt := some (0, .warm .warm) }))
     s.pm.run = .running ∧ s.pm.resetAt = some (0, .warm .warm)) ∧
    (let s := atNow (ms 5) (withPm (fun p => { p with resetAt := some (0, .cold .cold) }))
     s.pm.run = .running ∧ s.pm.resetAt = some (0, .cold .cold) ∧ max 0 (s.line.sendEnd + ms 5) ≤ s.now) ∧
    (let s := withPm (fun p => { p with resetAt := some (1, .cold .cold) })
     s.pm.resetAt = some (1, .cold .cold) ∧ s.now < max 1 (s.line.sendEnd + ms 5)) ∧
    (up.onWire = none ∧
      (up.onLine (fun l => { l with sending := some (.seen [(20, 2)] true), sendEnd := 1 })).onWire = some (.seen [(20, 2)] true)) ∧
    (up.running = true ∧ up.pm.power = .active ∧ up.pm.run ≠ .unpowered) ∧
    (let s := withPm (fun p => { p with power := .shelf, shelfArmed := true })
     s.running = true ∧ s.pm.power = .shelf ∧ s.pm.shelfArmed = true) ∧
    (let s := atNow (ms 10) (withPm (fun p => { p with power := .shelf, shelfFrom := some 0 }))
     s.pm.shelfFrom = some 0 ∧ s.running = true ∧ s.pm.power = .shelf ∧ 0 + ms 10 ≤ s.now) := by decide

theorem wit_Starts : State.reset.pm.run = .unpowered ∧ (Bist.mk [] [] true).fatal = true ∧
    (Bist.mk [] [] false).fatal = false ∧
    (withPm (fun p => { p with run := .bistHalt 2 (some 0) })).pm.run = .bistHalt 2 (some 0) ∧
    (let s := withPm (fun p => { p with run := .warmReset .warm })
     s.pm.run = .warmReset .warm ∧ s.rx.buf = [] ∧ (s.startValues false).calFits 0 = true) := by decide +kernel

theorem wit_WritesResetsAndStartsComplete :
    ((cardOf Obj.correct).isSome = true ∧ (up.heard me).allowed .custodian = true ∧ (up.heard me).rangeOk Obj.correct (.int 2) = true ∧
      (up.heard me).setBlocked Obj.correct (.int 2) = false) ∧
    (up.running = true ∧ up.pm.power = .active ∧ up.pm.run ≠ .unpowered) ∧
    (State.reset.pm.run = .unpowered ∧
      (let s := atNow (ms 10) (withPm (fun p => { p with run := .coldReset .cold, resetAt := some (ms 10, .cold .cold) }))
       s.pm.run = .coldReset .cold ∧ s.pm.resetAt = some (ms 10, .cold .cold) ∧ ms 10 ≤ s.now)) ∧
    (withPm (fun p => { p with run := .bistHalt 2 (some 0) })).pm.run = .bistHalt 2 (some 0) ∧
    (withPm (fun p => { p with run := .warmReset .watchdog })).pm.run = .warmReset .watchdog ∧
    (let s := atNow (ms 10) (withPm (fun p => { p with power := .shelf, shelfFrom := some 0, shelfArmed := true }))
     s.pm.shelfFrom = some 0 ∧ s.running = true ∧ s.pm.power = .shelf ∧ s.pm.shelfArmed = true ∧ 0 + ms 10 ≤ s.now) := by
  decide

theorem wit_MasksAreArmed : let u := up.heard me
    u.store.flush = none ∧ u.store.heldLines = [] ∧ u.changeOpen = false ∧ u.allowed .operator = true ∧ inRange 1 8191 1 = true ∧ inRange 1 8191 8191 = true ∧ inRange 0 255 0 = true ∧
    inRange 0 255 255 = true ∧ u.codeBetween 8191 = false ∧ Mem.wf u.wake.masks = true ∧ inRange 0 7 7 = true ∧
    inRange 0 1 1 = true ∧ up.store.flush = none ∧ ((low up).heard me).allowed .operator = false ∧
    (up.onWake (fun w => { w with armOwed := [(me, .dot)] })).wake.armOwed = [(me, .dot)] ∧ up.wake.armOwed = [] := by
  decide +kernel

theorem wit_BurstsKeepTheDuty :
    (let u := up.heard me
     let v := u.fire .burst
     let b := v.makeBurst 20 1 5 10 .command
     u.store.flush = none ∧ u.store.heldLines = [] ∧ u.changeOpen = false ∧
       u.allowed .operator = true ∧ inRange 1 8191 8191 = true ∧ inRange 0 7 7 = true ∧ inRange 0 63 63 = true ∧
       inRange 1 64 64 = true ∧ (u.airtime + b.length) * 1000 ≤ secs 3600 * v.pnat Obj.txDuty) ∧
    (let u := (up.onJomen (fun j => { j with airtime := [(secs 400, secs 3600)] })).heard me
     let v := u.fire .burst
     secs 3600 * v.pnat Obj.txDuty < (u.airtime + (v.makeBurst 20 1 5 10 .command).length) * 1000) ∧
    (let b : Burst := { code := 20, reason := 1, sync := 0, rep := 4, fast := false, power := 10, purpose := .round 0 }
     (up.onJomen (fun j => { j with due := [b] })).jomen.due = b :: []) := by decide +kernel

theorem wit_BurstStartsAndEnds :
    let b : Burst := { code := 20, reason := 1, sync := 0, rep := 4, fast := false, power := 10, purpose := .command }
    (let s := up.onJomen (fun j => { j with queue := [b] })
     s.txBarred = false ∧ s.txFree = true ∧ s.anyPayload = false ∧ s.jomen.onAir = none ∧
       s.jomen.queue.find? s.burstAllowed = some b) ∧
    (let s := atNow (secs 1) (up.onJomen (fun j => { j with onAir := some b }))
     let s := s.onRadio (fun r => { r with tx := some (s.burstTx b), paOn := true })
     s.jomen.onAir = some b ∧ s.radio.tx = some (s.burstTx b) ∧ (s.burstTx b).kind = .burst ∧
       s.radio.paFrom + us 4 + b.rep * 63 * 500000 ≤ s.now) := by decide +kernel

/-! ## Witnesses: the wake receiver -/

/-- A branch that listens and holds an alignment. -/
def br0 : Branch := { Branch.reset with st := .listen, align := some ⟨0, 500000, 0⟩ }

/-- Level readings of chips: 10 dBm for a 1, -10 dBm for a 0. -/
def levels (n : Nat) (l : List Bool) : List (List Int) := l.map (fun c => List.replicate n (if c then 10 else -10))

/-- A part whose branch A listens, with code 4,100 armed. -/
def listening : State := up.onWake (fun w => { w with a := br0, masks := [(4100, 0xFF)] })

/-- `RESET WARM *00` has a wrong checksum and is recorded as the RESET it spells (R54, R61, R89, R521). -/
theorem test_wrong_check_reset :
    (match exec (.lineError [0x52, 0x45, 0x53, 0x45, 0x54, 0x20, 0x57, 0x41, 0x52, 0x4D, 0x20, 0x2A, 0x30, 0x30] false) up with
     | .next t => t.store.cache.map (fun r => match r with | .audit a _ => (a.action, a.object, a.result) | _ => (0, 0, 0))
     | _ => []) = [(6, 772, 5)] := by decide +kernel

/-- The manual's worked example (R112): code 4,100, reason 3. -/
theorem test_codeWord : bchWord (jomenMsg 4100 3) = 0x38027191 ∧ syncWord 5 = 0x4B44 := by decide

/-- Two chips in error of that code word are corrected (R143). -/
theorem test_codeWord_corrected :
    bchDecode (0x38027191 ^^^ 0x40000001) 2 = some { code := 4100, reason := 3, errors := 2, word := 0x38027191 } := by
  decide +kernel

theorem wit_CodeWordWakes : let s := atNow (63 * 500000) (withP Obj.sync (.int 5) listening)
    let r := levels 32 (jomenFrame 5 4100 3)
    s.wake.armed = true ∧ (s.wake.br .a).align = some ⟨0, 500000, 0⟩ ∧ s.receives .a = true ∧
    (⟨0, 500000, 0⟩ : Align).edge r.length = s.wclk ∧ s.blanked = false ∧
    codeWordOf ((s.wake.br .a).chips r) (syncWord (s.pnat Obj.sync)) (s.pnat Obj.syncErrors) = some (0x38027191, 0) ∧
    bchDecode 0x38027191 (s.pnat Obj.correct) = some { code := 4100, reason := 3, errors := 0, word := 0x38027191 } ∧
    s.wake.queue.any (WakeRec.agrees .a s.wclk 0x38027191 (s.pnat Obj.correct)) = false ∧
    (Mem.read s.wake.masks 4100).getLsbD 3 = true ∧ (Mem.read up.wake.masks 4100).getLsbD 3 = false ∧
    codeWordOf ((s.wake.br .a).chips (levels 32 (jomenFrame 5 0 3))) (syncWord 5) (s.pnat Obj.syncErrors) =
      some (bchWord (jomenMsg 0 3), 0) ∧
    bchDecode (bchWord (jomenMsg 0 3)) (s.pnat Obj.correct) =
      some { code := 0, reason := 3, errors := 0, word := bchWord (jomenMsg 0 3) } ∧
    s.wake.queue.length < 16 ∧ s.wake.foldWins = [] := by decide +kernel

/-- Fifteen old records and a newest one of branch B that opened at edge 2,016, the edge of the word of branch A. -/
def fullQueue : List WakeRec := List.replicate 15 rec0 ++ [{ rec0 with first := .b, isOpen := true, t1 := 2016 }]

theorem wit_CodeWordWakes_full : let s := atNow (63 * 500000) (withP Obj.sync (.int 5)
      (listening.onWake (fun w => { w with queue := fullQueue })))
    s.wclk = 2016 ∧ 16 ≤ s.wake.queue.length ∧ (∀ r ∈ List.replicate 15 rec0, r.t1 ≠ s.wclk) ∧ rec0.code ≠ 4100 ∧
    s.wake.queue.any (WakeRec.agrees .a s.wclk 0x38027191 (s.pnat Obj.correct)) = false ∧
    (∀ r ∈ s.wake.queue, r.code ≠ 4100) ∧ 16 ≤ (List.replicate 16 rec0).length ∧ (∀ r ∈ List.replicate 16 rec0, r.t1 ≠ s.wclk) := by
  decide +kernel

theorem wit_CodeWordWakes_chips : (List.replicate 32 (5 : Int)).length = 32 ∧ (List.replicate 8 (5 : Int)).length = 8 ∧
    (listening.wake.br .a).align = some ⟨0, 500000, 7 + -7⟩ ∧ (up.wake.br .a).align = none ∧ listening.receives .a = true ∧
    (let s := listening.onWake (fun w => { w with a := { w.a with st := .off } })
     (s.wake.br .a).align ≠ none ∧ s.receives .a = false) ∧ up.reads .a = false ∧
    (let s := listening.onWake (fun w => { w with a := { w.a with align := none } })
     (s.wake.br .a).align = none ∧ s.reads .a = true) := by decide +kernel

theorem wit_BranchEvents :
    (let s := atNow (secs 1) listening
     (s.wake.br .a).align = some ⟨0, 500000, 0⟩ ∧ 0 + 40 * 500000 ≤ s.now) ∧
    (let b := { br0 with st := .settling, settleAt := some 0 }
     b.st = .settling ∧ b.settleAt = some 0) ∧
    (up.onWake (fun w => { w with blankUntil := some 1 })).blanked = true ∧ up.blanked = false ∧
    (let s := (up.onWake (fun w => { w with a := { br0 with det := .direct } })).onRx (fun x =>
       { x with a := { Chain.reset with on := true } })
     (s.wake.br .a).det = .direct ∧ (s.wake.br .a).st = .listen ∧ s.chainFree .a = false ∧ s.tapTerms .a = false) ∧
    (let s := ((up.onWake (fun w => { w with a := { br0 with det := .direct } })).onRadio (fun r =>
       { r with st := .rx })).onRx (fun x => { x with a := { x.a with on := true }, centre := 7 })
     (s.wake.br .a).det = .direct ∧ (s.wake.br .a).st = .listen ∧ s.tapTerms .a = true) ∧
    (let s := up.onWake (fun w => { w with a := { br0 with det := .direct, st := .suspended } })
     (s.wake.br .a).st = .suspended ∧ s.chainFree .a = true) ∧
    (let s := up.onWake (fun w => { w with a := { br0 with det := .direct } })
     (s.wake.br .a).decides = true ∧ (s.wake.br .a).hold = none ∧ s.chainFree .a = true ∧
       (s.wake.br .a).nextSniff ≤ s.wclk) ∧
    (let s := up.onWake (fun w => { w with a := { Branch.reset with det := .direct, st := .settling } })
     (s.wake.br .a).det = .direct ∧ (s.wake.br .a).hold = none ∧ s.chainFree .a = true ∧ (s.wake.br .a).st = .settling ∧
       (s.wake.br .a).settleAt = none) ∧
    (let s := atNow (secs 1) (up.onWake (fun w => { w with a := { br0 with hold := some 0 } }))
     (s.wake.br .a).hold = some 0 ∧ 0 + 1024 ≤ s.wclk) ∧
    (let c := [0, 500000, 1000000, 1500000, 2000000, 2500000, 3000000, 3500000].zip
       (levels 32 [true, false, true, false, true, false, true, false])
     let s := up.onWake (fun w => { w with a := { br0 with align := none } })
     c.length = 8 ∧ edgesOk (chipTicks .envelope) (c.map Prod.fst) = true ∧ s.wake.armed = true ∧ s.reads .a = true ∧
       (s.wake.br .a).align = none ∧
       (c.map Prod.snd).map (sliceChip .envelope ((s.wake.br .a).floor + 9 * dB)) =
         [true, false, true, false, true, false, true, false]) ∧
    (up.detector = .envelope ∧ (withP Obj.detector (.int 1) up).detector = .superregen ∧ up.wake.det = .envelope ∧
      up.branchUsed .a = true ∧ (up.wake.br .a).st = .off) ∧
    (withP Obj.branches (.int 1) up).branchUsed .a = true ∧ (withP Obj.branches (.int 1) up).branchUsed .b = false ∧
    (let s := up.onWake (fun w => { w with queue := [{ rec0 with isOpen := true, closeAt := 0 }] })
     s.wake.queue.filter (fun r => r.isOpen && decide (r.closeAt ≤ s.wclk)) =
       [{ rec0 with isOpen := true, closeAt := 0 }]) ∧
    (let s := up.onWake (fun w => { w with sweeps := [(2, 0)] })
     s.ccOn = true ∧ s.wake.sweeping = none ∧ dueSweep s.time.slotAt s.wake.sweeps = some 2 ∧ s.work.round = none ∧
       s.work.rounds = []) := by decide +kernel

/-! ## Witnesses: the radio and reception -/

/-- A transmission of a frame. -/
def tx0 : Tx :=
  { head := none, body := .beacon beacon0, kind := .call, scheduled := false, aerial := .a, band := .sub, class7 := false,
    coex := false, air := 0, octets := 20, khz := 868000, rate := 100 }

/-- A part with its radio at a value. -/
def withRadio (f : Radio → Radio) : State := up.onRadio f

theorem wit_RadioEvents :
    (let s := withRadio (fun r => { r with trans := some ⟨.standby, 0, none⟩ })
     s.radio.trans = some ⟨.standby, 0, none⟩ ∧ (0 : Nat) ≤ s.now) ∧
    (let s := withRadio (fun r => { r with trans := some ⟨.standby, 7, none⟩ })
     s.radio.trans = some ⟨.standby, 7, none⟩ ∧ s.now < 7) ∧
    (let s := withRadio (fun r => { r with st := .synth, trans := some ⟨.rx, 0, some (.sub, 868000)⟩ })
     s.radio.trans = some ⟨.rx, 0, some (.sub, 868000)⟩ ∧ s.radio.st ≠ .standby) ∧
    (let s := atNow (secs 1) (withRadio (fun r => { r with st := .tx, tx := some tx0, paOn := true }))
     s.radio.tx = some tx0 ∧ tx0.kind ≠ .burst ∧ s.radio.paFrom + us 4 + tx0.frameTicks ≤ s.now ∧
       s.loopDue tx0 = true ∧ s.running = true ∧ s.pm.power = .active ∧ s.radio.st ≠ .sleep ∧
       s.radio.drive0 - 12 ≤ s.radio.drive ∧ s.radio.drive ≤ s.radio.drive0 + 6) ∧
    (let s := (withRadio (fun r => { r with idleHeld := true })).onSched (fun k => { k with cells := [] })
     s.radio.idleHeld = true ∧ s.otherBandSoon = false) ∧
    ((withRadio (fun r => { r with exclA := some 0 })).radio.exclA = some 0) := by decide +kernel

theorem wit_Calibrations :
    ((up.heard me).allowed .operator = true ∧ (up.heard me).store.flush = none ∧ (up.heard me).store.heldLines = [] ∧
      (up.heard me).changeOpen = false) ∧
    (let s := withRadio (fun r => { r with st := .rx, g24Cal := ⟨0, [3], some 0, [3], []⟩ })
     s.calFree = true ∧ (s.radio.cal' .g24).due ≠ none ∧ s.staleInUse .g24 = 3 :: [] ∧
       (let t := atNow (secs 3) (s.onTime (fun t => { t with slotAt := secs 3, slot := 300, q := 3000000000 * 2 ^ 39 }))
        t.radio.cal = none ∧ t.overdueGroups.take t.groupsThatFit ≠ [])) ∧
    (let c : CalRun := ⟨.gap, .osc, .both, [(.g24, 3)], 0⟩
     let s := withRadio (fun r => { r with cal := some c })
     s.radio.cal = some c ∧ c.endAt ≤ s.now ∧ c.why = .gap) ∧
    (let c : CalRun := ⟨.command me, .osc, .both, [(.g24, 3)], 0⟩
     let s := withRadio (fun r => { r with cal := some c })
     s.radio.cal = some c ∧ c.endAt ≤ s.now ∧ c.why = .command me ∧ c.kind = .osc) := by decide +kernel

/-- A part on whose lane 0 a cell owes an acknowledgement, sent 1,000 µs after its frame, and 900 µs have passed. -/
def claiming : State := atNow (us 900) <| withP Obj.coexEnable (.int 1) <| up.onLane 0 (fun l =>
  { l with holder := .cell 3, ack := some ⟨0, 7, 1, true, false, 10, .a⟩ })

/-- The claim of that acknowledgement. -/
def claim0 : Claim := { air := us 1000, band := .sub, high := true, class7 := false, lost := false }

theorem wit_Coexistence :
    (let s := atNow (secs 1) (withRadio (fun r => { r with coexWait := some tx0 }))
     let u := s.fire .coexRequest
     u.claims.find? (fun c => c.air == s.now + us (u.pnat Obj.coexLead) && u.coexOn c.band) = none ∧
       s.radio.coexWait = some tx0 ∧ s.radio.coexReq = false) ∧
    (let u := claiming.fire .coexRequest
     u.claims.find? (fun c => c.air == claiming.now + us (u.pnat Obj.coexLead) && u.coexOn c.band) = some claim0 ∧
       u.mayClaim claim0 = true ∧ u.coexOwned = false) ∧
    (let s := withRadio (fun r => { r with coexReq := true, coexHi := false, coexAt := 0 })
     s.radio.coexReq = true ∧ s.radio.coexHi = false ∧
       (s.onRadio (fun r => { r with coexHi := true })).radio.coexHi = true) ∧
    (let s := atNow (secs 1) (withRadio (fun r => { r with coexWait := some tx0, coexReq := true }))
     let u := s.coexHigh
     s.radio.ahead = none ∧ s.radio.coexWait = some tx0 ∧ s.sampleDue = true ∧ s.coexFree tx0 = false ∧
       u.anyPayload = false ∧ u.txBarred = false ∧ u.calSlot = false ∧ s.radio.tx = none ∧ s.radio.next = none ∧
       s.radio.cal = none) ∧
    (let s := atNow (us 970) (withRadio (fun r => { r with ahead := some claim0, coexReq := true, coexAir := us 1000 }))
     s.radio.ahead = some claim0 ∧ s.sampleDue = true ∧ s.claimFree claim0 = false ∧ claim0.lost = false ∧
       (s.radio.granted && s.coexOwned) = false ∧ s.now < claim0.air) ∧
    (let s := withRadio (fun r => { r with granted := true, next := some { tx0 with kind := .beacon } })
     up.radio.granted = false ∧ s.radio.granted = true ∧ s.radio.tx = none ∧
       s.radio.next = some { tx0 with kind := .beacon } ∧ s.radio.yielded = none) ∧
    (let s := withRadio (fun r => { r with granted := true, ahead := some claim0 })
     s.radio.granted = true ∧ s.radio.tx = none ∧ s.radio.next = none ∧ s.radio.ahead = some claim0) ∧
    (let s := withRadio (fun r => { r with starved := secs 100000 })
     s.radio.coexFault = false ∧ secs ((s.fire .coexTimer).pnat Obj.coexStarve) ≤ s.radio.starved ∧
       s.radio.coexWait = none) := by decide +kernel

theorem wit_Coexistence_turn :
    (let u := up.fire .transmission
     u.coexOn .sub = false ∧ u.airHeld = false ∧
       (({ up with radio := { up.radio with taken := some 0 } } : State).fire .transmission).airHeld = true) ∧
    (let u := claiming.fire .transmission
     u.coexOn .sub = true ∧ u.txBarred = false ∧ u.airHeld = false ∧ u.radio.ahead = none ∧
       ((claiming.onRadio (fun r => { r with taken := some 0 })).fire .transmission).airHeld = true) ∧
    (let u := (atNow (us 972) (claiming.onRadio (fun r => { r with ahead := some claim0, granted := true }))).fire .transmission
     u.coexOn .sub = true ∧ u.airHeld = false ∧ u.radio.ahead = some claim0 ∧ claim0.band = .sub ∧
       claim0.air ≤ u.now + us 28 ∧ claim0.lost = false ∧ u.radio.granted = true) ∧
    (let s := withRadio (fun r => { r with coexWait := some tx0 })
     s.radio.tx = none ∧ s.radio.next = none ∧ s.radio.coexWait = some tx0) ∧
    (tx0.kind ≠ .burst ∧ ((up.fire .transmission).fire .frame).pgInput 1 = false ∧ up.aerialFree .a ≠ .never) ∧
    (let s := (up.onStore (fun c => { c with flush := some 0 })).onRadio (fun r => { r with next := some tx0 })
     s.txBarred = true ∧ s.radio.next = some tx0 ∧ tx0.scheduled = false) := by decide +kernel

/-- A part that receives: chain A on, lane 0 bound to a cell and receiving a payload. -/
def receiving : State := (withRadio (fun r => { r with st := .rx })).onRx (fun x =>
  { x with a := { Chain.reset with on := true },
           lanes := x.lanes.set 0 { Lane.reset with holder := .cell 0, pre := true, payload := true, payloadEnd := 9 } })

theorem wit_GainAndLanes :
    ((receiving.rx.chain .a).on = true ∧ receiving.radio.st = .rx ∧ receiving.receiving receiving.rx.lanes[0] = true ∧
      receiving.rx.lanes[0].chain = .a) ∧
    (let s := atNow (secs 1) (receiving.onLane 0 (fun l => { l with pre := false, payload := false, badA := [(0, secs 2)] }))
     (s.rx.chain .a).on = true ∧ s.radio.st = .rx ∧ s.rx.lanes[0].bound = true ∧
       s.rx.lanes[0].holder ≠ .capture ∧ s.receiving s.rx.lanes[0] = false ∧ s.validSymbols 0 .a = 0) ∧
    (let s := receiving.onLane 0 (fun l => { l with payload := false })
     s.rx.lanes[0].pre = true ∧ s.rx.lanes[0].payload = false ∧ 0x904E = s.sfdWord ∧ 0x7A0E ≠ s.sfdWord ∧
       s.rx.lanes[0].window = none ∧ (∀ t, Lane.hears t s.rx.lanes[0] = true)) ∧
    (let s := atNow 9 (receiving.onLane 0 (fun l => { l with badPhr := true }))
     s.rx.lanes[0].payload = true ∧ s.rx.lanes[0].badPhr = true ∧ s.rx.lanes[0].payloadEnd ≤ s.now ∧
       s.rx.lanes[0].retune = none) ∧
    (receiving.rx.lanes[0].retune = none ∧ receiving.covers receiving.rx.band receiving.rx.centre 100 0 = true ∧
      planHas receiving.part.variant 100 0 = true ∧ (receiving.chanHolder 0 100 0).isNone = true ∧
      planHas receiving.part.variant 100 128 = false) ∧
    ((receiving.res { kind := .lane, num := 0 }).retired = false ∧
      (receiving.res { kind := .lane, num := 0 }).resting = false ∧ receiving.work.table = [] ∧
      receiving.faultsInWindow { kind := .lane, num := 0 } < 4) ∧
    wantStep 7 0 0 ≠ 7 ∧ (receiving.onRx (fun x => { x with a := { x.a with step := 15 } })).chainPayload .a = true ∧
    (let s := receiving.onLane 0 Lane.idle
     (s.rx.chain .a).on = true ∧ s.radio.st = .rx ∧ s.chainPayload .a = false ∧ (-24 : Int) < 0 ∧
       wantStep (s.rx.chain .a).step 0 0 ≠ (s.rx.chain .a).step) := by
  refine ⟨by decide, by decide +kernel, ⟨by decide, by decide, by decide, by decide, rfl, fun t => rfl⟩, by decide,
    by decide +kernel, by decide, by decide, by decide, by decide⟩

theorem wit_Captures :
    (let u := up.heard me
     u.store.flush = none ∧ u.store.heldLines = [] ∧ u.changeOpen = false ∧
       u.allowed .operator = true ∧ inRange 0 39 39 = true ∧ inRange 0 (2 ^ 40 - 1) (2 ^ 40 - 1) = true ∧
       inRange 1 8192 (argOr 8192 none) = true ∧ capRateOk u.rx.band (.chan 0) (some 100) = true ∧
       u.dropCapture.captureLane none = some 15 ∧ u.dropCapture.captureLane (some 9) = some 15 ∧
       u.rx.capture.bind Capture.ended = none ∧ ((low up).heard me).allowed .operator = false ∧ inRange 0 1 1 = true) ∧
    (let c : Capture := ⟨15, .chan 0, none, none, 64, [1, 2], 7, 7, .c 0, true, 0, true, [], [], some 0⟩
     let s := atNow (secs 600) (up.onRx (fun x => { x with capture := some c }))
     (s.heard me).rx.capture = some c ∧ c.ended ≠ none ∧ inRange 0 8191 (argOr 0 (some 8191)) = true ∧
       inRange 1 512 (argOr 512 (some 1)) = true ∧ s.rx.capture.bind Capture.ended = some 0 ∧ 0 + secs 600 ≤ s.now ∧
       (let d := { c with ended := none }
        d.started = true ∧ d.ended = none ∧ d.startAt + captureTicks d ≤ s.now ∧ { d with inSpan := false }.inSpan = false)) := by
  decide +kernel

/-! ## Witnesses: time, schedule, rounds -/

theorem wit_TimeAndClocks :
    (up.heard me).allowed .custodian = true ∧ (up.heard me).net.st ≠ .member ∧ (up.heard me).net.st ≠ .holdover ∧
    ((up.onNet (fun n => { n with st := .member })).heard me).net.st = .member ∧
    (let s := up.onTime (fun t => { t with ask := some (.set 9 7) })
     s.time.fold = none ∧ s.time.step = none ∧ s.time.ask = some (.set 9 7)) ∧
    (up.onTime (fun t => { t with ask := some .counter })).time.ask = some .counter ∧ up.xoOn = true ∧
    (let s := withPm (fun p => { p with power := .larder })
     s.running = true ∧ s.xoOn = false) ∧
    (let s := atNow (secs 60) (up.onTime (fun t => { t with counterMode := false }))
     s.running = true ∧ s.time.counterMode = false ∧ s.time.savedAt + secs 60 ≤ s.now) := by decide

/-- A cell. -/
def cell0 : Cell :=
  { frame := 0, kind := .lane, ch := 3, hop := 0, slot := 7, offset := 0, rate := 0, lane := 2, arg := 0, handle := none,
    n := 0 }

/-- A part in which a cell has come due. -/
def dueOf (c : Cell) : State := up.onSched (fun k => { k with active := [(3, 9)], cells := [(3, c)] })

theorem wit_ScheduleAndCells :
    (let a := up.acting me
     (up.heard me).allowed .operator = true ∧ (∀ x ∈ a.schedNext.cells, x.2.frame = 0 → (x.2.slot : Int) < 51) ∧
       (∃ x ∈ a.schedNext.cells, x.2.frame = 0 ∧ (50 : Int) ≤ (x.2.slot : Int)) ∧
       (a.cellOf { frame := 0, slot := 99, offset := 0, kind := .lane, ch := 3, hop := 0, rate := 0, lane := 2, arg := 0,
                   handle := none, n := 0 }).isSome = true ∧
       a.cellOf { frame := 0, slot := 100, offset := 0, kind := .lane, ch := 3, hop := 0, rate := 0, lane := 2, arg := 0,
                  handle := none, n := 0 } = none) ∧
    (let s := (up.onNet (fun n => { n with started := true })).onTime (fun t => { t with slot := 5 })
     s.ccOn = true ∧ s.slotNow ≠ s.time.slot ∧ s.net.started = true) ∧
    (let s := dueOf cell0
     s.dueCell 3 = some (cell0, 9) ∧ s.cellStale cell0 = false ∧ s.inBurst = false ∧ s.roundRuns = false ∧
       s.cellLane 2 = true ∧ (cell0.onChannel && s.chanBusy cell0 9) = false ∧
       s.chanHolder 2 (s.cellRate cell0.rate) 9 = none ∧ s.rx.lanes[2].holder = .none ∧ cell0.arg ≠ 1 ∧ cell0.arg ≠ 4 ∧
       s.receiving s.rx.lanes[2] = false ∧
       (let r := s.onLane 2 (fun l => { l with holder := .cell 1, chan := 8, payload := true, payloadEnd := 9 })
        r.cellLane 2 = true ∧ r.receiving r.rx.lanes[2] = true ∧ r.rx.lanes[2].chan ≠ 9 ∧
          r.rx.lanes[2].holder = .cell 1 ∧ r.chanHolder 2 (r.cellRate cell0.rate) 9 = none) ∧
       (s.onLane 4 (fun l => { l with holder := .cell 1, chan := 9 })).chanBusy cell0 9 = true) ∧
    (let c := { cell0 with kind := .capt, arg := 0, n := 64 }
     (dueOf c).dueCell 3 = some (c, 9) ∧ (dueOf c).cellStale c = false ∧ (dueOf c).cellLane 2 = true ∧
       c.onChannel = false) ∧
    ((dueOf { cell0 with kind := .conv }).dueCell 3 = some ({ cell0 with kind := .conv }, 9)) ∧
    ((dueOf { cell0 with kind := .round }).dueCell 3 = some ({ cell0 with kind := .round }, 9)) ∧
    ((dueOf { cell0 with handle := some ⟨16, 0⟩ }).cellStale { cell0 with handle := some ⟨16, 0⟩ } = true) ∧
    (let b : Burst := { code := 20, reason := 1, sync := 0, rep := 4, fast := false, power := 10, purpose := .command }
     ((dueOf cell0).onJomen (fun j => { j with onAir := some b })).onRadio (fun r =>
       { r with tx := some { tx0 with kind := .burst } }) |>.inBurst = true) ∧
    (((dueOf cell0).onWork (fun w => { w with round := some { Round.fresh ⟨0, 8000, 1, false, 0, true⟩ 0 4 with
       opened := true } })).roundRuns = true) ∧
    ((dueOf cell0).onLane 2 (fun l => { l with holder := .capture })).cellLane 2 = false ∧
    (let f := { fl0 with st := .backoff }
     let s := (withFl f).onSched (fun k => { k with active := [(3, 9)], cells := [(3, { cell0 with kind := .tx })] })
     s.dueCell 3 = some ({ cell0 with kind := .tx }, 9) ∧ f ∈ s.work.table ∧ f.called = false ∧ f.kind ≠ .push ∧
       f.skips = 0 ∧ s.cellLane 2 = true) := by decide +kernel

/-- A round that runs. -/
def round0 : Round :=
  { Round.fresh ⟨0, 8000, 1, false, 0, true⟩ 0 4 with opened := true, sub := 1, inSlot := 1, chans := [3, 4], window := true }

/-- A part in a round. -/
def inRound (r : Round) : State := up.onWork (fun w => { w with round := some r })

theorem wit_RoundsRun :
    (let a := up.acting me
     (up.heard me).allowed .operator = true ∧ a.roster.netKey ≠ none ∧ (0 : Int) ≤ argOr 1 none ∧ argOr 1 (some 7) ≤ 7 ∧
       (withP Obj.groupCount (.int 64) up |>.acting me).isGroup 8190 = true ∧ a.work.round = none ∧ a.work.rounds = [] ∧
       ((inRound round0).acting me).work.round = some round0 ∧
       8 ≤ (List.replicate 8 round0.req).length) ∧
    (let r := Round.fresh ⟨0, 8000, 1, false, 0, true⟩ 5 4
     let s := (inRound r).onSched (fun k => { k with bitmapOk := true })
     r.opened = false ∧ r.pausing = false ∧ s.atBoundary = true ∧ s.time.slot ≠ r.openSlot ∧ s.roundBurst r = false ∧
       (∀ n : Fin 16, s.rx.lanes[n].holder = .none)) ∧
    ((inRound { round0 with inSlot := 0, window := false }).subDue { round0 with inSlot := 0, window := false } = true ∧
      (inRound round0).radio.tx = none ∧ (inRound round0).radio.next = none) ∧
    (let s := atNow (us 2470) (inRound round0)
     round0.window = true ∧ round0.subAt + us 2470 ≤ s.now ∧ [CellSeen.empty, .collided].length = round0.chans.length ∧
       s.rx.buf = []) ∧
    (let r := { round0 with closing := 2 }
     2 ≤ r.closing ∧ r.subAt + us 2500 ≤ (atNow (us 2500) (inRound r)).now) ∧
    (let b : Burst := { code := 20, reason := 1, sync := 0, rep := 4, fast := false, power := 10, purpose := .lastChance 16 }
     let r := { round0 with window := false }
     let s := atNow (us 2500) ((inRound r).onJomen (fun j => { j with due := [b] }))
     s.roundRuns = true ∧ b ∈ s.jomen.due ++ s.jomen.queue ∧ r.window = false ∧
       r.subAt + us 2500 ≤ s.now ∧ r.closing < 2) := by decide +kernel

/-! ## Witnesses: roster, monitors, VAUX, faults -/

/-- The part with an unpinned peer in entry 3. -/
def withPeer : State := up.onRoster (fun r => { r with entries := [(3, { Entry.fresh 9 0 with keySlot := 3 })] })

theorem wit_RosterAndKeys :
    ((withEp.heard me).byHandle ⟨16, 0⟩ = some ep7 ∧ (withEp.heard me).byHandle ⟨16, 1⟩ = none ∧
      (withEp.heard me).indexOf 7 = some 16 ∧ (withEp.heard me).entry 16 = some ep7) ∧
    (let a := withEp.acting me
     at16.fits = true ∧ at16.get = ⟨16, 0⟩ ∧ 16 ≤ at16.index ∧
       a.byHandle ⟨16, 0⟩ = some ep7 ∧ a.hasFlight 16 = false ∧ a.alarmHeld 16 ep7 = false ∧
       ((withFl fl0).acting me).hasFlight 16 = true ∧
       (withP Obj.groupCount (.int 64) withEp |>.acting me).badGroup [8190] = none ∧ a.sendFault ⟨16, 0⟩ 3 = none ∧
       ((a.fire .send).newFlight fl0).1 = .table 1) ∧
    (let a := withPeer.acting me
     a.hasFlight 0 = false ∧ a.peerIndex 9 = some 3 ∧ a.hasFlight 3 = false ∧
       (∃ o, a.entry 3 = some o ∧ o.id = 9)) ∧
    (let x : Spill := ⟨ep7, 20, true⟩
     let a := (up.onRoster (fun r => { r with spill := [(7, x)] })).acting me
     a.indexOf 7 = none ∧ a.spillOf 7 = some x) ∧
    (up.heard me).allowed .custodian = true :=
  ⟨by decide, by decide +kernel, ⟨by decide, by decide, by decide, _, rfl, rfl⟩, by decide, by decide⟩

theorem wit_MonitorsDecide :
    (let s := withP (Obj.wmInput + 3) (.int 0) (withP (Obj.wmMode + 3) (.int 1) up)
     s.monOn = true ∧ s.wm Obj.wmMode 3 ≠ 0 ∧ s.wmDue 3 = true ∧ (s.wmSettle 3).wm Obj.wmMode 3 = 1 ∧
       (s.onWm 3 (fun m => { m with tickAt := some 0 })).wmDue 3 = false ∧
       near2us s.mon.mons[3].convAt s.now = false ∧ s.radio.tx = none ∧
       (s.wmSettle 3).inputOk ((s.wmSettle 3).wm Obj.wmInput 3) = true ∧
       ((s.wmSettle 3).fire .sense).wm Obj.wmInput 3 ≠ 2) ∧
    ((withP (Obj.wmLatch + 3) (.int 2) up |>.acting me).wm Obj.wmLatch 3 = 2 ∧
      (withP (Obj.wmLatch + 3) (.int 0) up |>.acting me).wm Obj.wmLatch 3 ≠ 2) ∧
    (let s := withP (Obj.wmInput + 3) (.int 0) (withP (Obj.wmMode + 3) (.int 2) up)
     s.comparatorOn 3 = true ∧ s.wm Obj.wmMode 3 = 2 ∧ s.wmSampled 3 = false) ∧
    (let s := withP (Obj.wmLatch + 3) (.int 1) up
     s.wm Obj.wmLatch 3 = 1 ∧ s.wmGrid 3 = true ∧ s.filterOut 3 = false ∧ s.tripSource 3 = false) := by decide +kernel

/-- A part whose monitor 3 trips generator 1 and 2. -/
def tripping : State := withP (Obj.pgMask + 2) (.int 8) (withP (Obj.pgMask + 1) (.int 8)
  ((withP (Obj.wmLatch + 3) (.int 2) up).onWm 3 (fun m => { m with trip := true })))

theorem wit_PulsesAndVaux :
    (tripping.pgInput 1 = true ∧ tripping.pgInput 2 = true ∧ tripping.mon.tripped[1] = false ∧ tripping.radio.tx = none ∧
      (tripping.onRadio (fun r => { r with tx := some tx0 })).reflected = false) ∧
    (let s := up.onWm 0 (fun m => { m with event := true })
     s.monOn = true ∧ s.mon.mons[0].event = true ∧ s.mon.warning = false ∧ s.ccOn = true ∧ s.radio.tx = none ∧
       s.store.flush = none ∧ (s.onPm (fun p => { p with power := .larder })).ccOn = false) ∧
    (let s := up.onMon (fun m => { m with tripOwed := true })
     s.mon.tripOwed = true ∧ s.mon.onOwed = none) ∧
    (let s := up.onMon (fun m => { m with retryAt := some 0 })
     s.mon.retryAt = some 0 ∧ s.running = true ∧ s.pm.power ≠ .shelf ∧ s.mon.vaux = .off ∧
       (s.fire .vauxOn).pgInput 2 = false) ∧
    (let s := atNow (us 100) (up.onMon (fun m => { m with vaux := .ramp 0, onOwed := some (me, .self .auditWrap, false) }))
     s.mon.vaux = .ramp 0 ∧ 0 + us 100 ≤ s.now ∧ s.mon.onOwed = some (me, .self .auditWrap, false)) ∧
    (let u := (up.onMon (fun m => { m with vaux := .on })).heard me
     u.mon.vaux = .on ∧ u.mon.tripOwed = false ∧ u.mon.lockout = false ∧ (up.heard me).mon.vaux = .off ∧
       ((up.heard me).fire .vauxOn).pgInput 2 = false ∧ u.mon.onOwed = none) := by decide +kernel

/-- A clean record of plan channel 3 with three faults in its window. -/
def res3 : Res := { Res.clean ⟨.chan, 3⟩ with times := [0, 0, 0] }

/-- A part whose judging window of plan channel 3 holds 256 cells, 32 preambles and half of their frames passed. -/
def judging : State := up.onRx (fun x => { x with judges := [⟨⟨.chan, 3⟩, 256, 32, 16⟩] })

theorem wit_FaultModel :
    (let u := up.heard me
     u.allowed .custodian = true ∧ u.faultCheck (.num .lane 3) = none ∧ (u.res ⟨.lane, 3⟩).retired = false ∧
       u.lastOne ⟨.lane, 3⟩ = false) ∧
    (let u := ({ up with faults := [{ Res.clean ⟨.chain, 0⟩ with retired := true }] } : State).heard me
     u.faultCheck (.num .chain 1) = none ∧ (u.res ⟨.chain, 1⟩).retired = false ∧ u.lastOne ⟨.chain, 1⟩ = true ∧
       u.faultCheck (.num .chain 0) = none ∧ (u.res ⟨.chain, 0⟩).retired = true) ∧
    (let s := { up with faults := [{ res3 with resting := true, until_ := some 0 }] }
     (s.res ⟨.chan, 3⟩).until_ = some 0 ∧ (s.res ⟨.chan, 3⟩).resting = true ∧ (s.res ⟨.chan, 3⟩).retired = false) ∧
    (let s := atNow (secs 3600) { up with faults := [res3] }
     0 < restWindow .chan ∧ (s.res ⟨.chan, 3⟩).resting = false ∧ (s.res ⟨.chan, 3⟩).lastFault + restWindow .chan ≤ s.now) ∧
    (let s := { judging with faults := [res3] }
     (judging.judgeOf ⟨.chan, 3⟩ = ⟨⟨.chan, 3⟩, 256, 32, 16⟩ ∧ judging.ccOn = true ∧
       (32 : Nat) ≤ 2 * (32 - 16) ∧ up.judgeOf ⟨.chan, 3⟩ = ⟨⟨.chan, 3⟩, 0, 0, 0⟩ ∧ 2 * (32 - 17) < 32) ∧
     judging.resFits ⟨.chan, 3⟩ = true ∧ 4 ≤ s.faultsInWindow ⟨.chan, 3⟩ ∧
       up.faultsInWindow ⟨.chan, 3⟩ < 4 ∧
       (let l := (receiving.onLane 0 (fun l => { l with chan := 1, rate := 200 })).rx.lanes[0]
        l.holder = .cell 0 ∧ ⟨.chan, 3⟩ ∈ channelIds 200 1 ∧ l.rate = 200 ∧ l.chan = 1) ∧
       (let t := (s.onNet (fun n => { n with st := .root })).onSched (fun k => { k with h0 := [1, 2, 3, 4, 5, 6] })
        t.net.st = .root ∧ t.chanFloor ⟨.chan, 3⟩ = false) ∧ s.chanFloor ⟨.chan, 3⟩ = true) ∧
    (let e := { ep7 with unreach := true, unreachAt := some 0 }
     let s := atNow (secs 3600) ((withP Obj.retireAfter (.int 1) up).onRoster (fun r => { r with entries := [(16, e)] }))
     (s.fire .hourly).pnat Obj.retireAfter ≠ 0 ∧ e.active = true ∧ e.retired = false ∧
       0 + secs (3600 * (s.fire .hourly).pnat Obj.retireAfter) ≤ s.now ∧
       ((withP Obj.retireAfter (.int 0) up).fire .hourly).pnat Obj.retireAfter = 0) := by decide +kernel

/-! ## Witnesses: the wire, frames, the network -/

/-- The part 1 s on, while it sends something. -/
def sendingLine (x : Sending) : State := atNow (secs 1) (up.onLine (fun l => { l with sending := some x, sendEnd := secs 2 }))

/-- The part with a stuck LINE, its check due. -/
def stuck : State := atNow (secs 9) (up.onLine (fun l => { l with stuckAt := some (secs 7), checkAt := secs 9 }))

theorem wit_WireEvents_sent : up.onWire = none ∧ (sendingLine .reply).onWire = some .reply ∧
    (sendingLine .echo).onWire = some .echo ∧ (sendingLine (.enumAnswer 0 3)).onWire = some (.enumAnswer 0 3) ∧
    (sendingLine (.seen [] true)).onWire = some (.seen [] true) ∧
    (sendingLine (.push ⟨.c 0, .bufHigh⟩)).onWire = some (.push ⟨.c 0, .bufHigh⟩) ∧ up.line.events.length < 64 ∧
    up.line.address = 0 ∧ ((sendingLine .reply).onLine (fun l => { l with address := 3 })).line.address ≠ 0 ∧
    (let s := sendingLine .echo
     s.hears = true ∧ s.line.sending = some .echo ∧ s.now < s.line.sendEnd + s.charTime) := by decide +kernel

theorem wit_WireEvents_timers :
    let s := atNow (secs 100000) (up.onLine (fun l => { l with
      partialLine := [0x41], trial := some (115200, 0), challenge := some ⟨.operator, 0, 0⟩, lockout := some 0 }))
    s.line.partialLine ≠ [] ∧ s.line.partialAt + s.partialTime ≤ s.now ∧ s.line.trial = some (115200, 0) ∧
      s.line.level ≠ .observer ∧ s.line.lastLine + secs (s.pnat Obj.sessionIdle) ≤ s.now ∧
      s.line.challenge = some ⟨.operator, 0, 0⟩ ∧ (0 : Nat) + secs 10 < s.now ∧ s.line.lockout = some 0 := by decide

theorem wit_WireEvents_breaks :
    up.ccOn = true ∧ up.line.stuckAt = none ∧ up.pint Obj.lineHostVaux ≠ 1 ∧ up.hears = true ∧ State.reset.hears = false ∧
    up.running = true ∧ up.resetting = false ∧ up.lineIgnored = false ∧ up.pm.power = .active ∧
    (2 * up.charTime < ms 1 - 1 ∧ 2 * up.charTime < ms 1 ∧ ms 500 < ms 500 + 1 ∧ ms 500 + 1 ≤ secs 1) ∧
    ¬(up.line.sending = some .echo) ∧ up.line.afterCr = false ∧
    (up.onLine (fun l => { l with afterCr := true })).line.afterCr = true ∧ up.line.partialLine.length ≤ 200 ∧
    up.pnat Obj.lineMode = 0 ∧ up.line.solo = true ∧
    ((withP Obj.lineMode (.int 1) up).fire .nextLine).pnat Obj.lineMode = 1 := by decide +kernel

theorem wit_WireEvents_faulty :
    (let l : List Byte := [0x41]
     rawHdr l = some me ∧ tokens l ≠ [] ∧ up.pm.entering = none ∧ up.line.solo = true ∧ lineAddr l = none ∧
       rawError ((up.fire .nextLine).pnat Obj.lineMode == 1) false l = some (.verb, 1) ∧ validSyntax false l = true) ∧
    (let l : List Byte := [0x41, 0x20, 0x2A]
     rawHdr l = some { me with cc := true } ∧ tokens l ≠ [] ∧ lineAddr l = none ∧
       rawError ((up.fire .nextLine).pnat Obj.lineMode == 1) false l = some (.check, 0) ∧ validSyntax false l = false) ∧
    (let l : List Byte := [0x40, 0x35, 0x20, 0x41]
     let s := up.onLine (fun l => { l with address := 5 })
     rawHdr l = some unit5 ∧ tokens l ≠ [] ∧ lineAddr l = some (some s.line.address) ∧ s.line.address ≠ 0 ∧ s.hears = true ∧
       rawError ((s.fire .nextLine).pnat Obj.lineMode == 1) false l = some (.verb, 1)) := by decide +kernel

theorem wit_WireEvents_restored :
    (stuck.line.stuckAt = some (secs 7) ∧ stuck.running = true ∧ stuck.line.checkAt ≤ stuck.now) ∧
    (atNow (secs 8) stuck).now < stuck.line.checkAt ∧
    (let s := stuck.onLine (fun l => { l with pulseEnd := some (secs 9) })
     s.line.rateAt = none ∧ s.line.stuckAt = some (secs 7) ∧ s.line.highAt = none ∧ s.line.pulseEnd = some s.now) ∧
    (let s := stuck.onLine (fun l => { l with highAt := some (secs 8) })
     s.line.rateAt = none ∧ s.line.pulseEnd = none ∧ s.line.stuckAt = some (secs 7) ∧ s.line.highAt = some (secs 8) ∧
       secs 8 + 2 * s.charTime ≤ s.now) ∧
    (let s := up.onLine (fun l => { l with rateAt := some 0 })
     s.line.rateAt = some 0 ∧ max 0 s.line.sendEnd ≤ s.now ∧ s.line.stuckAt = none ∧ s.line.pulseEnd = none) := by
  decide +kernel

/-- Under every key, some MIC holds for a frame: the one the key gives. -/
theorem wit_mic (nk : Key) (f : Frame) : ∃ m, micOk nk { f with mic := m } = true :=
  ⟨Config.ccmMic (endpointKey nk f.id) (frameNonce f) (frameAad f) (framePlain nk f) (micOctets f.micLen.val), by
    show (_ == _) = true
    rw [beq_iff_eq]
    cases f with | _ k => cases k <;> rfl⟩

/-- Endpoint 7 in entry 16, heard up to counter 0. -/
def hearing : State := withP Obj.sync (.int 0)
  (receiving.onRoster (fun r => { r with entries := [(16, ep7)], loaded := true, netKey := some 0 }))

theorem wit_FramesAreRecorded :
    (hearing.takesFrame 0 = true ∧ hearing.inFrame 0 = true ∧ 1024 ≤ (List.replicate 1024 frame0).length ∧ hearing.rx.buf = [] ∧
      hearing.rx.high = false ∧ 1 < hearing.highMark ∧ hearing.roster.loaded = true ∧
      hearing.store.room (sightRecords frame0) = true ∧ hearing.work.table = [] ∧ hearing.headFault frame0 = none ∧
      hearing.sender frame0.id = .entry 16 ep7 ∧ replay ep7.rxCtr ep7.window frame0.ctr = some (1, 1) ∧
      (hearing.onLane 0 (fun l => { l with ack := none })).rx.lanes[0].acks = true) ∧
    (let f := { frame0 with kind := .join, id := 8 }
     hearing.sender f.id = .unknown ∧ hearing.freeIndex = some 17 ∧
       (withP Obj.rosterJoin (.int 1) hearing |>.fire .join).pint Obj.rosterJoin ≠ 0 ∧
       hearing.roster.spill.length < 1048576) := by decide +kernel

/-- Some MIC of that frame is accepted. -/
theorem wit_FramesAreRecorded_mic : ∃ m, hearing.micFault { frame0 with mic := m } = none :=
  have ⟨m, h⟩ := wit_mic 0 frame0
  ⟨m, by
    have e : ¬((1 : Nat) < hearing.micCode.val) := by decide +kernel
    show (if (1 : Nat) < hearing.micCode.val then some "sec.mic.short"
      else if (!micOk 0 { frame0 with mic := m }) = true then some "sec.mic.bad" else none) = none
    rw [if_neg e, h]; rfl⟩

/-- Encryption keeps the length of a payload, so a JOIN of 5 octets has 5. -/
theorem ccmCrypt_length (k : Key) (n l : List Byte) : (ccmCrypt k n l).length = l.length := by simp [ccmCrypt]

theorem wit_FramesAreRecorded_join :
    let u := withP Obj.rosterJoin (.int 1) hearing
    ∃ m, (u.fire .join).micFault { frame0 with kind := .join, id := 8, payload := [1, 2, 3, 4, 5], mic := m } = none ∧
      5 ≤ (u.plainOf { frame0 with kind := .join, id := 8, payload := [1, 2, 3, 4, 5], mic := m }).length :=
  have ⟨m, h⟩ := wit_mic 0 { frame0 with kind := .join, id := 8, payload := [1, 2, 3, 4, 5] }
  ⟨m, by
    have e : ¬((1 : Nat) < ((withP Obj.rosterJoin (.int 1) hearing).fire .join).micCode.val) := by decide +kernel
    show (if (1 : Nat) < ((withP Obj.rosterJoin (.int 1) hearing).fire .join).micCode.val then some "sec.mic.short"
      else if (!micOk 0 { frame0 with kind := .join, id := 8, payload := [1, 2, 3, 4, 5], mic := m }) = true
        then some "sec.mic.bad" else none) = none
    rw [if_neg e, h]; rfl, by
    show 5 ≤ (framePlain 0 _).length
    simp [framePlain, ccmCrypt_length]⟩

/-- A flood of that frame. -/
def flood0 : Flood := { hops := 2, hopClass := 0, innerKind := .data, inner := frame0 }

theorem wit_AcknowledgementsAndFloods :
    (let a := { frame0 with kind := .ack }
     let f := { fl0 with st := .air, lane := some 0, awaiting := true, ctr := 5 }
     let s := hearing.onWork (fun w => { w with table := [f] })
     s.takesFrame 0 = true ∧ a.sync.toNat = s.pnat Obj.sync ∧ s.ackedFlight 0 5 (us 1000) = some f ∧
       s.byHandle f.handle = some ep7 ∧ s.roster.netKey = some 0 ∧ a.micLen = 1 ∧
       replay ep7.rxCtr ep7.window a.ctr = some (1, 1)) ∧
    (let a : AckDue := ⟨0, 7, 1, true, false, 10, .a⟩
     let s := atNow (us 972) (hearing.onLane 0 (fun l => { l with ack := some a }))
     s.rx.lanes[0].ack = some a ∧ a.frameEnd + us 972 ≤ s.now ∧ s.txBarred = false ∧ s.rx.high = false ∧
       (List.finRange 16).any (fun m => m ≠ 0 && s.receiving s.rx.lanes[m]) = false ∧ s.txFree = true ∧
       s.indexOf a.id = some 16 ∧ ep7.txCtr.toNat < ctrEnd ∧ s.laneInCell 0 = true ∧ s.gapHolds = false ∧
       (let u := s.onLane 0 (fun l => { l with holder := .called 1 })
        u.laneInCell 0 = false ∧ u.rx.lanes[0].ack = some a ∧ u.txFree = true ∧
          (u.onRadio (fun r => { r with cal := some ⟨.gap, .osc, .both, [], 0⟩ })).gapHolds = true) ∧
       (s.takeAir (bandOf s.rx.lanes[0].rate) (us 28)).1 = .go ∧
       ((s.onRadio (fun r => { r with taken := some 0 })).takeAir (bandOf s.rx.lanes[0].rate) (us 28)).1 = .busy) ∧
    (let u := (withP Obj.relayClasses (.int 1) hearing).fire .flood
     let g := Flood.rebuilt flood0
     flood0.hopClass = g.reason ∧ u.floodClass g.reason.toNat = true ∧ floodKind flood0.innerKind = true ∧
       hearing.roster.seen.any (Seen.isFor g) = false ∧ u.pint Obj.relayFlood = 1 ∧
       ((withP Obj.relayFlood (.int 0) (withP Obj.relayClasses (.int 1) hearing)).fire .flood).pint Obj.relayFlood ≠ 1 ∧
       (hearing.onRoster (fun r => { r with seen := [⟨g.id, g.dir, g.ctr, 1, 0⟩] })).roster.seen.any (Seen.isFor g) = true) ∧
    (let p : Replay := ⟨flood0, 0, false⟩
     let s := (up.onRoster (fun r => { r with replays := [p] })).onLane 2 (fun l =>
       { l with holder := .cell 3, program := 5 })
     let s := withP Obj.relayFlood (.int 1) (s.onSched (fun k => { k with run := [(3, 9)] }))
     s.pint Obj.relayFlood = 1 ∧ (s.fire .transmission).coexOn (bandOf s.rx.lanes[2].rate) = false ∧ (assoc 3 s.sched.run).isSome = true ∧ s.txBarred = false ∧ s.txFree = true ∧ s.anyPayload = false ∧
       s.roster.replays.find? (fun p => decide (p.from_ ≤ s.time.slot)) = some p ∧ p.own = false) := by decide +kernel

/-- A beacon with the plan check and the slot length of a part that hears it. -/
def beacon1 : Beacon := { beacon0 with planCheck := hearing.planCheck, slotLen := hearing.pnat Obj.slotLength }

/-- It passes every check under the MIC of the part's own key. -/
theorem wit_NetworkIsFound_beacon :
    (let b := { beacon1 with mic := beaconMic 0 beacon1 }
     hearing.beaconFault b = none ∧ hearing.indexOf b.sender = none) := by
  refine ⟨?_, by decide +kernel⟩
  show (if beaconMic 0 beacon1 ≠ beaconMic 0 beacon1 then _ else _) = none
  rw [if_neg (by simp)]
  decide +kernel

/-- A candidate in the slot it drew. -/
def candidate : State := up.onNet (fun n => { n with st := .candidate, started := true, drawn := 0, roundNo := 1, rounds := 2 })

theorem wit_NetworkIsFound :
    (hearing.inFrame 0 = true ∧ hearing.rx.lanes[0].holder ≠ .round ∧ hearing.net.st = .unsynced ∧
      (receiving.onRoster (fun r => { r with netKey := none })).beaconFault beacon0 = some (.keeper, "sec.nokey")) ∧
    (let s := withP Obj.netRoot (.int 1) (up.onNet (fun n => { n with started := true, waitFrom := some 0, waitSlots := 0 }))
     s.net.waitFrom = some 0 ∧ s.ccOn = true ∧ s.net.started = true ∧ s.net.joining = none ∧
       0 + s.net.waitSlots * s.slotTicks ≤ s.time.slotAt ∧ s.net.st = .unsynced ∧ (s.fire .waitEnd).pint Obj.netRoot = 1 ∧
       s.roster.netKey ≠ none ∧
       (let u := withP Obj.netRoot (.int 0) s
        u.net.waitFrom = some 0 ∧ (u.fire .waitEnd).pint Obj.netRoot ≠ 1)) ∧
    (let s := candidate
     s.ccOn = true ∧ s.net.joining = none ∧ s.roundPast = false ∧ s.time.slot = s.net.roundAt + s.net.drawn ∧
       (s.takeAir .sub 0).1 = .go ∧
       ((s.onRadio (fun r => { r with taken := some 0 })).takeAir .sub 0).1 = .busy ∧
       (let w := s.onNet (fun n => { n with drawn := 3 })
        w.roundPast = false ∧ w.time.slot ≠ w.net.roundAt + w.net.drawn) ∧
       (let t := (s.onNet (fun n => { n with drawn := startSent })).onTime (fun t => { t with slot := 16 })
        t.roundPast = true ∧ t.net.drawn = startSent ∧ t.net.roundNo < t.net.rounds ∧
          (t.onNet (fun n => { n with roundNo := 2 })).net.rounds ≤ 2 ∧ t.time.counterMode = true ∧ t.atBoundary = false ∧
          (let b := (t.onSched (fun k => { k with bitmapOk := true })).onTime (fun t => { t with cq := 81920000 })
           b.roundPast = true ∧ b.time.counterMode = true ∧ b.atBoundary = true))) := by decide +kernel

theorem wit_NetworkStepsComplete :
    (hearing.inFrame 0 = true ∧ hearing.rx.lanes[0].holder ≠ .round) ∧
    (let s := up.onNet (fun n => { n with st := .holdover, started := true, waitFrom := some 0, waitSlots := 0 })
     s.net.waitFrom = some 0 ∧ s.ccOn = true ∧ s.net.started = true ∧ s.net.joining = none ∧
       0 + s.net.waitSlots * s.slotTicks ≤ s.time.slotAt ∧ s.net.st = .holdover ∧ s.parentGone = true ∧
       (s.onNet (fun n => { n with st := .unsynced })).net.st = .unsynced) ∧
    (candidate.ccOn = true ∧ candidate.net.st = .candidate ∧ candidate.net.joining = none ∧
      (let t := (candidate.onNet (fun n => { n with drawn := startSent, roundNo := 2 })).onTime (fun t => { t with slot := 16 })
       t.roundPast = true ∧ t.net.drawn = startSent ∧ t.net.rounds ≤ t.net.roundNo)) := by decide +kernel

theorem wit_CapacitiesHold : up.bounded ∧ ∃ t, step { up with pending := [.spillWriteComplete] } = .next t :=
  ⟨by unfold State.bounded; decide, _, rfl⟩

theorem wit_MemoriesStayCanonical : (listening.canonical ∧
    ∃ t, step { listening with pending := [.maskChangeEffect] } = .next t) ∧
    (let s := up.onImage (fun m => { m with bootOwed := some (0, m.boot) })
     s.image.inStep ∧ ∃ t, step { s with pending := [.spillWriteComplete] } = .next t) :=
  ⟨⟨by unfold State.canonical; decide, _, rfl⟩, fun x h => by cases h; rfl, _, rfl⟩

end Sys2Proof.Tests
end

/-!
Proofs about lines: what the receiver does with a line that is not for this unit, and what EVENTS and the push of event
lines take out of the queue.
-/

namespace Sys2Proof.Machine

/-! ## What a change leaves alone -/

theorem State.same_trans {s t u : State} {g : Group} (h₁ : s.same t g) (h₂ : t.same u g) : s.same u g := by
  cases g <;> exact Eq.trans h₂ h₁

theorem State.keeps_trans {but : List Group} {s t u : State} (h₁ : s.keeps but t) (h₂ : t.keeps but u) :
    s.keeps but u := by
  obtain ⟨hq₁, hn₁, hp₁, hg₁⟩ := h₁
  obtain ⟨hq₂, hn₂, hp₂, hg₂⟩ := h₂
  exact ⟨hq₂.trans hq₁, hn₂.trans hn₁, hp₂.trans hp₁, fun g hg => State.same_trans (hg₁ g hg) (hg₂ g hg)⟩

/-- A change that leaves alone all but some groups leaves alone all but more. -/
theorem State.keeps_mono {but more : List Group} {s t : State} (hk : s.keeps but t) (hm : but ⊆ more) :
    s.keeps more t := by
  obtain ⟨hq, hn, hp, hg⟩ := hk
  exact ⟨hq, hn, hp, fun g hg' => hg g (fun hb => hg' (hm hb))⟩

theorem State.keeps_onLine (f : Line → Line) (s : State) : s.keeps [.line] (s.onLine f) := by
  refine ⟨rfl, rfl, rfl, fun g hg => ?_⟩
  cases g with
  | line => simp at hg
  | _ => rfl

theorem State.keeps_bytes (p : Port) (n : Nat) (s : State) : s.keeps [.tally] (s.bytes p n) := by
  refine ⟨rfl, rfl, rfl, fun g hg => ?_⟩
  cases g with
  | tally => simp at hg
  | _ => rfl

theorem State.keeps_draw (but : List Group) (s : State) : s.keeps but s.draw.2 := by
  refine ⟨rfl, rfl, rfl, fun g _ => ?_⟩
  cases g <;> rfl

theorem State.keeps_send (out : List OutLine) (cc : Bool) (what : Sending) (s : State) :
    s.keeps [.line] (s.send out cc what) :=
  State.keeps_trans (s.keeps_draw _) (State.keeps_trans (State.keeps_onLine _ _) (State.keeps_onLine _ _))

theorem State.keeps_reply (h : Hdr) (out : List OutLine) (s : State) : s.keeps [.line] (s.reply h out) := by
  refine ⟨by simp, by simp, by simp, fun g hg => ?_⟩
  cases g with
  | line => simp at hg
  | _ => simp [State.same]

/-! ## What is sent -/

@[simp] theorem State.send_tx (out : List OutLine) (cc : Bool) (what : Sending) (s : State) :
    (s.send out cc what).line.tx = out := rfl

/-- The reply to a line that is no broadcast goes out as it is (R61, R62). -/
theorem State.reply_tx {h : Hdr} {out : List OutLine} (s : State) (h0 : h.addr ≠ some 0) (ho : out ≠ []) :
    (s.reply h out).line.tx = out := by
  simp [State.reply, h0, ho]

/-- A reply takes no event line out of the queue and forgets no loss. -/
@[simp] theorem State.reply_queue (h : Hdr) (out : List OutLine) (s : State) :
    (s.reply h out).line.events = s.line.events ∧ (s.reply h out).line.lost = s.line.lost := by
  unfold State.reply
  split
  · exact ⟨rfl, rfl⟩
  · split <;> exact ⟨rfl, rfl⟩

/-! ## Who hears a line (R46, R59 to R61) -/

/-- Every line of the host is taken by `State.takeVerb`: as a change where it is one (R91), by everyone where a broadcast
may carry it (R61), and a challenge is left only to the line that answers it (R72). -/
theorem exec_line_eq_takeVerb {c : Instr} {h : Hdr} (hc : c.hdr = some h) (s : State) :
    ∃ (v : Verb) (run : State → Done), exec c s =
      .next (s.takeVerb (if c.changes then some c else none) h v c.toAll c.answersChallenge run) := by
  cases c <;> cases hc
  case doJomenArm code mask => cases mask <;> exact ⟨.do_, runDoJomenArm h code _, rfl⟩
  all_goals exact ⟨_, _, rfl⟩

/-- A receiver that takes no characters leaves of a line its falling edge (R46, R47, R86). -/
theorem State.takeVerb_of_deaf {s : State} (held : Option Instr) (h : Hdr) (v : Verb) (bcast answers : Bool)
    (run : State → Done) (hs : s.hears = false) : s.takeVerb held h v bcast answers run = s.lineEdge := by
  simp [State.takeVerb, hs]

/-- A line for another unit, or a broadcast that its verb does not take, is heard and nothing more (R60, R61). -/
theorem State.takeVerb_of_ignored {s : State} {h : Hdr} {bcast : Bool} (held : Option Instr) (v : Verb) (answers : Bool)
    (run : State → Done) (hs : s.hears = true)
    (hi : s.forUnit h = false ∨ (h.addr = some 0 ∧ bcast = false)) :
    s.takeVerb held h v bcast answers run = s.takeLine h := by
  have hskip : (!s.forUnit h || (h.addr == some 0 && !bcast)) = true := by
    rcases hi with hu | ⟨h0, hb⟩
    · simp [hu]
    · simp [h0, hb]
  unfold State.takeVerb
  rw [if_pos hs]
  exact if_pos hskip

@[simp] theorem State.takeLine_tx (h : Hdr) (s : State) : (s.takeLine h).line.tx = [] := rfl

theorem State.forUnit_iff (h : Hdr) (s : State) : s.forUnit h = true ↔
    (h.addr = none ∧ s.line.solo = true) ∨ h.addr = some 0 ∨ ∃ n, h.addr = some n ∧ s.line.address = n := by
  unfold State.forUnit
  cases h.addr with
  | none => simp
  | some n => simp

/-- Settles O5: every line goes through `State.takeVerb`, which looks at who hears it before its verb. -/
theorem lineNotForThisUnit : Obligations.LineNotForThisUnit := by
  refine ⟨fun c h s hc hs => ?_, fun c h s hc hs hi => ?_, fun h s => ⟨s.takeLine_tx h, s.forUnit_iff h⟩⟩
  · obtain ⟨v, run, he⟩ := exec_line_eq_takeVerb hc s
    rw [he, State.takeVerb_of_deaf _ h v _ _ run hs]
  · obtain ⟨v, run, he⟩ := exec_line_eq_takeVerb hc s
    rw [he, State.takeVerb_of_ignored _ v _ run hs hi]

/-! ## EVENTS (R65, R66) -/

theorem inRange_iff {lo hi i : Int} : inRange lo hi i = true ↔ lo ≤ i ∧ i ≤ hi := by
  simp [inRange]

/-- The line with which EVENTS begins after a loss (R65). -/
def State.lostLines (s : State) : List OutLine := if s.line.lost = 0 then [] else [.lost s.stamp s.line.lost]

theorem State.lostLines_length (s : State) : s.lostLines.length = if s.line.lost = 0 then 0 else 1 := by
  unfold State.lostLines
  split <;> rfl

/-- The `k` oldest event lines and the count of lost ones leave the queue (R65, R66). -/
def State.dropEvents (k : Nat) (s : State) : State :=
  s.onLine (fun l => { l with events := l.events.drop k, lost := 0 })

/-- EVENTS with a max in range: `~LOST` is one of the lines that max counts (log 42). -/
theorem exec_events_inRange {h : Hdr} {max : Option Int} {s : State} (ht : s.takes h)
    (hr : inRange 1 64 (argOr 16 max) = true) :
    let u := s.heard h
    let k := (argOr 16 max).toNat - u.lostLines.length
    exec (.events h max) s = .next ((u.dropEvents k).reply h
      (u.lostLines ++ (u.line.events.take k).map OutLine.event ++ [.num (u.line.events.drop k).length])) := by
  change Host.Outcome.next (s.verb h .events false false _) = _
  rw [State.verb_takes _ _ _ ht]
  simp only [hr]
  rfl

/-- EVENTS with a max out of range. -/
theorem exec_events_notInRange {h : Hdr} {max : Option Int} {s : State} (ht : s.takes h)
    (hr : inRange 1 64 (argOr 16 max) = false) :
    exec (.events h max) s = .next ((s.heard h).refuse h .events .range 2 none) := by
  change Host.Outcome.next (s.verb h .events false false _) = _
  rw [State.verb_takes _ _ _ ht]
  simp [hr, ht.2]

/-! ## Push mode (R65, R67) -/

/-- The part may push an event line: LINE is free, in solo mode, and no reply is owed (R67). -/
def State.mayPush (s : State) : Prop :=
  s.hears = true ∧ s.line.solo = true ∧ s.pnat Obj.lineEvents = 1 ∧ s.line.partialLine = [] ∧ s.replyOwed = false ∧
    s.line.pushHeld = false

/-- The line `o` goes out by itself, counted with its characters (R67, R512). -/
def State.pushed (o : OutLine) (what : Sending) (s : State) : State :=
  (s.draw.2.bytes .line (Config.freeChars s.fresh)).send [o] (s.pnat Obj.lineMode == 1) what

theorem State.keeps_pushed (o : OutLine) (what : Sending) (s : State) : s.keeps [.line, .tally] (s.pushed o what) := by
  have hb : s.draw.2.keeps [.line, .tally] (s.draw.2.bytes .line (Config.freeChars s.fresh)) :=
    State.keeps_mono (State.keeps_bytes _ _ _) (by simp)
  have hs : (s.draw.2.bytes .line (Config.freeChars s.fresh)).keeps [.line, .tally] (s.pushed o what) :=
    State.keeps_mono (State.keeps_send _ _ _ _) (by simp)
  exact State.keeps_trans (s.keeps_draw _) (State.keeps_trans hb hs)

theorem exec_eventPush_lost {s : State} (hp : s.mayPush) (hl : s.line.lost ≠ 0) :
    exec .eventPush s = .next ((s.pushed (.lost s.stamp s.line.lost) (.lost s.line.lost)).onLine
      (fun l => { l with lost := 0 })) := by
  obtain ⟨hhears, hsolo, hmode, hpart, howed, hheld⟩ := hp
  simp [exec, execEventPush, hhears, hsolo, hmode, hpart, howed, hheld, Nat.pos_of_ne_zero hl, State.pushed]

theorem exec_eventPush_event {e : EvLine} {rest : List EvLine} {s : State} (hp : s.mayPush) (hl : s.line.lost = 0)
    (hq : s.line.events = e :: rest) :
    exec .eventPush s = .next ((s.pushed (.event e) (.push e)).onLine (fun l => { l with events := rest })) := by
  obtain ⟨hhears, hsolo, hmode, hpart, howed, hheld⟩ := hp
  simp [exec, execEventPush, hhears, hsolo, hmode, hpart, howed, hheld, hl, hq, State.pushed]

/-- Settles O15, by the three shapes of reading the queue: EVENTS in range, EVENTS out of range, and the push. -/
theorem eventsAreRead : Obligations.EventsAreRead := by
  refine ⟨fun h max s ht h1 h64 => ?_, fun h max s ht hr => ?_, fun e l s hh hs he hpl ho hp hq => ?_⟩
  · have hx := exec_events_inRange ht (inRange_iff.mpr ⟨h1, h64⟩)
    simp only [State.lostLines_length, List.length_drop] at hx
    refine ⟨_, hx, by simp [State.dropEvents], by simp [State.dropEvents], ?_, ?_⟩
    · exact State.reply_tx _ ht.2 (by simp)
    · exact State.keeps_trans (State.keeps_onLine _ _) (State.keeps_reply _ _ _)
  · refine exec_events_notInRange ht (Bool.eq_false_iff.mpr fun hin => ?_)
    have := inRange_iff.mp hin
    omega
  · have hpush : s.mayPush := ⟨hh, hs, he, hpl, ho, hp⟩
    have hline (o : OutLine) (what : Sending) (f : Line → Line) :
        s.keeps [.line, .tally] ((s.pushed o what).onLine f) :=
      State.keeps_trans (s.keeps_pushed o what) (State.keeps_mono (State.keeps_onLine f _) (by simp))
    by_cases hl : s.line.lost = 0
    · exact ⟨_, exec_eventPush_event hpush hl hq, fun _ => ⟨rfl, rfl⟩, fun hn => absurd hl hn, hline _ _ _⟩
    · exact ⟨_, exec_eventPush_lost hpush hl, fun h0 => absurd h0 hl, fun _ => ⟨rfl, hq, rfl⟩, hline _ _ _⟩

end Sys2Proof.Machine

/-!
Proofs about armed masks: the commands that write masks only ask for them, and the next WCLK edge brings the masks asked
for into force and answers the line that asked.
-/

namespace Sys2Proof.Machine

/-! ## What shared operations leave alone -/

theorem State.keeps_refl (but : List Group) (s : State) : s.keeps but s := by
  refine ⟨rfl, rfl, rfl, fun g _ => ?_⟩
  cases g <;> rfl

theorem State.keeps_onWake (f : Wake → Wake) (s : State) : s.keeps [.wake] (s.onWake f) := by
  refine ⟨rfl, rfl, rfl, fun g hg => ?_⟩
  cases g with
  | wake => simp at hg
  | _ => rfl

theorem State.keeps_onJomen (f : Jomen → Jomen) (s : State) : s.keeps [.jomen] (s.onJomen f) := by
  refine ⟨rfl, rfl, rfl, fun g hg => ?_⟩
  cases g with
  | jomen => simp at hg
  | _ => rfl

theorem State.keeps_onStore (f : Store → Store) (s : State) : s.keeps [.store] (s.onStore f) := by
  refine ⟨rfl, rfl, rfl, fun g hg => ?_⟩
  cases g with
  | store => simp at hg
  | _ => rfl

theorem State.keeps_audit (o : Origin) (action object result : Nat) (old new : AVal) (s : State) :
    s.keeps [.store, .params] (s.audit o action object result old new) := by
  refine ⟨by simp, by simp, by simp, fun g hg => ?_⟩
  cases g with
  | store => simp at hg
  | params => simp at hg
  | _ => simp [State.same]

/-- What every pass leaves alone, all of them do. -/
theorem State.keeps_each {α : Type} {but : List Group} {f : α → State → State} (hf : ∀ x s, State.keeps but s (f x s))
    (l : List α) (s : State) : s.keeps but (s.each l f) := by
  induction l generalizing s with
  | nil => exact s.keeps_refl but
  | cons x xs ih => exact State.keeps_trans (hf x s) (ih (f x s))

/-! ## Lines taken and refused -/

@[simp] theorem State.heard_wake (h : Hdr) (s : State) : (s.heard h).wake = s.wake := by simp [State.heard]

@[simp] theorem State.heard_tx (h : Hdr) (s : State) : (s.heard h).line.tx = [] := rfl

/-- A reply that comes later leaves nothing on LINE (R62). -/
theorem State.reply_nil_tx (h : Hdr) {s : State} (htx : s.line.tx = []) : (s.reply h []).line.tx = [] := by
  unfold State.reply
  split
  · exact htx
  · rfl

theorem needs_denied {l : Level} {s : State} {obj : Option Nat} {aud : Option Aud} {k : Done}
    (hl : s.allowed l = false) : needs l s obj aud k = bad s .priv 1 obj aud := by simp [needs, hl]

/-- A failure is answered with its error and, recorded or not, leaves the wake receiver alone (R62, R89). -/
theorem State.finish_bad_answer {h : Hdr} (o : Origin) (v : Verb) (s : State) (e : Err) (tok : Nat) (obj : Option Nat)
    (aud : Option Aud) (h0 : h.addr ≠ some 0) :
    (State.finish o h v (bad s e tok obj aud)).line.tx = [.err e] ∧
      (State.finish o h v (bad s e tok obj aud)).wake = s.wake := by
  have hrefuse (w : State) : (w.refuse h v e tok obj).line.tx = [.err e] := by simp [State.refuse, State.reply, h0]
  cases aud with
  | none => simp [h0, hrefuse]
  | some a => simp [hrefuse]

/-! ## Masks that wait (R113 to R116) -/

/-- Where every address is written with the value `new` gives it, it reads that value, however often it is written. -/
theorem Mem.read_writeAll_map (new : Nat → Byte) (a : Nat) (l : List Nat) {m : Mem} (hm : m.wf = true) :
    (m.writeAll (l.map fun c => (c, new c))).read a = if a ∈ l then new a else m.read a := by
  induction l generalizing m with
  | nil => rfl
  | cons c cs ih =>
    change Mem.read (Mem.writeAll (m.write c (new c)) (cs.map _)) a = _
    rw [ih (Mem.wf_write c (new c) hm), Mem.read_write c (new c) a hm]
    by_cases hac : a = c <;> simp [hac]

/-- The masks `new` of the codes `l`, and the reply `o` to the line `h`, wait for the next WCLK edge (R116). -/
def State.askMasks (h : Hdr) (o : OutLine) (l : List Nat) (new : Nat → Byte) (s : State) : State :=
  s.onWake (fun w =>
    { w with maskWrites := w.maskWrites ++ l.map (fun c => (c, new c)), armOwed := w.armOwed ++ [(h, o)] })

/-- Writing masks code by code asks for all of them: code 0, which cannot be written, is not among the codes (R104). -/
theorem State.each_writeMask_afterEdge (h : Hdr) (o : OutLine) (new : Nat → Byte) {l : List Nat}
    (hl : ∀ c ∈ l, c ≠ 0) (s : State) :
    (s.each l (fun c t => t.writeMask c (new c))).afterEdge h o = s.askMasks h o l new := by
  induction l generalizing s with
  | nil => simp [State.each, State.afterEdge, State.askMasks]
  | cons c cs ih =>
    have hc : c ≠ 0 := hl c (by simp)
    have hstep : s.each (c :: cs) (fun c t => t.writeMask c (new c)) =
      (s.writeMask c (new c)).each cs (fun c t => t.writeMask c (new c)) := rfl
    rw [hstep, ih fun x hx => hl x (by simp [hx])]
    simp [State.askMasks, State.writeMask, hc]

theorem State.maskOf_askMasks (h : Hdr) (o : OutLine) (l : List Nat) (new : Nat → Byte) (c : Nat) {s : State}
    (hm : Mem.wf s.wake.masks = true) :
    (s.askMasks h o l new).maskOf c = if c ∈ l then new c else s.maskOf c := by
  have happend : Mem.writeAll s.wake.masks (s.wake.maskWrites ++ l.map (fun c => (c, new c))) =
      Mem.writeAll (Mem.writeAll s.wake.masks s.wake.maskWrites) (l.map fun c => (c, new c)) := List.foldl_append
  simp only [State.maskOf, State.askMasks, State.onWake_wake, happend]
  exact Mem.read_writeAll_map new c l (Mem.wf_writeAll _ hm)

/-- The line that asks for masks is recorded and not yet answered, and the masks in force stay (R115, R116). -/
theorem State.didAs_askMasks {h : Hdr} {s v : State} (a : Aud) (o : OutLine) (l : List Nat) (new : Nat → Byte)
    (howed : v.wake.armOwed = []) (htx : v.line.tx = []) (hm : Mem.wf v.wake.masks = true) :
    let t := State.didAs h a [] s (v.askMasks h o l new)
    t.line.tx = [] ∧ t.wake.armOwed = [(h, o)] ∧ (∀ c, t.maskOf c = if c ∈ l then new c else v.maskOf c) ∧
      t.wake.masks = v.wake.masks ∧ t.wake.queue = v.wake.queue ∧ t.wake.seen = v.wake.seen ∧
      v.keeps [.line, .wake, .store, .params] t := by
  intro t
  have hwake : t.wake = (v.askMasks h o l new).wake := by simp [t, State.didAs]
  refine ⟨State.reply_nil_tx h (by simpa [State.askMasks] using htx), ?_, fun c => ?_, ?_, ?_, ?_, ?_⟩
  · simp [hwake, State.askMasks, howed]
  · rw [← State.maskOf_askMasks h o l new c hm]
    simp only [State.maskOf, hwake]
  · simp [hwake, State.askMasks]
  · simp [hwake, State.askMasks]
  · simp [hwake, State.askMasks]
  · have hask : v.keeps [.line, .wake, .store, .params] (v.askMasks h o l new) :=
      State.keeps_mono (State.keeps_onWake _ v) (by simp)
    exact State.keeps_trans hask (State.keeps_trans
      (State.keeps_mono (State.keeps_audit _ _ _ _ _ _ _) (by simp)) (State.keeps_mono (State.keeps_reply h [] _) (by simp)))

/-- No earlier change of masks is open where nothing keeps a change waiting (R91, R116). -/
theorem State.armOwed_of_noWait {s : State} (hw : s.noWait) : s.wake.armOwed = [] := by
  obtain ⟨-, -, hopen⟩ := hw
  simp only [State.changeOpen, Bool.or_eq_false_iff] at hopen
  obtain ⟨⟨⟨-, howed⟩, -⟩, -⟩ := hopen
  simpa using howed

/-! ## The commands that write masks (R115) -/

/-- The record of `DO jomen.arm` with a mask (R520). -/
def State.armAud (s : State) (code m : Int) : Aud :=
  { action := 4, obj := 512, old := .num (code * 256 + (s.maskOf code.toNat).toNat), new := .num (code * 256 + m) }

/-- The record of `DO jomen.reason` (R520). -/
def State.reasonAud (h : Hdr) (s : State) : Aud :=
  { action := 4, obj := 513, old := .num 0, new := .hash (Config.freeHash (s.heard h).fresh) }

theorem exec_doJomenArm_none {h : Hdr} {code : Int} {s : State} (hj : s.judges h)
    (hl : (s.heard h).allowed .operator = true) (hc : inRange 1 8191 code = true) :
    exec (.doJomenArm h code none) s = .next ((s.heard h).reply h
      [.mask (Mem.read (s.heard h).wake.masks code.toNat).toNat]) := by
  change Host.Outcome.next (s.verb h .do_ true false (runDoJomenArm h code none)) = _
  rw [State.verb_judged _ _ _ hj (fun _ => rfl)]
  simp only [runDoJomenArm, needs_allowed hl, if_pos hc, State.finish_good]

theorem exec_doJomenArm_some {h : Hdr} {code m : Int} {s : State} (hj : s.judgesAtOnce h)
    (hl : (s.heard h).allowed .operator = true) (hc : inRange 1 8191 code = true) (hm : inRange 0 255 m = true)
    (hb : m = 0 ∨ (s.heard h).codeBetween code = false) :
    exec (.doJomenArm h code (some m)) s = .next (State.didAs h ((s.heard h).armAud code m) [] s
      ((s.heard h).askMasks h (.mask m.toNat) [code.toNat] (fun _ => BitVec.ofNat 8 m.toNat))) := by
  have hcode : ∀ c ∈ [code.toNat], c ≠ 0 := by
    have := inRange_iff.mp hc
    simp only [List.mem_singleton, forall_eq]
    omega
  have hbetween : (m != 0 && (s.heard h).codeBetween code) = false := by
    rcases hb with h0 | h0 <;> simp [h0]
  rw [← State.each_writeMask_afterEdge h _ _ hcode]
  change Host.Outcome.next (s.change _ h .do_ true false (runDoJomenArm h code (some m))) = _
  rw [State.change_judged _ _ _ _ hj (fun _ => rfl)]
  simp only [runDoJomenArm, needs_allowed hl, hc, hm, hbetween, Bool.not_true, Bool.false_eq_true, if_false]
  rfl

/-- The codes whose mask changes when bit `r` is written (R115). -/
def State.reasonCodes (s : State) (r : Nat) (on : Bool) : List Nat :=
  s.assignedCodes.filter (fun c => reasonBit r on (s.maskOf c) ≠ s.maskOf c)

theorem State.ne_zero_of_mem_assignedCodes {s : State} {c : Nat} (hc : c ∈ s.assignedCodes) : c ≠ 0 := by
  simp only [State.assignedCodes, List.mem_append, List.mem_filter, List.mem_map, List.mem_range] at hc
  rcases hc with ⟨k, -, rfl⟩ | ⟨-, hne⟩
  · omega
  · simpa using hne

/-- To write a mask that changes is to write that of every assigned code. -/
theorem State.ite_mem_reasonCodes (s : State) (r : Nat) (on : Bool) (c : Nat) :
    (if c ∈ s.reasonCodes r on then reasonBit r on (s.maskOf c) else s.maskOf c) =
      if c ∈ s.assignedCodes then reasonBit r on (s.maskOf c) else s.maskOf c := by
  by_cases hsame : reasonBit r on (s.maskOf c) = s.maskOf c
  · simp [hsame]
  · simp [State.reasonCodes, hsame]

theorem exec_doJomenReason {h : Hdr} {r x : Int} {s : State} (hj : s.judgesAtOnce h)
    (hl : (s.heard h).allowed .operator = true) (hr : inRange 0 7 r = true) (hx : inRange 0 1 x = true) :
    exec (.doJomenReason h r x) s = .next (State.didAs h (s.reasonAud h) [] s
      ((s.acting h).askMasks h (.num ((s.heard h).reasonCodes r.toNat (x == 1)).length)
        ((s.heard h).reasonCodes r.toNat (x == 1)) (fun c => reasonBit r.toNat (x == 1) ((s.heard h).maskOf c)))) := by
  have hcodes : ∀ c ∈ (s.heard h).reasonCodes r.toNat (x == 1), c ≠ 0 := fun c hc =>
    State.ne_zero_of_mem_assignedCodes (List.mem_of_mem_filter hc)
  rw [← State.each_writeMask_afterEdge h _ _ hcodes]
  change Host.Outcome.next (s.change _ h .do_ true false (runDoJomenReason h r x)) = _
  rw [State.change_judged _ _ _ _ hj (fun _ => rfl), runDoJomenReason, actionRun_heard,
    needs_allowed ((State.acting_allowed h s .operator).trans hl)]
  simp only [hr, hx, Bool.not_true, Bool.false_eq_true, if_false]
  rfl

/-- Below OPERATOR the commands that write masks fail with `!PRIV` (R76). -/
theorem exec_maskCommand_denied {h : Hdr} {s : State} (code r x : Int) (m : Option Int) (ht : s.takesAtOnce h)
    (hl : (s.heard h).allowed .operator = false) :
    ∀ c ∈ [Instr.doJomenArm h code m, .doJomenReason h r x], ∃ (v : State) (obj : Option Nat) (aud : Option Aud),
      exec c s = .next (State.finish ((s.heard h).lineOrigin h) h .do_ (bad v .priv 1 obj aud)) ∧ v.wake = s.wake := by
  simp only [List.mem_cons, List.not_mem_nil, or_false, forall_eq_or_imp, forall_eq]
  constructor
  · cases m with
    | none =>
      refine ⟨s.heard h, some 512, none, ?_, s.heard_wake h⟩
      change Host.Outcome.next (s.verb h .do_ true false (runDoJomenArm h code none)) = _
      rw [State.verb_takes _ _ _ ⟨ht.1.1, ht.2⟩, runDoJomenArm, needs_denied hl]
    | some m =>
      refine ⟨s.heard h, some 512, some ((s.heard h).armAud code m), ?_, s.heard_wake h⟩
      change Host.Outcome.next (s.change _ h .do_ true false (runDoJomenArm h code (some m))) = _
      rw [State.change_takes _ _ _ _ ht, runDoJomenArm, needs_denied hl]
      rfl
  · refine ⟨s.acting h, some 513, some (s.reasonAud h), ?_, s.heard_wake h⟩
    change Host.Outcome.next (s.change _ h .do_ true false (runDoJomenReason h r x)) = _
    rw [State.change_takes _ _ _ _ ht, runDoJomenReason, actionRun_heard,
      needs_denied ((State.acting_allowed h s .operator).trans hl)]
    rfl

/-! ## The WCLK edge of the changes (R110, R116) -/

/-- Every stored copy that the edge changes enters the journal with its old mask (R116). -/
def State.journalMasks (s : State) : State :=
  s.each s.wake.maskWrites (fun x t => t.journal t.auditLast (.mask x.1 (Mem.read t.wake.stored x.1)))

theorem State.keeps_journalMasks (s : State) : s.keeps [.store] s.journalMasks :=
  State.keeps_each (fun _ t => State.keeps_onStore _ t) _ s

@[simp] theorem State.journalMasks_cache (s : State) : s.journalMasks.store.cache = s.store.cache :=
  State.each_keeps (fun t => t.store.cache) _ _ s (fun _ _ => rfl)

/-- The masks asked for are in force and in the stored copy, and freed codes are back in the pool (R110, R116). -/
def State.takeMasks (s : State) : State :=
  (s.journalMasks.onWake (fun w =>
    { w with masks := Mem.writeAll w.masks w.maskWrites, stored := Mem.writeAll w.stored w.maskWrites,
             maskWrites := [], armOwed := [] })).onJomen (fun j => { j with pool := j.pool ++ j.freed, freed := [] })

/-- The replies that waited go out (R116). -/
def State.payReplies (l : List (Hdr × OutLine)) (s : State) : State := s.each l (fun x t => t.reply x.1 [x.2])

theorem State.keeps_payReplies (l : List (Hdr × OutLine)) (s : State) : s.keeps [.line] (s.payReplies l) :=
  State.keeps_each (fun (x : Hdr × OutLine) t => State.keeps_reply x.1 [x.2] t) l s

@[simp] theorem State.payReplies_wake (l : List (Hdr × OutLine)) (s : State) : (s.payReplies l).wake = s.wake := by
  simp [State.payReplies]

@[simp] theorem State.payReplies_jomen (l : List (Hdr × OutLine)) (s : State) : (s.payReplies l).jomen = s.jomen := by
  simp [State.payReplies]

@[simp] theorem State.payReplies_store (l : List (Hdr × OutLine)) (s : State) : (s.payReplies l).store = s.store := by
  simp [State.payReplies]

theorem exec_maskChangeEffect {s : State} (hf : s.store.flush = none) :
    exec .maskChangeEffect s = .next (s.takeMasks.payReplies s.wake.armOwed) := by
  have howed : s.journalMasks.wake.armOwed = s.wake.armOwed := by simp [State.journalMasks]
  change Host.Outcome.next (if s.store.flush.isSome then s else s.takeMasks.payReplies s.journalMasks.wake.armOwed) = _
  rw [howed]
  simp [hf]

@[simp] theorem State.takeMasks_wake (s : State) : s.takeMasks.wake =
    { s.wake with masks := Mem.writeAll s.wake.masks s.wake.maskWrites,
                  stored := Mem.writeAll s.wake.stored s.wake.maskWrites, maskWrites := [], armOwed := [] } := by
  simp [State.takeMasks, State.journalMasks]

@[simp] theorem State.takeMasks_jomen (s : State) :
    s.takeMasks.jomen = { s.jomen with pool := s.jomen.pool ++ s.jomen.freed, freed := [] } := by
  simp [State.takeMasks, State.journalMasks]

@[simp] theorem State.takeMasks_line (s : State) : s.takeMasks.line = s.line := by
  simp [State.takeMasks, State.journalMasks]

@[simp] theorem State.takeMasks_cache (s : State) : s.takeMasks.store.cache = s.store.cache := by
  simp [State.takeMasks]

theorem State.keeps_takeMasks (s : State) : s.keeps [.wake, .store, .jomen] s.takeMasks :=
  State.keeps_trans (State.keeps_mono s.keeps_journalMasks (by simp))
    (State.keeps_trans (State.keeps_mono (State.keeps_onWake _ _) (by simp))
      (State.keeps_mono (State.keeps_onJomen _ _) (by simp)))

/-! ## The obligation -/

/-- Settles O36: the two commands only ask for masks (`State.askMasks`), and the edge takes them (`State.takeMasks`). -/
theorem masksAreArmed : Obligations.MasksAreArmed := by
  refine ⟨fun h code s hj hl hc => exec_doJomenArm_none hj hl hc, fun h s hj => ?_, fun h code r x m s ht hl c hc => ?_,
    fun s hf => ?_⟩
  · intro u hl
    have howed : u.wake.armOwed = [] := State.armOwed_of_noWait hj.2
    refine ⟨fun code m hc hm hb hwf => ?_, fun r x hr hx hwf => ?_⟩
    · obtain ⟨htx, harm, hmask, hkept⟩ := State.didAs_askMasks (h := h) (s := s) (u.armAud code m) (.mask m.toNat)
        [code.toNat] (fun _ => BitVec.ofNat 8 m.toNat) howed (s.heard_tx h) hwf
      refine ⟨_, exec_doJomenArm_some hj hl hc hm hb, htx, harm, ?_, fun c hne => ?_, hkept⟩
      · rw [hmask, if_pos (List.mem_singleton_self _)]
      · rw [hmask, if_neg (by simpa using hne)]
    · obtain ⟨htx, harm, hmask, hmasks, -, -, hkeeps⟩ := State.didAs_askMasks (h := h) (s := s) (v := s.acting h)
        (s.reasonAud h) (.num (u.reasonCodes r.toNat (x == 1)).length) (u.reasonCodes r.toNat (x == 1))
        (fun c => reasonBit r.toNat (x == 1) (u.maskOf c)) howed (s.heard_tx h) hwf
      refine ⟨_, _, exec_doJomenReason hj hl hr hx, rfl, htx, harm, fun c => ?_, hmasks,
        State.keeps_trans (u.keeps_draw _) hkeeps⟩
      exact (hmask c).trans (u.ite_mem_reasonCodes _ _ c)
  · obtain ⟨v, obj, aud, hexec, hwake⟩ := exec_maskCommand_denied code r x m ht hl c hc
    obtain ⟨htx, hkept⟩ := State.finish_bad_answer ((s.heard h).lineOrigin h) .do_ v .priv 1 obj aud ht.2
    rw [hwake] at hkept
    exact ⟨_, hexec, htx, by rw [hkept], by rw [hkept]⟩
  · refine ⟨_, exec_maskChangeEffect hf, by simp, fun c => by simp [State.maskOf], by simp, by simp, by simp, by simp,
      by simp, by simp, by simp, by simp, fun h o ho h0 => ?_, fun ho => ?_, ?_⟩
    · rw [ho]
      exact State.reply_tx s.takeMasks h0 (by simp)
    · rw [ho]
      exact s.takeMasks_line
    · exact State.keeps_trans (State.keeps_mono s.keeps_takeMasks (by simp))
        (State.keeps_mono (State.keeps_payReplies _ _) (by simp))

end Sys2Proof.Machine

/-!
Proofs about reading the wake queue: WAKE and WAKE BRANCH only report, and WAKE ACK moves the closed records up to the one
it names from the queue into the ledger and drives WAKE anew.
-/

namespace Sys2Proof.Machine

/-! ## The records that WAKE ACK removes (R163) -/

/-- The split stops at the first closed record with the sequence: the closed records before it go with it, the open ones
stay. -/
theorem ackSplit_of_closed {before rest : List WakeRec} {r : WakeRec} (hr : r.isOpen = false)
    (hfirst : ∀ x ∈ before, x.isOpen = false → x.seq ≠ r.seq) :
    ackSplit r.seq (before ++ r :: rest) =
      some (before.filter (fun x => !x.isOpen) ++ [r], before.filter (fun x => x.isOpen) ++ rest) := by
  induction before with
  | nil => simp [ackSplit, hr]
  | cons x xs ih =>
    have htail := ih fun y hy => hfirst y (List.mem_cons_of_mem x hy)
    cases hx : x.isOpen with
    | true => simp [ackSplit, hx, htail]
    | false => simp [ackSplit, hx, htail, hfirst x List.mem_cons_self hx]

/-- Nothing is removed where no closed record carries the sequence. -/
theorem ackSplit_eq_none {seq : BitVec 16} {queue : List WakeRec} (hq : ∀ r ∈ queue, r.isOpen = false → r.seq ≠ seq) :
    ackSplit seq queue = none := by
  induction queue with
  | nil => rfl
  | cons x xs ih =>
    have htail := ih fun y hy => hq y (List.mem_cons_of_mem x hy)
    cases hx : x.isOpen with
    | true => simp [ackSplit, hx, htail]
    | false => simp [ackSplit, hx, htail, hq x List.mem_cons_self hx]

/-! ## The ledger records of WAKE ACK (R448, R449) -/

theorem State.keeps_ledgerAt (time : Stamp) (b : LBody) (s : State) : s.keeps [.store, .params] (s.ledgerAt time b) := by
  refine ⟨by simp, by simp, by simp, fun g hg => ?_⟩
  cases g <;> simp [State.same] at hg ⊢

/-- The ledger record of a wake record: one, under the wake record's own time-stamp. -/
def WakeRec.ledgerRec (seq : Nat) (r : WakeRec) : LRec := { seq := seq, time := r.stamp, continued := false, body := .wake r }

/-- A wake record fits into one ledger record. -/
theorem State.ledgerAt_wake_store (r : WakeRec) (s : State) : (s.ledgerAt r.stamp (.wake r)).store =
    { s.store.place (.ledger (r.ledgerRec s.store.nextSeq) s.now) with nextSeq := s.store.nextSeq + 1 } := by
  simp [State.ledgerAt, LBody.all, LBody.overflow, chunks, recordsFrom, WakeRec.ledgerRec]

theorem State.wakeLedger_cons (r : WakeRec) (l : List WakeRec) (s : State) :
    s.wakeLedger (r :: l) = (s.ledgerAt r.stamp (.wake r)).wakeLedger l := rfl

theorem State.keeps_wakeLedger (l : List WakeRec) (s : State) : s.keeps [.store, .params] (s.wakeLedger l) :=
  State.keeps_each (fun (r : WakeRec) t => t.keeps_ledgerAt r.stamp (.wake r)) l s

@[simp] theorem State.wakeLedger_wake (l : List WakeRec) (s : State) : (s.wakeLedger l).wake = s.wake := by
  simp [State.wakeLedger]

theorem State.wakeLedger_nextSeq (l : List WakeRec) (s : State) :
    (s.wakeLedger l).store.nextSeq = s.store.nextSeq + l.length := by
  induction l generalizing s with
  | nil => rfl
  | cons r rs ih =>
    have hnext : (s.ledgerAt r.stamp (.wake r)).store.nextSeq = s.store.nextSeq + 1 := by
      simp [State.ledgerAt_wake_store]
    rw [State.wakeLedger_cons, ih, hnext, List.length_cons]
    omega

/-- Without a flush the records join the write cache in the queue's order, under rising sequences. -/
theorem State.wakeLedger_cache (l : List WakeRec) {s : State} (hf : s.store.flush = none) :
    (s.wakeLedger l).store.cache =
      s.store.cache ++ l.mapIdx (fun k r => CRec.ledger (r.ledgerRec (s.store.nextSeq + k)) s.now) := by
  induction l generalizing s with
  | nil => simp [State.wakeLedger, State.each]
  | cons r rs ih =>
    have hstore : (s.ledgerAt r.stamp (.wake r)).store = { s.store with
        cache := s.store.cache ++ [.ledger (r.ledgerRec s.store.nextSeq) s.now], nextSeq := s.store.nextSeq + 1 } := by
      simp [State.ledgerAt_wake_store, Store.place, hf]
    rw [State.wakeLedger_cons, ih (by rw [hstore]; exact hf), hstore]
    simp [List.mapIdx_cons, Nat.add_comm, Nat.add_left_comm]

/-! ## The level of WAKE (R143) -/

/-- WAKE is low exactly while the matcher is armed and a record is queued or the fold flag is set. -/
theorem State.driveWake_wake (s : State) : s.driveWake.wake =
    { s.wake with low := s.wake.armed && (!s.wake.queue.isEmpty || s.wake.foldFlag) } := by
  unfold State.driveWake
  dsimp only
  split
  next hfall =>
    obtain ⟨hlow, -⟩ := Bool.and_eq_true_iff.mp hfall
    simp [hlow]
  next => simp

theorem State.keeps_driveWake (s : State) : s.keeps [.line, .wake, .params, .mon, .pm, .tally] s.driveWake := by
  refine ⟨by simp, by simp, by simp, fun g hg => ?_⟩
  cases g <;> simp [State.same] at hg ⊢

theorem State.keeps_rosterCheck (s : State) :
    s.keeps [.line, .params, .mon, .pm, .roster, .tally] s.rosterCheck := by
  refine ⟨by simp, by simp, by simp, fun g hg => ?_⟩
  cases g <;> simp [State.same] at hg ⊢

/-! ## What WAKE ACK does (R163) -/

/-- The records `gone` leave the queue for the ledger, `rest` stays, and WAKE takes its level. -/
def State.ackWake (gone rest : List WakeRec) (s : State) : State :=
  (((s.onWake fun w => Wake.freed { w with queue := rest }).wakeLedger gone).driveWake).rosterCheck

@[simp] theorem State.ackWake_wake (gone rest : List WakeRec) (s : State) : (s.ackWake gone rest).wake =
    { Wake.freed { s.wake with queue := rest } with low := s.wake.armed && (!rest.isEmpty || s.wake.foldFlag) } := by
  simp [State.ackWake, State.driveWake_wake, Wake.freed]

theorem State.ackWake_store (gone rest : List WakeRec) (s : State) : (s.ackWake gone rest).store =
    ((s.onWake fun w => Wake.freed { w with queue := rest }).wakeLedger gone).store := by
  simp [State.ackWake]

@[simp] theorem State.ackWake_nextSeq (gone rest : List WakeRec) (s : State) :
    (s.ackWake gone rest).store.nextSeq = s.store.nextSeq + gone.length := by
  simp [State.ackWake_store, State.wakeLedger_nextSeq]

/-- Without a flush, what the write cache gains is one ledger record for each record removed. -/
theorem State.ackWake_cache_drop (gone rest : List WakeRec) {s : State} (hf : s.store.flush = none) :
    (s.ackWake gone rest).store.cache.drop s.store.cache.length =
      gone.mapIdx (fun k r => CRec.ledger (r.ledgerRec (s.store.nextSeq + k)) s.now) := by
  rw [State.ackWake_store, State.wakeLedger_cache _ (by simpa using hf)]
  simp

theorem State.keeps_ackWake (gone rest : List WakeRec) (s : State) :
    s.keeps [.line, .wake, .store, .params, .mon, .pm, .roster, .tally] (s.ackWake gone rest) :=
  State.keeps_trans (State.keeps_mono (State.keeps_onWake _ s) (by simp))
    (State.keeps_trans (State.keeps_mono (State.keeps_wakeLedger gone _) (by simp))
      (State.keeps_trans (State.keeps_mono (State.keeps_driveWake _) (by simp))
        (State.keeps_mono (State.keeps_rosterCheck _) (by simp))))

/-! ## The commands -/

/-- WAKE with a max in range lists the oldest closed records (R162). -/
theorem exec_wakeList_inRange {h : Hdr} {max : Option Int} {s : State} (ht : s.takes h)
    (hr : inRange 1 16 (argOr 16 max) = true) :
    exec (.wakeList h max) s = .next ((s.heard h).reply h
      (((s.heard h).wake.closed.take (argOr 16 max).toNat).map OutLine.wakeRec ++ [.dot])) := by
  change Host.Outcome.next (s.verb h .wake false false _) = _
  rw [State.verb_takes _ _ _ ht]
  simp only [hr, if_true, State.finish_good]

/-- WAKE BRANCH shows each branch's state, discipline counter and detector (R164). -/
theorem exec_wakeBranch {h : Hdr} {s : State} (ht : s.takes h) :
    exec (.wakeBranch h) s = .next ((s.heard h).reply h
      [.branch .a (s.heard h).wake.a.st (s.heard h).wake.a.disc (s.heard h).wake.a.det,
       .branch .b (s.heard h).wake.b.st (s.heard h).wake.b.disc (s.heard h).wake.b.det, .dot]) := by
  change Host.Outcome.next (s.verb h .wake false false _) = _
  rw [State.verb_takes _ _ _ ht, State.finish_good]

/-- WAKE ACK of a sequence that a closed record carries (R163). -/
theorem exec_wakeAck_some {h : Hdr} {s : State} {seq : BitVec 16} {gone rest : List WakeRec} (ht : s.takes h)
    (hsplit : ackSplit seq (s.heard h).wake.queue = some (gone, rest)) :
    exec (.wakeAck h seq.toNat) s = .next (((s.heard h).ackWake gone rest).reply h [.num gone.length]) := by
  have hr : inRange 0 65535 (seq.toNat : Int) = true := inRange_iff.mpr (by have := seq.isLt; omega)
  change Host.Outcome.next (s.verb h .wake false false _) = _
  rw [State.verb_takes _ _ _ ht]
  simp only [hr, if_true, Int.toNat_natCast, BitVec.ofNat_toNat, BitVec.setWidth_eq, hsplit, State.finish_good]
  rfl

/-- WAKE ACK of a sequence that no closed record carries, be it out of range, fails with `!RANGE` (R163). -/
theorem exec_wakeAck_none {h : Hdr} {seq : Int} {s : State} (ht : s.takes h)
    (hq : ∀ r ∈ (s.heard h).wake.queue, r.isOpen = false → (r.seq.toNat : Int) ≠ seq) :
    exec (.wakeAck h seq) s = .next ((s.heard h).refuse h .wake .range 3 none) := by
  have hnone : (if inRange 0 65535 seq then ackSplit (BitVec.ofNat 16 seq.toNat) (s.heard h).wake.queue else none) = none := by
    split
    next hr =>
      have hbounds := inRange_iff.mp hr
      refine ackSplit_eq_none fun r hmem hopen heq => hq r hmem hopen ?_
      rw [heq, BitVec.toNat_ofNat]
      omega
    next => rfl
  change Host.Outcome.next (s.verb h .wake false false _) = _
  rw [State.verb_takes _ _ _ ht]
  simp only [hnone, State.finish_bad _ _ _ _ _ _ _ ht.2]

/-! ## The obligation -/

/-- Settles O16: the reports are replies of the state that heard them, and WAKE ACK is `State.ackWake` of the split queue or
a refusal. -/
theorem wakeQueueIsRead : Obligations.WakeQueueIsRead := by
  refine fun h s ht => ⟨fun max h1 h16 => exec_wakeList_inRange ht (inRange_iff.mpr ⟨h1, h16⟩), exec_wakeBranch ht,
    fun before rest r hq hr hfirst => ?_, fun seq hq => exec_wakeAck_none ht hq⟩
  have hsplit := hq ▸ ackSplit_of_closed (rest := rest) hr hfirst
  refine ⟨_, exec_wakeAck_some ht hsplit, State.reply_tx _ ht.2 (by simp), by simp [Wake.freed], by simp [Wake.freed],
    by simp [Wake.freed], by simp [Wake.freed], by simp, fun hf => ?_, ?_⟩
  · simp only [State.reply_frame, State.ackWake_cache_drop _ _ hf]
    exact List.ext_getElem (by simp) fun k _ _ => by
      simp only [List.getElem_map, List.getElem_mapIdx, WakeRec.ledgerRec]
  · exact State.keeps_trans (State.keeps_ackWake _ _ _) (State.keeps_mono (State.keeps_reply _ _ _) (by simp))

end Sys2Proof.Machine

/-!
Proofs about captures of the received signal: the commands that start, drop and read one, the form of its words, and its end.
-/

namespace Sys2Proof.Machine

/-! ## What the operations of a capture leave alone -/

theorem State.keeps_onRx (f : Rx → Rx) (s : State) : s.keeps [.rx] (s.onRx f) := by
  refine ⟨rfl, rfl, rfl, fun g hg => ?_⟩
  cases g with
  | rx => simp at hg
  | _ => rfl

theorem State.keeps_moveRadio (s : State) : s.keeps [.radio, .rx, .tally] s.moveRadio := by
  refine ⟨by simp, by simp, by simp, fun g hg => ?_⟩
  cases g <;> simp [State.same] at hg ⊢

theorem State.keeps_queue (e : Ev) (s : State) : s.keeps [.line, .params, .mon, .pm, .tally] (s.queue e) := by
  refine ⟨by simp, by simp, by simp, fun g hg => ?_⟩
  cases g <;> simp [State.same] at hg ⊢

theorem State.keeps_dropCapture (s : State) : s.keeps [.rx] s.dropCapture := by
  refine ⟨by simp, by simp, by simp, fun g hg => ?_⟩
  cases g <;> simp [State.same] at hg ⊢

theorem State.keeps_runCapture (c : Capture) (s : State) : s.keeps [.rx, .radio, .tally] (s.runCapture c) :=
  State.keeps_trans (State.keeps_mono (State.keeps_onRx _ s) (by simp))
    (State.keeps_trans (State.keeps_mono (State.keeps_onRx _ _) (by simp))
      (State.keeps_mono (State.keeps_moveRadio _) (by simp)))

/-! ## The receiver under the radio's moves -/

@[simp] theorem State.onLane_capture (n : Fin 16) (f : Lane → Lane) (s : State) :
    (s.onLane n f).rx.capture = s.rx.capture := rfl

/-- A change of a lane that keeps its holder keeps every lane's. -/
theorem State.onLane_holder {f : Lane → Lane} (hf : ∀ l, (f l).holder = l.holder) (n m : Fin 16) (s : State) :
    (s.onLane n f).rx.lanes[m].holder = s.rx.lanes[m].holder := by
  by_cases hnm : n.val = m.val
  · simp [State.onLane, hnm, hf]
  · simp [State.onLane, hnm]

/-- Payloads that are lost leave the capture as it is, and every lane with its holder. -/
theorem State.losePayloads_capture (b : Block) (name : String) (s : State) :
    (s.losePayloads b name).rx.capture = s.rx.capture := by
  unfold State.losePayloads
  refine State.each_keeps (fun t => t.rx.capture) _ _ s fun n t => ?_
  split
  · simp only [State.count_frame, State.onLane_capture]
  · rfl

theorem State.losePayloads_holder (b : Block) (name : String) (m : Fin 16) (s : State) :
    (s.losePayloads b name).rx.lanes[m].holder = s.rx.lanes[m].holder := by
  unfold State.losePayloads
  refine State.each_keeps (fun t => t.rx.lanes[m].holder) _ _ s fun n t => ?_
  split
  · simp only [State.count_frame]
    exact State.onLane_holder (f := Lane.idle) (fun _ => rfl) n m t
  · rfl

/-- The radio's moves leave the receiver as it is, or cut the payloads of the span they leave (R221). -/
theorem State.moveRadio_rx (s : State) :
    s.moveRadio.rx = s.rx ∨ s.moveRadio.rx = (s.losePayloads .chz "chz.span.cut").rx := by
  unfold State.moveRadio
  dsimp only
  split
  · exact .inl rfl
  · (repeat' split) <;> simp

@[simp] theorem State.moveRadio_capture (s : State) : s.moveRadio.rx.capture = s.rx.capture := by
  rcases s.moveRadio_rx with h | h
  · rw [h]
  · rw [h, State.losePayloads_capture]

@[simp] theorem State.moveRadio_holder (m : Fin 16) (s : State) :
    s.moveRadio.rx.lanes[m].holder = s.rx.lanes[m].holder := by
  rcases s.moveRadio_rx with h | h
  · rw [h]
  · rw [h, State.losePayloads_holder]

/-! ## A capture begins and is dropped (R248, R250) -/

@[simp] theorem State.dropCapture_capture (s : State) : s.dropCapture.rx.capture = none := by
  unfold State.dropCapture
  split
  next h => exact h
  next => rfl

@[simp] theorem State.dropCapture_buf (s : State) : s.dropCapture.rx.buf = s.rx.buf := by
  unfold State.dropCapture
  split
  · rfl
  · dsimp only
    split <;> rfl

/-- The free value an action draws for its record (R520) does not matter to a capture's end. -/
theorem State.dropCapture_draw (s : State) : s.draw.2.dropCapture = s.dropCapture.draw.2 := by
  have hrx : s.draw.2.rx = s.rx := rfl
  unfold State.dropCapture
  rw [hrx]
  cases s.rx.capture with
  | none => rfl
  | some c =>
    dsimp only
    split <;> rfl

/-- The capture that `DO rx.capture` asks for, before its first sample (R248). -/
def State.captureAsked (src : CapSrc) (at_ count rate : Option Int) (l : Fin 16) (s : State) : Capture :=
  { lane := l, src := src, rate := rate.map Int.toNat, slot := at_.map Int.toNat, count := (argOr 8192 count).toNat,
    words := [], stepA := 0, stepB := 0, startT := s.stamp, started := false, startAt := s.now, inSpan := false,
    traceA := [], traceB := [], ended := none }

/-- A capture that names no slot starts at once, any other waits for its slot (R248). -/
def State.beginCapture (c : Capture) (s : State) : State :=
  if c.slot.isNone then s.runCapture c else s.onRx (fun r => { r with capture := some c })

theorem State.keeps_beginCapture (c : Capture) (s : State) : s.keeps [.rx, .radio, .tally] (s.beginCapture c) := by
  unfold State.beginCapture
  split
  · exact s.keeps_runCapture c
  · exact State.keeps_mono (State.keeps_onRx _ s) (by simp)

/-- A capture that starts fixes its rate and its first sample, the first on the grid, and holds its lane (R223, R248). -/
theorem State.runCapture_spec (c : Capture) (s : State) : ∃ d, (s.runCapture c).rx.capture = some d ∧
    d.lane = c.lane ∧ d.src = c.src ∧ d.count = c.count ∧ d.words = c.words ∧ d.started = true ∧
    d.startAt = gridUp (d.rate.getD 0) s.now ∧ (s.runCapture c).rx.lanes[c.lane].holder = .capture := by
  unfold State.runCapture
  simp only [State.moveRadio_capture, State.moveRadio_holder]
  exact ⟨_, rfl, rfl, rfl, rfl, rfl, rfl, rfl, by simp [State.onLane]⟩

/-- A capture that begins has started where it names no slot, and else waits as it was asked for. -/
theorem State.beginCapture_spec (c : Capture) (s : State) : ∃ d, (s.beginCapture c).rx.capture = some d ∧
    d.lane = c.lane ∧ d.src = c.src ∧ d.count = c.count ∧ d.words = c.words ∧
    (c.slot = none → d.started = true ∧ d.startAt = gridUp (d.rate.getD 0) s.now ∧
      (s.beginCapture c).rx.lanes[c.lane].holder = .capture) ∧
    (∀ n, c.slot = some n → d = c) := by
  unfold State.beginCapture
  cases hslot : c.slot with
  | none =>
    obtain ⟨d, hd, hlane, hsrc, hcount, hwords, hstarted, hat, hholder⟩ := s.runCapture_spec c
    exact ⟨d, hd, hlane, hsrc, hcount, hwords, fun _ => ⟨hstarted, hat, hholder⟩, fun n hn => by simp at hn⟩
  | some n => exact ⟨c, rfl, rfl, rfl, rfl, rfl, fun hn => by simp at hn, fun _ _ => rfl⟩

/-! ## The commands that start and drop a capture -/

/-- An action that succeeds answers, and changes beside its effect only the audit and the line (R62, R520). -/
theorem State.did_tx {h : Hdr} (obj : Nat) {out : List OutLine} (s w : State) (h0 : h.addr ≠ some 0) (ho : out ≠ []) :
    (State.did h obj out s w).line.tx = out := State.reply_tx _ h0 ho

theorem State.keeps_did (h : Hdr) (obj : Nat) (out : List OutLine) (s w : State) :
    w.keeps [.line, .store, .params] (State.did h obj out s w) :=
  State.keeps_trans (State.keeps_mono (State.keeps_audit _ _ _ _ _ _ w) (by simp))
    (State.keeps_mono (State.keeps_reply h out _) (by simp))

@[simp] theorem State.did_rx (h : Hdr) (obj : Nat) (out : List OutLine) (s w : State) :
    (State.did h obj out s w).rx = w.rx := by simp [State.did]

/-- The free value that an action draws does not bear on the lane a capture takes. -/
theorem State.captureLane_acting (h : Hdr) (slot : Option Nat) (s : State) :
    (s.acting h).dropCapture.captureLane slot = (s.heard h).dropCapture.captureLane slot := by
  rw [State.acting, State.dropCapture_draw]
  rfl

theorem exec_doRxCapture {h : Hdr} {src : CapSrc} {at_ count rate : Option Int} {l : Fin 16} {s : State}
    (hj : s.judgesAtOnce h) (hl : (s.heard h).allowed .operator = true) (hp : ∀ p, src = .chan p → inRange 0 39 p = true)
    (ha : ∀ a, at_ = some a → inRange 0 (2 ^ 40 - 1) a = true) (hc : inRange 1 8192 (argOr 8192 count) = true)
    (hr : capRateOk (s.heard h).rx.band src rate = true)
    (hlane : (s.heard h).dropCapture.captureLane (at_.map Int.toNat) = some l) :
    exec (.doRxCapture h src at_ count rate) s = .next (State.did h 516 [.bare] s
      ((s.acting h).dropCapture.beginCapture ((s.acting h).captureAsked src at_ count rate l))) := by
  have hrate : capRateOk (s.acting h).rx.band src rate = true := hr
  rw [← State.captureLane_acting] at hlane
  change Host.Outcome.next (s.change _ h .do_ true false (runDoRxCapture h src at_ count rate)) = _
  rw [State.change_judged _ _ _ _ hj (fun _ => rfl)]
  unfold runDoRxCapture
  rw [actionRun_heard, needs_allowed ((State.acting_allowed h s .operator).trans hl)]
  dsimp only
  rw [if_neg ?hplace, if_neg ?hslot, if_neg (by simp [hc]), if_neg (by simp [hrate]), hlane]
  case hplace =>
    cases src with
    | chan p => simp [hp p rfl]
    | chain sd => simp
  case hslot =>
    cases at_ with
    | some a => simpa using ha a rfl
    | none => simp
  rfl

theorem exec_doRxCaptureDrop {h : Hdr} {s : State} (hj : s.judgesAtOnce h)
    (hl : (s.heard h).allowed .operator = true) :
    exec (.doRxCaptureDrop h) s = .next (State.did h 517 [.bare] s (s.acting h).dropCapture) := by
  change Host.Outcome.next (s.change _ h .do_ true false (runDoRxCaptureDrop h)) = _
  rw [State.change_judged _ _ _ _ hj (fun _ => rfl), runDoRxCaptureDrop, actionRun_heard,
    needs_allowed ((State.acting_allowed h s .operator).trans hl)]
  rfl

/-! ## Reading a capture (R251) -/

/-- The reply to `DO rx.capture.read`: the capture's head, the words asked for in lines of 8, and the end. -/
def Capture.readLines (c : Capture) (o n : Nat) : List OutLine :=
  .capHead c.src (captureHz c) c.words.length c.stepA c.stepB c.startT :: wordLines 64 o ((c.words.drop o).take n) ++ [.dot]

theorem exec_doRxCaptureRead_held {h : Hdr} {o n : Option Int} {c : Capture} {s : State} (hj : s.judges h)
    (hl : (s.heard h).allowed .operator = true) (ho : inRange 0 8191 (argOr 0 o) = true)
    (hn : inRange 1 512 (argOr 512 n) = true) (hc : (s.heard h).rx.capture = some c) (he : c.ended ≠ none) :
    exec (.doRxCaptureRead h o n) s = .next ((s.heard h).reply h
      (c.readLines (argOr 0 o).toNat (argOr 512 n).toNat)) := by
  change Host.Outcome.next (s.report h 518 .operator _) = _
  rw [State.report_judged _ _ _ hj, needs_allowed hl]
  simp only [ho, hn, hc, Option.isSome_iff_ne_none.mpr he, Bool.not_true, Bool.false_eq_true, if_false, if_true,
    State.finish_good]
  rfl

/-- A failure with `!STATE` that has no record of its own is not recorded, not even a broadcast's (R61). -/
theorem State.finish_bad_state (o : Origin) (h : Hdr) (v : Verb) (tok : Nat) (obj : Option Nat) (s : State) :
    State.finish o h v (bad s .state tok obj none) = s.refuse h v .state tok obj := by
  simp [State.finish, State.recordLine, bad]

theorem exec_doRxCaptureRead_none {h : Hdr} {o n : Option Int} {s : State} (hj : s.judges h)
    (hl : (s.heard h).allowed .operator = true) (ho : inRange 0 8191 (argOr 0 o) = true)
    (hn : inRange 1 512 (argOr 512 n) = true) (hc : (s.heard h).rx.capture.bind Capture.ended = none) :
    exec (.doRxCaptureRead h o n) s = .next ((s.heard h).refuse h .do_ .state 0 (some 518)) := by
  change Host.Outcome.next (s.report h 518 .operator _) = _
  rw [State.report_judged _ _ _ hj, needs_allowed hl]
  simp only [ho, hn, Bool.not_true, Bool.false_eq_true, if_false]
  cases hcap : (s.heard h).rx.capture with
  | none => simp only [State.finish_bad_state]
  | some c =>
    have he : c.ended = none := by simpa [hcap] using hc
    simp only [he, Option.isSome_none, Bool.false_eq_true, if_false, State.finish_bad_state]

/-- Below OPERATOR the command fails with `!PRIV` (R76). -/
theorem exec_doRxCaptureRead_denied {h : Hdr} (o n : Option Int) {s : State} (ht : s.takes h)
    (hl : (s.heard h).allowed .operator = false) :
    exec (.doRxCaptureRead h o n) s = .next (State.finish ((s.heard h).lineOrigin h) h .do_
      (bad (s.heard h) .priv 1 (some 518) none)) := by
  change Host.Outcome.next (s.report h 518 .operator _) = _
  rw [State.report_judged _ _ _ ht.1, needs_denied hl]

/-! ## The rates a capture may name (R248) -/

/-- A backbone output of the 2.4 GHz span has the rate 1 Mb/s and no other. -/
theorem capRateOk_backbone {p : Int} (r : Int) (hp : inRange 0 1 p = true) :
    capRateOk .g24 (.chan p) (some r) = true ↔ r = 1000 := by
  simp [capRateOk, hp]

theorem capRateOk_sub (p r : Int) : capRateOk .sub (.chan p) (some r) = true ↔ r = 50 ∨ r = 100 ∨ r = 200 := by
  simp [capRateOk, or_assoc]

/-! ## The words of a capture (R249) -/

/-- The samples, at bits 0 to 23, and the clip bit, 30, are what a word takes from its chain. -/
theorem getLsbD_sampleMask {i : Nat} (hi : i < 32) :
    (0x40FFFFFF : BitVec 32).getLsbD i = (decide (i < 24) || decide (i = 30)) := by
  revert i
  decide

theorem getLsbD_wordFlags {i : Nat} (hi : i < 32) : (0x01000000 : BitVec 32).getLsbD i = decide (i = 24) ∧
    (0x02000000 : BitVec 32).getLsbD i = decide (i = 25) ∧ (0x80000000 : BitVec 32).getLsbD i = decide (i = 31) := by
  revert i
  decide

/-- The gain step is in bits 26 to 29. -/
theorem getLsbD_stepBits (step : Nat) {i : Nat} (hi : i < 32) : (BitVec.ofNat 32 (step % 16 * 2 ^ 26)).getLsbD i =
    (decide (26 ≤ i) && (decide (i < 30) && step.testBit (i - 26))) := by
  have hstep : (step % 16).testBit (i - 26) = (decide (i - 26 < 4) && step.testBit (i - 26)) :=
    Nat.testBit_mod_two_pow step 4 (i - 26)
  have hbound : decide (i - 26 < 4) = decide (i < 30) := by
    rw [decide_eq_decide]
    omega
  rw [BitVec.getLsbD_ofNat, Nat.testBit_mul_two_pow, hstep, hbound, decide_eq_true hi, Bool.true_and]

theorem getLsbD_ite_zero (p : Bool) (x : BitVec 32) (i : Nat) :
    (if p then x else 0).getLsbD i = (p && x.getLsbD i) := by
  cases p <;> simp

theorem captureWord_eq (mask valid : Bool) (step : Nat) (sd : Side) (first : Bool) (w : BitVec 32) :
    captureWord mask valid step sd first w =
      (if mask then w &&& 0x40FFFFFF else 0) ||| (if mask && valid then 0x01000000 else 0)
        ||| (if decide (sd = .b) then 0x02000000 else 0) ||| BitVec.ofNat 32 (step % 16 * 2 ^ 26)
        ||| (if first then 0x80000000 else 0) := by
  cases sd <;> rfl

theorem getLsbD_lowMask (k : Nat) {i : Nat} (hi : i < 32) :
    (BitVec.ofNat 32 (2 ^ k - 1)).getLsbD i = decide (i < k) := by
  rw [BitVec.getLsbD_ofNat, Nat.testBit_two_pow_sub_one, decide_eq_true hi, Bool.true_and]

/-- The layout of a word: what each of its bits holds. -/
theorem captureWord_getLsbD (mask valid : Bool) (step : Nat) (sd : Side) (first : Bool) (w : BitVec 32) {i : Nat}
    (hi : i < 32) : (captureWord mask valid step sd first w).getLsbD i =
      if i < 24 ∨ i = 30 then mask && w.getLsbD i
      else if i = 24 then mask && valid
      else if i = 25 then decide (sd = .b)
      else if i = 31 then first
      else step.testBit (i - 26) := by
  obtain ⟨hvalid, hside, hfirst⟩ := getLsbD_wordFlags hi
  simp only [captureWord_eq, BitVec.getLsbD_or, getLsbD_ite_zero, BitVec.getLsbD_and, getLsbD_sampleMask hi, hvalid,
    hside, hfirst, getLsbD_stepBits step hi]
  split_ifs with hsample hvalidBit hsideBit hfirstBit
  · rcases hsample with hlow | rfl
    · have hother : i ≠ 24 ∧ i ≠ 25 ∧ i ≠ 31 ∧ ¬ 26 ≤ i := by omega
      obtain ⟨h24, h25, h31, hstep⟩ := hother
      simp [hlow, h24, h25, h31, hstep]
    · simp
  · subst hvalidBit
    simp
  · subst hsideBit
    simp
  · subst hfirstBit
    simp
  · have hstep : 26 ≤ i ∧ i < 30 ∧ ¬ i < 24 ∧ i ≠ 30 := by omega
    simp [hstep, hvalidBit, hsideBit, hfirstBit]

/-- Of a chain in the mask a word holds the samples, and of any other none, nor that they are valid. -/
theorem captureWord_samples (valid : Bool) (step : Nat) (sd : Side) (first : Bool) (w : BitVec 32) :
    captureWord true valid step sd first w &&& 0xFFFFFF = w &&& 0xFFFFFF := by
  refine BitVec.eq_of_getLsbD_eq fun i hi => ?_
  have hmask : (0xFFFFFF : BitVec 32).getLsbD i = decide (i < 24) := getLsbD_lowMask 24 hi
  rw [BitVec.getLsbD_and, BitVec.getLsbD_and, hmask, captureWord_getLsbD _ _ _ _ _ _ hi]
  by_cases hlow : i < 24 <;> simp [hlow]

theorem captureWord_unmasked (valid : Bool) (step : Nat) (sd : Side) (first : Bool) (w : BitVec 32) :
    captureWord false valid step sd first w &&& 0x1FFFFFF = 0 := by
  refine BitVec.eq_of_getLsbD_eq fun i hi => ?_
  have hmask : (0x1FFFFFF : BitVec 32).getLsbD i = decide (i < 25) := getLsbD_lowMask 25 hi
  rw [BitVec.getLsbD_and, hmask, captureWord_getLsbD _ _ _ _ _ _ hi]
  by_cases hlow : i < 24
  · simp [hlow]
  · by_cases hvalidBit : i = 24
    · simp [hvalidBit]
    · have hhigh : ¬ i < 25 := by omega
      simp [hhigh]

theorem captureWord_step (mask valid : Bool) (step : Nat) (sd : Side) (first : Bool) (w : BitVec 32) :
    (captureWord mask valid step sd first w >>> 26) &&& 15 = BitVec.ofNat 32 (step % 16) := by
  refine BitVec.eq_of_getLsbD_eq fun i hi => ?_
  have hstep : (step % 16).testBit i = (decide (i < 4) && step.testBit i) := Nat.testBit_mod_two_pow step 4 i
  have hmask : (15 : BitVec 32).getLsbD i = decide (i < 4) := getLsbD_lowMask 4 hi
  rw [BitVec.getLsbD_and, BitVec.getLsbD_ushiftRight, hmask, BitVec.getLsbD_ofNat, hstep]
  by_cases hlow : i < 4
  · rw [captureWord_getLsbD _ _ _ _ _ _ (by omega), if_neg (by omega), if_neg (by omega), if_neg (by omega),
      if_neg (by omega), Nat.add_sub_cancel_left]
    simp [hlow, hi]
  · simp [hlow]

/-! ## A capture ends (R248, R249) -/

/-- The words a capture holds at its end: as many of its samples as it asks for, none from outside the span. -/
def State.heldWords (c : Capture) (words : List (BitVec 32)) (s : State) : List (BitVec 32) :=
  (if c.inSpan then words.take c.count else []).zipIdx.map (fun (w, i) => s.wordAt c i w)

theorem State.heldWords_outside {c : Capture} (words : List (BitVec 32)) (s : State) (hin : c.inSpan = false) :
    s.heldWords c words = [] := by simp [State.heldWords, hin]

theorem State.heldWords_length {c : Capture} (words : List (BitVec 32)) (s : State) (hin : c.inSpan = true) :
    (s.heldWords c words).length = min c.count words.length := by simp [State.heldWords, hin]

theorem State.heldWords_getElem? {c : Capture} {words : List (BitVec 32)} {i : Nat} {w : BitVec 32} (s : State)
    (hin : c.inSpan = true) (hi : i < c.count) (hw : words[i]? = some w) :
    (s.heldWords c words)[i]? = some (s.wordAt c i w) := by
  simp [State.heldWords, hin, hi, hw]

theorem exec_captureEnd {words : List (BitVec 32)} {c : Capture} {s : State} (hc : s.rx.capture = some c)
    (hs : c.started = true) (he : c.ended = none) (hd : c.inSpan = true → c.startAt + captureTicks c ≤ s.now) :
    exec (.captureEnd words) s = .next
      ((s.onRx (fun r => { r with capture := some { c with words := s.heldWords c words, ended := some s.now } })).queue
        (.capture c.startT (s.heldWords c words).length)) := by
  have hdue : (!c.inSpan || decide (c.startAt + captureTicks c ≤ s.now)) = true := by
    cases hin : c.inSpan with
    | false => rfl
    | true => simpa using hd hin
  change execCaptureEnd words s = _
  simp only [execCaptureEnd, hc, hs, he, hdue, Option.isNone_none, Bool.and_self, if_true]
  rfl

/-- 600 s after its end a capture is dropped (R250). -/
theorem exec_captureHoldExpiry {t0 : Ticks} {s : State} (hc : s.rx.capture.bind Capture.ended = some t0)
    (hd : t0 + secs 600 ≤ s.now) : exec .captureHoldExpiry s = .next s.dropCapture := by
  change execCaptureHoldExpiry s = _
  simp only [execCaptureHoldExpiry, hc, hd, if_true]

/-! ## The obligation -/

/-- Settles O45: the two commands are an action's effect on the state that acts (`State.beginCapture`, `State.dropCapture`),
the words are read off `captureWord_getLsbD`, and the end holds `State.heldWords`. -/
theorem captures : Obligations.Captures := by
  refine ⟨fun h s hj => ?_, fun p r => ⟨capRateOk_backbone r, capRateOk_sub p r⟩, fun h s hj => ?_,
    fun h o n s ht hl => ?_, fun words c s hc hs he hd => ?_, fun mask valid step sd first w => ?_,
    fun t0 s hc hd => exec_captureHoldExpiry hc hd⟩
  · intro u hl
    have hact : u.keeps [.rx] (s.acting h).dropCapture :=
      State.keeps_trans (u.keeps_draw _) (State.keeps_dropCapture _)
    refine ⟨fun src at_ count rate l hp ha hc hr hlane => ?_, ?_⟩
    · obtain ⟨d, hd, hdl, hsrc, hcount, hwords, hnow, hlater⟩ := (s.acting h).dropCapture.beginCapture_spec
        ((s.acting h).captureAsked src at_ count rate l)
      refine ⟨_, d, exec_doRxCapture hj hl hp ha hc hr hlane, fun h0 => State.did_tx _ _ _ h0 (by simp), ?_, hdl, hsrc,
        hcount, hwords, fun hat => ?_, fun a hat => ?_, ?_⟩
      · rw [State.did_rx, hd]
      · obtain ⟨-, hclock, -, -⟩ := hact
        rw [← hclock]
        simp only [State.did_rx]
        exact hnow (by simp [State.captureAsked, hat])
      · rw [hlater a.toNat (by simp [State.captureAsked, hat])]
        simp [State.captureAsked, hat]
      · exact State.keeps_trans (State.keeps_mono hact (by simp)) (State.keeps_trans
          (State.keeps_mono (State.keeps_beginCapture _ _) (by simp)) (State.keeps_mono (State.keeps_did _ _ _ _ _) (by simp)))
    · have hkept : u.keeps [.rx, .line, .store, .params] (State.did h 517 [.bare] s (s.acting h).dropCapture) :=
        State.keeps_trans (State.keeps_mono hact (by simp)) (State.keeps_mono (State.keeps_did _ _ _ _ _) (by simp))
      obtain ⟨-, -, -, hsame⟩ := hkept
      refine ⟨_, exec_doRxCaptureDrop hj hl, fun h0 => State.did_tx _ _ _ h0 (by simp), by simp, ?_,
        hsame .wake (by simp), hsame .roster (by simp)⟩
      rw [State.did_rx, State.dropCapture_buf]
      rfl
  · intro u hl
    exact ⟨fun o n c ho hn hc he => exec_doRxCaptureRead_held hj hl ho hn hc he,
      fun o n ho hn hc => exec_doRxCaptureRead_none hj hl ho hn hc⟩
  · exact ⟨_, exec_doRxCaptureRead_denied o n ht hl, (State.finish_bad_answer _ _ _ _ _ _ _ ht.2).1⟩
  · refine ⟨_, _, exec_captureEnd hc hs he hd, by simp; rfl, rfl, s.heldWords_outside words, fun hin =>
      ⟨s.heldWords_length words hin, fun i w hi hw => s.heldWords_getElem? hin hi hw⟩, by simp, ?_⟩
    exact State.keeps_trans (State.keeps_mono (State.keeps_onRx _ s) (by simp))
      (State.keeps_mono (State.keeps_queue _ _) (by simp))
  · refine ⟨fun hm => ?_, fun hm => ?_, ?_, ?_, ?_, captureWord_step mask valid step sd first w⟩
    · rw [hm, captureWord_samples]
    · rw [hm, captureWord_unmasked]
    · exact (captureWord_getLsbD _ _ _ _ _ _ (by decide)).trans (by simp)
    · exact (captureWord_getLsbD _ _ _ _ _ _ (by decide)).trans (by simp)
    · exact (captureWord_getLsbD _ _ _ _ _ _ (by decide)).trans (by simp)

end Sys2Proof.Machine

/-!
Proofs about every step: what no command and no tick changes, the capacities of queues and tables, the
    canonical form of the
matcher's memories, and the boot selector. One lemma for each operation of the model says that it keeps all of these
(`State.Preserves`), one for each command that it answers a next state that keeps them (`State.Kept`); the
    obligations read
their parts off.
-/

namespace Sys2Proof.Machine

-- One lemma after another: side by side, each would hold a thread and its stack until the kernel has checked the others.
set_option Elab.async false

/-- LINE holds 64 event lines at most, and its address is one of 0 to 16 (R65, R79). -/
def Line.fits (l : Line) : Prop := l.events.length ≤ 64 ∧ l.address ≤ 16

/-- The wake receiver holds 16 records at most (R144). -/
def Wake.fits (w : Wake) : Prop := w.queue.length ≤ 16

/-- The memories of the matcher are in their canonical form (R113, R166, R443). -/
def Wake.canonical (w : Wake) : Prop := Mem.wf w.masks = true ∧ Mem.wf w.stored = true ∧ Mem.wf w.seen = true

/-- The tables of flights and the waiting rounds are within R303, R307 and R320. -/
def Work.fits (w : Work) : Prop := w.table.length ≤ 32 ∧ w.waiting.length ≤ 256 ∧ w.rounds.length ≤ 8

/-- The receive buffer is within R303. -/
def Rx.fits (r : Rx) : Prop := r.buf.length ≤ 1024

/-- The seen cache of floods is within R370. -/
def Roster.fits (r : Roster) : Prop := r.seen.length ≤ 256

theorem State.bounded_iff (s : State) :
    s.bounded ↔ s.line.fits ∧ s.wake.fits ∧ s.work.fits ∧ s.rx.fits ∧ s.roster.fits := by
  simp only [State.bounded, Line.fits, Wake.fits, Work.fits, Rx.fits, Roster.fits]
  tauto

/-- What every command keeps: the queue, the clock of the model, what the factory fixed, the capacities, the
    canonical form
of the matcher's memories, and the boot selector in step. It is stated for each group of State by itself. -/
structure State.Preserves (s t : State) : Prop where
  pending : t.pending = s.pending
  now : t.now = s.now
  part : t.part = s.part
  line : s.line.fits → t.line.fits
  wake : s.wake.fits → t.wake.fits
  masks : s.wake.canonical → t.wake.canonical
  work : s.work.fits → t.work.fits
  rx : s.rx.fits → t.rx.fits
  roster : s.roster.fits → t.roster.fits
  image : s.image.inStep → t.image.inStep

/-- A meaning answers a next state, with what every command keeps. -/
def State.Kept (s : State) (a : Ans) : Prop := ∃ t, a = .next t ∧ s.Preserves t

theorem State.Kept.next {s t : State} (h : s.Preserves t) : s.Kept (.next t) := ⟨t, rfl, h⟩

namespace State.Preserves

theorem refl (s : State) : s.Preserves s :=
  ⟨rfl, rfl, rfl, id, id, id, id, id, id, id⟩

variable {s₀ s t : State}

/-- A change of other groups keeps it all. -/
theorem frame (h : s₀.Preserves s) (hf : t.pending = s.pending ∧ t.now = s.now ∧ t.part = s.part ∧ t.line = s.line ∧
    t.wake = s.wake ∧ t.work = s.work ∧ t.rx = s.rx ∧ t.roster = s.roster ∧ t.image = s.image) : s₀.Preserves t := by
  obtain ⟨hp, hn, hf, hl, hw, hk, hr, ho, hi⟩ := hf
  exact ⟨hp.trans h.pending, hn.trans h.now, hf.trans h.part, by rw [hl]; exact h.line, by rw [hw]; exact h.wake,
    by rw [hw]; exact h.masks, by rw [hk]; exact h.work, by rw [hr]; exact h.rx, by rw [ho]; exact h.roster,
    by rw [hi]; exact h.image⟩

theorem ite {c : Prop} [Decidable c] (h : s₀.Preserves s) (h' : s₀.Preserves t) :
    s₀.Preserves (if c then s else t) := by
  split <;> assumption

theorem ite_s {c : Prop} [Decidable c] {d d' : Done} (h : s₀.Preserves d.s) (h' : s₀.Preserves d'.s) :
    s₀.Preserves (if c then d else d').s := by
  split <;> assumption

theorem ite_snd {α : Type} {c : Prop} [Decidable c] {p q : α × State} (h : s₀.Preserves p.2) (h' : s₀.Preserves q.2) :
    s₀.Preserves (if c then p else q).2 := by
  split <;> assumption

theorem each {α : Type} {l : List α} {f : α → State → State} (h : s₀.Preserves s)
    (hf : ∀ {s} x, s₀.Preserves s → s₀.Preserves (f x s)) : s₀.Preserves (s.each l f) := by
  induction l generalizing s with
  | nil => exact h
  | cons x xs ih => exact ih (hf x h)

theorem onLineOf {f : Line → Line} (h : s₀.Preserves s) (hf : s.line.fits → (f s.line).fits) :
    s₀.Preserves (s.onLine f) :=
  ⟨h.pending, h.now, h.part, hf ∘ h.line, h.wake, h.masks, h.work, h.rx, h.roster, h.image⟩

theorem onLine {f : Line → Line} (h : s₀.Preserves s) (hf : ∀ x : Line, x.fits → (f x).fits := by exact fun _ h
    => h) :
    s₀.Preserves (s.onLine f) :=
  h.onLineOf (hf _)

theorem onWakeOf {f : Wake → Wake} (h : s₀.Preserves s) (hf : s.wake.fits → (f s.wake).fits)
    (hm : s.wake.canonical → (f s.wake).canonical) : s₀.Preserves (s.onWake f) :=
  ⟨h.pending, h.now, h.part, h.line, hf ∘ h.wake, hm ∘ h.masks, h.work, h.rx, h.roster, h.image⟩

theorem onWake {f : Wake → Wake} (h : s₀.Preserves s) (hf : ∀ w : Wake, w.fits → (f w).fits := by exact fun _ h => h)
    (hm : ∀ w : Wake, w.canonical → (f w).canonical := by exact fun _ h => h) : s₀.Preserves (s.onWake f) :=
  h.onWakeOf (hf _) (hm _)

/-- A change of a branch touches neither the records nor the memories. -/
theorem onBr {sd : Side} {f : Branch → Branch} (h : s₀.Preserves s) : s₀.Preserves (s.onWake (Wake.onBr sd f)) := by
  cases sd <;> exact h.onWake

theorem onWorkOf {f : Work → Work} (h : s₀.Preserves s) (hf : s.work.fits → (f s.work).fits) :
    s₀.Preserves (s.onWork f) :=
  ⟨h.pending, h.now, h.part, h.line, h.wake, h.masks, hf ∘ h.work, h.rx, h.roster, h.image⟩

theorem onWork {f : Work → Work} (h : s₀.Preserves s) (hf : ∀ x : Work, x.fits → (f x).fits := by exact fun _ h
    => h) :
    s₀.Preserves (s.onWork f) :=
  h.onWorkOf (hf _)

theorem onRxOf {f : Rx → Rx} (h : s₀.Preserves s) (hf : s.rx.fits → (f s.rx).fits) :
    s₀.Preserves (s.onRx f) :=
  ⟨h.pending, h.now, h.part, h.line, h.wake, h.masks, h.work, hf ∘ h.rx, h.roster, h.image⟩

theorem onRx {f : Rx → Rx} (h : s₀.Preserves s) (hf : ∀ x : Rx, x.fits → (f x).fits := by exact fun _ h => h) :
    s₀.Preserves (s.onRx f) :=
  h.onRxOf (hf _)

theorem onRosterOf {f : Roster → Roster} (h : s₀.Preserves s) (hf : s.roster.fits → (f s.roster).fits) :
    s₀.Preserves (s.onRoster f) :=
  ⟨h.pending, h.now, h.part, h.line, h.wake, h.masks, h.work, h.rx, hf ∘ h.roster, h.image⟩

theorem onRoster {f : Roster → Roster} (h : s₀.Preserves s) (hf : ∀ x : Roster, x.fits → (f x).fits := by exact
    fun _ h => h) :
    s₀.Preserves (s.onRoster f) :=
  h.onRosterOf (hf _)

theorem onImageOf {f : Images → Images} (h : s₀.Preserves s) (hf : s.image.inStep → (f s.image).inStep) :
    s₀.Preserves (s.onImage f) :=
  ⟨h.pending, h.now, h.part, h.line, h.wake, h.masks, h.work, h.rx, h.roster, hf ∘ h.image⟩

theorem onImage {f : Images → Images} (h : s₀.Preserves s) (hf : ∀ x : Images, x.inStep → (f x).inStep := by
    exact fun _ h => h) :
    s₀.Preserves (s.onImage f) :=
  h.onImageOf (hf _)

theorem draw (h : s₀.Preserves s) : s₀.Preserves s.draw.2 :=
  ⟨h.pending, h.now, h.part, h.line, h.wake, h.masks, h.work, h.rx, h.roster, h.image⟩

theorem good {out : List OutLine} {obj : Option Nat} {aud : Option Aud} (h : s₀.Preserves s) :
    s₀.Preserves (Machine.good s out obj aud).s := h

theorem needs {l : Level} {obj : Option Nat} {aud : Option Aud} {k : Done} (h : s₀.Preserves s) (hk :
    s₀.Preserves k.s) :
    s₀.Preserves (Machine.needs l s obj aud k).s :=
  hk.ite_s h

theorem actionRun {obj : Nat} {l : Level} {work : State → Option Aud → Done} (h : s₀.Preserves s)
    (hw : ∀ {s} a, s₀.Preserves s → s₀.Preserves (work s a).s) : s₀.Preserves (Machine.actionRun obj l work s).s :=
  h.draw.needs (hw _ h.draw)

end State.Preserves

/-! ## Queues and tables that keep their capacity -/

theorem Line.fits_push (e : EvLine) {l : Line} (h : l.fits) : (l.push e).fits := by
  obtain ⟨he, ha⟩ := h
  unfold Line.push
  split
  · exact ⟨by simp only [List.length_append, List.length_singleton]; omega, ha⟩
  · exact ⟨by simp only [List.length_append, List.length_singleton, List.length_drop]; omega, ha⟩

@[simp] theorem length_replaceFirst {α : Type} (p : α → Bool) (f : α → α) (l : List α) :
    (replaceFirst p f l).length = l.length := by
  induction l with
  | nil => rfl
  | cons x xs ih => unfold replaceFirst; split <;> simp [ih]

@[simp] theorem length_waitRound (q : RoundReq) (l : List RoundReq) : (waitRound q l).length = l.length + 1 := by
  induction l with
  | nil => rfl
  | cons x xs ih => unfold waitRound; (repeat' split) <;> simp [ih]

@[simp] theorem length_pushRec (r : WakeRec) (q : List WakeRec) : (pushRec r q).length = q.length + 1 := by
  unfold pushRec
  split
  next x hx =>
    have hne : q ≠ [] := by rintro rfl; simp at hx
    have := List.length_pos_iff.mpr hne
    split
    · simp only [List.length_append, List.length_dropLast, List.length_cons, List.length_nil]; omega
    · simp
  next => simp

/-- Clearing the bits of a reason, or all, keeps the canonical form (R167). -/
theorem Mem.wf_seenRest (r : Option Nat) {m : Mem} (h : m.wf = true) : Mem.wf (seenRest r m) = true := by
  cases r with
  | none => rfl
  | some k =>
    suffices H : ∀ (lo : Nat) (m : Mem), Mem.wfFrom lo m = true → Mem.wfFrom lo (seenRest (some k) m) = true
        from H 0 m h
    intro lo m
    induction m generalizing lo with
    | nil => exact fun _ => rfl
    | cons c m ih =>
      obtain ⟨a, v⟩ := c
      intro hw
      obtain ⟨hlo, -, hrest⟩ := Mem.wfFrom_cons.1 hw
      have htail := ih (a + 1) hrest
      simp only [seenRest, List.map_cons, List.filter_cons] at htail ⊢
      split
      next hne => exact Mem.wfFrom_cons.2 ⟨hlo, by simpa using hne, htail⟩
      next => exact Mem.wfFrom_mono (by omega) htail

/-! ## The boot selector's copies (R471, R472) -/

/-- A record newer than the one in force is in force once it is in the copy that is written first. -/
theorem Images.boot_putBoot {m : Images} {b : BootSel} (h : m.boot.seq < b.seq) : (m.putBoot (some b)).boot = b := by
  unfold Images.putBoot Images.firstA
  unfold Images.boot at h
  rcases ha : m.bootA with _ | a <;> rcases hb : m.bootB with _ | c <;> simp only [ha, hb] at h ⊢
  · simp [Images.boot]
  · simp only [if_true, Images.boot]; rw [if_neg (by omega)]
  · simp only [Bool.false_eq_true, if_false, Images.boot]; rw [if_pos h]
  · by_cases hac : a.seq ≤ c.seq
    · simp only [hac, decide_true, if_true, Images.boot]
      rw [if_neg]
      split at h <;> omega
    · simp only [hac, decide_false, Bool.false_eq_true, if_false, Images.boot]
      rw [if_pos]
      split at h <;> omega

/-- The other copy takes the record in force. -/
theorem Images.bootSettle_owed (m : Images) : m.bootSettle.bootOwed = none := by
  unfold Images.bootSettle
  split
  · rfl
  · assumption

theorem Images.inStep_of_owed_none {m : Images} (h : m.bootOwed = none) : m.inStep := by
  intro x hx
  rw [h] at hx
  cases hx

theorem Images.inStep_bootSettle (m : Images) : m.bootSettle.inStep := Images.inStep_of_owed_none m.bootSettle_owed

theorem Images.inStep_bootCut (m : Images) : m.bootCut.inStep := by
  unfold Images.bootCut
  split
  · exact Images.inStep_of_owed_none rfl
  · exact Images.inStep_of_owed_none (by assumption)

theorem Images.inStep_write {m : Images} {b : BootSel} (t : Ticks) (h : m.boot.seq < b.seq) :
    Images.inStep { m.putBoot (some b) with bootOwed := some (t, b) } := by
  intro x hx
  cases hx
  exact (Images.boot_putBoot h).symm

/-- An acknowledgement adds no record to the queue. -/
theorem ackSplit_rest {n : BitVec 16} {q gone rest : List WakeRec} (h : ackSplit n q = some (gone, rest)) :
    rest.length ≤ q.length := by
  induction q generalizing gone rest with
  | nil => simp [ackSplit] at h
  | cons r rs ih =>
    rw [ackSplit] at h
    split at h
    · obtain ⟨⟨g, l⟩, hg, he⟩ := Option.map_eq_some_iff.1 h
      cases he
      exact Nat.succ_le_succ (ih hg)
    · split at h
      · cases h
        exact Nat.le_succ _
      · obtain ⟨⟨g, l⟩, hg, he⟩ := Option.map_eq_some_iff.1 h
        cases he
        exact (ih hg).trans (Nat.le_succ _)

namespace State.Preserves

variable {s₀ s t : State}

theorem of_eq {α : Type} {a : α} {p : α × State} (h : s₀.Preserves p.2) (he : p = (a, t)) : s₀.Preserves t := by
  subst he
  exact h

theorem sweepList {α : Type} {f : α → List Placed → State → List Placed × State} {l : List α} (h : s₀.Preserves s)
    (hf : ∀ {s} x l, s₀.Preserves s → s₀.Preserves (f x l s).2) : s₀.Preserves (State.sweepList f l s).2 := by
  dsimp only [State.sweepList]
  generalize ([] : List Placed) = acc
  induction l generalizing acc s with
  | nil => exact h
  | cons x xs ih => exact ih (hf x acc h) _

theorem imageRun {aud : State → Option Aud} {run : State → Option Aud → Done} (h : s₀.Preserves s)
    (hr : ∀ {s} a, s₀.Preserves s → s₀.Preserves (run s a).s) : s₀.Preserves (Machine.imageRun aud run s).s :=
  h.needs (hr _ h)

theorem onlyBroadcast {hd : Hdr} {aud : Option Aud} {k : Done} (h : s₀.Preserves s) (hk : s₀.Preserves k.s) :
    s₀.Preserves (Machine.onlyBroadcast hd s aud k).s :=
  hk.ite_s h

theorem openForm {k : Done} (h : s₀.Preserves s) (hk : s₀.Preserves k.s) : s₀.Preserves (Machine.openForm s k).s :=
  hk.ite_s (h.needs hk)

theorem onStore {f : Store → Store} (h : s₀.Preserves s) : s₀.Preserves (s.onStore f) :=
  h.frame (by simp)

theorem fireAll (h : s₀.Preserves s) : s₀.Preserves s.fireAll :=
  h.frame (by simp)

theorem onPm {f : Pm → Pm} (h : s₀.Preserves s) : s₀.Preserves (s.onPm f) :=
  h.frame (by simp)

theorem onNet {f : Net → Net} (h : s₀.Preserves s) : s₀.Preserves (s.onNet f) :=
  h.frame (by simp)

theorem drawTo {bound : Nat} (h : s₀.Preserves s) : s₀.Preserves (s.drawTo bound).2 :=
  h.frame (by simp)

theorem takeRoundId (h : s₀.Preserves s) : s₀.Preserves s.takeRoundId.2 := by
  dsimp only [State.takeRoundId]
  exact h.onWork

theorem onTally {f : Tally → Tally} (h : s₀.Preserves s) : s₀.Preserves (s.onTally f) :=
  h.frame (by simp)

theorem journal {seq : Nat} {u : Undo} (h : s₀.Preserves s) : s₀.Preserves (s.journal seq u) :=
  h.frame (by simp)

theorem putImg {r : ImageRef} {i : Option Img} (h : s₀.Preserves s) : s₀.Preserves (s.putImg r i) :=
  h.onImageOf fun hi => by cases r <;> cases i <;> exact hi

theorem roundHeard {x : RxFrame} {i : Nat} (h : s₀.Preserves s) : s₀.Preserves (s.roundHeard x i) := by
  dsimp only [State.roundHeard]
  split
  · exact h.onWork
  · exact h

theorem bytes {p : Port} {n : Nat} (h : s₀.Preserves s) : s₀.Preserves (s.bytes p n) :=
  h.frame (by simp)

theorem skipCell {c : Cell} (h : s₀.Preserves s) : s₀.Preserves (s.skipCell c) :=
  h.onWorkOf fun hw => by simpa only [Work.fits, List.length_map] using hw

theorem onFaults {f : List Res → List Res} (h : s₀.Preserves s) : s₀.Preserves (s.onFaults f) :=
  h.frame (by simp)

theorem onRound {f : Round → Round} (h : s₀.Preserves s) : s₀.Preserves (s.onRound f) :=
  h.onWork

theorem readWords {per : Nat} {n : Nat} (h : s₀.Preserves s) : s₀.Preserves (s.readWords per n) :=
  h.frame (by simp)

theorem clearBlock {b : Block} (h : s₀.Preserves s) : s₀.Preserves (s.clearBlock b) :=
  h.frame (by simp)

theorem beginLine {answersChallenge : Bool} (h : s₀.Preserves s) : s₀.Preserves (s.beginLine answersChallenge) := by
  dsimp only [State.beginLine]
  exact h.onPm.onLine

theorem beginEntry {p : Power} {d : Ticks} (h : s₀.Preserves s) : s₀.Preserves (s.beginEntry p d) :=
  h.frame (by simp)

theorem onSched {f : Sched → Sched} (h : s₀.Preserves s) : s₀.Preserves (s.onSched f) :=
  h.frame (by simp)

theorem setStage {r : ImageRef} {st : Stage} (h : s₀.Preserves s) : s₀.Preserves (s.setStage r st) :=
  h.onImageOf fun hi => by cases r <;> exact hi

theorem beginVerify {r : ImageRef} (h : s₀.Preserves s) : s₀.Preserves (s.beginVerify r) :=
  h.onImage

theorem beginRound {n : Nat} {at_ : Nat} (h : s₀.Preserves s) : s₀.Preserves (s.beginRound n at_) :=
  h.frame (by simp)

theorem pushEv {e : Ev} (h : s₀.Preserves s) : s₀.Preserves (s.pushEv e) :=
  h.onLineOf (Line.fits_push _)

theorem roundNote {x : RxFrame} {recorded : Bool} {again : Bool} (h : s₀.Preserves s) :
    s₀.Preserves (s.roundNote x recorded again) :=
  h.onRound

theorem afterEdge {hd : Hdr} {o : OutLine} (h : s₀.Preserves s) : s₀.Preserves (s.afterEdge hd o) :=
  h.onWake

theorem onMon {f : Mons → Mons} (h : s₀.Preserves s) : s₀.Preserves (s.onMon f) :=
  h.frame (by simp)

theorem onTime {f : Time → Time} (h : s₀.Preserves s) : s₀.Preserves (s.onTime f) :=
  h.frame (by simp)

theorem onJomen {f : Jomen → Jomen} (h : s₀.Preserves s) : s₀.Preserves (s.onJomen f) :=
  h.frame (by simp)

theorem onRadio {f : Radio → Radio} (h : s₀.Preserves s) : s₀.Preserves (s.onRadio f) :=
  h.frame (by simp)

theorem chanChange {id : ResId} {leave : Bool} {eff : Nat} (h : s₀.Preserves s) :
    s₀.Preserves (s.chanChange id leave eff) :=
  h.frame (by simp)

theorem cellUsed {i : Nat} (h : s₀.Preserves s) : s₀.Preserves (s.cellUsed i) :=
  h.frame (by simp)

theorem onEntry {i : Nat} {f : Entry → Entry} (h : s₀.Preserves s) : s₀.Preserves (s.onEntry i f) := by
  dsimp only [State.onEntry]
  split
  · exact h.onRoster
  · exact h

theorem persistRx {i : Nat} (h : s₀.Preserves s) : s₀.Preserves (s.persistRx i) := by
  dsimp only [State.persistRx]
  split
  · exact h.onEntry
  · split
    · exact h.onEntry.onRoster
    · exact h.onEntry

theorem writeMask {code : Nat} {m : Byte} (h : s₀.Preserves s) : s₀.Preserves (s.writeMask code m) :=
  h.ite h.onWake

theorem holdBeacon {e : Eui} {c : BitVec 32} (h : s₀.Preserves s) : s₀.Preserves (s.holdBeacon e c) :=
  h.frame (by simp)

theorem chanCancel {id : ResId} (h : s₀.Preserves s) : s₀.Preserves (s.chanCancel id) :=
  h.frame (by simp)

theorem onWm {n : Fin 8} {f : Mon → Mon} (h : s₀.Preserves s) : s₀.Preserves (s.onWm n f) :=
  h.frame (by simp)

theorem coldRoster (h : s₀.Preserves s) : s₀.Preserves s.coldRoster :=
  h.onRoster

theorem txStamped {tx : Tx} (h : s₀.Preserves s) : s₀.Preserves (s.txStamped tx) :=
  h.frame (by simp)

theorem saveTime (h : s₀.Preserves s) : s₀.Preserves s.saveTime :=
  h.frame (by simp)

theorem beginWait (h : s₀.Preserves s) : s₀.Preserves s.beginWait :=
  h.frame (by simp)

theorem applyChanges (h : s₀.Preserves s) : s₀.Preserves s.applyChanges :=
  h.frame (by simp)

theorem askReset {t : Ticks} {c : StartCause} (h : s₀.Preserves s) : s₀.Preserves (s.askReset t c) :=
  h.frame (by simp)

theorem onFlight {id : Nat} {g : Flight → Flight} (h : s₀.Preserves s) : s₀.Preserves (s.onFlight id g) :=
  h.onWorkOf fun hw => by simpa only [Work.fits, length_replaceFirst] using hw

theorem zeroCtr {b : Block} {name : String} (h : s₀.Preserves s) : s₀.Preserves (s.zeroCtr b name) :=
  h.frame (by simp)

theorem schedAsk {c : SchedChange} (h : s₀.Preserves s) : s₀.Preserves (s.schedAsk c) :=
  h.frame (by simp)

theorem persist {i : Nat} (h : s₀.Preserves s) : s₀.Preserves (s.persist i) := by
  dsimp only [State.persist]
  split
  · exact h.onEntry
  · split
    · exact h.onEntry.onRoster
    · exact h.onEntry

theorem takeAddress {marked : Bool} {n : Nat} (h : s₀.Preserves s) (hn : n ≤ 16) :
    s₀.Preserves (s.takeAddress marked n).s := by
  exact good (h.onLineOf fun ⟨he, _⟩ => ⟨he, hn⟩)

theorem trans {dest : RadioSt} {d : Ticks} {tune : Option (Band × Nat)} (h : s₀.Preserves s) :
    s₀.Preserves (s.trans dest d tune) :=
  h.frame (by simp)

theorem waitAgain (h : s₀.Preserves s) : s₀.Preserves s.waitAgain :=
  h.frame (by simp)

theorem sendBare {o : OutLine} {what : Sending} {n : Nat} (h : s₀.Preserves s) : s₀.Preserves (s.sendBare o what n) :=
  h.onLine

theorem inService {c : StartCause} (h : s₀.Preserves s) : s₀.Preserves (s.inService c) :=
  h.frame (by simp)

theorem onCal {b : Band} {f : BandCal → BandCal} (h : s₀.Preserves s) : s₀.Preserves (s.onCal b f) :=
  h.frame (by simp)

theorem judgeEnd {r : ResId} (h : s₀.Preserves s) : s₀.Preserves (s.judgeEnd r) :=
  h.onRx

theorem imageBy {hd : Hdr} (h : s₀.Preserves s) : s₀.Preserves (s.imageBy hd) :=
  h.onImage

theorem setSpan {b : Band} {j : Nat} (h : s₀.Preserves s) : s₀.Preserves (s.setSpan b j) :=
  h.onRx

theorem takeCode (h : s₀.Preserves s) : s₀.Preserves s.takeCode.2 :=
  h.frame (by simp)

/-- A write that raises the sequence leaves the copies in step (R472). -/
theorem writeBoot {f : BootSel → BootSel} (h : s₀.Preserves s) (hf : ∀ b, b.seq < (f b).seq) :
    s₀.Preserves (s.writeBoot f) :=
  h.onImageOf fun _ => Images.inStep_write _ (hf _)

theorem judgeChans {l : List ResId} {f : Judge → Judge} (h : s₀.Preserves s) : s₀.Preserves (s.judgeChans l f) :=
  h.each fun _ h => h.onRx

theorem onChain {sd : Side} {f : Chain → Chain} (h : s₀.Preserves s) : s₀.Preserves (s.onChain sd f) :=
  h.onRxOf fun hr => by cases sd <;> exact hr

theorem sniffDc {sd : Side} (h : s₀.Preserves s) : s₀.Preserves (s.sniffDc sd) := by
  dsimp only [State.sniffDc]
  exact h.draw.onChain

theorem aheadGone (h : s₀.Preserves s) : s₀.Preserves s.aheadGone :=
  h.frame (by simp)

theorem enterPower {p : Power} (h : s₀.Preserves s) : s₀.Preserves (s.enterPower p) :=
  h.frame (by simp)

theorem admitPeer {i : Nat} {id : Eui} {old : Option Nat} (h : s₀.Preserves s) :
    s₀.Preserves (s.admitPeer i id old) := by
  dsimp only [State.admitPeer]
  cases old with
  | none => exact h.onRoster.onNet.writeMask
  | some j => exact (h.ite h.onEntry.writeMask).onRoster.onNet.writeMask

theorem onLane {n : Fin 16} {f : Lane → Lane} (h : s₀.Preserves s) : s₀.Preserves (s.onLane n f) :=
  h.onRx

theorem codewordLost (h : s₀.Preserves s) : s₀.Preserves s.codewordLost := by
  dsimp only [State.codewordLost]
  split
  · exact h.drawTo.drawTo.draw.onStore
  · exact h.drawTo.drawTo.draw.onStore
  · exact h.drawTo.drawTo.draw.onRoster
  · exact h.drawTo.drawTo.draw

theorem chainsOff (h : s₀.Preserves s) : s₀.Preserves s.chainsOff :=
  h.onRx

theorem wakeDark (h : s₀.Preserves s) : s₀.Preserves s.wakeDark :=
  h.onWake

theorem acceptBurst {b : Burst} (h : s₀.Preserves s) : s₀.Preserves (s.acceptBurst b) :=
  h.frame (by simp)

theorem argHash (h : s₀.Preserves s) : s₀.Preserves s.argHash.2 :=
  h.frame (by simp)

theorem freeCode {c : Nat} (h : s₀.Preserves s) : s₀.Preserves (s.freeCode c) :=
  h.ite h.onJomen.writeMask

theorem radioStandby (h : s₀.Preserves s) : s₀.Preserves s.radioStandby :=
  h.frame (by simp)

theorem judgeLane {n : Fin 16} {f : Judge → Judge} (h : s₀.Preserves s) : s₀.Preserves (s.judgeLane n f) := by
  dsimp only [State.judgeLane]
  split
  · exact h.judgeChans
  · exact h

theorem slowTick (h : s₀.Preserves s) : s₀.Preserves s.slowTick :=
  h.frame (by simp)

theorem countN {b : Block} {name : String} {n : Nat} (h : s₀.Preserves s) : s₀.Preserves (s.countN b name n) :=
  h.frame (by simp)

theorem airRx {n : Fin 16} {psdu : Nat} (h : s₀.Preserves s) : s₀.Preserves (s.airRx n psdu) :=
  h.bytes.judgeLane

theorem coexRise {high : Bool} {air : Ticks} {c : Option Claim} (h : s₀.Preserves s) :
    s₀.Preserves (s.coexRise high air c) :=
  h.frame (by simp)

theorem calSettled {b : Band} {temp : Int} (h : s₀.Preserves s) : s₀.Preserves (s.calSettled b temp) :=
  h.frame (by simp)

theorem storeDrive {tx : Tx} (h : s₀.Preserves s) : s₀.Preserves (s.storeDrive tx) :=
  h.frame (by simp)

theorem deaf (h : s₀.Preserves s) : s₀.Preserves s.deaf :=
  h.frame (by simp)

theorem downloadLoss (h : s₀.Preserves s) : s₀.Preserves s.downloadLoss := by
  dsimp only [State.downloadLoss]
  split
  · exact h
  · split
    · exact h.putImg.onImage
    · exact h.onImage

theorem ackReady {x : RxFrame} {admission : Bool} (h : s₀.Preserves s) : s₀.Preserves (s.ackReady x admission) :=
  h.onLane

theorem dcTaken {sd : Side} {b : Band} (h : s₀.Preserves s) : s₀.Preserves (s.dcTaken sd b) := by
  dsimp only [State.dcTaken]
  exact h.draw.onChain

theorem ensureWait (h : s₀.Preserves s) : s₀.Preserves s.ensureWait :=
  h.frame (by simp)

theorem persistAll (h : s₀.Preserves s) : s₀.Preserves s.persistAll :=
  h.each fun _ h => h.persist

theorem dcLoop {sd : Side} (h : s₀.Preserves s) : s₀.Preserves (s.dcLoop sd) :=
  h.onChain.ite h

theorem onPush {id : Nat} {g : PushSess → PushSess} (h : s₀.Preserves s) : s₀.Preserves (s.onPush id g) :=
  h.onFlight

theorem wmFeed {n : Fin 8} {active : Bool} (h : s₀.Preserves s) : s₀.Preserves (s.wmFeed n active) :=
  h.frame (by simp)

theorem evict {i : Nat} (h : s₀.Preserves s) : s₀.Preserves (s.evict i) := by
  dsimp only [State.evict]
  split
  · exact h
  · exact h.freeCode.onRoster

theorem dropPayloads (h : s₀.Preserves s) : s₀.Preserves s.dropPayloads :=
  h.each fun _ h => (h.onLane.ite h)

theorem ackDrop {x : RxFrame} (h : s₀.Preserves s) : s₀.Preserves (s.ackDrop x) :=
  h.onLane

theorem release {n : Fin 16} (h : s₀.Preserves s) : s₀.Preserves (s.release n) :=
  h.onLane

theorem applyDc {sd : Side} (h : s₀.Preserves s) : s₀.Preserves (s.applyDc sd) := by
  dsimp only [State.applyDc]
  exact h.draw.onChain

theorem thaw (h : s₀.Preserves s) : s₀.Preserves s.thaw :=
  h.frame (by simp)

theorem resetPgs (h : s₀.Preserves s) : s₀.Preserves s.resetPgs :=
  h.frame (by simp)

theorem frameSent {k : TxKind} (h : s₀.Preserves s) : s₀.Preserves (s.frameSent k) := by
  dsimp only [State.frameSent]
  split
  · exact h.onFlight
  · exact h.onFlight
  · exact h

theorem bootDue (h : s₀.Preserves s) : s₀.Preserves s.bootDue := by
  dsimp only [State.bootDue]
  split
  · exact (h.onImageOf fun _ => Images.inStep_bootSettle _).ite h
  · exact h

theorem onRes {id : ResId} {f : Res → Res} (h : s₀.Preserves s) : s₀.Preserves (s.onRes id f) :=
  h.frame (by simp)

theorem rouse (h : s₀.Preserves s) : s₀.Preserves s.rouse :=
  h.frame (by simp)

theorem holdGroups {gs : List Nat} {up : Bool} (h : s₀.Preserves s) : s₀.Preserves (s.holdGroups gs up) :=
  h.frame (by simp)

theorem refuseFrame {x : RxFrame} (h : s₀.Preserves s) : s₀.Preserves (s.refuseFrame x).2 :=
  h.ackDrop

theorem setSeen {code : Nat} {reason : Nat} (h : s₀.Preserves s) : s₀.Preserves (s.setSeen code reason) :=
  h.onWake (hm := by exact fun _ ⟨hm, hs, hn⟩ => ⟨hm, hs, Mem.wf_write _ _ hn⟩)

theorem undo {u : Undo} (h : s₀.Preserves s) : s₀.Preserves (s.undo u) := by
  dsimp only [State.undo]
  split
  · exact h.frame ⟨rfl, rfl, rfl, rfl, rfl, rfl, rfl, rfl, rfl⟩
  · exact h.frame ⟨rfl, rfl, rfl, rfl, rfl, rfl, rfl, rfl, rfl⟩
  · exact h.onWake (hm := by exact fun _ ⟨hm, hs, hn⟩ => ⟨hm, Mem.wf_write _ _ hs, hn⟩)
  · exact h.onStore

theorem freeFlightLane {f : Flight} (h : s₀.Preserves s) : s₀.Preserves (s.freeFlightLane f) := by
  dsimp only [State.freeFlightLane]
  split
  · split
    · exact (h.release.ite h)
    · exact h
  · exact h

theorem freeCell {n : Fin 16} (h : s₀.Preserves s) : s₀.Preserves (s.freeCell n) := by
  dsimp only [State.freeCell]
  split
  · exact (h.ite h.release)
  · exact (h.ite h.release)
  · exact h

theorem count {b : Block} {name : String} (h : s₀.Preserves s) : s₀.Preserves (s.count b name) :=
  h.frame (by simp)

theorem cacheLoss (h : s₀.Preserves s) : s₀.Preserves s.cacheLoss := by
  dsimp only [State.cacheLoss]
  exact (h.each fun _ h => h.undo).onStore

theorem freeCells (h : s₀.Preserves s) : s₀.Preserves s.freeCells :=
  h.each fun _ h => h.freeCell

theorem takeBreak (h : s₀.Preserves s) : s₀.Preserves s.takeBreak :=
  h.rouse.onLine.count

theorem sendFaultCount {hd : Handle} (h : s₀.Preserves s) : s₀.Preserves (s.sendFaultCount hd) :=
  h.frame (by simp)

theorem resetBursts (h : s₀.Preserves s) : s₀.Preserves s.resetBursts :=
  h.frame (by simp)

theorem roundLose {n : Nat} (h : s₀.Preserves s) : s₀.Preserves (s.roundLose n) :=
  h.onRound.countN

theorem releaseAll {p : Holder → Bool} (h : s₀.Preserves s) : s₀.Preserves (s.releaseAll p) :=
  h.each fun _ h => (h.release.ite h)

theorem wakeEvent (h : s₀.Preserves s) : s₀.Preserves s.wakeEvent :=
  h.frame (by simp)

theorem losePayloads {b : Block} {name : String} (h : s₀.Preserves s) : s₀.Preserves (s.losePayloads b name) :=
  h.each fun _ h => (h.onLane.count.ite h)

theorem toLastChance {id : Nat} (h : s₀.Preserves s) : s₀.Preserves (s.toLastChance id) := by
  dsimp only [State.toLastChance]
  split
  · exact h
  · exact h.onFlight.ite h.onFlight.onWork.count

theorem takeIndex (h : s₀.Preserves s) : s₀.Preserves s.takeIndex.2 := by
  dsimp only [State.takeIndex]
  split
  · exact h
  · split
    · exact h.evict
    · exact h

theorem setStep {sd : Side} {n : Nat} (h : s₀.Preserves s) : s₀.Preserves (s.setStep sd n) :=
  h.onChain.applyDc

theorem nextBeacon (h : s₀.Preserves s) : s₀.Preserves s.nextBeacon.2 :=
  h.frame (by simp)

theorem countInvalid {n : Fin 16} {from_ : Ticks} {until_ : Ticks} (h : s₀.Preserves s) :
    s₀.Preserves (s.countInvalid n from_ until_) :=
  h.onLane.countN.ite h

theorem strike {id : ResId} (h : s₀.Preserves s) : s₀.Preserves (s.strike id) :=
  h.frame (by simp)

theorem calibrated {temp : Int} (h : s₀.Preserves s) : s₀.Preserves (s.calibrated temp) := by
  dsimp only [State.calibrated]
  exact (h.each fun _ h => h.dcTaken.dcTaken).onRadio

theorem seenBack {what : Option Sending} (h : s₀.Preserves s) : s₀.Preserves (s.seenBack what) := by
  dsimp only [State.seenBack]
  split
  · exact h.onWake (hm := by exact fun _ ⟨hm, hs, hn⟩ => ⟨hm, hs, Mem.wf_orAll _ hn⟩)
  · exact h

theorem dropCapture (h : s₀.Preserves s) : s₀.Preserves s.dropCapture := by
  dsimp only [State.dropCapture]
  split
  · exact h
  · exact (h.release.ite h).onRx

theorem spillCrc {id : Eui} (h : s₀.Preserves s) : s₀.Preserves (s.spillCrc id) :=
  h.frame (by simp)

theorem wmConvert {n : Fin 8} {code : Nat} {excited : Bool} (h : s₀.Preserves s) :
    s₀.Preserves (s.wmConvert n code excited) :=
  h.frame (by simp)

theorem buildHops {mask : Nat} (h : s₀.Preserves s) : s₀.Preserves (s.buildHops mask) :=
  h.frame (by simp)

/-- A cold start empties the queues and tables, and takes the masks from the store (R430). -/
theorem stored (h : s₀.Preserves s) : s₀.Preserves s.stored := by
  have hc := h.cacheLoss.coldRoster
  refine ⟨hc.pending, hc.now, hc.part, fun _ => ?_, fun _ => ?_, fun hm => ?_, fun _ => ?_, fun _ => ?_, fun _
      => ?_, hc.image⟩
  · exact ⟨Nat.zero_le _, Nat.zero_le _⟩
  · exact Nat.zero_le _
  · obtain ⟨-, hs, -⟩ := hc.masks hm
    exact ⟨Mem.wf_writeAll _ hs, Mem.wf_writeAll _ hs, rfl⟩
  · exact ⟨Nat.zero_le _, Nat.zero_le _, Nat.zero_le _⟩
  · exact Nat.zero_le _
  · exact Nat.zero_le _

theorem resolve {l : List Placed} (h : s₀.Preserves s) : s₀.Preserves (s.resolve l).2 :=
  h.frame (by simp)

theorem planFlood {f : Flood} (h : s₀.Preserves s) : s₀.Preserves (s.planFlood f) := by
  dsimp only [State.planFlood]
  exact h.ite h.drawTo.onRoster

theorem takenSlot (h : s₀.Preserves s) : s₀.Preserves s.takenSlot :=
  h.frame (by simp)

theorem newFlight {f : Flight} (h : s₀.Preserves s) : s₀.Preserves (s.newFlight f).2 := by
  dsimp only [State.newFlight]
  split
  next ht =>
    have hw : s₀.Preserves (s.onWork fun w => { w with
        nextFlight := if s.work.nextFlight = 65535 then 1 else s.work.nextFlight + 1
        table := w.table ++ [{ f with id := s.work.nextFlight, nextTry := s.now }] }) :=
      h.onWorkOf fun ⟨_, hw, hr⟩ => ⟨by simpa using ht, hw, hr⟩
    exact hw.toLastChance.ite hw
  next =>
    split
    next hlt =>
      dsimp only
      refine h.onWorkOf ?_
      exact fun ⟨ht, _, hr⟩ => ⟨ht, by simpa using hlt, hr⟩
    next => exact h.count

theorem nextTx {i : Nat} (h : s₀.Preserves s) : s₀.Preserves (s.nextTx i).2 := by
  dsimp only [State.nextTx]
  split
  · exact h
  · exact (h.count.ite_snd h.onEntry)

theorem bufDrop (h : s₀.Preserves s) : s₀.Preserves s.bufDrop :=
  h.onRound.count

theorem lineEdge (h : s₀.Preserves s) : s₀.Preserves s.lineEdge :=
  h.onLine.wakeEvent.ite h.onLine

theorem seenPut {f : Frame} (h : s₀.Preserves s) : s₀.Preserves (s.seenPut f) := by
  dsimp only [State.seenPut]
  split
  next hlt => exact h.onRosterOf fun _ => by simpa [Roster.fits] using hlt
  next => exact (h.onRosterOf fun _ => by simp only [Roster.fits, List.length_cons, List.length_take]; omega).count

theorem dirPut {id : Eui} {digest : BitVec 64} {seq : Nat} (h : s₀.Preserves s) :
    s₀.Preserves (s.dirPut id digest seq) :=
  h.frame (by simp)

theorem authFailed (h : s₀.Preserves s) : s₀.Preserves s.authFailed :=
  h.count.onLineOf fun hl => by (repeat' split) <;> exact hl

theorem openImage {hd : Hdr} {r : ImageRef} {len : Nat} (h : s₀.Preserves s) :
    s₀.Preserves (s.openImage hd r len) := by
  dsimp only [State.openImage]
  exact h.onStore.putImg.setStage.imageBy.onImage

theorem scheduleBurst {code : Nat} {reason : Nat} {p : BurstFor} (h : s₀.Preserves s) :
    s₀.Preserves (s.scheduleBurst code reason p) :=
  h.frame (by simp)

theorem hostDeaf (h : s₀.Preserves s) : s₀.Preserves s.hostDeaf :=
  h.onLine.ite h

theorem settle {sd : Side} (h : s₀.Preserves s) : s₀.Preserves (s.settle sd) :=
  h.onBr

theorem openLine (h : s₀.Preserves s) : s₀.Preserves s.openLine :=
  h.onLine.hostDeaf.ite h.onLine

theorem resetWork (h : s₀.Preserves s) : s₀.Preserves s.resetWork := by
  dsimp only [State.resetWork]
  refine ((h.onWorkOf ?_).onNet).onWakeOf (fun hq => ?_) (fun hm => ?_)
  · exact fun ⟨ht, hw, _⟩ => ⟨by simpa using ht, hw, Nat.zero_le _⟩
  · split <;> exact hq
  · split <;> exact hm

theorem coexOverride (h : s₀.Preserves s) : s₀.Preserves s.coexOverride :=
  h.frame (by simp)

theorem reacqBurst {i : Nat} (h : s₀.Preserves s) : s₀.Preserves (s.reacqBurst i) :=
  h.frame (by simp)

theorem spoilSpan {n : Fin 16} {a : Bool} {b : Bool} {from_ : Ticks} {until_ : Ticks} (h : s₀.Preserves s) :
    s₀.Preserves (s.spoilSpan n a b from_ until_) :=
  h.ite h.countInvalid.onLane

theorem programmed {aud : Bool} {n : Nat} (h : s₀.Preserves s) : s₀.Preserves (s.programmed aud n) :=
  h.frame (by simp)

theorem claimRequest {c : Claim} (h : s₀.Preserves s) : s₀.Preserves (s.claimRequest c) :=
  h.frame (by simp)

theorem admitFlight {i : Nat} (h : s₀.Preserves s) : s₀.Preserves (s.admitFlight i) := by
  dsimp only [State.admitFlight]
  split
  · split
    next he => exact (h.newFlight.of_eq he)
    next he => exact (h.newFlight.of_eq he).onEntry
  · exact h

theorem admitWaiting (h : s₀.Preserves s) : s₀.Preserves s.admitWaiting := by
  dsimp only [State.admitWaiting]
  split
  · exact h
  next ht =>
    split
    · exact h
    next f _ =>
      have hw : s₀.Preserves (s.onWork fun w => { w with
          waiting := w.waiting.filter (fun g => g.id ≠ f.id), table := w.table ++ [{ f with st := .ready }] }) :=
        h.onWorkOf fun ⟨_, hw, hr⟩ => ⟨by simp; omega, (List.length_filter_le _ _).trans hw, hr⟩
      exact hw.toLastChance.ite hw

theorem vauxOff (h : s₀.Preserves s) : s₀.Preserves s.vauxOff :=
  h.onMon.hostDeaf

theorem armBranches (h : s₀.Preserves s) : s₀.Preserves s.armBranches :=
  (h.onWake).each fun _ h => h.onBr.ite (h.settle.ite h.onBr)

theorem programAll {aud : Bool} (h : s₀.Preserves s) : s₀.Preserves (s.programAll aud) :=
  h.frame (by simp)

theorem windowEnd (h : s₀.Preserves s) : s₀.Preserves s.windowEnd :=
  h.frame (by simp)

theorem powerChain {sd : Side} (h : s₀.Preserves s) : s₀.Preserves (s.powerChain sd) :=
  h.onChain.ite (h.ite h.onChain.applyDc)

theorem valid (h : s₀.Preserves s) : s₀.Preserves s.valid := by
  dsimp only [State.valid]
  split
  · exact h
  · exact (h.each fun _ h => h.spoilSpan).onRadio

theorem vauxTripped {code : Nat} (h : s₀.Preserves s) : s₀.Preserves (s.vauxTripped code) :=
  h.count.pushEv.onMon.hostDeaf.onMon.count.pushEv.ite h.count.pushEv.onMon.hostDeaf.onMon

theorem nextTxFor {id : Eui} (h : s₀.Preserves s) : s₀.Preserves (s.nextTxFor id).2 := by
  dsimp only [State.nextTxFor]
  split
  · exact h.nextTx
  · split
    · exact h
    · split
      · exact h.count
      · dsimp only
        exact h.onRoster

theorem chainsOn (h : s₀.Preserves s) : s₀.Preserves s.chainsOn :=
  h.powerChain.powerChain

theorem wmChanged {n : Fin 8} {before : State} (h : s₀.Preserves s) : s₀.Preserves (s.wmChanged n before) :=
  h.frame (by simp)

theorem spoilForced {sd : Side} {n : Fin 16} (h : s₀.Preserves s) : s₀.Preserves (s.spoilForced sd n) :=
  h.spoilSpan

theorem warmService {cause : WarmCause} (h : s₀.Preserves s) : s₀.Preserves (s.warmService cause) := by
  dsimp only [State.warmService]
  exact (h.inService.ite h.inService.enterPower).openLine.buildHops.onTime.onNet.onRoster.onTally

theorem flushCache (h : s₀.Preserves s) : s₀.Preserves s.flushCache :=
  h.frame (by simp)

theorem spoil {n : Fin 16} {a : Bool} {b : Bool} {until_ : Ticks} (h : s₀.Preserves s) :
    s₀.Preserves (s.spoil n a b until_) :=
  h.spoilSpan

theorem trackBranch {sd : Side} (h : s₀.Preserves s) : s₀.Preserves (s.trackBranch sd) := by
  dsimp only [State.trackBranch]
  exact h.onBr.ite (h.draw.onBr.ite h)

theorem roundResume (h : s₀.Preserves s) : s₀.Preserves s.roundResume := by
  dsimp only [State.roundResume]
  split
  · exact (h.ite (h.roundLose.ite h.onRound))
  · exact h

theorem writeParam {obj : Nat} {v : PVal} {src : Nat} {time : Stamp} (h : s₀.Preserves s) :
    s₀.Preserves (s.writeParam obj v src time) :=
  h.frame (by simp)

theorem slotChains (h : s₀.Preserves s) : s₀.Preserves s.slotChains :=
  (h.chainsOn.each fun _ h => h.spoil.onLane).ite h

theorem contactAt {i : Nat} {at_ : Ticks} {t : BitVec 8} {late : Option Int} (h : s₀.Preserves s) :
    s₀.Preserves (s.contactAt i at_ t late) :=
  h.onEntry

theorem fire {tr : Trigger} (h : s₀.Preserves s) : s₀.Preserves (s.fire tr) :=
  h.frame (by simp)

theorem placeCell {slot : Nat} {x : Nat × Cell} {l : List Placed} (h : s₀.Preserves s) :
    s₀.Preserves (s.placeCell slot x l).2 :=
  h.frame (by simp)

theorem applyTables (h : s₀.Preserves s) : s₀.Preserves s.applyTables :=
  h.frame (by simp)

theorem ledgerAt {time : Stamp} {b : LBody} (h : s₀.Preserves s) : s₀.Preserves (s.ledgerAt time b) :=
  h.frame (by simp)

theorem takeLine {hd : Hdr} (h : s₀.Preserves s) : s₀.Preserves (s.takeLine hd) := by
  dsimp only [State.takeLine]
  exact (h.fire.draw.rouse.bytes.wakeEvent.ite h.fire.draw.rouse.bytes).onLine

theorem placeCells {slot : Nat} (h : s₀.Preserves s) : s₀.Preserves (s.placeCells slot).2 :=
  h.frame (by simp)

theorem slotTaken (h : s₀.Preserves s) : s₀.Preserves s.slotTaken :=
  h.frame (by simp)

theorem wakeLedger {l : List WakeRec} (h : s₀.Preserves s) : s₀.Preserves (s.wakeLedger l) :=
  h.frame (by simp)

theorem captureTick (h : s₀.Preserves s) : s₀.Preserves s.captureTick := by
  dsimp only [State.captureTick]
  split
  · exact (h.onRx.ite h)
  · exact h

theorem startRound {q : RoundReq} (h : s₀.Preserves s) : s₀.Preserves (s.startRound q) :=
  h.fire.onWork.onWake.count.scheduleBurst.ite h.fire.onWork.scheduleBurst

theorem track {parent : Eui} {offset : Int} (h : s₀.Preserves s) : s₀.Preserves (s.track parent offset) :=
  h.frame (by simp)

theorem occEdge {wake : Bool} (h : s₀.Preserves s) : s₀.Preserves (s.occEdge wake) :=
  h.frame (by simp)

theorem enterLarder (h : s₀.Preserves s) : s₀.Preserves s.enterLarder :=
  h.frame (by simp)

theorem newRate (h : s₀.Preserves s) : s₀.Preserves s.newRate := by
  dsimp only [State.newRate]
  exact h.fire.onLine

theorem requestRound {code : Nat} {reason : Nat} {sweep : Bool} {chOff : Nat} {byDo : Bool} (h : s₀.Preserves s) :
    s₀.Preserves (s.requestRound code reason sweep chOff byDo).2 := by
  dsimp only [State.requestRound]
  split
  · exact h.takeRoundId.startRound
  · split
    next hlt =>
      dsimp only
      refine h.takeRoundId.onWorkOf ?_
      exact fun ⟨ht, hw, _⟩ => ⟨ht, hw, by simpa [State.takeRoundId] using hlt⟩
    next => exact h

theorem readTemp {temp : Int} (h : s₀.Preserves s) : s₀.Preserves (s.readTemp temp) :=
  h.frame (by simp)

theorem slotSpan {l : List Placed} (h : s₀.Preserves s) : s₀.Preserves (s.slotSpan l).2 :=
  h.setSpan.countN

theorem auditOne {o : Origin} {action : Nat} {object : Nat} {result : Nat} {old : AVal} {new : AVal} (h :
    s₀.Preserves s) : s₀.Preserves (s.auditOne o action object result old new) :=
  h.frame (by simp)

theorem occPeaks (h : s₀.Preserves s) : s₀.Preserves s.occPeaks :=
  h.frame (by simp)

theorem sweepDue {cls : Nat} (h : s₀.Preserves s) : s₀.Preserves (s.sweepDue cls) := by
  dsimp only [State.sweepDue]
  split
  next he => exact (h.onWake.requestRound.of_eq he)
  next he => exact (h.onWake.requestRound.of_eq he).count

theorem spoilAll {a : Bool} {b : Bool} {from_ : Ticks} {samples : Nat} (h : s₀.Preserves s) :
    s₀.Preserves (s.spoilAll a b from_ samples) :=
  h.each fun _ h => h.spoil

theorem sight {x : RxFrame} {hd : Option Handle} {plain : List Byte} (h : s₀.Preserves s) :
    s₀.Preserves (s.sight x hd plain) :=
  h.frame (by simp)

theorem roundCell {c : Cell} (h : s₀.Preserves s) : s₀.Preserves (s.roundCell c) := by
  dsimp only [State.roundCell]
  split
  next he => exact (h.requestRound.of_eq he)
  next he => exact (h.requestRound.of_eq he).count

theorem nextRound (h : s₀.Preserves s) : s₀.Preserves s.nextRound := by
  dsimp only [State.nextRound]
  split
  next hq =>
    refine (h.onWorkOf fun ⟨ht, hw, hr⟩ => ⟨ht, hw, ?_⟩).startRound
    rw [hq, List.length_cons] at hr
    exact Nat.le_of_succ_le hr
  · exact h

theorem lockTo {b : Band} {khz : Nat} {temp : Int} (h : s₀.Preserves s) : s₀.Preserves (s.lockTo b khz temp) :=
  (h.onCal.calSettled.onRadio.onRadio.each fun _ h => (h.onChain.applyDc.ite h)).ite h.onCal.calSettled.onRadio

theorem bind {n : Fin 16} {hd : Holder} {ch : Nat} {rate : Nat} {program : Nat} (h : s₀.Preserves s) :
    s₀.Preserves (s.bind n hd ch rate program) :=
  (h.ite h.onLane).onLane.ite ((h.ite h.onLane).onLane.ite (h.ite h.onLane).onLane.spoil)

theorem bindRound {ns : List (Fin 16)} {cs : List Nat} (h : s₀.Preserves s) :
    s₀.Preserves (Machine.bindRound ns cs s) := by
  induction ns generalizing cs s with
  | nil => exact h
  | cons n ns ih =>
    cases cs with
    | nil => exact h
    | cons c cs => exact ih h.bind

theorem armSweep {reason : Nat} (h : s₀.Preserves s) : s₀.Preserves (s.armSweep reason) :=
  h.fire.fire.onWake.ite h.fire.fire

theorem startValues {cold : Bool} (h : s₀.Preserves s) : s₀.Preserves (s.startValues cold) :=
  h.frame (by simp)

theorem idleTime (h : s₀.Preserves s) : s₀.Preserves s.idleTime :=
  h.frame (by simp)

theorem wmSettle {n : Fin 8} (h : s₀.Preserves s) : s₀.Preserves (s.wmSettle n) :=
  h.frame (by simp)

theorem originate {f : Frame} {reason : Nat} (h : s₀.Preserves s) : s₀.Preserves (s.originate f reason) :=
  h.fire.onRoster.ite h

theorem floodFlight {f : Flight} (h : s₀.Preserves s) (he : s.floodFlight f = some t) : s₀.Preserves t := by
  unfold State.floodFlight at he
  split at he
  · split at he
    · split at he
      next hn =>
        cases he
        exact (h.nextTx.of_eq hn).originate
      · cases he
    · cases he
  · cases he

theorem audit {o : Origin} {action : Nat} {object : Nat} {result : Nat} {old : AVal} {new : AVal} (h :
    s₀.Preserves s) : s₀.Preserves (s.audit o action object result old new) :=
  h.frame (by simp)

theorem startListening (h : s₀.Preserves s) : s₀.Preserves s.startListening :=
  (h.setSpan.each fun _ h => (h.bind.ite h)).ite h

theorem stageNow {r : ImageRef} {st : Stage} (h : s₀.Preserves s) : s₀.Preserves (s.stageNow r st) :=
  h.setStage.audit

theorem coexAfter {off : Ticks} (h : s₀.Preserves s) : s₀.Preserves (s.coexAfter off) := by
  dsimp only [State.coexAfter]
  split
  · exact (h.onRadio.onRadio.ite h.onRadio.onRadio)
  · exact (h.onRadio.onRadio.ite h.onRadio.onRadio)
  · exact h.onRadio.onRadio

theorem joinSender {b : Beacon} {offset : Option Int} (h : s₀.Preserves s) : s₀.Preserves (s.joinSender b offset) :=
  h.frame (by simp)

theorem startFlush {latest : Ticks} (h : s₀.Preserves s) : s₀.Preserves (s.startFlush latest) :=
  h.frame (by simp)

theorem lateRetune {n : Fin 16} {ch : Nat} {rate : Nat} (h : s₀.Preserves s) :
    s₀.Preserves (s.lateRetune n ch rate) :=
  h.release.count.ite h.onLane.bind.onLane

theorem keepLost (h : s₀.Preserves s) : s₀.Preserves s.keepLost := by
  dsimp only [State.keepLost]
  refine State.Preserves.ite (audit ?_) ?_ <;>
  · refine (((h.onTime.onLineOf ?_).onNet).onMon).onPm
    exact fun ⟨he, _⟩ => ⟨he, Nat.zero_le _⟩

theorem moveEvents (h : s₀.Preserves s) : s₀.Preserves s.moveEvents := by
  dsimp only [State.moveEvents]
  refine (h.each fun _ h => h.ledgerAt).onLineOf ?_
  exact fun ⟨_, ha⟩ => ⟨Nat.zero_le _, ha⟩

theorem cclkEdge (h : s₀.Preserves s) : s₀.Preserves s.cclkEdge :=
  h.onTime.dcLoop.dcLoop.occEdge

theorem ledger {b : LBody} (h : s₀.Preserves s) : s₀.Preserves (s.ledger b) :=
  h.frame (by simp)

theorem setFilter {sd : Side} {f : Filter} (h : s₀.Preserves s) : s₀.Preserves (s.setFilter sd f) :=
  h.ite h.onChain.spoilAll

theorem tuned {b : Band} {khz : Nat} {temp : Int} (h : s₀.Preserves s) : s₀.Preserves (s.tuned b khz temp) :=
  h.lockTo.onRx.spoilAll

theorem escalate {i : Item} (h : s₀.Preserves s) : s₀.Preserves (s.escalate i) := by
  cases i <;> dsimp only [State.escalate]
  case keep => exact h.keepLost
  case masks => exact h.onWake (hm := by exact fun _ ⟨_, hs, hn⟩ => ⟨hs, hs, hn⟩)
  case wakeq => exact h.onWake (hf := by exact fun _ _ => Nat.zero_le _)
  case seen => exact h.onWake (hm := by exact fun _ ⟨hm, hs, _⟩ => ⟨hm, hs, rfl⟩)
  case roster => exact h.coldRoster
  case flights => exact h.onWorkOf (by exact fun ⟨_, _, hr⟩ => ⟨Nat.zero_le _, Nat.zero_le _, hr⟩)
  case sched => exact (h.onSched.onFaults.onNet.onRosterOf (by exact fun _ => Nat.zero_le _)).onTally
  case rxbuf => exact h.onRxOf (by exact fun _ => Nat.zero_le _)
  case cache => exact h.onStore.countN
  case events => exact h.onLineOf (by exact fun ⟨_, ha⟩ => ⟨Nat.zero_le _, ha⟩)
  all_goals exact h

theorem moveRadio (h : s₀.Preserves s) : s₀.Preserves s.moveRadio := by
  dsimp only [State.moveRadio]
  refine h.ite ?_
  split
  · exact h
  · exact h.deaf.trans
  · exact h.trans
  · exact h.trans
  · exact h.trans
  · exact h.trans.ite h.deaf.trans
  · exact h.trans
  · exact h.trans.ite h.deaf.trans
  · exact h.ite h.losePayloads.deaf.trans
  · exact h
  · exact h

theorem pushRecord {f : Flight} {p : PushSess} {event : Nat} {o : Option Outcome} (h : s₀.Preserves s) :
    s₀.Preserves (s.pushRecord f p event o) :=
  h.frame (by simp)

theorem pushNote {id : Nat} {event : Nat} (h : s₀.Preserves s) : s₀.Preserves (s.pushNote id event) :=
  h.frame (by simp)

theorem laneTick {n : Fin 16} (h : s₀.Preserves s) : s₀.Preserves (s.laneTick n) := by
  dsimp only [State.laneTick]
  split
  · exact ((h.onLane.count.ite h).lateRetune.ite (h.onLane.count.ite h))
  · exact (h.onLane.count.ite h)

theorem flushEnd (h : s₀.Preserves s) : s₀.Preserves s.flushEnd :=
  h.frame (by simp)

theorem coexEnd {tx : Tx} {off : Ticks} (h : s₀.Preserves s) : s₀.Preserves (s.coexEnd tx off) :=
  h.coexAfter.ite h

theorem warmChecks {failed : List Item} {temp : Int} (h : s₀.Preserves s) :
    s₀.Preserves (s.warmChecks failed temp).2 :=
  (h.startValues.onRadio.each fun _ h => h.escalate).ite (h.startValues.onRadio.each fun _ h => h.escalate).calibrated

theorem answered {x : RxFrame} {i : Nat} (h : s₀.Preserves s) : s₀.Preserves (s.answered x i) := by
  dsimp only [State.answered]
  split
  · exact h.onFlight
  · split
    · split
      · split
        · exact h.onWork.onFlight.onLane
        · exact h.onWork.onLane
      · exact h
    · exact h
  · exact h

theorem pgAsk {g : Fin 4} (h : s₀.Preserves s) : s₀.Preserves (s.pgAsk g).2 :=
  h.frame (by simp)

theorem cutCal {c : CalWhy} (h : s₀.Preserves s) : s₀.Preserves (s.cutCal c) :=
  h.frame (by simp)

theorem send {out : List OutLine} {cc : Bool} {what : Sending} (h : s₀.Preserves s) :
    s₀.Preserves (s.send out cc what) := by
  dsimp only [State.send]
  exact h.draw.onLine.onLine

theorem reply {hd : Hdr} {out : List OutLine} (h : s₀.Preserves s) : s₀.Preserves (s.reply hd out) :=
  h.ite (h.onLine.ite h.send.onLine)

theorem beaconActs {b : Beacon} {offset : Option Int} (h : s₀.Preserves s) : s₀.Preserves (s.beaconActs b offset) :=
  h.frame (by simp)

theorem slotFilters (h : s₀.Preserves s) : s₀.Preserves s.slotFilters :=
  h.setFilter.setFilter

theorem rxTick (h : s₀.Preserves s) : s₀.Preserves s.rxTick :=
  (h.each fun _ h => h.laneTick).captureTick

theorem goTx {tx : Tx} (h : s₀.Preserves s) : s₀.Preserves (s.goTx tx) :=
  h.onRadio.moveRadio

theorem vauxAttempt (h : s₀.Preserves s) : s₀.Preserves s.vauxAttempt :=
  h.fire.onMon.pgAsk.onMon.ite h.fire.onMon.pgAsk.vauxTripped

theorem transmit {tx : Tx} (h : s₀.Preserves s) : s₀.Preserves (s.transmit tx) :=
  h.fire.onRadio.ite h.fire.goTx

theorem runCapture {c : Capture} (h : s₀.Preserves s) : s₀.Preserves (s.runCapture c) :=
  h.onRx.onLane.moveRadio

theorem coexGo {granted : Bool} {w : Tx} (h : s₀.Preserves s) : s₀.Preserves (s.coexGo granted w) :=
  h.ite h.onRadio.goTx

theorem listenOn {n : Fin 16} {hd : Holder} {ch : Nat} {program : Nat} (h : s₀.Preserves s) :
    s₀.Preserves (s.listenOn n hd ch program) := by
  dsimp only [State.listenOn]
  split
  · exact (h.release.ite h).bind.moveRadio
  · exact h.bind.moveRadio

theorem vauxPolicy (h : s₀.Preserves s) : s₀.Preserves s.vauxPolicy :=
  h.onMon.vauxAttempt.ite h

theorem cutChanges (h : s₀.Preserves s) : s₀.Preserves s.cutChanges :=
  h.frame (by simp)

theorem resume (h : s₀.Preserves s) : s₀.Preserves s.resume := by
  dsimp only [State.resume]
  split
  · exact (h.onRadio.transmit.ite h)
  · exact h

theorem exciteFor {n : Fin 8} (h : s₀.Preserves s) : s₀.Preserves (s.exciteFor n).2 :=
  h.frame (by simp)

theorem listenStart {hd : Holder} {d : Ticks} (h : s₀.Preserves s) : s₀.Preserves (s.listenStart hd d) := by
  dsimp only [State.listenStart]
  split
  · exact h.listenOn
  · exact h.count

theorem refuse {hd : Hdr} {v : Verb} {e : Err} {tok : Nat} {obj : Option Nat} (h : s₀.Preserves s) :
    s₀.Preserves (s.refuse hd v e tok obj) :=
  h.onLine.count.ite h.onLine.reply

theorem recordLine {o : Origin} {hd : Hdr} {v : Verb} {d : Done} (h : s₀.Preserves d.s) :
    s₀.Preserves (State.recordLine o hd v d) := by
  dsimp only [State.recordLine]
  split
  · exact h.audit
  · exact h.audit
  · split
    · exact h.draw.audit
    · exact h
  · exact h

theorem finish {o : Origin} {hd : Hdr} {v : Verb} {d : Done} (h : s₀.Preserves d.s) :
    s₀.Preserves (State.finish o hd v d) := by
  dsimp only [State.finish]
  split
  · exact h.recordLine.refuse
  · exact h.recordLine.reply

/-- A line without its checksum leaves the state it was judged in but for the free values it drew (log 111). -/
theorem judge {hd : Hdr} {v : Verb} {run : State → Done} (h : s₀.Preserves s)
    (hr : ∀ {s}, s₀.Preserves s → s₀.Preserves (run s).s) : s₀.Preserves (s.judge hd v run) := by
  dsimp only [State.judge]
  split
  · exact finish (d := { run s with s := { s with fresh := (run s).s.fresh }, err := some (.check, 0), out := [] })
      (h.frame ⟨rfl, rfl, rfl, rfl, rfl, rfl, rfl, rfl, rfl⟩)
  · exact (hr h).finish

theorem takeVerb {c : Option Instr} {hd : Hdr} {v : Verb} {bcast answersChallenge : Bool} {run : State → Done}
    (h : s₀.Preserves s) (hr : ∀ {s}, s₀.Preserves s → s₀.Preserves (run s).s) :
    s₀.Preserves (s.takeVerb c hd v bcast answersChallenge run) := by
  dsimp only [State.takeVerb]
  refine ite (ite h.takeLine ?_) h.lineEdge
  split
  · exact h.takeLine.beginLine.onStore.ite (h.takeLine.beginLine.judge hr)
  · exact h.takeLine.beginLine.judge hr

theorem verb {hd : Hdr} {v : Verb} {bcast answersChallenge : Bool} {run : State → Done} (h : s₀.Preserves s)
    (hr : ∀ {s}, s₀.Preserves s → s₀.Preserves (run s).s) : s₀.Preserves (s.verb hd v bcast answersChallenge run) :=
  h.takeVerb hr

theorem change {c : Instr} {hd : Hdr} {v : Verb} {bcast answersChallenge : Bool} {run : State → Done} (h :
    s₀.Preserves s)
    (hr : ∀ {s}, s₀.Preserves s → s₀.Preserves (run s).s) : s₀.Preserves (s.change c hd v bcast
        answersChallenge run) :=
  h.takeVerb hr

theorem report {hd : Hdr} {obj : Nat} {l : Level} {work : State → Done} (h : s₀.Preserves s)
    (hr : ∀ {s}, s₀.Preserves s → s₀.Preserves (work s).s) : s₀.Preserves (s.report hd obj l work) :=
  h.verb fun h => h.needs (hr h)

end State.Preserves

theorem State.Kept.imageVerb {s₀ s : State} {hd : Hdr} {run : State → Done} (h : s₀.Preserves s)
    (hr : ∀ {s}, s₀.Preserves s → s₀.Preserves (run s).s) : s₀.Kept (s.imageVerb hd run) :=
  .next (h.verb fun h => h.needs (hr h))

theorem State.Kept.tallyDo {s₀ s : State} {hd : Hdr} {run : State → Done} (h : s₀.Preserves s)
    (hr : ∀ {s}, s₀.Preserves s → s₀.Preserves (run s).s) : s₀.Kept (s.tallyDo hd run) :=
  .next (h.verb fun h => h.needs (hr h))

namespace State.Preserves
variable {s₀ s t : State}

theorem queue {e : Ev} (h : s₀.Preserves s) : s₀.Preserves (s.queue e) :=
  h.pushEv.vauxPolicy

theorem lineTick (h : s₀.Preserves s) : s₀.Preserves s.lineTick := by
  dsimp only [State.lineTick]
  split
  · split
    · split
      · exact (((h.newRate.ite h).onLine.ite (h.newRate.ite h)).onLine.queue.ite ((h.newRate.ite h).onLine.ite
          (h.newRate.ite h)))
      · exact ((h.onLine.ite h).onLine.queue.ite (h.onLine.ite h))
    · split
      · exact ((h.newRate.ite h).onLine.queue.ite (h.newRate.ite h))
      · exact (h.onLine.queue.ite h)
  · split
    · split
      · exact ((h.newRate.ite h).onLine.ite (h.newRate.ite h))
      · exact (h.onLine.ite h)
    · split
      · exact (h.newRate.ite h)
      · exact h

theorem ledgerLoss {gone : List LRec} (h : s₀.Preserves s) : s₀.Preserves (s.ledgerLoss gone) :=
  h.ite h.queue

theorem spillFull (h : s₀.Preserves s) : s₀.Preserves s.spillFull :=
  h.count.ite h.count.onRoster.queue

theorem cellarExit {failed : List Item} (h : s₀.Preserves s) : s₀.Preserves (s.cellarExit failed) :=
  ((h.each fun _ h => h.escalate).countN.onRoster.onNet.queue.ite (h.each fun _ h =>
      h.escalate).countN.onRoster.onNet).ite (h.each fun _ h => h.escalate).countN.onRoster

theorem found {i : Nat} (h : s₀.Preserves s) : s₀.Preserves (s.found i) :=
  h.onNet.releaseAll.count.queue.ite h

theorem listenTake {hd : Holder} {until_ : Ticks} (h : s₀.Preserves s) : s₀.Preserves (s.listenTake hd until_) := by
  dsimp only [State.listenTake]
  split
  · exact h
  · split
    · exact h.listenOn
    · exact h

theorem wmClear {n : Fin 8} (h : s₀.Preserves s) : s₀.Preserves (s.wmClear n) :=
  (h.onWm.onMon.ite h.onWm).queue

theorem driveWake (h : s₀.Preserves s) : s₀.Preserves s.driveWake :=
  h.onWake.vauxPolicy.ite h.onWake

theorem coexTick (h : s₀.Preserves s) : s₀.Preserves s.coexTick := by
  dsimp only [State.coexTick]
  split
  · split
    · exact ((((h.onRadio.ite h).aheadGone.onRadio.ite (h.onRadio.ite h).aheadGone).coexGo.count.ite
        ((h.onRadio.ite h).aheadGone.onRadio.ite (h.onRadio.ite h).aheadGone)).ite ((h.onRadio.ite
        h).aheadGone.onRadio.ite (h.onRadio.ite h).aheadGone))
    · exact (((h.onRadio.ite h).aheadGone.coexGo.count.ite (h.onRadio.ite h).aheadGone).ite (h.onRadio.ite
        h).aheadGone)
  · split
    · exact ((h.onRadio.ite h).aheadGone.onRadio.ite (h.onRadio.ite h).aheadGone)
    · exact (h.onRadio.ite h).aheadGone

theorem lineFault {k : LineFaultKind} (h : s₀.Preserves s) : s₀.Preserves (s.lineFault k) :=
  h.onLine.count.queue

theorem archiveRoom (h : s₀.Preserves s) : s₀.Preserves s.archiveRoom :=
  h.onStore.ite h.onStore.countN.ledgerLoss

theorem floorSaid {id : ResId} (h : s₀.Preserves s) : s₀.Preserves (s.floorSaid id) :=
  h.count.queue

theorem heardFrom {i : Nat} (h : s₀.Preserves s) : s₀.Preserves (s.heardFrom i) :=
  h.onEntry.onRes.queue.ite h.onEntry

theorem queueAll {l : List Ev} (h : s₀.Preserves s) : s₀.Preserves (s.queueAll l) :=
  h.each fun _ h => h.queue

theorem setNet {st : NetState} (h : s₀.Preserves s) : s₀.Preserves (s.setNet st) :=
  h.ite h.onNet.audit.queue

theorem foldNow {rule : Option SelfRule} {target : Option Nat} (h : s₀.Preserves s) :
    s₀.Preserves (s.foldNow rule target) := by
  dsimp only [State.foldNow]
  split
  · exact h.onTime.count.ledger.audit.queue
  · exact h.onTime.count.ledger.queue

theorem revertImage (h : s₀.Preserves s) : s₀.Preserves s.revertImage :=
  (h.onImage.writeBoot fun _ => Nat.lt_succ_self _).stageNow.count.queue

theorem rosterCheck (h : s₀.Preserves s) : s₀.Preserves s.rosterCheck :=
  h.onRoster.queue.ite h

theorem endFlight {id : Nat} {o : Outcome} (h : s₀.Preserves s) : s₀.Preserves (s.endFlight id o) := by
  unfold State.endFlight
  split
  · exact h
  next f _ =>
    dsimp only
    have hw : s₀.Preserves ((s.freeFlightLane f).onWork fun w => { w with
        table := w.table.filter (fun g => g.id ≠ id), waiting := w.waiting.filter (fun g => g.id ≠ id) }) :=
      h.freeFlightLane.onWorkOf fun ⟨ht, hw, hr⟩ =>
        ⟨(List.length_filter_le _ _).trans ht, (List.length_filter_le _ _).trans hw, hr⟩
    refine State.Preserves.rosterCheck (admitWaiting (count (queue (ledger ?_))))
    split
    · refine pushRecord ?_
      split
      · split
        · exact hw.holdGroups.holdGroups.onEntry
        · exact hw
      · exact hw
    · split
      · split
        · exact hw.holdGroups.holdGroups.onEntry
        · exact hw
      · exact hw

theorem pushOver {id : Nat} (h : s₀.Preserves s) : s₀.Preserves (s.pushOver id) := by
  dsimp only [State.pushOver]
  split
  · exact h
  · exact (h.endFlight.ite (h.endFlight.ite h))

theorem pushAcked {f : Flight} (h : s₀.Preserves s) : s₀.Preserves (s.pushAcked f) := by
  dsimp only [State.pushAcked]
  split
  · exact h.count.onFlight.onPush
  · exact ((h.count.onFlight.onPush.pushNote.ite h.count.onFlight.onPush).pushNote.ite
      (h.count.onFlight.onPush.pushNote.ite h.count.onFlight.onPush)).onPush.pushOver

theorem expire {id : Nat} {o : Outcome} (h : s₀.Preserves s) : s₀.Preserves (s.expire id o) := by
  dsimp only [State.expire]
  split
  · exact h
  · exact (h.ite ((h.onFlight.ite h).ite ((h.onFlight.ite h.toLastChance).ite h.endFlight)))

theorem stepNow {ns : Int} {o : Option Origin} (h : s₀.Preserves s) : s₀.Preserves (s.stepNow ns o) := by
  dsimp only [State.stepNow]
  refine queue ?_
  split
  · refine audit ((h.onTime.onWorkOf ?_).onRoster.onNet.count)
    exact fun ⟨ht, hw, hr⟩ => ⟨by simpa using ht, by simpa using hw, hr⟩
  · refine (h.onTime.onWorkOf ?_).onRoster.onNet.count
    exact fun ⟨ht, hw, hr⟩ => ⟨by simpa using ht, by simpa using hw, hr⟩

theorem radioTick (h : s₀.Preserves s) : s₀.Preserves s.radioTick :=
  h.moveRadio.ite (h.resume.ite h)

theorem afterAttempt {id : Nat} (h : s₀.Preserves s) : s₀.Preserves (s.afterAttempt id) := by
  dsimp only [State.afterAttempt]
  split
  · exact h.fire
  · exact (h.fire.endFlight.ite (h.fire.endFlight.ite (h.fire.endFlight.ite (h.fire.endFlight.ite
      (h.fire.toLastChance.ite h.fire)))))

theorem restSaid {id : ResId} {period : Ticks} (h : s₀.Preserves s) : s₀.Preserves (s.restSaid id period) :=
  h.count.queue

theorem loseEnum {n : Nat} (h : s₀.Preserves s) : s₀.Preserves (s.loseEnum n) :=
  (h.onLineOf fun ⟨he, _⟩ => ⟨he, Nat.zero_le _⟩).audit.lineFault

theorem toCounter (h : s₀.Preserves s) : s₀.Preserves s.toCounter :=
  h.onTime.queue

theorem applyTime (h : s₀.Preserves s) : s₀.Preserves s.applyTime.2 := by
  rw [State.applyTime]
  have hu := h.onTime (f := fun t => { t with ask := none })
  generalize s.onTime (fun t => { t with ask := none }) = u at hu
  have hset (ns : Int) (t : Nat) : s₀.Preserves (if u.time.counterMode then (true, u.foldNow none (some t))
      else (true, u.stepNow ns none)).2 := by
    split <;> dsimp only
    · exact hu.foldNow
    · exact hu.stepNow
  have hcounter : s₀.Preserves (if u.time.counterMode then u else u.toCounter) := hu.ite hu.toCounter
  rcases s.time.ask with _ | ⟨sec, n⟩ | _ <;> dsimp only
  on_goal 1 => generalize u = v at hu ⊢
  on_goal 2 =>
    replace hu := hset (((sec * 1000000000 + n : Nat) : Int) - u.readingNs) ((sec * 1000000000 + n) * 2 ^ 39)
    generalize Prod.snd (if u.time.counterMode then _ else _) = v at hu ⊢
  on_goal 3 =>
    replace hu := hcounter
    generalize (if u.time.counterMode then u else u.toCounter) = v at hu ⊢
  all_goals
    clear hset hcounter
    cases v.time.fold with
    | none =>
      dsimp only
      split <;> dsimp only
      · exact hu.stepNow
      · exact hu
    | some r =>
      have hf : s₀.Preserves (if v.time.counterMode then v.foldNow (some r) none
          else v.onTime fun t => { t with fold := none }) := hu.foldNow.ite hu.onTime
      dsimp only at hf ⊢
      generalize (if v.time.counterMode then _ else _ : State) = w at hf ⊢
      split <;> dsimp only
      · exact hf.stepNow
      · exact hf

theorem retire {o : Origin} {id : ResId} {cause : Nat} (h : s₀.Preserves s) : s₀.Preserves (s.retire o id cause) :=
  h.ite h.onRes.audit.queue.count

theorem fold {sd : Side} {det : WakeDet} {code : Nat} {reason : Nat} (h : s₀.Preserves s) :
    s₀.Preserves (s.fold sd det code reason) :=
  (h.setSeen.onWake.count.queue.ite h.setSeen.onWake.count).armSweep.driveWake.wakeEvent

theorem wmAct {n : Fin 8} (h : s₀.Preserves s) : s₀.Preserves (s.wmAct n) :=
  h.onWm.count.queue.wakeEvent

theorem join (h : s₀.Preserves s) : s₀.Preserves s.join := by
  dsimp only [State.join]
  split
  · exact h
  · exact h.onNet.setNet

theorem burstWork {p : BurstFor} (h : s₀.Preserves s) : s₀.Preserves (s.burstWork p) := by
  dsimp only [State.burstWork]
  split
  · exact h
  · exact h.onWork
  · exact h.onWork
  · exact h.listenStart.onWork
  · exact h.listenStart.onNet
  · split
    · exact h.onFlight.listenOn
    · exact h.onFlight

theorem bufCheck (h : s₀.Preserves s) : s₀.Preserves s.bufCheck :=
  h.onRx.queue.ite (h.onRx.queue.ite h)

theorem vauxAnswer {e : Option Err} {w : String} (h : s₀.Preserves s) : s₀.Preserves (s.vauxAnswer e w) := by
  dsimp only [State.vauxAnswer]
  split
  · exact h
  · refine finish ?_
    dsimp only
    exact h.onMon

theorem retireBlock {o : Origin} {block : Nat} {cause : Nat} (h : s₀.Preserves s) :
    s₀.Preserves (s.retireBlock o block cause) :=
  h.ite (h.retire.onStore.ite h.retire.onStore.queue)

theorem listenLc {q : LcSeq} (h : s₀.Preserves s) : s₀.Preserves (s.listenLc q) := by
  dsimp only [State.listenLc]
  split
  · exact h.listenTake
  · exact h

theorem loseReply (h : s₀.Preserves s) : s₀.Preserves s.loseReply :=
  h.ite h.onLine.lineFault

theorem giveIndex {i : Nat} {e : Entry} (h : s₀.Preserves s) : s₀.Preserves (s.giveIndex i e) :=
  (h.takeCode.ite h.takeCode.fire).onRoster.count.queue.ite (h.takeCode.ite h.takeCode.fire).onRoster.writeMask

theorem reinstate {o : Origin} {id : ResId} (h : s₀.Preserves s) : s₀.Preserves (s.reinstate o id) :=
  h.onRes.audit.queue.count

theorem lcNote {i : Nat} {attempt : Nat} {r : LcResult} (h : s₀.Preserves s) : s₀.Preserves (s.lcNote i attempt r) :=
  h.each fun _ h => h.onFlight.queue

theorem coldMode {wasNormal : Bool} (h : s₀.Preserves s) : s₀.Preserves (s.coldMode wasNormal) :=
  h.audit.queue.ite h

theorem restAerial {sd : Side} (h : s₀.Preserves s) : s₀.Preserves (s.restAerial sd) :=
  h.ite h.onRadio.restSaid

theorem listenReacq {q : Reacq} (h : s₀.Preserves s) : s₀.Preserves (s.listenReacq q) :=
  h.listenTake.ite h

theorem coexHigh (h : s₀.Preserves s) : s₀.Preserves s.coexHigh :=
  h.onRadio.queue.ite h.onRadio

theorem listenWaits (h : s₀.Preserves s) : s₀.Preserves s.listenWaits :=
  (h.each fun _ h => h.listenLc).each fun _ h => h.listenReacq

theorem unattached (h : s₀.Preserves s) : s₀.Preserves s.unattached :=
  h.count.ite h.count.onRoster.queue

theorem take {r : Option Nat} (h : s₀.Preserves s) : s₀.Preserves (execWakeSeen.take s r).s := by
  exact good (h.onWake (hm := by exact fun _ ⟨hm, hs, hn⟩ => ⟨hm, hs, Mem.wf_seenRest r
      hn⟩)).onLine.driveWake.rosterCheck

theorem wclkEdge (h : s₀.Preserves s) : s₀.Preserves s.wclkEdge := by
  dsimp only [State.wclkEdge]
  refine driveWake (occEdge (trackBranch (trackBranch ?_)))
  split <;> split
  · exact h.count.count
  · exact h.count
  · exact h.count
  · exact h

theorem branchLimit {sd : Side} (h : s₀.Preserves s) : s₀.Preserves (s.branchLimit sd) :=
  (h.floorSaid.ite h.retire.onBr).ite h

theorem abandon (h : s₀.Preserves s) : s₀.Preserves s.abandon := by
  dsimp only [State.abandon]
  have hs := h.onLine (f := fun l => { l with sending := none, tx := [], sendEnd := min l.sendEnd s.now })
  split
  · exact hs.seenBack.driveWake
  · refine hs.onLineOf fun ⟨he, ha⟩ => ?_
    split
    next hlt => exact ⟨hlt, ha⟩
    next => exact ⟨he, ha⟩
  · exact hs.onLine
  · exact hs

theorem acceptEntry {i : Nat} {l : BitVec 32} {w : BitVec 32} {x : RxFrame} (h : s₀.Preserves s) :
    s₀.Preserves (s.acceptEntry i l w x) :=
  ((h.onEntry.persistRx.ite h.onEntry).ite (h.onEntry.persistRx.ite h.onEntry).contactAt).heardFrom.found

theorem unlatch {n : Fin 8} (h : s₀.Preserves s) : s₀.Preserves (s.unlatch n) :=
  (h.ite h.onWm).wmClear.ite (h.ite h.onWm)

theorem singleCell {id : Nat} {sub : Nat} {k : Nat} {f : Frame} {r : RxInfo} (h : s₀.Preserves s) :
    s₀.Preserves (s.singleCell id sub k f r).2 := by
  dsimp only [State.singleCell]
  split
  · exact h
  · split
    · exact h.airRx.bufDrop
    next hlt =>
      refine (h.airRx.onRxOf ?_).bufCheck
      exact fun _ => by simp only [Rx.fits, List.length_append, List.length_singleton]; omega

theorem recordUnattached {e : Entry} {l : BitVec 32} {w : BitVec 32} {x : RxFrame} {plain : List Byte}
    {admission : Bool} (h : s₀.Preserves s) : s₀.Preserves (s.recordUnattached e l w x plain admission).2 :=
  h.onRoster.unattached.sight.ackReady

theorem loader {selfTest : Bool} (h : s₀.Preserves s) : s₀.Preserves (s.loader selfTest) := by
  dsimp only [State.loader]
  have hw := (h.onImage (f := fun m => if s.image.boot.boots = 0 then m.swap else m)
    fun _ hi => by split <;> exact hi).writeBoot (f := fun b => { b with seq := b.seq + 1, boots := b.boots + 1 })
    fun _ => Nat.lt_succ_self _
  exact h.ite (h.revertImage.ite (hw.revertImage.ite (hw.fire.onImage)))

/-- A word is recorded where the queue has room (R144). -/
theorem record {sd : Side} {det : WakeDet} {d : Decoded} {syncErr : Nat} {rssi : Int} (h : s₀.Preserves s)
    (hq : s₀.wake.fits → s.wake.queue.length < 16) : s₀.Preserves (s.record sd det d syncErr rssi) := by
  have hs := h.setSeen (code := d.code) (reason := d.reason)
  refine State.Preserves.wakeEvent (driveWake ⟨hs.pending, hs.now, hs.part, hs.line, fun hf => ?_, hs.masks,
      hs.work, hs.rx,
    hs.roster, hs.image⟩)
  have := hq hf
  simp only [State.onWake_wake, Wake.fits, length_pushRec, State.setSeen]
  omega

theorem channel {o : Origin} {r : ResId} (h : s₀.Preserves s) : s₀.Preserves (State.reinstateAny.channel o r s) :=
  h.reinstate.chanCancel.ite h.reinstate.chanChange

theorem markUnreach {i : Nat} (h : s₀.Preserves s) : s₀.Preserves (s.markUnreach i) :=
  h.onEntry.count.queue.draw.onRes.count.queue.each fun _ h => h.expire

theorem deadlines (h : s₀.Preserves s) : s₀.Preserves s.deadlines :=
  h.each fun _ h => h.expire

theorem endRound (h : s₀.Preserves s) : s₀.Preserves s.endRound := by
  dsimp only [State.endRound]
  split
  · exact h
  · refine rosterCheck (moveRadio (nextRound ?_))
    split
    · exact h.releaseAll.onWork.ledger.onWake.queue
    · exact h.releaseAll.onWork.ledger.queue

theorem adoptChannel {eff : Nat} {set : Nat} {id : ResId} (h : s₀.Preserves s) :
    s₀.Preserves (s.adoptChannel eff set id) :=
  (h.count.ite h.retire.chanChange).ite (h.reinstate.chanChange.ite h)

theorem pushReport {i : Nat} {plain : List Byte} (h : s₀.Preserves s) : s₀.Preserves (s.pushReport i plain) := by
  dsimp only [State.pushReport]
  split
  · split
    · exact h
    · exact ((h.onPush.pushNote.endFlight.ite h.onPush.pushNote).ite ((h.onPush.count.pushNote.endFlight.ite
        h.onPush.count.pushNote).ite h))
  · exact h

theorem loseContact {hd : Handle} (h : s₀.Preserves s) : s₀.Preserves (s.loseContact hd) := by
  dsimp only [State.loseContact]
  split
  · exact ((h.count.queue.onNet.setNet.ite h.count.queue.onNet).ite (h.count.queue.onNet.setNet.ite
      h.count.queue.onNet).onNet.reacqBurst)
  · exact (h.count.queue.onNet.ite h.count.queue.onNet.onNet.reacqBurst)

theorem reacqFailed {i : Nat} (h : s₀.Preserves s) : s₀.Preserves (s.reacqFailed i) :=
  h.onNet.onEntry.fire.markUnreach.ite h.onNet.onEntry.fire

theorem retirePeer {o : Origin} {i : Nat} {cause : Nat} (h : s₀.Preserves s) :
    s₀.Preserves (s.retirePeer o i cause) := by
  dsimp only [State.retirePeer]
  split
  · exact h
  · exact (h.ite (h.onEntry.ite (h.onEntry.writeMask.retire.each fun _ h => h.endFlight)))

theorem relatch {n : Fin 8} (h : s₀.Preserves s) : s₀.Preserves (s.relatch n) :=
  h.onWm.wmAct.ite (h.onWm.wmClear.ite h.onWm)

theorem restFor {id : ResId} {period : Ticks} (h : s₀.Preserves s) : s₀.Preserves (s.restFor id period) :=
  h.onRes.restSaid

theorem reinstateAny {o : Origin} {r : ResId} (h : s₀.Preserves s) : s₀.Preserves (s.reinstateAny o r) := by
  dsimp only [State.reinstateAny]
  split
  · exact h.channel
  · exact h.channel
  · exact h.reinstate.onBr.settle.ite h.reinstate.onBr.onBr
  · exact h.reinstate
  · exact h
  · exact h.reinstate.onStore
  · split
    · exact h.reinstate.onEntry.writeMask
    · exact h.reinstate

theorem closeRecord {r : WakeRec} (h : s₀.Preserves s) : s₀.Preserves (s.closeRecord r) := by
  have hc := (h.onWake (f := fun w => { w with
    queue := replaceFirst (fun x => x.seq == r.seq) (fun x => { x with isOpen := false }) w.queue })
    (fun _ hq => by simpa only [Wake.fits, length_replaceFirst] using hq)).count (b := .matcher)
    (name := "matcher.single." ++ sideText r.first)
  exact hc.fire.onBr.branchLimit.ite hc

theorem rejected {id : Eui} {b : Block} {name : String} (h : s₀.Preserves s) :
    s₀.Preserves (s.rejected id b name) := by
  dsimp only [State.rejected]
  split
  · exact h.count
  · exact (h.count.onEntry.retirePeer.ite h.count.onEntry)

theorem clockEdges (h : s₀.Preserves s) : s₀.Preserves s.clockEdges :=
  (((h.cclkEdge.ite h).slowTick.ite (h.cclkEdge.ite h)).onPm.ite ((h.cclkEdge.ite h).slowTick.ite
      (h.cclkEdge.ite h))).wclkEdge.ite (((h.cclkEdge.ite h).slowTick.ite (h.cclkEdge.ite h)).onPm.ite
      ((h.cclkEdge.ite h).slowTick.ite (h.cclkEdge.ite h)))

theorem activate {i : Nat} {e : Entry} (h : s₀.Preserves s) : s₀.Preserves (s.activate i e) :=
  h.giveIndex.persist.queue

theorem retireOrRest {id : ResId} {cause : Nat} (h : s₀.Preserves s) : s₀.Preserves (s.retireOrRest id cause) :=
  (h.floorSaid.ite h.floorSaid.restFor).ite h.retire

theorem bistRetire {b : Bist} (h : s₀.Preserves s) : s₀.Preserves (s.bistRetire b) :=
  (h.each fun _ h => (h.ite h.retireOrRest)).each fun _ h => (h.ite h.retireOrRest)

theorem judgeWord {sd : Side} {det : WakeDet} {d : Decoded} {syncErr : Nat} {rssi : Int} (h : s₀.Preserves s) :
    s₀.Preserves (s.judgeWord sd det d syncErr rssi) := by
  dsimp only [State.judgeWord]
  refine h.count.ite (h.count.ite ?_)
  split
  · exact h.count
  · exact (h.onWakeOf (fun hq => by simpa only [Wake.fits, length_replaceFirst] using hq) id).count
  · exact h
  · split
    · exact h.count
    · exact h
    · split
      next hlt => exact h.record fun _ => hlt
      next =>
        split
        next x hx =>
          have hne : 0 < s.wake.queue.length := by
            rw [List.length_pos_iff]
            rintro he
            simp [State.lastOfB, he] at hx
          refine ((h.onWakeOf (fun hq => ?_) id).record fun hf => ?_).fold
          · simp only [Wake.fits, List.length_dropLast] at hq ⊢; omega
          · have := h.wake hf
            simp only [State.onWake_wake, List.length_dropLast, Wake.fits] at this ⊢
            omega
        next => exact h.fold

theorem collide {what : Sending} (h : s₀.Preserves s) : s₀.Preserves (s.collide what) := by
  dsimp only [State.collide]
  split
  · exact h.abandon.count.onLine.loseEnum
  · exact h.abandon.count.onLine.loseReply
  · exact h.abandon.count.onLine.loseReply
  · exact h.abandon.count.onLine

theorem failAttempt {id : Nat} {silence : Bool} (h : s₀.Preserves s) : s₀.Preserves (s.failAttempt id silence) := by
  dsimp only [State.failAttempt]
  split
  · exact h
  · exact ((h.freeFlightLane.drawTo.onFlight.onEntry.ite h.freeFlightLane.drawTo.onFlight).fire.markUnreach.ite
      (h.freeFlightLane.drawTo.onFlight.onEntry.ite h.freeFlightLane.drawTo.onFlight).fire).afterAttempt

theorem calledAttempt {f : Flight} (h : s₀.Preserves s) : s₀.Preserves (s.calledAttempt f) := by
  dsimp only [State.calledAttempt]
  split
  · exact h
  · split
    · exact (h.ite h.onFlight.count)
    · exact (h.onFlight.failAttempt.ite h.onFlight.listenOn.scheduleBurst)

theorem coldStart {cause : ColdCause} {b : Bist} {temp : Int} (h : s₀.Preserves s) :
    s₀.Preserves (s.coldStart cause b temp) := by
  refine State.Preserves.driveWake (coldMode (queue (count (bistRetire (loader ?_)))))
  refine State.Preserves.ite (vauxAttempt (onMon ?_)) ?_ <;>
  exact h.stored.startValues.inService.enterPower.onLine.openLine.buildHops.calibrated.onTime.onWake.armBranches.onNet

theorem transient {id : ResId} (h : s₀.Preserves s) : s₀.Preserves (s.transient id) :=
  h.ite h.restFor

theorem owedRetire {i : Nat} (h : s₀.Preserves s) : s₀.Preserves (s.owedRetire i) := by
  dsimp only [State.owedRetire]
  split
  · exact (h.ite h.retirePeer)
  · exact h

theorem burstCut {b : Burst} (h : s₀.Preserves s) : s₀.Preserves (s.burstCut b) := by
  dsimp only [State.burstCut]
  split
  · exact h.onJomen.count.queue
  · exact h.onJomen.count.failAttempt
  · exact h.onJomen.count.onWake.burstWork
  · exact h.onJomen.count.burstWork

theorem matchWord {sd : Side} {w : Nat} {syncErr : Nat} {rssi : Int} (h : s₀.Preserves s) :
    s₀.Preserves (s.matchWord sd w syncErr rssi) := by
  dsimp only [State.matchWord]
  have hb := h.onBr (sd := sd) (f := fun b => { b with align := none, hold := none })
  have hc := hb.count (b := .matcher) (name := "matcher.sync." ++ sideText sd)
  refine hc.count.ite ((hc.onWakeOf (fun hq => by simpa only [Wake.fits, length_replaceFirst] using hq)
      id).count.ite ?_)
  split
  · exact hc.count
  · exact hc.judgeWord

theorem classify {id : Nat} {sub : Nat} {k : Nat} {c : CellSeen} (h : s₀.Preserves s) :
    s₀.Preserves (s.classify id sub k c).2 := by
  dsimp only [State.classify]
  split
  · exact h.onRound.count
  · exact h.onRound.count
  · exact h.onRound.count.singleCell

theorem classifyAll {id sub k : Nat} {cs : List CellSeen} (h : s₀.Preserves s) :
    s₀.Preserves (State.classifyAll id sub k cs s).2 := by
  induction cs generalizing k s with
  | nil => exact h
  | cons c cs ih => exact ih h.classify

theorem adoptSet {b : Beacon} (h : s₀.Preserves s) : s₀.Preserves (s.adoptSet b) := by
  dsimp only [State.adoptSet]
  split
  · exact h
  · exact ((h.each fun _ h => h.adoptChannel).each fun _ h => h.adoptChannel)

theorem guardCell {p : Placed} {l : List Placed} (h : s₀.Preserves s) : s₀.Preserves (s.guardCell p l).2 := by
  dsimp only [State.guardCell]
  split
  · exact (h.fire.ite h)
  · exact (h.fire.ite h).loseContact
  · exact (h.fire.ite h)

theorem retireAny {o : Origin} {r : ResId} {cause : Nat} (h : s₀.Preserves s) :
    s₀.Preserves (s.retireAny o r cause) := by
  dsimp only [State.retireAny]
  split
  · exact h.retire.chanChange
  · exact h.retire.chanChange
  · exact h.retire.onBr
  · exact h.retire
  · exact h.retire
  · exact h.retireBlock
  · exact h.retirePeer

theorem displace {n : Fin 16} (h : s₀.Preserves s) : s₀.Preserves (s.displace n) := by
  dsimp only [State.displace]
  split
  · exact h.failAttempt.release
  · exact h.release
  · exact h.release
  · exact h.release
  · exact h

theorem leaveRetired (h : s₀.Preserves s) : s₀.Preserves s.leaveRetired :=
  (h.each fun _ h => (((h.each fun _ h => h.failAttempt).dropCapture.ite (h.each fun _ h =>
      h.failAttempt)).release.ite h)).each fun _ h => (h.onLane.count.ite h)

theorem wmPaOff (h : s₀.Preserves s) : s₀.Preserves s.wmPaOff :=
  h.each fun _ h => (h.onWm.relatch.ite h)

theorem judgeChain {sd : Side} {good : Bool} (h : s₀.Preserves s) : s₀.Preserves (s.judgeChain sd good) :=
  h.onRes.ite (h.onRes.retireOrRest.ite h.onRes.transient)

theorem paOff {band : Band} {ramp : Ticks} (h : s₀.Preserves s) : s₀.Preserves (s.paOff band ramp) := by
  dsimp only [State.paOff]
  split
  · exact h.onRadio.wmPaOff.onWake
  · exact h.onRadio.wmPaOff

theorem lcOver {i : Nat} (h : s₀.Preserves s) : s₀.Preserves (s.lcOver i) :=
  h.onWork.releaseAll.owedRetire

theorem powerOn {cause : ColdCause} {test : Bool} {b : Bist} {temp : Int} {fails : Nat} (h : s₀.Preserves s) :
    s₀.Preserves (s.powerOn cause test b temp fails) :=
  h.stored.onPm.ite (h.stored.onPm.ite h.coldStart)

theorem lcSuccess {f : Flight} (h : s₀.Preserves s) : s₀.Preserves (s.lcSuccess f) := by
  dsimp only [State.lcSuccess]
  split
  · exact h.onFlight.queue.endFlight.onFlight
  · exact h.onFlight.queue.endFlight.lcOver

theorem cancelFlight {f : Flight} (h : s₀.Preserves s) : s₀.Preserves (s.cancelFlight f) :=
  h.onFlight.ite (h.endFlight.lcOver.ite h.endFlight)

theorem guards {l : List Placed} (h : s₀.Preserves s) : s₀.Preserves (s.guards l).2 :=
  h.sweepList fun _ _ h => h.guardCell

theorem txLost {tx : Tx} (h : s₀.Preserves s) : s₀.Preserves (s.txLost tx) := by
  dsimp only [State.txLost]
  split
  · split
    · exact h.burstCut
    · exact h
  · exact h.failAttempt
  · exact h.failAttempt
  · exact h

theorem endTx {tx : Tx} (h : s₀.Preserves s) : s₀.Preserves (s.endTx tx) :=
  h.storeDrive.paOff.onRadio.coexEnd.bytes.trans.ite h.storeDrive.paOff.onRadio.coexEnd.bytes.trans

theorem endCal {c : CalRun} {temp : Int} {out : List Side} (h : s₀.Preserves s) :
    s₀.Preserves (s.endCal c temp out) := by
  dsimp only [State.endCal]
  split
  · split
    · split
      · split
        · exact (((h.each fun _ h => h.onCal).each fun _ h => h.onCal).each fun _ h => (h.each fun _ h =>
            h.dcTaken)).onRadio.onRadio.countN
        · exact ((h.each fun _ h => h.onCal).calSettled.calSettled.each fun _ h => (h.each fun _ h =>
            h.dcTaken)).onRadio.onRadio.countN
      · split
        · exact ((h.each fun _ h => h.onCal).each fun _ h => h.onCal).onRadio.onRadio.countN
        · exact (h.each fun _ h => h.onCal).calSettled.calSettled.onRadio.onRadio.countN
    · split
      · split
        · exact (((h.each fun _ h => h.onCal).each fun _ h => h.onCal).each fun _ h => (h.each fun _ h =>
            h.dcTaken)).onRadio.countN
        · exact ((h.each fun _ h => h.onCal).calSettled.calSettled.each fun _ h => (h.each fun _ h =>
            h.dcTaken)).onRadio.countN
      · split
        · exact ((h.each fun _ h => h.onCal).each fun _ h => h.onCal).onRadio.countN
        · exact (h.each fun _ h => h.onCal).calSettled.calSettled.onRadio.countN
  · split
    · split
      · split
        · exact (((h.each fun _ h => h.onCal).each fun _ h => h.onCal).each fun _ h => (h.each fun _ h =>
            h.dcTaken)).onRadio.onRadio
        · exact ((h.each fun _ h => h.onCal).calSettled.calSettled.each fun _ h => (h.each fun _ h =>
            h.dcTaken)).onRadio.onRadio
      · split
        · exact ((h.each fun _ h => h.onCal).each fun _ h => h.onCal).onRadio.onRadio
        · exact (h.each fun _ h => h.onCal).calSettled.calSettled.onRadio.onRadio
    · split
      · split
        · exact (((h.each fun _ h => h.onCal).each fun _ h => h.onCal).each fun _ h => (h.each fun _ h =>
            h.dcTaken)).onRadio
        · exact ((h.each fun _ h => h.onCal).calSettled.calSettled.each fun _ h => (h.each fun _ h =>
            h.dcTaken)).onRadio
      · split
        · exact ((h.each fun _ h => h.onCal).each fun _ h => h.onCal).onRadio
        · exact (h.each fun _ h => h.onCal).calSettled.calSettled.onRadio
  · split
    · split
      · split
        · exact ((((h.each fun _ h => h.onCal).each fun _ h => h.onCal).each fun _ h => (h.each fun _ h =>
            h.dcTaken)).onRadio.onRadio.each fun _ h => h.judgeChain).reply
        · exact (((h.each fun _ h => h.onCal).calSettled.calSettled.each fun _ h => (h.each fun _ h =>
            h.dcTaken)).onRadio.onRadio.each fun _ h => h.judgeChain).reply
      · split
        · exact (((h.each fun _ h => h.onCal).each fun _ h => h.onCal).onRadio.onRadio.each fun _ h =>
            h.judgeChain).reply
        · exact ((h.each fun _ h => h.onCal).calSettled.calSettled.onRadio.onRadio.each fun _ h => h.judgeChain).reply
    · split
      · split
        · exact ((((h.each fun _ h => h.onCal).each fun _ h => h.onCal).each fun _ h => (h.each fun _ h =>
            h.dcTaken)).onRadio.each fun _ h => h.judgeChain).reply
        · exact (((h.each fun _ h => h.onCal).calSettled.calSettled.each fun _ h => (h.each fun _ h =>
            h.dcTaken)).onRadio.each fun _ h => h.judgeChain).reply
      · split
        · exact (((h.each fun _ h => h.onCal).each fun _ h => h.onCal).onRadio.each fun _ h => h.judgeChain).reply
        · exact ((h.each fun _ h => h.onCal).calSettled.calSettled.onRadio.each fun _ h => h.judgeChain).reply
  · split
    · split
      · split
        · exact (((h.each fun _ h => h.onCal).each fun _ h => h.onCal).each fun _ h => (h.each fun _ h =>
            h.dcTaken)).onRadio.onRadio.judgeChain
        · exact ((h.each fun _ h => h.onCal).calSettled.calSettled.each fun _ h => (h.each fun _ h =>
            h.dcTaken)).onRadio.onRadio.judgeChain
      · split
        · exact ((h.each fun _ h => h.onCal).each fun _ h => h.onCal).onRadio.onRadio.judgeChain
        · exact (h.each fun _ h => h.onCal).calSettled.calSettled.onRadio.onRadio.judgeChain
    · split
      · split
        · exact (((h.each fun _ h => h.onCal).each fun _ h => h.onCal).each fun _ h => (h.each fun _ h =>
            h.dcTaken)).onRadio.judgeChain
        · exact ((h.each fun _ h => h.onCal).calSettled.calSettled.each fun _ h => (h.each fun _ h =>
            h.dcTaken)).onRadio.judgeChain
      · split
        · exact ((h.each fun _ h => h.onCal).each fun _ h => h.onCal).onRadio.judgeChain
        · exact (h.each fun _ h => h.onCal).calSettled.calSettled.onRadio.judgeChain
  · split
    · split
      · split
        · split
          · exact (((h.each fun _ h => h.onCal).each fun _ h => h.onCal).each fun _ h => (h.each fun _ h =>
              h.dcTaken)).onRadio.onRadio.audit.refuse
          · exact ((h.each fun _ h => h.onCal).calSettled.calSettled.each fun _ h => (h.each fun _ h =>
              h.dcTaken)).onRadio.onRadio.audit.refuse
        · split
          · exact ((h.each fun _ h => h.onCal).each fun _ h => h.onCal).onRadio.onRadio.audit.refuse
          · exact (h.each fun _ h => h.onCal).calSettled.calSettled.onRadio.onRadio.audit.refuse
      · split
        · split
          · exact (((h.each fun _ h => h.onCal).each fun _ h => h.onCal).each fun _ h => (h.each fun _ h =>
              h.dcTaken)).onRadio.audit.refuse
          · exact ((h.each fun _ h => h.onCal).calSettled.calSettled.each fun _ h => (h.each fun _ h =>
              h.dcTaken)).onRadio.audit.refuse
        · split
          · exact ((h.each fun _ h => h.onCal).each fun _ h => h.onCal).onRadio.audit.refuse
          · exact (h.each fun _ h => h.onCal).calSettled.calSettled.onRadio.audit.refuse
    · split
      · split
        · split
          · exact (((h.each fun _ h => h.onCal).each fun _ h => h.onCal).each fun _ h => (h.each fun _ h =>
              h.dcTaken)).onRadio.onRadio.reinstate.reply
          · exact ((h.each fun _ h => h.onCal).calSettled.calSettled.each fun _ h => (h.each fun _ h =>
              h.dcTaken)).onRadio.onRadio.reinstate.reply
        · split
          · exact ((h.each fun _ h => h.onCal).each fun _ h => h.onCal).onRadio.onRadio.reinstate.reply
          · exact (h.each fun _ h => h.onCal).calSettled.calSettled.onRadio.onRadio.reinstate.reply
      · split
        · split
          · exact (((h.each fun _ h => h.onCal).each fun _ h => h.onCal).each fun _ h => (h.each fun _ h =>
              h.dcTaken)).onRadio.reinstate.reply
          · exact ((h.each fun _ h => h.onCal).calSettled.calSettled.each fun _ h => (h.each fun _ h =>
              h.dcTaken)).onRadio.reinstate.reply
        · split
          · exact ((h.each fun _ h => h.onCal).each fun _ h => h.onCal).onRadio.reinstate.reply
          · exact (h.each fun _ h => h.onCal).calSettled.calSettled.onRadio.reinstate.reply

theorem callBack (h : s₀.Preserves s) : s₀.Preserves s.callBack := by
  dsimp only [State.callBack]
  split
  · exact h
  · exact (h.onRadio.txLost.ite h.onRadio.onRadio)

theorem cutTx (h : s₀.Preserves s) : s₀.Preserves s.cutTx := by
  dsimp only [State.cutTx]
  split
  · exact h
  · exact h.storeDrive.paOff.chainsOff.onRadio.coexEnd.txLost

theorem flightDone {f : Flight} (h : s₀.Preserves s) : s₀.Preserves (s.flightDone f) :=
  h.lcSuccess.ite h.endFlight

theorem displaceOn {c : Nat} (h : s₀.Preserves s) : s₀.Preserves (s.displaceOn c) := by
  dsimp only [State.displaceOn]
  split
  · exact h.displace
  · exact h

theorem captureDue (h : s₀.Preserves s) : s₀.Preserves s.captureDue := by
  dsimp only [State.captureDue]
  split
  · split
    · split
      · exact h.displace.runCapture
      · exact h.dropCapture
    · exact h
  · exact h

theorem bindCell {i : Nat} {c : Cell} {ch : Nat} {program : Nat} (h : s₀.Preserves s) :
    s₀.Preserves (s.bindCell i c ch program) := by
  dsimp only [State.bindCell]
  split
  · exact h.displace.displace.bind.onLane.judgeChans.onSched.moveRadio
  · exact h.displace.bind.onLane.judgeChans.onSched.moveRadio

theorem quiet (h : s₀.Preserves s) : s₀.Preserves s.quiet := by
  dsimp only [State.quiet]
  split
  · exact h.paOff.onRadio.onRx
  · exact h.onRadio.onRx

theorem lcFail {i : Nat} {r : LcResult} (h : s₀.Preserves s) : s₀.Preserves (s.lcFail i r) := by
  dsimp only [State.lcFail]
  split
  · exact h
  next q _ =>
    have hw := (h.releaseAll (p := fun h => h == .lastChance i)).lcNote (i := i) (attempt := q.attempt) (r :=
        r) |>.onWork
      (f := fun w => { w with
        lc := replaceFirst (fun q => q.index == i)
          (fun q => { q with attempt := q.attempt + 1, listen := none, answered := false }) w.lc
        table := w.table.map (fun f =>
          if f.handle.index == i && f.st == .lastchance then { f with lcStep := min 4 (q.attempt + 1), frameAt
              := none }
          else f) })
      fun _ ⟨ht, hw, hr⟩ => ⟨by simpa using ht, hw, hr⟩
    exact (hw.each fun _ h => h.endFlight).lcOver.ite (hw.each fun _ h => h.endFlight)

theorem exchangeDone {x : RxFrame} {i : Nat} (h : s₀.Preserves s) : s₀.Preserves (s.exchangeDone x i) := by
  dsimp only [State.exchangeDone]
  split
  · exact h
  · split
    · exact h.flightDone
    · exact h

theorem burstSkipped {p : BurstFor} (h : s₀.Preserves s) : s₀.Preserves (s.burstSkipped p) := by
  dsimp only [State.burstSkipped]
  split
  · exact h.count.lcFail
  · exact h.count.onNet
  · exact h.count.onWake.burstWork
  · exact h.count.burstWork

theorem startTx {tx : Tx} (h : s₀.Preserves s) : s₀.Preserves (s.startTx tx) := by
  unfold State.startTx
  have ha := h.fire (tr := .transmission) |>.fire (tr := .frame) |>.pgAsk (g := 1)
  have hb := ha.pgAsk (g := 0) |>.ite_snd (c := tx.kind = .burst) (q := (true, _)) ha
  dsimp only
  generalize (if tx.kind = .burst then _ else _) = p at hb ⊢
  exact ite (hb.txStamped.count.onWake (fun _ h => by split <;> exact h) (fun _ h => by split <;> exact h)).onRadio
    hb.chainsOff.onRadio.coexEnd.txLost.moveRadio

theorem startCal {why : CalWhy} {kind : CalKind} {band : BandSel} {groups : List (Band × Nat)} (h :
    s₀.Preserves s) : s₀.Preserves (s.startCal why kind band groups) := by
  dsimp only [State.startCal]
  exact h.cutTx.callBack.dropPayloads.chainsOff.deaf.onRadio.onRadio.onRadio

theorem roundSlot (h : s₀.Preserves s) : s₀.Preserves s.roundSlot := by
  dsimp only [State.roundSlot]
  split
  · exact h
  · exact (((h.releaseAll.onWork.each fun _ h => h.displace).each fun _ h => h.displaceOn).bindRound.moveRadio.ite h)

theorem recordEntry {i : Nat} {l : BitVec 32} {w : BitVec 32} {x : RxFrame} {plain : List Byte} {admission :
    Bool} (h : s₀.Preserves s) : s₀.Preserves (s.recordEntry i l w x plain admission).2 :=
  ((h.acceptEntry.count.ite h.acceptEntry.sight.roundHeard).admitFlight.ite (h.acceptEntry.count.ite
      h.acceptEntry.sight.roundHeard)).ackReady.exchangeDone.pushReport.ite ((h.acceptEntry.count.ite
      h.acceptEntry.sight.roundHeard).admitFlight.ite (h.acceptEntry.count.ite
      h.acceptEntry.sight.roundHeard)).ackReady.exchangeDone

theorem stopTx (h : s₀.Preserves s) : s₀.Preserves s.stopTx :=
  h.cutTx.moveRadio.resume.ite h

theorem clearAir (h : s₀.Preserves s) : s₀.Preserves s.clearAir :=
  h.cutTx.callBack.onRadio.onRadio.losePayloads

theorem beginTx (h : s₀.Preserves s) : s₀.Preserves s.beginTx := by
  dsimp only [State.beginTx]
  split
  · exact h.chainsOff.onRadio
  · exact ((h.chainsOff.onRadio.coexEnd.txLost.ite h.chainsOff.onRadio.coexEnd.onRadio).ite h.startTx)

theorem endCut (h : s₀.Preserves s) : s₀.Preserves s.endCut :=
  (h.each fun _ h => (h.endFlight.lcOver.ite h.endFlight)).each fun _ h => h.lcFail

theorem startAskedCal (h : s₀.Preserves s) : s₀.Preserves s.startAskedCal := by
  dsimp only [State.startAskedCal]
  split
  · split
    · exact h
    · exact h.onRadio.startCal
  · exact h

theorem xoStops (h : s₀.Preserves s) : s₀.Preserves s.xoStops := by
  dsimp only [State.xoStops]
  exact h.stopTx.quiet.onLine.onSched

theorem takeAir {b : Band} {path : Ticks} (h : s₀.Preserves s) : s₀.Preserves (s.takeAir b path).2 := by
  unfold State.takeAir
  have hf := h.fire (tr := .transmission)
  generalize s.fire .transmission = s at hf
  dsimp only
  split
  · exact hf
  · split
    · exact (hf.onRadio.ite hf).ite_snd (count (hf.onRadio.ite hf))
    · dsimp only
      have hc : s₀.Preserves (match s.radio.ahead with
        | some c => if s.coexOn b && s.claimFree c then s.count .rfe "coex.override" else s
        | none => s) := by
        split
        · exact hf.count.ite hf
        · exact hf
      split
      · exact onRadio (clearAir hc)
      · exact clearAir hc

theorem restoreSpill {e : Entry} {l : BitVec 32} {w : BitVec 32} {x : RxFrame} {plain : List Byte} (h :
    s₀.Preserves s) : s₀.Preserves (s.restoreSpill e l w x plain).2 := by
  dsimp only [State.restoreSpill]
  split
  next he => exact (h.takeIndex.of_eq he).activate.recordEntry
  next he => exact (h.takeIndex.of_eq he).recordUnattached

theorem resetEdge (h : s₀.Preserves s) : s₀.Preserves s.resetEdge := by
  dsimp only [State.resetEdge]
  exact h.seenBack.cutChanges.resetWork.resetBursts.quiet.resetPgs.thaw.downloadLoss.onWake.onLine.onTime
      |>.onSched.onStore.onTally.onPm

theorem admitNew {x : RxFrame} {plain : List Byte} (h : s₀.Preserves s) : s₀.Preserves (s.admitNew x plain).2 := by
  dsimp only [State.admitNew]
  split
  next he => exact (h.fire.holdGroups.takeIndex.of_eq he).activate.audit.recordEntry
  next he => exact (h.fire.holdGroups.takeIndex.of_eq he).audit.recordUnattached

theorem warmNews {cause : WarmCause} {failed : List Item} {wasNormal : Bool} {selfTest : Bool} (h :
    s₀.Preserves s) : s₀.Preserves (s.warmNews cause failed wasNormal selfTest) :=
  h.onJomen.queueAll.endCut.loader.countN.count.queue.queue.ite h.onJomen.queueAll.endCut.loader.countN.count.queue

theorem commitCellar (h : s₀.Preserves s) : s₀.Preserves s.commitCellar :=
  h.moveEvents.flushCache.onStore.xoStops.fire.onLine.onPm.enterPower

theorem exitFrom {failed : List Item} {p : Power} (h : s₀.Preserves s) : s₀.Preserves (s.exitFrom failed p) := by
  dsimp only [State.exitFrom]
  split
  · split
    · exact h.enterPower.slotTaken.radioStandby.stopTx.startFlush
    · exact h.enterPower.slotTaken.radioStandby
  · exact h.enterPower.slotTaken.cellarExit.radioStandby
  · exact h.enterPower

theorem coldEdge {c : ColdCause} {until_ : Option Ticks} (h : s₀.Preserves s) :
    s₀.Preserves (s.coldEdge c until_) := by
  dsimp only [State.coldEdge]
  refine (resetEdge (h.onImageOf fun _ => ?_)).wakeDark.onPm
  split
  · exact Images.inStep_bootCut _
  · exact Images.inStep_bootSettle _

theorem tripPa (h : s₀.Preserves s) : s₀.Preserves s.tripPa := by
  dsimp only [State.tripPa]
  split
  · exact h
  · exact (h.count.restAerial.ite h).stopTx

theorem replayStep {x : RxFrame} (h : s₀.Preserves s) : s₀.Preserves (s.replayStep x).2 := by
  dsimp only [State.replayStep]
  split
  · exact h.count.refuseFrame
  · split
    · exact h.rejected.refuseFrame
    · exact (h.recordEntry.answered.ite h.recordEntry)
  · split
    · exact h.count.refuseFrame
    · exact h.restoreSpill

theorem warmEdge {c : WarmCause} (h : s₀.Preserves s) : s₀.Preserves (s.warmEdge c) :=
  (h.onImageOf fun _ => Images.inStep_bootSettle _).resetEdge.onPm

theorem resetDue (h : s₀.Preserves s) : s₀.Preserves s.resetDue := by
  dsimp only [State.resetDue]
  split
  · exact (h.warmEdge.ite h)
  · exact (h.cutChanges.flushCache.onStore.coldEdge.ite h)
  · exact h

theorem joinFrame {x : RxFrame} (h : s₀.Preserves s) : s₀.Preserves (s.joinFrame x).2 := by
  dsimp only [State.joinFrame]
  split
  · split
    · exact h.fire.count.refuseFrame
    · split
      · exact h.fire.rejected.refuseFrame
      · split
        · exact h.fire.count.refuseFrame
        · split
          · exact h.fire.rejected.refuseFrame
          · exact h.fire.onEntry.recordEntry
  · split
    · exact h.fire.count.refuseFrame
    · split
      · exact h.fire.rejected.refuseFrame
      · split
        · exact h.fire.count.refuseFrame
        · split
          · exact h.fire.rejected.refuseFrame
          · exact h.fire.restoreSpill
  · split
    · exact h.fire.count.refuseFrame
    · split
      · exact h.fire.spillFull.refuseFrame
      · split
        · exact h.fire.count.refuseFrame
        · exact (h.fire.count.refuseFrame.ite_snd h.fire.admitNew)

theorem launch {path : Ticks} {tx : Tx} (h : s₀.Preserves s) : s₀.Preserves (s.launch path tx) :=
  (h.onRadio.onRadio.ite h.onRadio.onRadio.lockTo).beginTx.ite h.onRadio.onRadio.trans

theorem reach {dest : RadioSt} (h : s₀.Preserves s) : s₀.Preserves (s.reach dest) := by
  dsimp only [State.reach]
  split
  · exact h.beginTx
  · exact h.onRadio.chainsOn.valid.moveRadio.resume
  · exact h.onRadio.chainsOff.moveRadio.resume
  · exact h.onRadio.chainsOff.moveRadio.resume

theorem processFrame {x : RxFrame} (h : s₀.Preserves s) : s₀.Preserves (s.processFrame x).2 := by
  dsimp only [State.processFrame]
  split
  · exact h.replayStep
  · split
    · exact h.count.refuseFrame
    · exact h.refuseFrame
    · split
      · exact h.spillCrc.joinFrame
      · split
        · exact h.spillCrc.count.refuseFrame
        · split
          · exact h.spillCrc.rejected.refuseFrame
          · exact h.spillCrc.replayStep

theorem drainBuf {k : Nat} (h : s₀.Preserves s) : s₀.Preserves (s.drainBuf k) := by
  induction k generalizing s with
  | zero => exact h
  | succ k ih =>
    rw [State.drainBuf]
    split
    · exact h
    next x rest hb =>
      refine ite (ih ?_) h
      refine (processFrame (h.onRxOf fun hr => ?_)).roundNote.bufCheck
      exact Nat.le_of_succ_le ((congrArg List.length hb).symm.trans_le hr)

theorem commitLarder (h : s₀.Preserves s) : s₀.Preserves s.commitLarder :=
  ((h.ite h.persistAll.onRoster).ite (h.ite h.persistAll.onRoster).moveEvents.onStore.onLine).saveTime.xoStops
      |>.onPm.enterPower

theorem sendBeacon {start : Bool} {offset : Nat} {rate : Nat} {ch : Nat} (h : s₀.Preserves s) :
    s₀.Preserves (s.sendBeacon start offset rate ch) := by
  dsimp only [State.sendBeacon]
  split
  · exact h
  · split
    next he => exact (h.nextBeacon.of_eq he)
    next he => exact ((h.nextBeacon.of_eq he).fire.onNet.ite (h.nextBeacon.of_eq ‹_›).fire).launch

theorem commitShelf (h : s₀.Preserves s) : s₀.Preserves s.commitShelf :=
  (h.flushEnd.ite h).moveEvents.flushCache.onStore.xoStops.wakeDark.vauxOff.onLine.onPm.enterPower

theorem ackTx {inCell : Bool} {tx : Tx} (h : s₀.Preserves s) : s₀.Preserves (s.ackTx inCell tx) :=
  h.launch.ite h.transmit

theorem beaconCell {c : Cell} {ch : Nat} (h : s₀.Preserves s) : s₀.Preserves (s.beaconCell c ch) := by
  dsimp only [State.beaconCell]
  split
  · exact h
  · split
    next he => exact (h.takeAir.of_eq he).sendBeacon
    next he => exact (h.takeAir.of_eq he)

theorem laneCell {i : Nat} {c : Cell} {ch : Nat} (h : s₀.Preserves s) : s₀.Preserves (s.laneCell i c ch) := by
  dsimp only [State.laneCell]
  split
  · exact h.count
  · split
    · exact (h.bindCell.beaconCell.ite (h.bindCell.skipCell.ite h.bindCell))
    · exact h.skipCell.bindCell
    · exact h.dropCapture.runCapture
    · exact h

theorem pgFall {g : Fin 4} (h : s₀.Preserves s) : s₀.Preserves (s.pgFall g) := by
  dsimp only [State.pgFall]
  split
  · exact h
  · split
    · split
      · exact (h.onMon.count.wakeEvent.stopTx.ite h.onMon.count.wakeEvent)
      · exact h.onMon.count.wakeEvent
    · exact h.onMon.count.wakeEvent.tripPa
    · exact (h.onMon.count.wakeEvent.ite h.onMon.count.wakeEvent.onMon.hostDeaf)
    · exact h.onMon.count.wakeEvent.onMon

theorem sendAck {n : Fin 16} {inCell : Bool} {a : AckDue} (h : s₀.Preserves s) :
    s₀.Preserves (s.sendAck n inCell a) := by
  dsimp only [State.sendAck]
  split
  · exact h
  · split
    next he => exact h.nextTxFor.of_eq he
    next he =>
      have hn := h.nextTxFor.of_eq he
      split
      · refine ackTx ?_
        split
        · exact hn.onEntry
        · exact hn
      · exact hn.ackTx

theorem sendFlight {f : Flight} {n : Fin 16} {rate : Nat} {ch : Nat} {scheduled : Bool} (h : s₀.Preserves s) :
    s₀.Preserves (s.sendFlight f n rate ch scheduled) := by
  dsimp only [State.sendFlight]
  split
  · split
    next he => exact ((h.nextTx.of_eq he).lcFail.ite (h.nextTx.of_eq ‹_›).failAttempt)
    next he => exact (((h.nextTx.of_eq he).fire.onFlight.originate.ite (h.nextTx.of_eq
        ‹_›).fire.onFlight).launch.ite ((h.nextTx.of_eq ‹_›).fire.onFlight.originate.ite (h.nextTx.of_eq
        ‹_›).fire.onFlight).transmit)
  · exact h

theorem entrySteps (h : s₀.Preserves s) : s₀.Preserves s.entrySteps := by
  dsimp only [State.entrySteps]
  split
  · exact h
  · split
    · exact h.onPm
    · split
      · exact (h.commitLarder.ite h)
      · exact h
      · exact h
      · exact (((((h.flushCache.ite h).persistAll.moveEvents.saveTime.ite (h.flushCache.ite h)).vauxOff.ite
          ((h.flushCache.ite h).persistAll.moveEvents.saveTime.ite (h.flushCache.ite h))).commitShelf.ite
          (((h.flushCache.ite h).persistAll.moveEvents.saveTime.ite (h.flushCache.ite h)).vauxOff.ite
          ((h.flushCache.ite h).persistAll.moveEvents.saveTime.ite (h.flushCache.ite h))).commitCellar).ite
          (((h.flushCache.ite h).persistAll.moveEvents.saveTime.ite (h.flushCache.ite h)).vauxOff.ite
          ((h.flushCache.ite h).persistAll.moveEvents.saveTime.ite (h.flushCache.ite h))))

theorem pgFallAll (h : s₀.Preserves s) : s₀.Preserves s.pgFallAll :=
  h.each fun _ h => h.pgFall

theorem sendDue {f : Flight} (h : s₀.Preserves s) : s₀.Preserves (s.sendDue f) := by
  dsimp only [State.sendDue]
  split
  · exact (h.ite ((h.ite h.listenOn.sendFlight).ite h.sendFlight))
  · exact h

theorem flightAir {id : Nat} {n : Fin 16} (h : s₀.Preserves s) : s₀.Preserves (s.flightAir id n) :=
  h.onFlight

theorem cellTurn {f : Flight} {i : Nat} {n : Fin 16} {rate ch : Nat} (h : s₀.Preserves s) :
    s₀.Preserves (s.cellTurn f i n rate ch) := by
  dsimp only [State.cellTurn]
  split
  next he => exact (h.takeAir.of_eq he).cellUsed.flightAir.sendFlight
  next he => exact h.takeAir.of_eq he
  next he => exact (h.takeAir.of_eq he).cellUsed
  next he => exact (h.takeAir.of_eq he).cellUsed.flightAir.failAttempt

theorem cellAttempt {f : Flight} {i : Nat} (h : s₀.Preserves s) : s₀.Preserves (s.cellAttempt f i) := by
  dsimp only [State.cellAttempt]
  split
  · exact (h.cellTurn.ite h)
  · exact h

theorem warmStart {cause : WarmCause} {failed : List Item} {temp : Int} {selfTest : Bool} (h : s₀.Preserves s) :
    s₀.Preserves (s.warmStart cause failed temp selfTest) :=
  ((h.warmChecks.onNet.ite h.warmChecks).warmService.warmNews.vauxAttempt.ite (h.warmChecks.onNet.ite
      h.warmChecks).warmService.warmNews).flushCache.driveWake.drainBuf

theorem arrive {n : Fin 16} {f : Frame} {psdu : Nat} {flooded : Bool} (h : s₀.Preserves s) :
    s₀.Preserves (s.arrive n f psdu flooded) := by
  dsimp only [State.arrive]
  split
  · exact h.onLane.bufDrop
  next hlt =>
    refine ((h.onLane.onLane.ite h.onLane).onRxOf fun _ => ?_).bufCheck.drainBuf
    have hbuf : ∀ (c : Prop) [Decidable c] (f : Lane → Lane), (if c then (s.onLane n Lane.idle).onLane n f
        else s.onLane n Lane.idle).rx.buf = s.rx.buf := fun c _ f => by split <;> rfl
    simp only [Rx.fits, List.length_append, List.length_singleton, hbuf]
    exact Nat.lt_of_not_le hlt

theorem written {obj : Nat} {before : State} (h : s₀.Preserves s) : s₀.Preserves (s.written obj before) := by
  rw [State.written]
  cases wmOf obj with
  | some n =>
    dsimp only
    split
    · exact h.wmChanged.relatch.pgFallAll
    · exact h
  | none =>
    dsimp only
    exact ite h.onLine (ite h.onLine (ite (h.hostDeaf.ite h) (ite h.onSched (ite h.bufCheck (ite h.coexOverride
      (ite h.pgFallAll (ite h.zeroCtr (ite h.onTally h))))))))

theorem conv {n : Fin 8} {code : Nat} (h : s₀.Preserves s) : s₀.Preserves (s.conv n code) :=
  h.wmSettle.count.relatch.pgFallAll.ite (h.wmSettle.exciteFor.wmConvert.onWm.ite
      h.wmSettle.exciteFor.wmConvert.onWm.wmFeed).relatch.pgFallAll.ledger

theorem applySet {o : Origin} {obj : Nat} {v : PVal} (h : s₀.Preserves s) : s₀.Preserves (s.applySet o obj v).s :=
  h.journal.writeParam.written

theorem sendBlock {f : Flight} {p : PushSess} {img : Img} {n : Fin 16} {rate : Nat} {ch : Nat} {go : Tx → State
    → State}
    (h : s₀.Preserves s) (hg : ∀ {s} tx, s₀.Preserves s → s₀.Preserves (go tx s)) :
    s₀.Preserves (s.sendBlock f p img n rate ch go) := by
  dsimp only [State.sendBlock]
  split
  · split
    next he => exact (h.nextTx.of_eq he).failAttempt
    next he => exact hg _ (h.nextTx.of_eq he).fire.onFlight
  · exact h

theorem runDoWmClear {hd : Hdr} {n : Int} (h : s₀.Preserves s) : s₀.Preserves (Machine.runDoWmClear hd n s).s := by
  dsimp only [Machine.runDoWmClear]
  split
  · exact (h.actionRun fun _ h => (h.unlatch.ite h))
  · exact (h.actionRun fun _ h => h)

theorem runDoVaux {hd : Hdr} {on : Bool} (h : s₀.Preserves s) : s₀.Preserves (Machine.runDoVaux hd on s).s := by
  refine h.needs (ite_s ?_ h.onMon.vauxAnswer.vauxOff.good)
  have ht : s₀.Preserves (if s.mon.tripOwed then s.vauxTripped s.vauxCode else s) := h.vauxTripped.ite h
  dsimp only
  generalize (if s.mon.tripOwed then s.vauxTripped s.vauxCode else s) = t at ht
  have hw : s₀.Preserves (if t.mon.lockout then t.onMon (fun m => { m with lockout := false, runTrips := 0 })
      else t) :=
    ht.onMon.ite ht
  generalize (if t.mon.lockout then t.onMon (fun m => { m with lockout := false, runTrips := 0 }) else t) = u at hw
  split
  · exact hw.onMon.good
  · exact hw.onMon.onMon.good
  · exact hw.onMon.vauxAttempt.ite_s hw.onMon.vauxAttempt.onMon.good

theorem runDoTimeSet {hd : Hdr} {seconds : Int} {nanos : Int} (h : s₀.Preserves s) :
    s₀.Preserves (Machine.runDoTimeSet hd seconds nanos s).s :=
  h.needs (h.ite_s (h.ite_s h.onTime.good))

theorem runDoTimeCounter {hd : Hdr} (h : s₀.Preserves s) : s₀.Preserves (Machine.runDoTimeCounter hd s).s :=
  h.needs h.onTime.good

theorem runDoSchedFrame {hd : Hdr} {f : Int} {length : Int} (h : s₀.Preserves s) :
    s₀.Preserves (Machine.runDoSchedFrame hd f length s).s :=
  h.actionRun fun _ h => (h.ite_s (h.ite_s (h.ite_s h.schedAsk)))

theorem runDoSchedCell {hd : Hdr} {i : Int} {args : CellArgs} (h : s₀.Preserves s) :
    s₀.Preserves (Machine.runDoSchedCell hd i args s).s := by
  refine h.actionRun fun a h => ?_
  split
  · exact h
  · split
    · exact h.schedAsk
    · exact h

theorem runDoSchedDrop {hd : Hdr} {i : Int} (h : s₀.Preserves s) : s₀.Preserves (Machine.runDoSchedDrop hd i s).s :=
  h.actionRun fun _ h => (h.ite_s h.schedAsk)

theorem runDoRoundStart {hd : Hdr} {code : Int} {r : Option Int} (h : s₀.Preserves s) :
    s₀.Preserves (Machine.runDoRoundStart hd code r s).s := by
  refine h.actionRun fun a h => ?_
  refine ite_s h (ite_s h (ite_s h ?_))
  split
  next he => exact h.requestRound.of_eq he
  next he => exact h.requestRound.of_eq he

theorem runDoRoundStop {hd : Hdr} (h : s₀.Preserves s) : s₀.Preserves (Machine.runDoRoundStop hd s).s := by
  refine h.actionRun fun a h => ?_
  split
  · exact h
  · exact h.onRound

theorem runLogMark {hd : Hdr} {seq : Int} (h : s₀.Preserves s) : s₀.Preserves (Machine.runLogMark hd seq s).s :=
  h.needs (h.journal.onStore.good.ite_s h)

theorem runDoFaultRetire {hd : Hdr} {x : ResArg} (h : s₀.Preserves s) :
    s₀.Preserves (Machine.runDoFaultRetire hd x s).s := by
  dsimp only [Machine.runDoFaultRetire]
  split
  · exact (h.needs h)
  · exact (h.needs (h.ite_s h.retireAny))

theorem runDoFaultReinstate {hd : Hdr} {x : ResArg} {testPassed : Bool} (h : s₀.Preserves s) :
    s₀.Preserves (Machine.runDoFaultReinstate hd x testPassed s).s := by
  refine h.needs ?_
  split
  · exact h
  · exact h.ite_s (h.ite_s (h.onRadio.good.ite_s h.reinstateAny.good))

theorem runDoFlightCancel {hd : Hdr} {id : Int} (h : s₀.Preserves s) :
    s₀.Preserves (Machine.runDoFlightCancel hd id s).s := by
  refine h.actionRun fun a h => ?_
  split
  · exact h
  · exact h.cancelFlight

theorem runImageBeginSelf {hd : Hdr} {len : Int} (h : s₀.Preserves s) :
    s₀.Preserves (Machine.runImageBeginSelf hd len s).s :=
  h.imageRun fun _ h => (h.ite_s (h.ite_s h.openImage))

theorem runImageBeginLib {hd : Hdr} {slot : Int} {len : Int} (h : s₀.Preserves s) :
    s₀.Preserves (Machine.runImageBeginLib hd slot len s).s :=
  h.imageRun fun _ h => (h.ite_s (h.ite_s (h.ite_s h.openImage)))

theorem runImageVerify {hd : Hdr} {lib : Option Int} (h : s₀.Preserves s) :
    s₀.Preserves (Machine.runImageVerify hd lib s).s := by
  refine h.imageRun fun a h => ?_
  refine ite_s h ?_
  split
  · exact h
  · exact h.ite_s h.setStage.beginVerify.imageBy

theorem runImageActivate {hd : Hdr} (h : s₀.Preserves s) : s₀.Preserves (Machine.runImageActivate hd s).s := by
  refine h.imageRun fun a h => ?_
  split
  · exact h.ite_s (good (onPm (writeBoot h.imageBy.onImage fun _ => Nat.lt_succ_self _)))
  · exact h

theorem runImageConfirm {hd : Hdr} (h : s₀.Preserves s) : s₀.Preserves (Machine.runImageConfirm hd s).s :=
  h.imageRun fun _ h => h.ite_s (good (writeBoot h.imageBy.onImage fun _ => Nat.lt_succ_self _))

theorem runImageAbort {hd : Hdr} (h : s₀.Preserves s) : s₀.Preserves (Machine.runImageAbort hd s).s := by
  refine h.imageRun fun a h => ?_
  split
  · exact h
  · exact h.putImg.setStage.imageBy.onImage.good

theorem runImageDropLib {hd : Hdr} {slot : Int} (h : s₀.Preserves s) :
    s₀.Preserves (Machine.runImageDropLib hd slot s).s :=
  h.imageRun fun _ h => (h.ite_s (h.ite_s h.putImg.setStage.imageBy))

theorem runDoJomenArm {hd : Hdr} {code : Int} {mask : Option Int} (h : s₀.Preserves s) :
    s₀.Preserves (Machine.runDoJomenArm hd code mask s).s := by
  dsimp only [Machine.runDoJomenArm]
  split
  · exact (h.needs (h.ite_s h))
  · exact (h.needs (h.ite_s (h.ite_s (h.ite_s h.writeMask.afterEdge))))

theorem runDoJomenReason {hd : Hdr} {r : Int} {on : Int} (h : s₀.Preserves s) :
    s₀.Preserves (Machine.runDoJomenReason hd r on s).s :=
  h.actionRun fun _ h => (h.ite_s (h.ite_s (h.each fun _ h => h.writeMask).afterEdge))

theorem runDoJomenBurst {hd : Hdr} {code : Int} {reason : Int} {sync : Option Int} {rep : Option Int} (h :
    s₀.Preserves s) : s₀.Preserves (Machine.runDoJomenBurst hd code reason sync rep s).s :=
  h.actionRun fun _ h => (h.ite_s (h.ite_s (h.ite_s (h.ite_s (h.fire.acceptBurst.ite_s h)))))

theorem runSet {hd : Hdr} {obj : Nat} {arg : PArg} (h : s₀.Preserves s) :
    s₀.Preserves (Machine.runSet hd obj arg s).s := by
  dsimp only [Machine.runSet]
  split
  · exact h
  · exact (h.needs (h.ite_s (h.ite_s h.applySet)))

theorem runAuthChallenge {hd : Hdr} {level : Level} (h : s₀.Preserves s) :
    s₀.Preserves (Machine.runAuthChallenge hd level s).s :=
  h.count.authFailed.ite_s (h.count.onLine.good.ite_s h.count.draw.onLine.good)

theorem runAuthResponse {hd : Hdr} {level : Level} {resp : BitVec 64} (h : s₀.Preserves s) :
    s₀.Preserves (Machine.runAuthResponse hd level resp s).s :=
  h.count.onLine.onLine.good.ite_s h.count.onLine.authFailed

theorem runAuthKey {hd : Hdr} {level : Level} {wrapped : BitVec 192} (h : s₀.Preserves s) :
    s₀.Preserves (Machine.runAuthKey hd level wrapped s).s := by
  refine (h.count.ite h.count.count).needs (h.count.authFailed.ite_s (h.count.ite_s ?_))
  split
  · exact h.count.authFailed
  · exact good (h.count.onRoster fun _ hk => by split <;> exact hk)

theorem runEnumStart {hd : Hdr} (h : s₀.Preserves s) : s₀.Preserves (Machine.runEnumStart hd s).s :=
  h.onlyBroadcast (good (h.onLine fun _ ⟨he, _⟩ => ⟨he, Nat.zero_le _⟩))

theorem runEnumNext {hd : Hdr} {n : Int} {chainIn : Bool} (h : s₀.Preserves s) :
    s₀.Preserves (Machine.runEnumNext hd n chainIn s).s := by
  refine h.onlyBroadcast ?_
  split
  · exact h
  next hn =>
    simp only [Bool.not_eq_true, Bool.not_eq_false', inRange_iff] at hn
    exact h.ite_s ((h.onLine.takeAddress (by omega)).ite_s h.onLine.good)

theorem runEnumClaim {hd : Hdr} {eui : Eui} {n : Int} (h : s₀.Preserves s) :
    s₀.Preserves (Machine.runEnumClaim hd eui n s).s := by
  refine h.onlyBroadcast ?_
  split
  · exact h
  next hn =>
    simp only [Bool.not_eq_true, Bool.not_eq_false', inRange_iff] at hn
    have ht := h.takeAddress (marked := false) (n := n.toNat) (by omega)
    exact h.ite_s (h.ite_s (ht.lineFault.ite ht))

theorem runTallyClear {hd : Hdr} {block : Option Block} (h : s₀.Preserves s) :
    s₀.Preserves (Machine.runTallyClear hd block s).s :=
  h.argHash.needs (h.argHash.each fun _ h => h.clearBlock)

theorem runDoPmSleep {hd : Hdr} {cellar : Bool} (h : s₀.Preserves s) :
    s₀.Preserves (Machine.runDoPmSleep hd cellar s).s :=
  h.needs ((h.beginEntry.ite_s h).ite_s (h.enterLarder.ite_s h))

theorem runDoPmShelf {hd : Hdr} (h : s₀.Preserves s) : s₀.Preserves (Machine.runDoPmShelf hd s).s :=
  h.actionRun fun _ h => (h.beginEntry.ite_s h)

theorem runResetWarm {hd : Hdr} (h : s₀.Preserves s) : s₀.Preserves (Machine.runResetWarm hd s).s :=
  h.needs h.askReset

theorem runResetCold {hd : Hdr} (h : s₀.Preserves s) : s₀.Preserves (Machine.runResetCold hd s).s :=
  h.needs (h.each fun _ h => h.ledgerAt).askReset

theorem runDoRadioCal {hd : Hdr} {kind : Option CalKind} {band : Option BandSel} (h : s₀.Preserves s) :
    s₀.Preserves (Machine.runDoRadioCal hd kind band s).s :=
  h.actionRun fun _ h => h.onRadio.good

theorem runDoRosterPin {hd : Hdr} {handle : HandleArg} {on : Int} (h : s₀.Preserves s) :
    s₀.Preserves (Machine.runDoRosterPin hd handle on s).s := by
  refine h.actionRun fun a h => ?_
  split
  · exact h
  · exact h.ite_s h.onEntry.rosterCheck

theorem runDoRosterDrop {hd : Hdr} {handle : HandleArg} (h : s₀.Preserves s) :
    s₀.Preserves (Machine.runDoRosterDrop hd handle s).s := by
  refine h.actionRun fun a h => ?_
  split
  · exact h
  · exact h.ite_s h.evict.rosterCheck

theorem runDoRosterGroups {hd : Hdr} {handle : HandleArg} {groups : List Int} (h : s₀.Preserves s) :
    s₀.Preserves (Machine.runDoRosterGroups hd handle groups s).s := by
  refine h.actionRun fun a h => ?_
  split
  · exact h
  · split
    · exact h
    · split
      · exact h.sendFaultCount
      · dsimp only
        split
        next he => exact h.fire.newFlight.of_eq he
        next he => exact h.fire.newFlight.of_eq he

theorem runDoRosterPeer {hd : Hdr} {index : Int} {eui : Eui} (h : s₀.Preserves s) :
    s₀.Preserves (Machine.runDoRosterPeer hd index eui s).s :=
  h.actionRun fun _ h => (h.ite_s (h.ite_s h.admitPeer))

theorem runDoRosterForget {hd : Hdr} {eui : Eui} (h : s₀.Preserves s) :
    s₀.Preserves (Machine.runDoRosterForget hd eui s).s := by
  refine h.actionRun fun a h => ?_
  refine ite_s h ?_
  dsimp only
  split
  · exact h.spillCrc
  · exact h.spillCrc.holdGroups.onRoster.good

theorem runDoKeeperNetkey {hd : Hdr} {wrapped : BitVec 192} (h : s₀.Preserves s) :
    s₀.Preserves (Machine.runDoKeeperNetkey hd wrapped s).s := by
  refine h.needs ?_
  split
  · exact h
  · exact h.onRoster.good

theorem runDoKeeperLibkey {hd : Hdr} {key : BitVec 512} (h : s₀.Preserves s) :
    s₀.Preserves (Machine.runDoKeeperLibkey hd key s).s :=
  h.needs h.onRoster.good

theorem runDoRxCapture {hd : Hdr} {src : CapSrc} {at_ : Option Int} {count : Option Int} {rate : Option Int}
    (h : s₀.Preserves s) : s₀.Preserves (Machine.runDoRxCapture hd src at_ count rate s).s := by
  refine h.actionRun fun a h => ?_
  refine ite_s h (ite_s h (ite_s h (ite_s h ?_)))
  dsimp only
  split
  · exact h
  · exact h.dropCapture.runCapture.ite h.dropCapture.onRx

theorem runDoRxCaptureDrop {hd : Hdr} (h : s₀.Preserves s) : s₀.Preserves (Machine.runDoRxCaptureDrop hd s).s :=
  h.actionRun fun _ h => h.dropCapture

theorem execMonitorSample {n : Fin 8} {code : BitVec 10} (h : s₀.Preserves s) :
    s₀.Kept (Machine.execMonitorSample n code s) :=
  .next (h.ite (h.onWm.wmSettle.relatch.ite ((h.onWm.wmSettle.count.ite h.onWm.wmSettle).relatch.pgFallAll.ite
      ((h.onWm.wmSettle.exciteFor.wmConvert.onWm.ite h.onWm.wmSettle.exciteFor).ite
      (h.onWm.wmSettle.exciteFor.wmConvert.onWm.ite h.onWm.wmSettle.exciteFor).wmFeed).relatch.pgFallAll)))

theorem execComparatorCrossing {n : Fin 8} {active : Bool} (h : s₀.Preserves s) :
    s₀.Kept (Machine.execComparatorCrossing n active s) :=
  .next (h.onWm.relatch.pgFallAll.ite h)

theorem execLatchPeriodClear {n : Fin 8} (h : s₀.Preserves s) : s₀.Kept (Machine.execLatchPeriodClear n s) :=
  .next (h.unlatch.ite h)

theorem execDoWmRead {hd : Hdr} {n : Int} (h : s₀.Preserves s) : s₀.Kept (Machine.execDoWmRead hd n s) := by
  refine .next (h.report fun h => ?_)
  split <;> exact h

theorem execDoWmConv {hd : Hdr} {n : Int} {code : BitVec 10} (h : s₀.Preserves s) :
    s₀.Kept (Machine.execDoWmConv hd n code s) := by
  refine .next (h.report fun h => ?_)
  split
  · exact h.conv
  · exact h

theorem execDoWmClear {hd : Hdr} {n : Int} (h : s₀.Preserves s) : s₀.Kept (Machine.execDoWmClear hd n s) :=
  .next (h.change fun h => h.runDoWmClear)

theorem execPgTrip {g : Fin 4} (h : s₀.Preserves s) : s₀.Kept (Machine.execPgTrip g s) :=
  .next h.pgFall

theorem execEarlyWarning (h : s₀.Preserves s) : s₀.Kept (Machine.execEarlyWarning s) :=
  .next (h.ite (h.onMon.stopTx.startFlush.ite (h.onMon.onStore.ite h.onMon)))

theorem execVauxTrip (h : s₀.Preserves s) : s₀.Kept (Machine.execVauxTrip s) :=
  .next (h.vauxTripped.vauxAnswer.ite h)

theorem execVauxRetry (h : s₀.Preserves s) : s₀.Kept (Machine.execVauxRetry s) := by
  refine .next ?_
  split
  · exact (h.vauxAttempt.ite h)
  · exact h

theorem execVauxRampEnd (h : s₀.Preserves s) : s₀.Kept (Machine.execVauxRampEnd s) := by
  refine .next ?_
  split
  · exact (h.onMon.vauxAnswer.ite h)
  · exact h

theorem execDoVaux {hd : Hdr} {on : Bool} (h : s₀.Preserves s) : s₀.Kept (Machine.execDoVaux hd on s) :=
  .next (h.change fun h => h.runDoVaux)

theorem execSlotBoundary (h : s₀.Preserves s) : s₀.Kept (Machine.execSlotBoundary s) := by
  refine .next (ite h ?_)
  have ha := h.fire (tr := .nextSlot) |>.applyTime
  dsimp only
  generalize (s.fire .nextSlot).applyTime = p at ha ⊢
  have hp := ha.onTime (f := fun t => { t with slot := p.2.slotNow, slotAt := p.2.now - p.2.slotOffset *
      cclkTicks }) |>.onSched
    (f := fun k => { k with bitmapOk := true, run := [],
                            notBefore := if p.1 then (p.2.onTime fun t => { t with
                              slot := p.2.slotNow, slotAt := p.2.now - p.2.slotOffset * cclkTicks }).now + us
                                  20 else 0 })
    |>.join.ensureWait.applyChanges.applyTables.deadlines.leaveRetired.roundResume.freeCells.slotChains
  generalize State.slotChains _ = t at hp ⊢
  exact hp.placeCells.resolve.guards.slotSpan.onSched.startAskedCal.takenSlot.startListening.roundSlot
      |>.captureDue.listenWaits.slotFilters.moveRadio

theorem execDoTimeNow {hd : Hdr} (h : s₀.Preserves s) : s₀.Kept (Machine.execDoTimeNow hd s) :=
  .next (h.report fun h => h)

theorem execDoTimeSet {hd : Hdr} {seconds : Int} {nanos : Int} (h : s₀.Preserves s) :
    s₀.Kept (Machine.execDoTimeSet hd seconds nanos s) :=
  .next (h.change fun h => h.runDoTimeSet)

theorem execDoTimeCounter {hd : Hdr} (h : s₀.Preserves s) : s₀.Kept (Machine.execDoTimeCounter hd s) :=
  .next (h.change fun h => h.runDoTimeCounter)

theorem execDoSchedFrame {hd : Hdr} {f : Int} {length : Int} (h : s₀.Preserves s) :
    s₀.Kept (Machine.execDoSchedFrame hd f length s) :=
  .next (h.change fun h => h.runDoSchedFrame)

theorem execDoSchedCell {hd : Hdr} {i : Int} {args : CellArgs} (h : s₀.Preserves s) :
    s₀.Kept (Machine.execDoSchedCell hd i args s) :=
  .next (h.change fun h => h.runDoSchedCell)

theorem execDoSchedDrop {hd : Hdr} {i : Int} (h : s₀.Preserves s) : s₀.Kept (Machine.execDoSchedDrop hd i s) :=
  .next (h.change fun h => h.runDoSchedDrop)

theorem execDoSchedList {hd : Hdr} {f : Option Int} (h : s₀.Preserves s) :
    s₀.Kept (Machine.execDoSchedList hd f s) := by
  refine .next (h.report fun h => ?_)
  split
  · exact h.ite_s h
  · exact h

theorem execSleepClockMeasure {ppmQ : Int} (h : s₀.Preserves s) : s₀.Kept (Machine.execSleepClockMeasure ppmQ s) :=
  .next (h.onTime.ite h)

theorem execSleepClockTempRead {temp : Int} (h : s₀.Preserves s) : s₀.Kept (Machine.execSleepClockTempRead temp s) :=
  .next (h.onTime.onRadio.ite h)

theorem execTimeSave (h : s₀.Preserves s) : s₀.Kept (Machine.execTimeSave s) :=
  .next (h.saveTime.ite h)

theorem execCellStart {i : Nat} {conv : BitVec 10} (h : s₀.Preserves s) :
    s₀.Kept (Machine.execCellStart i conv s) := by
  refine .next ?_
  split
  · exact h
  · exact (h.onSched.count.ite (h.onSched.conv.ite (h.onSched.count.ite (h.onSched.count.ite
      (h.onSched.roundCell.ite h.onSched.laneCell)))))

theorem execFrameReceived {f : Frame} {r : RxInfo} {fcsOk : Bool} (h : s₀.Preserves s) :
    s₀.Kept (Machine.execFrameReceived f r fcsOk s) :=
  .next ((h.onLane.count.ite h).ite (h.airRx.arrive.ite h))

theorem execJoinReceived {f : Frame} {r : RxInfo} (h : s₀.Preserves s) : s₀.Kept (Machine.execJoinReceived f r s) :=
  .next (h.airRx.arrive.ite h)

theorem execAnswerReceived {f : Frame} {r : RxInfo} (h : s₀.Preserves s) :
    s₀.Kept (Machine.execAnswerReceived f r s) :=
  .next (h.airRx.arrive.ite h)

theorem execSpillWriteComplete (h : s₀.Preserves s) : s₀.Kept (Machine.execSpillWriteComplete s) :=
  .next h.onRoster

theorem execAckReceived {f : Frame} {r : RxInfo} {delay : Ticks} (h : s₀.Preserves s) :
    s₀.Kept (Machine.execAckReceived f r delay s) := by
  refine .next (ite h ?_)
  have hl := h.airRx (n := r.lane) (psdu := r.psduLen) |>.onLane (n := r.lane) (f := Lane.idle)
  dsimp only
  generalize State.onLane r.lane Lane.idle _ = s at hl
  split
  · exact hl.count
  · split
    · exact hl
    · split
      · exact hl
      · split
        · exact hl.rejected
        · split
          · exact hl.rejected
          · split
            · exact hl.rejected
            · split
              · exact hl.acceptEntry.flightDone.ite hl.acceptEntry
              · exact hl.acceptEntry.pushAcked
              · exact hl.acceptEntry.onFlight.flightDone
              · exact hl.acceptEntry.flightDone

theorem execAckSend {lane : Fin 16} (h : s₀.Preserves s) : s₀.Kept (Machine.execAckSend lane s) := by
  refine .next ?_
  split
  · exact h
  · refine ite h ?_
    have hl := h.onLane (n := lane) (f := fun l => { l with ack := none })
    dsimp only
    generalize State.onLane lane _ s = s at hl
    refine ite hl (ite hl.count (ite hl.count (ite hl.count (ite ?_ (ite hl.sendAck hl)))))
    split
    next he => exact (hl.takeAir.of_eq he).sendAck
    next he => exact hl.takeAir.of_eq he

theorem execFloodReceived {f : Flood} {r : RxInfo} (h : s₀.Preserves s) :
    s₀.Kept (Machine.execFloodReceived f r s) := by
  refine .next (ite h ?_)
  dsimp only
  have hl := h.airRx (n := r.lane) (psdu := r.psduLen) |>.fire (tr := .flood)
  generalize State.fire .flood _ = s at hl
  refine ite hl.onLane (ite (hl.onLane.onRoster
    fun _ hk => by simpa only [Roster.fits, length_replaceFirst] using hk) ?_)
  split
  · exact hl.onLane.count
  · exact (hl.seenPut.arrive.ite hl.seenPut.onLane).planFlood

theorem execFloodRebroadcast {lane : Fin 16} (h : s₀.Preserves s) :
    s₀.Kept (Machine.execFloodRebroadcast lane s) := by
  refine .next (ite h ?_)
  split
  · exact h
  next p _ =>
    dsimp only
    have hl := h.onRoster (f := fun r => { r with replays := r.replays.erase p })
    refine ite hl.count (transmit ?_)
    split
    · exact hl.seenPut.ite hl
    · exact count (hl.seenPut.ite hl)

theorem execSeenCacheAgeOut (h : s₀.Preserves s) : s₀.Kept (Machine.execSeenCacheAgeOut s) :=
  .next (countN (h.onRoster fun _ hk => (List.length_filter_le _ _).trans hk))

theorem execDoRoundStart {hd : Hdr} {code : Int} {r : Option Int} (h : s₀.Preserves s) :
    s₀.Kept (Machine.execDoRoundStart hd code r s) :=
  .next (h.change fun h => h.runDoRoundStart)

theorem execDoRoundStop {hd : Hdr} (h : s₀.Preserves s) : s₀.Kept (Machine.execDoRoundStop hd s) :=
  .next (h.change fun h => h.runDoRoundStop)

theorem execRoundOpen (h : s₀.Preserves s) : s₀.Kept (Machine.execRoundOpen s) := by
  refine .next ?_
  split
  · exact h
  · exact (h.ite h.onRound.slotSpan.roundSlot)

theorem execSubSlotStart (h : s₀.Preserves s) : s₀.Kept (Machine.execSubSlotStart s) := by
  refine .next ?_
  dsimp only
  split
  · exact h
  · split
    · exact h
    · split
      · exact h.onRound
      · split
        next he => exact (h.onRound.takeAir.of_eq he).launch
        next he => exact (h.onRound.takeAir.of_eq he)

theorem execReplyWindowEnd {cells : List CellSeen} (h : s₀.Preserves s) :
    s₀.Kept (Machine.execReplyWindowEnd cells s) := by
  refine .next ?_
  split
  · exact h
  · exact (h.ite (h.classifyAll.onRound.each fun _ h => h.onLane).drainBuf)

theorem execRoundEnd (h : s₀.Preserves s) : s₀.Kept (Machine.execRoundEnd s) := by
  refine .next ?_
  split
  · exact (h.endRound.ite h)
  · exact h

theorem execRoundPause (h : s₀.Preserves s) : s₀.Kept (Machine.execRoundPause s) := by
  refine .next ?_
  split
  · exact h
  · exact (h.roundLose.onRound.releaseAll.moveRadio.ite h)

theorem execLogInfo {hd : Hdr} (h : s₀.Preserves s) : s₀.Kept (Machine.execLogInfo hd s) :=
  .next (h.verb fun h => h)

theorem execLogRead {hd : Hdr} {seq : Int} {count : Option Int} {kind : Option Int} (h : s₀.Preserves s) :
    s₀.Kept (Machine.execLogRead hd seq count kind s) :=
  .next (h.verb fun h => (h.ite_s (h.ite_s (h.ite_s h.readWords.countN))))

theorem execLogAudit {hd : Hdr} {seq : Int} {count : Option Int} (h : s₀.Preserves s) :
    s₀.Kept (Machine.execLogAudit hd seq count s) :=
  .next (h.verb fun h => (h.ite_s (h.ite_s h.readWords.countN)))

theorem execLogMark {hd : Hdr} {seq : Int} (h : s₀.Preserves s) : s₀.Kept (Machine.execLogMark hd seq s) :=
  .next (h.change fun h => h.runLogMark)

theorem execCodewordDue (h : s₀.Preserves s) : s₀.Kept (Machine.execCodewordDue s) :=
  .next (h.ite (h.onStore.ite (h.onStore.ite h)))

theorem execStoreOperationDone {ok : Bool} (h : s₀.Preserves s) : s₀.Kept (Machine.execStoreOperationDone ok s) := by
  refine .next ?_
  split
  · exact (h.onStore.programmed.drainBuf.ite h.onStore.bytes.bytes)
  · split
    · exact h.onStore
    · exact h

theorem execEmergencyFlushEnd (h : s₀.Preserves s) : s₀.Kept (Machine.execEmergencyFlushEnd s) :=
  .next (h.ite h.flushEnd.drainBuf)

theorem execProgramFailure {erase : Bool} {block : Nat} (h : s₀.Preserves s) :
    s₀.Kept (Machine.execProgramFailure erase block s) :=
  .next (h.ite h.count.retireBlock)

theorem execPeckRefresh {corrected : Nat} {block : Nat} (h : s₀.Preserves s) :
    s₀.Kept (Machine.execPeckRefresh corrected block s) :=
  .next (h.ite (h.count.onStore.ite h.count.codewordLost.retireBlock))

theorem execLedgerRingAdvance (h : s₀.Preserves s) : s₀.Kept (Machine.execLedgerRingAdvance s) :=
  .next (h.ite (h.fire.archiveRoom.bytes.bytes.onStore.onStore.ite h.fire.onStore.countN.ledgerLoss))

theorem execPushDirectoryCompaction (h : s₀.Preserves s) : s₀.Kept (Machine.execPushDirectoryCompaction s) :=
  .next (h.ite h.onStore)

theorem execDoFaultList {hd : Hdr} {kind : Option ResKind} (h : s₀.Preserves s) :
    s₀.Kept (Machine.execDoFaultList hd kind s) :=
  .next (h.report fun h => h)

theorem execDoFaultRetire {hd : Hdr} {r : ResArg} (h : s₀.Preserves s) : s₀.Kept (Machine.execDoFaultRetire hd r s) :=
  .next (h.change fun h => h.runDoFaultRetire)

theorem execDoFaultReinstate {hd : Hdr} {r : ResArg} {testPassed : Bool} (h : s₀.Preserves s) :
    s₀.Kept (Machine.execDoFaultReinstate hd r testPassed s) :=
  .next (h.change fun h => h.runDoFaultReinstate)

theorem execRestPeriodEnd {r : ResId} (h : s₀.Preserves s) : s₀.Kept (Machine.execRestPeriodEnd r s) := by
  refine .next ?_
  dsimp only
  split
  · exact (h.onRes.onRadio.ite h.onRes).ite h
  · exact h

theorem execRestWindowExpiry {r : ResId} (h : s₀.Preserves s) : s₀.Kept (Machine.execRestWindowExpiry r s) :=
  .next ((h.onRadio.ite h).onRes.ite (h.onRadio.ite h))

theorem execChannelJudgingWindow {r : ResId} {preambles : Nat} {bad : Nat} (h : s₀.Preserves s) :
    s₀.Kept (Machine.execChannelJudgingWindow r preambles bad s) := by
  refine .next ?_
  dsimp only
  split
  · exact h
  · split
    · exact h.judgeEnd
    · split
      · exact h.judgeEnd.strike
      · split
        · exact (h.judgeEnd.strike.count.ite h.judgeEnd.retireAny)
        · exact h.judgeEnd.strike.queue
        · exact h.judgeEnd.strike.queue
        · exact h.judgeEnd.strike

theorem execPeerRetireHourly (h : s₀.Preserves s) : s₀.Kept (Machine.execPeerRetireHourly s) :=
  .next (h.ite (h.fire.ite (h.fire.each fun _ h => h.retirePeer)))

theorem execSend {hd : Hdr} {handle : HandleArg} {kind : FlightKind} {p dl r call : Option Int} {data : List Byte}
    (h : s₀.Preserves s) : s₀.Kept (Machine.execSend hd handle kind p dl r call data s) := by
  refine .next (h.verb fun h => h.needs ?_)
  dsimp only
  refine ite_s h.fire (ite_s h.fire (ite_s h.fire ?_))
  split
  · exact h.fire.sendFaultCount
  · split
    next he => exact h.fire.newFlight.of_eq he
    next he => exact h.fire.newFlight.of_eq he

theorem execDoFlightList {hd : Hdr} (h : s₀.Preserves s) : s₀.Kept (Machine.execDoFlightList hd s) :=
  .next (h.report fun h => h)

theorem execDoFlightCancel {hd : Hdr} {id : Int} (h : s₀.Preserves s) :
    s₀.Kept (Machine.execDoFlightCancel hd id s) :=
  .next (h.change fun h => h.runDoFlightCancel)

theorem execFlightAttempt {id : Nat} {cell : Option Nat} (h : s₀.Preserves s) :
    s₀.Kept (Machine.execFlightAttempt id cell s) := by
  refine .next ?_
  split
  · exact h
  · split
    · exact h
    · split
      · exact h.sendDue
      · split
        · exact h.cellAttempt
        · exact h.calledAttempt

theorem execAttemptFail {id : Nat} {cause : FailCause} (h : s₀.Preserves s) :
    s₀.Kept (Machine.execAttemptFail id cause s) := by
  refine .next ?_
  split
  · exact h
  · split
    · exact (h.ite (h.lcFail.ite (h.failAttempt.ite h)))
    · exact (h.failAttempt.ite h)

theorem execCalledListenTimeout {id : Nat} (h : s₀.Preserves s) : s₀.Kept (Machine.execCalledListenTimeout id s) := by
  refine .next ?_
  split
  · exact h
  · split
    · exact (h.failAttempt.ite h)
    · split
      · split
        · exact (h.lcFail.ite h)
        · exact h
      · exact h
    · exact h

theorem execLastChanceBurst {index : Nat} (h : s₀.Preserves s) : s₀.Kept (Machine.execLastChanceBurst index s) := by
  refine .next ?_
  split
  · exact h
  · exact (h.ite ((h.each fun _ h => h.lcFail).ite h.scheduleBurst))

theorem execLastChanceFlood {index : Nat} (h : s₀.Preserves s) : s₀.Kept (Machine.execLastChanceFlood index s) := by
  refine .next ?_
  split
  · exact h
  · refine ite h (lcOver (h.each fun f h => ?_))
    split
    next he => exact (h.floodFlight he).endFlight
    · exact h.endFlight

theorem execReacquireTimeout (h : s₀.Preserves s) : s₀.Kept (Machine.execReacquireTimeout s) :=
  .next (h.each fun _ h => (h.ite ((h.releaseAll.onNet.reacqFailed.ite h.releaseAll.onNet).ite
      (h.reacqFailed.ite h.reacqBurst))))

theorem execImageBeginSelf {hd : Hdr} {len : Int} (h : s₀.Preserves s) :
    s₀.Kept (Machine.execImageBeginSelf hd len s) :=
  .next (h.change fun h => h.runImageBeginSelf)

theorem execImageBeginLib {hd : Hdr} {slot : Int} {len : Int} (h : s₀.Preserves s) :
    s₀.Kept (Machine.execImageBeginLib hd slot len s) :=
  .next (h.change fun h => h.runImageBeginLib)

theorem execImageData {hd : Hdr} {offset : Int} {data : List Byte} (h : s₀.Preserves s) :
    s₀.Kept (Machine.execImageData hd offset data s) := by
  refine .imageVerb h fun h => ?_
  split
  · exact h
  · split
    · exact h
    · refine ite_s h (ite_s h (ite_s h ?_))
      dsimp only
      split
      · exact h.imageBy.onImage.bytes.putImg.good
      · exact h.imageBy.onImage.bytes.putImg.count
      · exact h.imageBy.onImage.bytes.putImg.onImage.stageNow
      · exact h.imageBy.onImage.bytes.putImg.onImage.stageNow.beginVerify

theorem execImageStall (h : s₀.Preserves s) : s₀.Kept (Machine.execImageStall s) := by
  refine .next ?_
  split
  · exact h
  · split
    · exact h
    · split
      · exact h
      · exact h.putImg.onImage.count.queue

theorem execImageStatus {hd : Hdr} {lib : Option Int} (h : s₀.Preserves s) :
    s₀.Kept (Machine.execImageStatus hd lib s) :=
  .imageVerb h fun h => h.ite_s h

theorem execImageVerify {hd : Hdr} {lib : Option Int} (h : s₀.Preserves s) :
    s₀.Kept (Machine.execImageVerify hd lib s) :=
  .next (h.change fun h => h.runImageVerify)

theorem execImageVerifyDone (h : s₀.Preserves s) : s₀.Kept (Machine.execImageVerifyDone s) := by
  refine .next ?_
  dsimp only
  split
  · exact h
  · split
    · exact h
    · split
      · exact h.onImage
      · split <;> exact h.onImage.bytes.putImg.stageNow.queue

theorem execImageActivate {hd : Hdr} (h : s₀.Preserves s) : s₀.Kept (Machine.execImageActivate hd s) :=
  .next (h.change fun h => h.runImageActivate)

theorem execImageConfirm {hd : Hdr} (h : s₀.Preserves s) : s₀.Kept (Machine.execImageConfirm hd s) :=
  .next (h.change fun h => h.runImageConfirm)

theorem execImageAbort {hd : Hdr} (h : s₀.Preserves s) : s₀.Kept (Machine.execImageAbort hd s) :=
  .next (h.change fun h => h.runImageAbort)

theorem execImageDropLib {hd : Hdr} {slot : Int} (h : s₀.Preserves s) :
    s₀.Kept (Machine.execImageDropLib hd slot s) :=
  .next (h.change fun h => h.runImageDropLib)

theorem execImageList {hd : Hdr} (h : s₀.Preserves s) : s₀.Kept (Machine.execImageList hd s) :=
  .imageVerb h fun h => h

theorem execImagePush {hd : Hdr} {slot : Int} {handle : HandleArg} {p dl : Option Int} (h : s₀.Preserves s) :
    s₀.Kept (Machine.execImagePush hd slot handle p dl s) := by
  refine .imageVerb h fun h => ?_
  refine ite_s h (ite_s h (ite_s h (ite_s h ?_)))
  split
  · exact h.sendFaultCount
  · split
    · split
      · refine ite_s h ?_
        dsimp only
        split
        next he => exact h.newFlight.of_eq he
        next he => exact (h.newFlight.of_eq he).endFlight.ite (h.newFlight.of_eq he)
        next he => exact h.newFlight.of_eq he
      · exact h
    · exact h

theorem execPushBlock {cell : Nat} (h : s₀.Preserves s) : s₀.Kept (Machine.execPushBlock cell s) := by
  refine .next ?_
  split
  · exact h
  · dsimp only
    refine ite h ?_
    split
    · exact h
    · split
      · refine ite ((h.sendBlock fun _ h => h.transmit).ite h) ?_
        split
        next he => exact (h.takeAir.of_eq he).sendBlock fun _ h => h.launch
        next he => exact h.takeAir.of_eq he
        next he => exact (h.takeAir.of_eq he).cellUsed
        next he => exact (h.takeAir.of_eq he).cellUsed.onFlight.failAttempt
      · exact h

theorem execDoJomenArm {hd : Hdr} {code : Int} {mask : Option Int} (h : s₀.Preserves s) :
    s₀.Kept (Machine.execDoJomenArm hd code mask s) :=
  .next ((h.change fun h => h.runDoJomenArm).ite (h.verb fun h => h.runDoJomenArm))

theorem execDoJomenReason {hd : Hdr} {r : Int} {on : Int} (h : s₀.Preserves s) :
    s₀.Kept (Machine.execDoJomenReason hd r on s) :=
  .next (h.change fun h => h.runDoJomenReason)

theorem execMaskChangeEffect (h : s₀.Preserves s) : s₀.Kept (Machine.execMaskChangeEffect s) := by
  refine .next (ite h ?_)
  dsimp only
  refine each (onJomen (onWake (h.each fun _ h => h.journal) (hm := ?_))) fun _ h => h.reply
  exact fun _ ⟨hm, hs, hn⟩ => ⟨Mem.wf_writeAll _ hm, Mem.wf_writeAll _ hs, hn⟩

theorem execDoJomenBurst {hd : Hdr} {code : Int} {reason : Int} {sync : Option Int} {rep : Option Int} (h :
    s₀.Preserves s) : s₀.Kept (Machine.execDoJomenBurst hd code reason sync rep s) :=
  .next (h.change fun h => h.runDoJomenBurst)

theorem execScheduledBurstDue (h : s₀.Preserves s) : s₀.Kept (Machine.execScheduledBurstDue s) := by
  refine .next ?_
  split
  · exact h
  · exact (h.onJomen.fire.acceptBurst.ite h.onJomen.burstSkipped)

theorem execAirtimeEntryExpiry (h : s₀.Preserves s) : s₀.Kept (Machine.execAirtimeEntryExpiry s) :=
  .next h.onJomen

theorem execBurstStart (h : s₀.Preserves s) : s₀.Kept (Machine.execBurstStart s) := by
  refine .next ?_
  split
  · exact h
  · split
    · exact h
    · exact h.onJomen.transmit

theorem execBurstEnd (h : s₀.Preserves s) : s₀.Kept (Machine.execBurstEnd s) := by
  refine .next ?_
  split
  · split
    · split
      · exact h.endTx.onJomen.queue
      · exact h.endTx.onJomen.burstWork
    · exact h
  · exact h

theorem execGet {hd : Hdr} {obj : Nat} (h : s₀.Preserves s) : s₀.Kept (Machine.execGet hd obj s) := by
  refine .next (h.verb fun h => ?_)
  split <;> exact h

theorem execSet {hd : Hdr} {obj : Nat} {arg : PArg} (h : s₀.Preserves s) : s₀.Kept (Machine.execSet hd obj arg s) :=
  .next (h.change fun h => h.runSet)

theorem execShowPart {hd : Hdr} (h : s₀.Preserves s) : s₀.Kept (Machine.execShowPart hd s) :=
  .next (h.verb fun h => h)

theorem execShowPrefix {hd : Hdr} {pre : String} (h : s₀.Preserves s) : s₀.Kept (Machine.execShowPrefix hd pre s) :=
  .next (h.verb fun h => (h.ite_s h))

theorem execAuthChallenge {hd : Hdr} {level : Level} (h : s₀.Preserves s) :
    s₀.Kept (Machine.execAuthChallenge hd level s) :=
  .next (h.change fun h => h.runAuthChallenge)

theorem execAuthResponse {hd : Hdr} {level : Level} {resp : BitVec 64} (h : s₀.Preserves s) :
    s₀.Kept (Machine.execAuthResponse hd level resp s) :=
  .next (h.change fun h => h.runAuthResponse)

theorem execAuthKey {hd : Hdr} {level : Level} {wrapped : BitVec 192} (h : s₀.Preserves s) :
    s₀.Kept (Machine.execAuthKey hd level wrapped s) :=
  .next (h.change fun h => h.runAuthKey)

theorem execLogout {hd : Hdr} (h : s₀.Preserves s) : s₀.Kept (Machine.execLogout hd s) :=
  .next (h.verb fun h => h.onLine)

theorem execEnumStart {hd : Hdr} (h : s₀.Preserves s) : s₀.Kept (Machine.execEnumStart hd s) :=
  .next (h.change fun h => h.runEnumStart)

theorem execEnumNext {hd : Hdr} {n : Int} {chainIn : Bool} (h : s₀.Preserves s) :
    s₀.Kept (Machine.execEnumNext hd n chainIn s) :=
  .next (h.change fun h => h.runEnumNext)

theorem execEnumClaim {hd : Hdr} {eui : Eui} {n : Int} (h : s₀.Preserves s) :
    s₀.Kept (Machine.execEnumClaim hd eui n s) :=
  .next (h.change fun h => h.runEnumClaim)

theorem execRoll {hd : Hdr} (h : s₀.Preserves s) : s₀.Kept (Machine.execRoll hd s) :=
  .next (h.verb fun h => h.onlyBroadcast h.onLine.good)

theorem execRollSlotAnswer (h : s₀.Preserves s) : s₀.Kept (Machine.execRollSlotAnswer s) := by
  refine .next ?_
  split
  · exact h
  · exact (h.ite (h.onLine.bytes.sendBare.ite h.onLine))

theorem execWhy {hd : Hdr} (h : s₀.Preserves s) : s₀.Kept (Machine.execWhy hd s) :=
  .next (h.verb fun h => h)

theorem execWhyPath {hd : Hdr} {obj : Nat} (h : s₀.Preserves s) : s₀.Kept (Machine.execWhyPath hd obj s) := by
  refine .next (h.verb fun h => ?_)
  split <;> exact h

theorem execEvents {hd : Hdr} {max : Option Int} (h : s₀.Preserves s) : s₀.Kept (Machine.execEvents hd max s) :=
  .next (h.verb fun h => h.ite_s (good (h.onLine
    fun _ ⟨he, ha⟩ => ⟨by simp only [List.length_drop]; omega, ha⟩)))

theorem execEventPush (h : s₀.Preserves s) : s₀.Kept (Machine.execEventPush s) := by
  refine .next (ite h ?_)
  dsimp only
  refine ite h.draw.bytes.send.onLine ?_
  split
  · exact h
  next hl =>
    refine h.draw.bytes.send.onLineOf fun ⟨he, ha⟩ => ⟨Nat.le_of_succ_le ?_, ha⟩
    exact (congrArg List.length hl).symm.trans_le he

theorem execLineCollision (h : s₀.Preserves s) : s₀.Kept (Machine.execLineCollision s) := by
  refine .next ?_
  split
  · exact h
  · exact h.collide

theorem execCharacterEcho {c : Byte} (h : s₀.Preserves s) : s₀.Kept (Machine.execCharacterEcho c s) :=
  .next (h.lineEdge.ite (h.onLine.collide.ite (h.onLine.ite (((h.rouse.wakeEvent.ite h.rouse).fire.ite
      (h.rouse.wakeEvent.ite h.rouse)).onLine.bytes.sendBare.ite ((h.rouse.wakeEvent.ite h.rouse).fire.ite
      (h.rouse.wakeEvent.ite h.rouse)).onLine))))

theorem execPartialLineTimeout (h : s₀.Preserves s) : s₀.Kept (Machine.execPartialLineTimeout s) :=
  .next (h.onLine.ite h)

theorem execShortBreak {low : Ticks} (h : s₀.Preserves s) : s₀.Kept (Machine.execShortBreak low s) :=
  .next (h.lineEdge.ite (h.takeBreak.ite h))

theorem execAttention {low : Ticks} (h : s₀.Preserves s) : s₀.Kept (Machine.execAttention low s) :=
  .next (h.lineEdge.ite (h.rouse.abandon.onLine.ite h))

theorem execLongBreak {low : Ticks} (h : s₀.Preserves s) : s₀.Kept (Machine.execLongBreak low s) :=
  .next (h.lineEdge.ite (h.takeBreak.ite h))

theorem execStuckLine (h : s₀.Preserves s) : s₀.Kept (Machine.execStuckLine s) :=
  .next (h.lineEdge.ite (h.lineEdge.ite h.rouse.abandon.onLine.lineFault))

theorem execStuckLineCheck {high : Bool} (h : s₀.Preserves s) : s₀.Kept (Machine.execStuckLineCheck high s) :=
  .next (h.onLine.ite h)

theorem execLineRateTrialExpiry (h : s₀.Preserves s) : s₀.Kept (Machine.execLineRateTrialExpiry s) := by
  refine .next ?_
  split
  · exact h
  · exact (h.ite h.journal.writeParam.fire.onLine.audit.queue)

theorem execSessionIdleTimeout (h : s₀.Preserves s) : s₀.Kept (Machine.execSessionIdleTimeout s) :=
  .next (h.onLine.ite h)

theorem execChallengeExpiry (h : s₀.Preserves s) : s₀.Kept (Machine.execChallengeExpiry s) := by
  refine .next ?_
  split
  · exact (h.onLine.ite h)
  · exact h

theorem execAuthLockoutEnd (h : s₀.Preserves s) : s₀.Kept (Machine.execAuthLockoutEnd s) := by
  refine .next ?_
  split
  · exact (h.onLine.ite h)
  · exact h

theorem execLineReceiverOpen (h : s₀.Preserves s) : s₀.Kept (Machine.execLineReceiverOpen s) :=
  .next (h.onLine.ite h)

theorem execBeaconReceived {b : Beacon} {r : RxInfo} (h : s₀.Preserves s) :
    s₀.Kept (Machine.execBeaconReceived b r s) := by
  refine .next ?_
  dsimp only
  split
  · exact h
  · split
    · exact h.airRx.onLane.count
    · split
      · split
        · exact (h.airRx.onLane.holdBeacon.heardFrom.found.adoptSet.ite
            h.airRx.onLane.holdBeacon.heardFrom.found).beaconActs
        · exact (h.airRx.onLane.holdBeacon.adoptSet.ite h.airRx.onLane.holdBeacon).beaconActs
      · split
        · exact (h.airRx.onLane.holdBeacon.contactAt.heardFrom.found.adoptSet.ite
            h.airRx.onLane.holdBeacon.contactAt.heardFrom.found).beaconActs
        · exact (h.airRx.onLane.holdBeacon.adoptSet.ite h.airRx.onLane.holdBeacon).beaconActs

theorem execNetworkWaitEnd (h : s₀.Preserves s) : s₀.Kept (Machine.execNetworkWaitEnd s) := by
  refine .next ?_
  split
  · exact h
  · exact (h.ite (h.fire.fire.onNet.setNet.beginRound.ite h.fire.count.beginWait))

theorem execStartRoundSlot (h : s₀.Preserves s) : s₀.Kept (Machine.execStartRoundSlot s) := by
  refine .next ?_
  dsimp only
  split
  · exact h
  · split
    · split
      · split
        · split
          next he => exact (h.beginRound.takeAir.of_eq he).onNet.sendBeacon
          next he => exact (h.beginRound.takeAir.of_eq he)
        · exact h.beginRound
      · split
        · split
          next he => exact (h.beginRound.takeAir.of_eq he).onNet.sendBeacon
          next he => exact (h.beginRound.takeAir.of_eq he)
        · exact h.beginRound
    · split
      · split
        next he => exact (h.takeAir.of_eq he).onNet.sendBeacon
        next he => exact (h.takeAir.of_eq he)
      · exact h

theorem execBecomeRoot (h : s₀.Preserves s) : s₀.Kept (Machine.execBecomeRoot s) :=
  .next ((h.setNet.onNet.ite (h.setNet.onNet.foldNow.ite h.setNet.onNet.onTime)).ite h)

theorem execTallyRead {hd : Hdr} {pre : Option String} (h : s₀.Preserves s) :
    s₀.Kept (Machine.execTallyRead hd pre s) :=
  .next (h.verb fun h => ((h.openForm h).ite_s h))

theorem execTallyReadSnap {hd : Hdr} {pre : Option String} (h : s₀.Preserves s) :
    s₀.Kept (Machine.execTallyReadSnap hd pre s) := by
  refine .next (h.verb fun h => ite_s (h.openForm ?_) h)
  split <;> exact h

theorem execTallyOcc {hd : Hdr} (h : s₀.Preserves s) : s₀.Kept (Machine.execTallyOcc hd s) :=
  .next (h.verb fun h => (h.openForm h))

theorem execTallyBw {hd : Hdr} {port : Option Port} (h : s₀.Preserves s) : s₀.Kept (Machine.execTallyBw hd port s) :=
  .next (h.verb fun h => (h.openForm h))

theorem execBandwidthWindowEnd (h : s₀.Preserves s) : s₀.Kept (Machine.execBandwidthWindowEnd s) :=
  .next (h.windowEnd.ite h)

theorem execTallySnap {hd : Hdr} (h : s₀.Preserves s) : s₀.Kept (Machine.execTallySnap hd s) :=
  .tallyDo h fun h => h.onTally.good

theorem execTallyFreeze {hd : Hdr} (h : s₀.Preserves s) : s₀.Kept (Machine.execTallyFreeze hd s) := by
  refine .tallyDo h fun h => ?_
  split
  · exact h
  · exact h.onTally.good

theorem execTallyThaw {hd : Hdr} (h : s₀.Preserves s) : s₀.Kept (Machine.execTallyThaw hd s) :=
  .tallyDo h fun h => h.thaw

theorem execTallyFreezeExpiry (h : s₀.Preserves s) : s₀.Kept (Machine.execTallyFreezeExpiry s) := by
  refine .next ?_
  split
  · exact (h.thaw.ite h)
  · exact h

theorem execTallyClear {hd : Hdr} {block : Option Block} (h : s₀.Preserves s) :
    s₀.Kept (Machine.execTallyClear hd block s) :=
  .next (h.change fun h => h.runTallyClear)

theorem execDoPmSleep {hd : Hdr} {cellar : Bool} (h : s₀.Preserves s) : s₀.Kept (Machine.execDoPmSleep hd cellar s) :=
  .next (h.change fun h => h.runDoPmSleep)

theorem execDoPmShelf {hd : Hdr} (h : s₀.Preserves s) : s₀.Kept (Machine.execDoPmShelf hd s) :=
  .next (h.change fun h => h.runDoPmShelf)

theorem execDoPmResidency {hd : Hdr} (h : s₀.Preserves s) : s₀.Kept (Machine.execDoPmResidency hd s) :=
  .next (h.report fun h => h)

theorem execResetWarm {hd : Hdr} (h : s₀.Preserves s) : s₀.Kept (Machine.execResetWarm hd s) :=
  .next (h.change fun h => h.runResetWarm)

theorem execResetCold {hd : Hdr} (h : s₀.Preserves s) : s₀.Kept (Machine.execResetCold hd s) :=
  .next (h.change fun h => h.runResetCold)

theorem execIdleToLoft (h : s₀.Preserves s) : s₀.Kept (Machine.execIdleToLoft s) := by
  refine .next ?_
  have hf := h.fire.ite (c := s.steady) (s := s.fire .timerCompare) h
  dsimp only
  generalize (if s.steady then s.fire .timerCompare else s) = t at hf
  split
  · exact hf.fire.enterPower.ite hf
  · exact hf

theorem execLoftToLarder (h : s₀.Preserves s) : s₀.Kept (Machine.execLoftToLarder s) := by
  refine .next ?_
  have hf := h.fire.ite (c := s.steady) (s := s.fire .timerCompare) h
  dsimp only
  generalize (if s.steady then s.fire .timerCompare else s) = t at hf
  split
  · exact hf.enterLarder.ite hf
  · exact hf

theorem execCellarEntry (h : s₀.Preserves s) : s₀.Kept (Machine.execCellarEntry s) := by
  refine .next ?_
  have hf := h.fire.ite (c := s.steady) (s := s.fire .timerCompare) h
  dsimp only
  generalize (if s.steady then s.fire .timerCompare else s) = t at hf
  refine ite ?_ hf
  split
  · exact hf.beginEntry
  · exact hf.onPm
  · exact hf

theorem execWakeEventExit {cause : WakeCause} (h : s₀.Preserves s) : s₀.Kept (Machine.execWakeEventExit cause s) :=
  .next (h.ite h.wakeEvent)

theorem execExitComplete {failed : List Item} (h : s₀.Preserves s) : s₀.Kept (Machine.execExitComplete failed s) := by
  refine .next ?_
  split
  · exact ((h.exitFrom.onPm.beginEntry.ite h.exitFrom.onPm).ite h)
  · exact h

theorem execScheduleTimerWake (h : s₀.Preserves s) : s₀.Kept (Machine.execScheduleTimerWake s) :=
  .next (h.wakeEvent.ite h)

theorem execCellarPeriodWake (h : s₀.Preserves s) : s₀.Kept (Machine.execCellarPeriodWake s) := by
  refine .next ?_
  split
  · exact ((h.onPm.onNet.ite h.onPm).wakeEvent.ite h)
  · exact h

theorem execBackgroundReload (h : s₀.Preserves s) : s₀.Kept (Machine.execBackgroundReload s) :=
  .next (h.onRoster.onPm.drainBuf.ite h)

theorem execPowerOnStart {cause : ColdCause} {test : Bool} {bist : Bist} {temp : Int} (h : s₀.Preserves s) :
    s₀.Kept (Machine.execPowerOnStart cause test bist temp s) := by
  refine .next ?_
  split
  · exact h.powerOn
  · split
    · exact (h.powerOn.ite h)
    · exact h.powerOn
  · exact h

theorem execBrownOut (h : s₀.Preserves s) : s₀.Kept (Machine.execBrownOut s) := by
  refine .next ?_
  split
  · exact h
  · exact h.coldEdge

theorem execShelfWake (h : s₀.Preserves s) : s₀.Kept (Machine.execShelfWake s) :=
  .next (h.coldEdge.ite h)

theorem execShelfDetectorArm (h : s₀.Preserves s) : s₀.Kept (Machine.execShelfDetectorArm s) := by
  refine .next ?_
  split
  · exact (h.onPm.ite h)
  · exact h

theorem execWatchdog (h : s₀.Preserves s) : s₀.Kept (Machine.execWatchdog s) :=
  .next (h.count.warmEdge.ite h)

theorem execWarmStart {failed : List Item} {temp : Int} {selfTestOk : Bool} (h : s₀.Preserves s) :
    s₀.Kept (Machine.execWarmStart failed temp selfTestOk s) := by
  refine .next ?_
  split
  · exact h.warmStart
  · exact h

theorem execSleepCrystalGood (h : s₀.Preserves s) : s₀.Kept (Machine.execSleepCrystalGood s) :=
  .next (h.onPm.ite h)

theorem execBistRetry {bist : Bist} {temp : Int} (h : s₀.Preserves s) :
    s₀.Kept (Machine.execBistRetry bist temp s) := by
  refine .next ?_
  split
  · exact (h.powerOn.ite h)
  · exact h

theorem execConfirmTimerExpiry (h : s₀.Preserves s) : s₀.Kept (Machine.execConfirmTimerExpiry s) := by
  refine .next ?_
  split
  · exact (h.warmEdge.ite h)
  · exact h

theorem execRadioTransitionDone {temp : Int} (h : s₀.Preserves s) :
    s₀.Kept (Machine.execRadioTransitionDone temp s) := by
  refine .next ?_
  split
  · exact h
  next t _ =>
    refine ite h ?_
    dsimp only
    have ht : s₀.Preserves (match t.tune with
        | some (b, khz) => (s.onRadio fun r => { r with trans := none }).tuned b khz temp
        | none => s.onRadio fun r => { r with trans := none }) := by
      split
      · exact h.onRadio.tuned
      · exact h.onRadio
    exact (ht.readTemp.ite ht).reach

theorem execTxEndOfFrame (h : s₀.Preserves s) : s₀.Kept (Machine.execTxEndOfFrame s) := by
  refine .next ?_
  split
  · exact (h.endTx.frameSent.ite h)
  · exact h

theorem execDieTemperatureReading {temp : Int} (h : s₀.Preserves s) :
    s₀.Kept (Machine.execDieTemperatureReading temp s) :=
  .next (h.readTemp.ite h)

theorem execGapCalibration {band : Band} {gap : Ticks} (h : s₀.Preserves s) :
    s₀.Kept (Machine.execGapCalibration band gap s) := by
  refine .next ?_
  split
  · split
    · exact h.startCal
    · exact h
  · exact h

theorem execCalibrationDeadline (h : s₀.Preserves s) : s₀.Kept (Machine.execCalibrationDeadline s) :=
  .next (h.startCal.takenSlot.ite h)

theorem execCalibrationComplete {temp : Int} {out : List Side} (h : s₀.Preserves s) :
    s₀.Kept (Machine.execCalibrationComplete temp out s) := by
  refine .next ?_
  split
  · exact (h.endCal.trans.ite h)
  · exact h

theorem execIdleSynthOff (h : s₀.Preserves s) : s₀.Kept (Machine.execIdleSynthOff s) :=
  .next (h.onRadio.ite h)

theorem execDoRadioCal {hd : Hdr} {kind : Option CalKind} {band : Option BandSel} (h : s₀.Preserves s) :
    s₀.Kept (Machine.execDoRadioCal hd kind band s) :=
  .next (h.change fun h => h.runDoRadioCal)

theorem execPaLoopCorrection {forward : Int} (h : s₀.Preserves s) :
    s₀.Kept (Machine.execPaLoopCorrection forward s) := by
  refine .next ?_
  split
  · exact ((h.onRadio.count.ite h.onRadio).ite h)
  · exact h

theorem execAerialRestEnd {aerial : Side} (h : s₀.Preserves s) : s₀.Kept (Machine.execAerialRestEnd aerial s) :=
  .next h.onRadio

theorem execCoexRequest (h : s₀.Preserves s) : s₀.Kept (Machine.execCoexRequest s) := by
  refine .next ?_
  have hf := h.fire (tr := .coexRequest)
  dsimp only
  generalize s.fire .coexRequest = t at hf
  split
  · exact hf.claimRequest.ite h
  · exact h.ite hf.coexRise
  · exact h

theorem execCoexGrantSample {gnt : Bool} (h : s₀.Preserves s) : s₀.Kept (Machine.execCoexGrantSample gnt s) := by
  refine .next ?_
  split
  · exact h
  · split
    · exact (h.ite (h.coexHigh.onRadio.ite h.onRadio))
    · exact (h.ite (h.coexHigh.coexGo.ite h.onRadio))
    · exact h

theorem execCoexGrantRise (h : s₀.Preserves s) : s₀.Kept (Machine.execCoexGrantRise s) := by
  refine .next ?_
  split
  · exact (h.coexHigh.coexGo.ite h.onRadio)
  · exact h.onRadio

theorem execCoexGrantLoss (h : s₀.Preserves s) : s₀.Kept (Machine.execCoexGrantLoss s) := by
  refine .next (ite ?_ h.onRadio)
  dsimp only
  have hc := h.onRadio (f := fun r => { r with coexLow := true }) |>.count (b := .rfe) (name := "coex.loss")
  split
  · exact hc.onMon.pgFallAll.onMon
  · exact hc.onRadio.txLost.moveRadio.resume
  · exact hc.onRadio
  · exact hc

theorem execCoexStarvation (h : s₀.Preserves s) : s₀.Kept (Machine.execCoexStarvation s) :=
  .next (h.fire.onRadio.queue.count.coexOverride.ite h.fire)

theorem execDoRosterShow {hd : Hdr} {ref : RosterRef} (h : s₀.Preserves s) :
    s₀.Kept (Machine.execDoRosterShow hd ref s) := by
  refine .next (h.report fun h => ?_)
  split
  · refine ite_s h ?_
    split <;> exact h
  · dsimp only
    split
    · exact h.spillCrc
    · split <;> exact h.spillCrc

theorem execDoRosterPin {hd : Hdr} {handle : HandleArg} {on : Int} (h : s₀.Preserves s) :
    s₀.Kept (Machine.execDoRosterPin hd handle on s) :=
  .next (h.change fun h => h.runDoRosterPin)

theorem execDoRosterDrop {hd : Hdr} {handle : HandleArg} (h : s₀.Preserves s) :
    s₀.Kept (Machine.execDoRosterDrop hd handle s) :=
  .next (h.change fun h => h.runDoRosterDrop)

theorem execDoRosterGroups {hd : Hdr} {handle : HandleArg} {groups : List Int} (h : s₀.Preserves s) :
    s₀.Kept (Machine.execDoRosterGroups hd handle groups s) :=
  .next (h.change fun h => h.runDoRosterGroups)

theorem execDoRosterPeer {hd : Hdr} {index : Int} {eui : Eui} (h : s₀.Preserves s) :
    s₀.Kept (Machine.execDoRosterPeer hd index eui s) :=
  .next (h.change fun h => h.runDoRosterPeer)

theorem execDoRosterForget {hd : Hdr} {eui : Eui} (h : s₀.Preserves s) :
    s₀.Kept (Machine.execDoRosterForget hd eui s) :=
  .next (h.change fun h => h.runDoRosterForget)

theorem execDoKeeperNetkey {hd : Hdr} {wrapped : BitVec 192} (h : s₀.Preserves s) :
    s₀.Kept (Machine.execDoKeeperNetkey hd wrapped s) :=
  .next (h.change fun h => h.runDoKeeperNetkey)

theorem execDoKeeperLibkey {hd : Hdr} {key : BitVec 512} (h : s₀.Preserves s) :
    s₀.Kept (Machine.execDoKeeperLibkey hd key s) :=
  .next (h.change fun h => h.runDoKeeperLibkey)

theorem execLineError {chars : List Byte} {malformed : Bool} (h : s₀.Preserves s) :
    s₀.Kept (Machine.execLineError chars malformed s) := by
  refine .next (ite h.lineEdge ?_)
  have hb := h.fire (tr := .nextLine) |>.draw.rouse.bytes (p := .line)
    (n := chars.length + 1 + Config.freeChars (s.fire .nextLine).draw.1)
  dsimp only
  generalize State.bytes .line _ _ = u at hb
  have hw : s₀.Preserves (if u.pm.entering.isSome then u.wakeEvent else u) := hb.wakeEvent.ite hb
  generalize (if u.pm.entering.isSome then u.wakeEvent else u) = t at hw
  have hl : s₀.Preserves (t.onLine fun l => { l with
      solo := l.solo && (lineAddr chars).isNone, partialLine := [], tx := [], sending := none,
      trial := if validSyntax malformed chars && !(tokens chars).isEmpty then none else l.trial }) := hw.onLine
  split
  · exact hl
  · refine ite hl ?_
    split
    · exact hl.beginLine
    · exact hl.beginLine.argHash.finish

theorem execAgcWindowEnd {chain : Side} {peak : Int} (h : s₀.Preserves s) :
    s₀.Kept (Machine.execAgcWindowEnd chain peak s) :=
  .next (h.ite (h.onChain.onChain.ite (h.onChain.onChain.count.ite h.onChain.setStep.spoilAll)))

theorem execForcedAgcStep {chain : Side} (h : s₀.Preserves s) : s₀.Kept (Machine.execForcedAgcStep chain s) :=
  .next (h.ite (h.setStep.count.each fun _ h => (h.spoilForced.onLane.ite h.spoilForced)))

theorem execLaneRetune {lane : Fin 16} {chan rate : Nat} (h : s₀.Preserves s) :
    s₀.Kept (Machine.execLaneRetune lane chan rate s) := by
  refine .next (ite h ?_)
  split
  · exact h.ite h.lateRetune
  · exact h.bind.ite h

theorem execPreambleDeclared {lane : Fin 16} {first : Side} {qa : Int} {qb : Int} {rssiA : Int} {rssiB : Int}
    (h : s₀.Preserves s) : s₀.Kept (Machine.execPreambleDeclared lane first qa qb rssiA rssiB s) :=
  .next (h.ite (h.onLane.count.judgeLane.count.ite h.onLane.count.judgeLane))

theorem execSfdFound {lane : Fin 16} {sfd : Nat} {phr : PhrBits} {length : Nat} (h : s₀.Preserves s) :
    s₀.Kept (Machine.execSfdFound lane sfd phr length s) :=
  .next (h.onLane.ite h)

theorem execLaneEngineFault {lane : Fin 16} (h : s₀.Preserves s) : s₀.Kept (Machine.execLaneEngineFault lane s) :=
  .next (h.ite (((h.each fun _ h => h.failAttempt).dropCapture.ite (h.each fun _ h =>
      h.failAttempt)).onLane.release.retireOrRest.ite ((h.each fun _ h => h.failAttempt).dropCapture.ite
      (h.each fun _ h => h.failAttempt)).onLane.release.transient).moveRadio)

theorem execDoRxCapture {hd : Hdr} {src : CapSrc} {at_ : Option Int} {count : Option Int} {rate : Option Int}
    (h : s₀.Preserves s) : s₀.Kept (Machine.execDoRxCapture hd src at_ count rate s) :=
  .next (h.change fun h => h.runDoRxCapture)

theorem execCaptureEnd {words : List (BitVec 32)} (h : s₀.Preserves s) :
    s₀.Kept (Machine.execCaptureEnd words s) := by
  refine .next ?_
  split
  · exact (h.onRx.queue.ite h)
  · exact h

theorem execDoRxCaptureDrop {hd : Hdr} (h : s₀.Preserves s) : s₀.Kept (Machine.execDoRxCaptureDrop hd s) :=
  .next (h.change fun h => h.runDoRxCaptureDrop)

theorem execCaptureHoldExpiry (h : s₀.Preserves s) : s₀.Kept (Machine.execCaptureHoldExpiry s) := by
  refine .next ?_
  split
  · exact (h.dropCapture.ite h)
  · exact h

theorem execDoRxCaptureRead {hd : Hdr} {offset : Option Int} {count : Option Int} (h : s₀.Preserves s) :
    s₀.Kept (Machine.execDoRxCaptureRead hd offset count s) := by
  refine .next (h.report fun h => ?_)
  refine ite_s h (ite_s h ?_)
  split
  · exact h.ite_s h
  · exact h

theorem execWakeList {hd : Hdr} {max : Option Int} (h : s₀.Preserves s) : s₀.Kept (Machine.execWakeList hd max s) :=
  .next (h.verb fun h => (h.ite_s h))

theorem execWakeAck {hd : Hdr} {seq : Int} (h : s₀.Preserves s) : s₀.Kept (Machine.execWakeAck hd seq s) := by
  refine .next (h.verb fun h => ?_)
  split
  · exact h
  next gone rest he =>
    have hr := ackSplit_rest (Option.ite_none_right_eq_some.1 he).2
    exact ((onWake (onWakeOf h hr.trans fun hm => hm)).wakeLedger).driveWake.rosterCheck

theorem execWakeBranch {hd : Hdr} (h : s₀.Preserves s) : s₀.Kept (Machine.execWakeBranch hd s) :=
  .next (h.verb fun h => h)

theorem execWakeSeen {hd : Hdr} {r : Option Int} (h : s₀.Preserves s) : s₀.Kept (Machine.execWakeSeen hd r s) := by
  refine .next (h.verb fun h => ?_)
  split
  · exact h.take.ite_s h
  · exact h.take

theorem execSeenReadAbandoned (h : s₀.Preserves s) : s₀.Kept (Machine.execSeenReadAbandoned s) := by
  refine .next ?_
  split
  · exact h.seenBack.onLine.driveWake
  · exact h

theorem execCodeWordComplete {br : Side} {readings : List (List Int)} {rssi : Int} (h : s₀.Preserves s) :
    s₀.Kept (Machine.execCodeWordComplete br readings rssi s) := by
  refine .next ?_
  dsimp only
  split
  · refine ite ?_ h
    split
    · exact h.matchWord
    · exact h
  · exact h

theorem execSyncSearchTimeout {br : Side} (h : s₀.Preserves s) : s₀.Kept (Machine.execSyncSearchTimeout br s) := by
  refine .next ?_
  split
  · exact (h.onBr.ite h)
  · exact h

theorem execDiscrepancyWindowClose (h : s₀.Preserves s) : s₀.Kept (Machine.execDiscrepancyWindowClose s) :=
  .next (h.each fun _ h => h.closeRecord)

theorem execBranchSettleComplete {br : Side} (h : s₀.Preserves s) :
    s₀.Kept (Machine.execBranchSettleComplete br s) := by
  refine .next ?_
  dsimp only
  split
  · exact h.draw.onBr.ite h
  · exact h

theorem execBlankingStart (h : s₀.Preserves s) : s₀.Kept (Machine.execBlankingStart s) :=
  .next ((h.each fun _ h => (h.onBr.ite h)).ite h)

theorem execBlankingEnd (h : s₀.Preserves s) : s₀.Kept (Machine.execBlankingEnd s) :=
  .next (h.ite (h.each fun _ h => (h.onBr.ite h)).onWake)

theorem execDirectSuspend {br : Side} (h : s₀.Preserves s) : s₀.Kept (Machine.execDirectSuspend br s) :=
  .next (h.onBr.ite h)

theorem execDirectResume {br : Side} (h : s₀.Preserves s) : s₀.Kept (Machine.execDirectResume br s) :=
  .next (h.onBr.ite h)

theorem execDirectSniff {br : Side} {level : Int} (h : s₀.Preserves s) :
    s₀.Kept (Machine.execDirectSniff br level s) :=
  .next ((h.fire.sniffDc.onBr.ite (h.fire.sniffDc.onBr.count.ite h.fire.sniffDc.onBr)).ite h)

theorem execSniffHoldTimeout {br : Side} (h : s₀.Preserves s) : s₀.Kept (Machine.execSniffHoldTimeout br s) := by
  refine .next ?_
  split
  · exact (h.onBr.ite h)
  · exact h

theorem execBranchConfigChange (h : s₀.Preserves s) : s₀.Kept (Machine.execBranchConfigChange s) :=
  .next (((h.onWake.ite h).each fun _ h => (h.ite ((h.ite h.onBr).ite (h.settle.ite h)))).ite h)

theorem execBranchAlignment {br : Side} {chips : List (Ticks × List Int)} {onLevel : Int} {offLevel : Int} (h :
    s₀.Preserves s) : s₀.Kept (Machine.execBranchAlignment br chips onLevel offLevel s) :=
  .next (h.onBr.ite h)

theorem execSweepStart (h : s₀.Preserves s) : s₀.Kept (Machine.execSweepStart s) := by
  refine .next ?_
  split
  · split
    · exact h
    · exact h.sweepDue
  · exact h

end State.Preserves

namespace State.Preserves

variable {s₀ s : State}

/-! ## Every command, and every step -/

/-- A change that waited is judged as it would have been on its arrival. -/
theorem runHeld {c : Instr} (h : s₀.Preserves s) : s₀.Preserves (s.runHeld c) := by
  unfold State.runHeld
  split
  · exact h.judge fun h => h.runSet
  · exact h.judge fun h => h.runAuthChallenge
  · exact h.judge fun h => h.runAuthResponse
  · exact h.judge fun h => h.runAuthKey
  · exact h.judge fun h => h.runEnumStart
  · exact h.judge fun h => h.runEnumNext
  · exact h.judge fun h => h.runEnumClaim
  · exact h.judge fun h => h.runLogMark
  · exact h.judge fun h => h.runTallyClear
  · exact h.judge fun h => h.runImageBeginSelf
  · exact h.judge fun h => h.runImageBeginLib
  · exact h.judge fun h => h.runImageVerify
  · exact h.judge fun h => h.runImageActivate
  · exact h.judge fun h => h.runImageConfirm
  · exact h.judge fun h => h.runImageAbort
  · exact h.judge fun h => h.runImageDropLib
  · exact h.judge fun h => h.runResetWarm
  · exact h.judge fun h => h.runResetCold
  · exact h.judge fun h => h.runDoJomenArm
  · exact h.judge fun h => h.runDoJomenReason
  · exact h.judge fun h => h.runDoJomenBurst
  · exact h.judge fun h => h.runDoRadioCal
  · exact h.judge fun h => h.runDoRxCapture
  · exact h.judge fun h => h.runDoRxCaptureDrop
  · exact h.judge fun h => h.runDoTimeSet
  · exact h.judge fun h => h.runDoTimeCounter
  · exact h.judge fun h => h.runDoSchedFrame
  · exact h.judge fun h => h.runDoSchedCell
  · exact h.judge fun h => h.runDoSchedDrop
  · exact h.judge fun h => h.runDoRoundStart
  · exact h.judge fun h => h.runDoRoundStop
  · exact h.judge fun h => h.runDoFlightCancel
  · exact h.judge fun h => h.runDoRosterPin
  · exact h.judge fun h => h.runDoRosterDrop
  · exact h.judge fun h => h.runDoRosterGroups
  · exact h.judge fun h => h.runDoRosterPeer
  · exact h.judge fun h => h.runDoRosterForget
  · exact h.judge fun h => h.runDoKeeperNetkey
  · exact h.judge fun h => h.runDoKeeperLibkey
  · exact h.judge fun h => h.runDoWmClear
  · exact h.judge fun h => h.runDoVaux
  · exact h.judge fun h => h.runDoPmSleep
  · exact h.judge fun h => h.runDoPmShelf
  · exact h.judge fun h => h.runDoFaultRetire
  · exact h.judge fun h => h.runDoFaultReinstate
  · exact h

theorem releaseHeld (h : s₀.Preserves s) : s₀.Preserves s.releaseHeld := by
  unfold State.releaseHeld
  split
  · exact h
  · exact h.onStore.runHeld.ite h

theorem dueWork (h : s₀.Preserves s) : s₀.Preserves s.dueWork := by
  have hs : s₀.Preserves (s.each (s.work.table.filter fun f => f.frameAt.isSome) State.sendDue) := h.each fun _
      h => h.sendDue
  exact hs.coexTick.radioTick.rxTick.bootDue.lineTick.releaseHeld.entrySteps.idleTime.occPeaks.resetDue

theorem exec (c : Instr) (h : s₀.Preserves s) : s₀.Kept (Machine.exec c s) := by
  cases c
  · exact h.execGet
  · exact h.execSet
  · exact h.execShowPart
  · exact h.execShowPrefix
  · exact h.execAuthChallenge
  · exact h.execAuthResponse
  · exact h.execAuthKey
  · exact h.execLogout
  · exact h.execEnumStart
  · exact h.execEnumNext
  · exact h.execEnumClaim
  · exact h.execRoll
  · exact h.execRollSlotAnswer
  · exact h.execWhy
  · exact h.execWhyPath
  · exact h.execEvents
  · exact h.execEventPush
  · exact h.execWakeList
  · exact h.execWakeAck
  · exact h.execWakeBranch
  · exact h.execWakeSeen
  · exact h.execSeenReadAbandoned
  · exact h.execSend
  · exact h.execLogInfo
  · exact h.execLogRead
  · exact h.execLogAudit
  · exact h.execLogMark
  · exact h.execTallyRead
  · exact h.execTallyReadSnap
  · exact h.execTallyOcc
  · exact h.execTallyBw
  · exact h.execTallySnap
  · exact h.execTallyFreeze
  · exact h.execTallyThaw
  · exact h.execTallyFreezeExpiry
  · exact h.execTallyClear
  · exact h.execBandwidthWindowEnd
  · exact h.execImageBeginSelf
  · exact h.execImageBeginLib
  · exact h.execImageData
  · exact h.execImageStatus
  · exact h.execImageVerify
  · exact h.execImageVerifyDone
  · exact h.execImageActivate
  · exact h.execImageConfirm
  · exact h.execImageAbort
  · exact h.execImageDropLib
  · exact h.execImageList
  · exact h.execImagePush
  · exact h.execImageStall
  · exact h.execConfirmTimerExpiry
  · exact h.execResetWarm
  · exact h.execResetCold
  · exact h.execDoJomenArm
  · exact h.execDoJomenReason
  · exact h.execMaskChangeEffect
  · exact h.execDoJomenBurst
  · exact h.execDoRadioCal
  · exact h.execDoRxCapture
  · exact h.execCaptureEnd
  · exact h.execDoRxCaptureDrop
  · exact h.execCaptureHoldExpiry
  · exact h.execDoRxCaptureRead
  · exact h.execDoTimeNow
  · exact h.execDoTimeSet
  · exact h.execDoTimeCounter
  · exact h.execDoSchedFrame
  · exact h.execDoSchedCell
  · exact h.execDoSchedDrop
  · exact h.execDoSchedList
  · exact h.execDoRoundStart
  · exact h.execDoRoundStop
  · exact h.execDoFlightList
  · exact h.execDoFlightCancel
  · exact h.execDoRosterShow
  · exact h.execDoRosterPin
  · exact h.execDoRosterDrop
  · exact h.execDoRosterGroups
  · exact h.execDoRosterPeer
  · exact h.execDoRosterForget
  · exact h.execDoKeeperNetkey
  · exact h.execDoKeeperLibkey
  · exact h.execDoWmRead
  · exact h.execDoWmConv
  · exact h.execDoWmClear
  · exact h.execDoVaux
  · exact h.execVauxRampEnd
  · exact h.execDoPmSleep
  · exact h.execDoPmShelf
  · exact h.execDoPmResidency
  · exact h.execDoFaultList
  · exact h.execDoFaultRetire
  · exact h.execDoFaultReinstate
  · exact h.execLineCollision
  · exact h.execPartialLineTimeout
  · exact h.execShortBreak
  · exact h.execAttention
  · exact h.execLongBreak
  · exact h.execStuckLine
  · exact h.execStuckLineCheck
  · exact h.execLineRateTrialExpiry
  · exact h.execSessionIdleTimeout
  · exact h.execChallengeExpiry
  · exact h.execAuthLockoutEnd
  · exact h.execLineReceiverOpen
  · exact h.execCodeWordComplete
  · exact h.execSyncSearchTimeout
  · exact h.execDiscrepancyWindowClose
  · exact h.execBranchSettleComplete
  · exact h.execBlankingStart
  · exact h.execBlankingEnd
  · exact h.execDirectSuspend
  · exact h.execDirectResume
  · exact h.execDirectSniff
  · exact h.execSniffHoldTimeout
  · exact h.execBranchConfigChange
  · exact h.execSweepStart
  · exact h.execBurstStart
  · exact h.execBurstEnd
  · exact h.execScheduledBurstDue
  · exact h.execAirtimeEntryExpiry
  · exact h.execRadioTransitionDone
  · exact h.execTxEndOfFrame
  · exact h.execDieTemperatureReading
  · exact h.execGapCalibration
  · exact h.execCalibrationDeadline
  · exact h.execCalibrationComplete
  · exact h.execIdleSynthOff
  · exact h.execPaLoopCorrection
  · exact h.execAerialRestEnd
  · exact h.execCoexRequest
  · exact h.execCoexGrantSample
  · exact h.execCoexGrantRise
  · exact h.execCoexGrantLoss
  · exact h.execCoexStarvation
  · exact h.execSlotBoundary
  · exact h.execCellStart
  · exact h.execAgcWindowEnd
  · exact h.execForcedAgcStep
  · exact h.execLaneRetune
  · exact h.execFrameReceived
  · exact h.execJoinReceived
  · exact h.execSpillWriteComplete
  · exact h.execAckReceived
  · exact h.execBeaconReceived
  · exact h.execFloodReceived
  · exact h.execFloodRebroadcast
  · exact h.execSeenCacheAgeOut
  · exact h.execAckSend
  · exact h.execRoundOpen
  · exact h.execSubSlotStart
  · exact h.execReplyWindowEnd
  · exact h.execRoundEnd
  · exact h.execRoundPause
  · exact h.execFlightAttempt
  · exact h.execAttemptFail
  · exact h.execCalledListenTimeout
  · exact h.execAnswerReceived
  · exact h.execLastChanceBurst
  · exact h.execLastChanceFlood
  · exact h.execReacquireTimeout
  · exact h.execNetworkWaitEnd
  · exact h.execStartRoundSlot
  · exact h.execBecomeRoot
  · exact h.execSleepClockMeasure
  · exact h.execSleepClockTempRead
  · exact h.execTimeSave
  · exact h.execMonitorSample
  · exact h.execComparatorCrossing
  · exact h.execLatchPeriodClear
  · exact h.execPgTrip
  · exact h.execEarlyWarning
  · exact h.execEmergencyFlushEnd
  · exact h.execVauxTrip
  · exact h.execVauxRetry
  · exact h.execIdleToLoft
  · exact h.execLoftToLarder
  · exact h.execCellarEntry
  · exact h.execWakeEventExit
  · exact h.execExitComplete
  · exact h.execScheduleTimerWake
  · exact h.execCellarPeriodWake
  · exact h.execPowerOnStart
  · exact h.execBrownOut
  · exact h.execShelfWake
  · exact h.execShelfDetectorArm
  · exact h.execWatchdog
  · exact h.execWarmStart
  · exact h.execSleepCrystalGood
  · exact h.execBistRetry
  · exact h.execCodewordDue
  · exact h.execStoreOperationDone
  · exact h.execProgramFailure
  · exact h.execPeckRefresh
  · exact h.execLedgerRingAdvance
  · exact h.execPushBlock
  · exact h.execPushDirectoryCompaction
  · exact h.execRestPeriodEnd
  · exact h.execRestWindowExpiry
  · exact h.execChannelJudgingWindow
  · exact h.execPeerRetireHourly
  · exact h.execBranchAlignment
  · exact h.execPreambleDeclared
  · exact h.execSfdFound
  · exact h.execLaneEngineFault
  · exact h.execCharacterEcho
  · exact h.execLineError
  · exact h.execBackgroundReload

end State.Preserves

/-- Every command answers a next state with what every command keeps. -/
theorem exec_kept (c : Instr) (s : State) : s.Kept (exec c s) := (State.Preserves.refl s).exec c

/-- A tick moves the model's clock on by one and keeps the rest. -/
theorem State.tick_preserves (s : State) : { s with now := s.now + 1 }.Preserves s.tick := by
  have h := (State.Preserves.refl { s with now := s.now + 1 }).clockEdges
  unfold State.tick
  exact h.dueWork.ite h

/-- The state a step starts from: a command has left the queue, or the clock has moved on. -/
def State.front (s : State) : State :=
  match s.pending with
  | [] => { s with now := s.now + 1 }
  | _ :: rest => { s with pending := rest }

theorem State.front_of_empty {s : State} (hp : s.pending = []) : s.front = { s with now := s.now + 1 } := by
  unfold State.front
  rw [hp]

theorem State.front_of_cons {s : State} {c : Instr} {rest : List Instr} (hp : s.pending = c :: rest) :
    s.front = { s with pending := rest } := by
  unfold State.front
  rw [hp]

theorem step_of_empty {s : State} (hp : s.pending = []) : step s = .next s.tick := by
  unfold step
  rw [hp]

/-- Settles O1: `step` is `exec` on the front of the queue. -/
theorem stepTakesFront : Obligations.StepTakesFront := by
  intro c rest s hp
  unfold step
  rw [hp]

theorem step_kept (s : State) : s.front.Kept (step s) := by
  rcases hp : s.pending with _ | ⟨c, rest⟩
  · rw [State.front_of_empty hp, step_of_empty hp]
    exact .next s.tick_preserves
  · rw [State.front_of_cons hp, stepTakesFront c rest s hp]
    exact exec_kept c _

theorem step_preserves {s t : State} (h : step s = .next t) : s.front.Preserves t := by
  obtain ⟨u, he, hu⟩ := step_kept s
  cases he.symm.trans h
  exact hu

@[simp] theorem State.front_line (s : State) : s.front.line = s.line := by unfold State.front; split <;> rfl
@[simp] theorem State.front_wake (s : State) : s.front.wake = s.wake := by unfold State.front; split <;> rfl
@[simp] theorem State.front_work (s : State) : s.front.work = s.work := by unfold State.front; split <;> rfl
@[simp] theorem State.front_rx (s : State) : s.front.rx = s.rx := by unfold State.front; split <;> rfl
@[simp] theorem State.front_roster (s : State) : s.front.roster = s.roster := by unfold State.front; split <;> rfl
@[simp] theorem State.front_image (s : State) : s.front.image = s.image := by unfold State.front; split <;> rfl

/-! ## The obligations -/

/-- Settles O58: every operation keeps the capacities (`State.Preserves`), and a step is made of operations. -/
theorem capacitiesHold : Obligations.CapacitiesHold := by
  intro s t hs ht
  have h := step_preserves ht
  rw [State.bounded_iff] at hs ⊢
  obtain ⟨hl, hw, hk, hr, ho⟩ := hs
  exact ⟨h.line (by simpa), h.wake (by simpa), h.work (by simpa), h.rx (by simpa), h.roster (by simpa)⟩

/-- Settles O59: every operation keeps the canonical form and the boot selector (`State.Preserves`). -/
theorem memoriesStayCanonical : Obligations.MemoriesStayCanonical :=
  ⟨fun _ _ hs ht => (step_preserves ht).masks (by rwa [State.front_wake]),
    fun _ _ hs ht => (step_preserves ht).image (by rwa [State.front_image])⟩

/-- Settles O2: every command keeps the queue, the clock and the factory part (`exec_kept`). -/
theorem commandsKeepQueueAndClock : Obligations.CommandsKeepQueueAndClock := by
  intro c s t ht
  obtain ⟨u, he, hu⟩ := exec_kept c s
  cases he.symm.trans ht
  exact ⟨hu.pending, hu.now, hu.part⟩

/-- Settles O3: every command answers a next state (`exec_kept`), and so does the tick. -/
theorem everyStepCompletes : Obligations.EveryStepCompletes := by
  intro s
  obtain ⟨t, ht, -⟩ := step_kept s
  exact ⟨t, ht⟩

end Sys2Proof.Machine

/-!
Proofs about lines that are judged: the checksum and the level come first, changes are taken in order, and the machine at
reset.
-/

namespace Sys2Proof.Machine

/-! ## Lines that are judged (R55, R60, R91) -/

theorem State.keeps_refuse {h : Hdr} (v : Verb) (e : Err) (tok : Nat) (obj : Option Nat) (s : State) (h0 : h.addr ≠ some 0) :
    s.keeps [.line] (s.refuse h v e tok obj) := by
  simp only [State.refuse, beq_iff_eq, h0, if_false]
  exact State.keeps_trans (State.keeps_onLine _ s) (State.keeps_reply _ _ _)

/-- A line of this unit that need not wait is judged in the state that it has begun. -/
theorem State.takeVerb_judges {h : Hdr} {s : State} (c : Option Instr) (v : Verb) (b a : Bool) (run : State → Done)
    (hh : s.hears = true) (hu : s.forUnit h = true) (hb : h.addr = some 0 → b = true) :
    let u := (s.takeLine h).beginLine (a && !(s.takeLine h).noCheck h)
    ((∀ x, c = some x → u.mustWait x = false) → s.takeVerb c h v b a run = u.judge h v run) ∧
    (∀ x, c = some x → u.mustWait x = true →
      s.takeVerb c h v b a run = u.onStore (fun y => { y with heldLines := y.heldLines ++ [x] })) := by
  have hskip : (!s.forUnit h || (h.addr == some 0 && !b)) = false := by
    by_cases h0 : h.addr = some 0
    · simp [hu, hb h0]
    · simp [hu, h0]
  refine ⟨fun hw => ?_, fun x hc hw => ?_⟩
  · unfold State.takeVerb
    rw [if_pos hh]
    dsimp only
    rw [hskip]
    cases c with
    | none => rfl
    | some x => simp only [hw x rfl]; rfl
  · subst hc
    unfold State.takeVerb
    rw [if_pos hh]
    dsimp only
    rw [hskip]
    simp only [hw]
    rfl

@[simp] theorem State.noCheck_beginLine (h : Hdr) (b : Bool) (s : State) : (s.beginLine b).noCheck h = s.noCheck h := rfl

/-- Without its checksum a line is answered with `!CHECK`, whatever its verb would have done (R55, R524, log 111). -/
theorem State.judge_noCheck {h : Hdr} (v : Verb) (run : State → Done) {s : State} (hc : s.noCheck h = true)
    (h0 : h.addr ≠ some 0) :
    (s.judge h v run).line.tx = [.err .check] ∧ s.keeps [.line, .store, .params] (s.judge h v run) := by
  let w : State := { s with fresh := (run s).s.fresh }
  have hj : s.judge h v run = State.finish (s.lineOrigin h) h v (bad w .check 0 (run s).obj (run s).aud) := by
    unfold State.judge
    simp only [hc]
    rfl
  have hw : s.keeps [.line, .store, .params] w := by
    refine ⟨rfl, rfl, rfl, fun g _ => ?_⟩
    cases g <;> rfl
  rw [hj]
  refine ⟨(State.finish_bad_answer _ _ _ _ _ _ _ h0).1, State.keeps_trans hw ?_⟩
  cases (run s).aud with
  | none =>
    rw [State.finish_bad _ _ _ _ _ _ _ h0]
    exact State.keeps_mono (State.keeps_refuse _ _ _ _ _ h0) (by simp)
  | some a =>
    rw [State.finish_bad_some]
    exact State.keeps_trans (State.keeps_mono (State.keeps_audit _ _ _ _ _ _ _) (by simp))
      (State.keeps_mono (State.keeps_refuse _ _ _ _ _ h0) (by simp))

/-- Settles O6: every line is judged by `State.judge`, which looks at the checksum before the verb. -/
theorem checksumFirst : Obligations.ChecksumFirst := by
  intro c h s hc hh hu h0 hn hw
  obtain ⟨v, run, he⟩ := exec_line_eq_takeVerb hc s
  have hb : (s.takeLine h).beginLine (c.answersChallenge && !(s.takeLine h).noCheck h) = s.heard h := by
    rw [State.heard, State.noCheck_beginLine] at hn
    rw [hn, Bool.not_true, Bool.and_false]
    rfl
  have hj := (State.takeVerb_judges (if c.changes then some c else none) v c.toAll c.answersChallenge run hh hu
    fun ha => absurd ha h0).1
  rw [hb] at hj
  refine ⟨_, he, ?_⟩
  rw [hj]
  · exact State.judge_noCheck v run hn h0
  · intro x hx
    split at hx
    next hcc => exact State.mustWait_free x (hw hcc)
    next => cases hx

/-! ## Commands below their level (R70, R76, R520) -/

/-- What a command does below its level: nothing but a count and a free value for its record. -/
def Denies (l : Level) (run : State → Done) : Prop :=
  ∀ s : State, s.allowed l = false → ∃ (t : State) (obj : Option Nat) (aud : Option Aud),
    run s = bad t .priv 1 obj aud ∧ t.line = s.line ∧ s.keeps [.tally] t

theorem State.keeps_count (b : Block) (name : String) (s : State) : s.keeps [.tally] (s.count b name) := by
  refine ⟨by simp, by simp, by simp, fun g hg => ?_⟩
  cases g with
  | tally => simp at hg
  | _ => simp [State.same]

theorem denies_authKey (h : Hdr) (l : Level) (w : BitVec 192) : Denies .custodian (runAuthKey h l w) := by
  intro s hs
  let aud : Aud := { action := 3, obj := 768 + levelNum l, old := keyVal (some (s.levelKey l)),
                     new := keyVal (Config.unwrap s.roster.cuKey w) }
  have hrun : runAuthKey h l w s = bad ((s.count .keeper "auth.try").count .keeper "auth.fail") .priv 1 none (some aud) := by
    unfold runAuthKey
    simp only [hs]
    exact needs_denied (by simpa [State.allowed] using hs)
  exact ⟨_, none, some aud, hrun, by simp, State.keeps_trans (State.keeps_count _ _ _) (State.keeps_count _ _ _)⟩

theorem denies_jomenArm (h : Hdr) (code : Int) (mask : Option Int) : Denies .operator (runDoJomenArm h code mask) := by
  intro s hs
  cases mask <;> exact ⟨s, _, _, needs_denied hs, rfl, s.keeps_refl _⟩

/-- A command's level is looked at before all it does but the drawing of the hash of its arguments. -/
theorem exec_line_denies {c : Instr} {h : Hdr} {l : Level} (hc : c.hdr = some h) (hl : c.level = some l) (s : State) :
    ∃ (v : Verb) (run : State → Done), exec c s =
      .next (s.takeVerb (if c.changes then some c else none) h v c.toAll c.answersChallenge run) ∧ Denies l run := by
  cases c <;> cases hc <;> cases hl
  case authKey level w => exact ⟨_, _, rfl, denies_authKey h level w⟩
  case doJomenArm code mask => cases mask <;> exact ⟨.do_, _, rfl, denies_jomenArm h code _⟩
  case tallyClear | doWmClear | doSchedFrame | doSchedCell | doSchedDrop | doRoundStart | doRoundStop | doFlightCancel
      | doJomenReason | doJomenBurst | doPmShelf | doRadioCal | doRosterPin | doRosterDrop | doRosterGroups | doRosterPeer
      | doRosterForget | doRxCapture | doRxCaptureDrop =>
    exact ⟨_, _, rfl, fun s hs => ⟨s.draw.2, _, _, needs_denied (s := s.draw.2) hs, rfl, s.keeps_draw _⟩⟩
  all_goals exact ⟨_, _, rfl, fun s hs => ⟨s, _, _, needs_denied hs, rfl, s.keeps_refl _⟩⟩

theorem State.reply_fields (h : Hdr) (out : List OutLine) (s : State) :
    (s.reply h out).line.level = s.line.level ∧ (s.reply h out).line.lastErr = s.line.lastErr := by
  unfold State.reply
  split
  · exact ⟨rfl, rfl⟩
  · split <;> exact ⟨rfl, rfl⟩

theorem State.refuse_broadcast {h : Hdr} (v : Verb) (e : Err) (tok : Nat) (obj : Option Nat) (s : State)
    (h0 : h.addr = some 0) : s.refuse h v e tok obj =
      (s.onLine (fun l => { l with lastErr := some { err := e, verb := v, obj := obj, tok := tok, time := s.stamp } })).count
        .line "line.refuse" := by
  simp [State.refuse, h0]

@[simp] theorem State.refuse_level (h : Hdr) (v : Verb) (e : Err) (tok : Nat) (obj : Option Nat) (s : State) :
    (s.refuse h v e tok obj).line.level = s.line.level := by
  unfold State.refuse
  split
  · simp
  · exact (State.reply_fields _ _ _).1

/-- A record of a line leaves all but the store and the parameters alone. -/
theorem State.recordLine_keeps (o : Origin) (h : Hdr) (v : Verb) (d : Done) :
    d.s.keeps [.store, .params] (State.recordLine o h v d) ∧ (State.recordLine o h v d).line = d.s.line := by
  unfold State.recordLine
  split
  · exact ⟨State.keeps_audit _ _ _ _ _ _ _, by simp⟩
  · exact ⟨State.keeps_audit _ _ _ _ _ _ _, by simp⟩
  · split
    · exact ⟨State.keeps_trans (State.keeps_draw _ _) (State.keeps_audit _ _ _ _ _ _ _), by simp⟩
    · exact ⟨State.keeps_refl _ _, rfl⟩
  · exact ⟨State.keeps_refl _ _, rfl⟩

/-- A failure, recorded or not, broadcast or not (R61, R62, R89). -/
theorem State.finish_bad_keeps {h : Hdr} (o : Origin) (v : Verb) (s : State) (e : Err) (tok : Nat) (obj : Option Nat)
    (aud : Option Aud) (htx : s.line.tx = []) :
    let t := State.finish o h v (bad s e tok obj aud)
    (h.addr ≠ some 0 → t.line.tx = [.err e]) ∧ (h.addr = some 0 → t.line.tx = []) ∧ t.line.level = s.line.level ∧
      s.keeps [.line, .store, .params, .tally] t := by
  have ⟨hk, hl⟩ := State.recordLine_keeps o h v (bad s e tok obj aud)
  refine ⟨fun h0 => (State.finish_bad_answer _ _ _ _ _ _ _ h0).1, fun h0 => ?_, ?_, ?_⟩
  · change (State.refuse h v e tok obj _).line.tx = _
    rw [State.refuse_broadcast _ _ _ _ _ h0]
    simpa [hl] using htx
  · exact (State.refuse_level _ _ _ _ _ _).trans (congrArg Line.level hl)
  · refine State.keeps_trans (State.keeps_mono hk (by simp)) ?_
    change State.keeps _ _ (State.refuse h v e tok obj _)
    by_cases h0 : h.addr = some 0
    · rw [State.refuse_broadcast _ _ _ _ _ h0]
      exact State.keeps_trans (State.keeps_mono (State.keeps_onLine _ _) (by simp))
        (State.keeps_mono (State.keeps_count _ _ _) (by simp))
    · exact State.keeps_mono (State.keeps_refuse _ _ _ _ _ h0) (by simp)

@[simp] theorem State.heard_level (h : Hdr) (s : State) : (s.heard h).line.level = s.line.level := by
  simp [State.heard, State.beginLine, State.takeLine]

/-- Settles O7: below the level of a command its line is a failure (`Denies`), and a failure changes the line, its record and
the counters alone. -/
theorem privilegeFirst : Obligations.PrivilegeFirst := by
  intro c h l s hc hl ⟨hh, hu, hn⟩ hb hw hlt
  obtain ⟨v, run, he, hd⟩ := exec_line_denies hc hl s
  have hans : c.answersChallenge = false := by cases c <;> cases hl <;> rfl
  have hjudge := (State.takeVerb_judges (if c.changes then some c else none) v c.toAll c.answersChallenge run hh hu hb).1
  rw [hans] at hjudge he
  have hdenied : (s.heard h).allowed l = false := by simpa [State.allowed] using hlt
  obtain ⟨u, obj, aud, hrun, hline, hk⟩ := hd _ hdenied
  have hfin : (s.heard h).judge h v run = State.finish ((s.heard h).lineOrigin h) h v (bad u .priv 1 obj aud) := by
    unfold State.judge
    simp only [hn, hrun]
    rfl
  refine ⟨_, he, ?_⟩
  rw [hjudge]
  · have hjudged : ((s.takeLine h).beginLine (false && !(s.takeLine h).noCheck h)).judge h v run =
        State.finish ((s.heard h).lineOrigin h) h v (bad u .priv 1 obj aud) := hfin
    obtain ⟨hone, hall, hlevel, hkeep⟩ := State.finish_bad_keeps (h := h) ((s.heard h).lineOrigin h) v u .priv 1 obj aud
      (by rw [hline]; exact s.heard_tx h)
    rw [hjudged]
    exact ⟨hone, hall, hlevel.trans (by rw [hline, State.heard_level]),
      State.keeps_trans (State.keeps_mono hk (by simp)) hkeep⟩
  · intro x hx
    split at hx
    next hcc => exact State.mustWait_free x (hw hcc)
    next => cases hx

/-- A change is judged on its arrival as it would be after waiting. -/
theorem exec_change_eq_takeVerb {c : Instr} {h : Hdr} (hc : c.hdr = some h) (hch : c.changes = true) (s : State) :
    ∃ (v : Verb) (run : State → Done), exec c s =
      .next (s.takeVerb (some c) h v c.toAll c.answersChallenge run) ∧ ∀ u : State, u.runHeld c = u.judge h v run := by
  cases c <;> cases hc
  case doJomenArm code mask =>
    cases mask with
    | none => cases hch
    | some m => exact ⟨.do_, _, rfl, fun _ => rfl⟩
  all_goals cases hch
  all_goals exact ⟨_, _, rfl, fun _ => rfl⟩

/-- Settles O8: a change is judged by `State.judge` on its arrival and, after waiting, by `State.runHeld`, which is the same. -/
theorem changesAreTakenInOrder : Obligations.ChangesAreTakenInOrder := by
  refine ⟨fun c h s hc hch hh hu hb hn => ?_, fun c s => ⟨State.mustWait_free c, fun hw => ?_, fun ho hv => ?_⟩,
    fun c rest s hl hon hf ho => ?_⟩
  · obtain ⟨v, run, he, hheld⟩ := exec_change_eq_takeVerb hc hch s
    have hbegun : (s.takeLine h).beginLine (c.answersChallenge && !(s.takeLine h).noCheck h) = s.heardBy c h := by
      rw [State.heard, State.noCheck_beginLine] at hn
      cases hnc : (s.takeLine h).noCheck h with
      | false => simp [State.heardBy]
      | true => simp [State.heardBy, hn hnc]
    obtain ⟨hjudge, hwait⟩ := State.takeVerb_judges (some c) v c.toAll c.answersChallenge run hh hu hb
    rw [hbegun] at hjudge hwait
    rw [he]
    refine ⟨fun hw => by rw [hwait c rfl hw], fun hw => ?_⟩
    rw [hjudge (by rintro _ ⟨⟩; exact hw), hheld]
  · rcases hw with hf | hl
    · simp [State.mustWait, Option.isSome_iff_ne_none.mpr hf]
    · simp [State.mustWait, hl]
  · unfold State.mustWait
    split
    · exact absurd rfl (hv _)
    · simp [ho]
  · simp [State.releaseHeld, hl, hon, hf, ho]

/-- Settles O60, group by group. -/
theorem resetState : Obligations.ResetState := by
  unfold Obligations.ResetState State.bounded State.canonical
  decide

end Sys2Proof.Machine

/-!
Proofs about replies: what goes out, when, and that the part finds its own checksum token right.
-/

namespace Sys2Proof.Machine

/-! ## The characters that the part sends (R53 to R55, R63) -/

theorem crc8Bit_lt (c : Nat) : crc8Bit c < 256 := by
  unfold crc8Bit
  split <;> exact Nat.mod_lt _ (by decide)

theorem crc8_lt (l : List Byte) : crc8 l < 256 := by
  rcases List.eq_nil_or_concat l with rfl | ⟨l, b, rfl⟩
  · decide
  · rw [crc8, List.concat_eq_append, List.foldl_append]
    exact crc8Bit_lt _

theorem hexVal_hexByte {n : Nat} (hn : n < 16) : hexVal (hexByte n) = some n :=
  (by decide : ∀ n : Fin 16, hexVal (hexByte n) = some n.val) ⟨n, hn⟩

theorem hexByte_ne_space {n : Nat} (hn : n < 16) : hexByte n ≠ 0x20 :=
  (by decide : ∀ n : Fin 16, hexByte n ≠ 0x20) ⟨n, hn⟩

/-- Two digits of the part's own writing give their number back. -/
theorem digits_hexBytes {c : Nat} (hc : c < 256) : digits 16 [hexByte (c / 16), hexByte (c % 16)] = some c := by
  have h1 : c / 16 < 16 := by omega
  have h2 : c % 16 < 16 := Nat.mod_lt _ (by decide)
  simp only [digits, List.isEmpty_cons, List.foldl_cons, List.foldl_nil, hexVal_hexByte h1, hexVal_hexByte h2, h1, h2, if_true]
  simp only [Bool.false_eq_true, if_false]
  congr 1
  omega

/-- The token that the part writes is the last one it reads, and all before it is what the token counts. -/
theorem splitLast_withCheck (l : List Byte) : splitLast (withCheck l) =
    (l ++ [0x20], [0x2A, hexByte (crc8 (l ++ [0x20]) / 16), hexByte (crc8 (l ++ [0x20]) % 16)]) := by
  have hc := crc8_lt (l ++ [0x20])
  have h1 := hexByte_ne_space (n := crc8 (l ++ [0x20]) / 16) (by omega)
  have h2 := hexByte_ne_space (n := crc8 (l ++ [0x20]) % 16) (Nat.mod_lt _ (by decide))
  simp only [splitLast, withCheck, List.reverse_append, List.reverse_cons, List.reverse_nil, List.nil_append, List.cons_append]
  generalize crc8 (l ++ [0x20]) = c at h1 h2
  rw [List.dropWhile_cons_of_neg (by simpa using h2)]
  rw [List.takeWhile_cons_of_pos (by simpa using h2), List.takeWhile_cons_of_pos (by simpa using h1)]
  rw [List.dropWhile_cons_of_pos (by simpa using h2), List.dropWhile_cons_of_pos (by simpa using h1)]
  simp

theorem checkOf_withCheck {l : List Byte} (hq : (l.filter (· == 0x22)).length % 2 = 0) : checkOf (withCheck l) = .good := by
  have hquote : ((l ++ [0x20]).filter (· == 0x22)).length % 2 = 0 := by simpa using hq
  unfold checkOf
  rw [splitLast_withCheck]
  have hd := digits_hexBytes (crc8_lt (l ++ [0x20]))
  dsimp only
  rw [hquote]
  split
  · rw [if_neg (by decide)]
    next cc heq =>
    obtain ⟨-, rfl⟩ := List.cons.inj heq
    rw [hd]
    simp
  · next hne => exact absurd rfl (hne _)

/-- The end of the last character of a reply: 2 character times to 200 ms of waiting and what the characters take (R63). -/
theorem State.sendTime_bounds (k : Nat) (l : List (List Byte)) (s : State) :
    2 * s.charTime + (l.map List.length).sum * s.charTime ≤ s.sendTime k l ∧
    (2 * s.charTime ≤ ms 200 →
      s.sendTime k l ≤ ms 200 + (l.length - 1) * ms 20 + (l.map List.length).sum * s.charTime) := by
  unfold State.sendTime
  generalize (l.length - 1) * ms 20 = more
  have hm : Config.freeWait k % (ms 200 + more - 2 * s.charTime + 1) < ms 200 + more - 2 * s.charTime + 1 :=
    Nat.mod_lt _ (Nat.succ_pos _)
  dsimp only
  generalize (l.map List.length).sum * s.charTime = chars
  dsimp only [Ticks]
  constructor
  · omega
  · intro hc
    omega

/-- What a reply of at least one line leaves on LINE (R54, R55, R63). -/
theorem State.reply_sent {h : Hdr} {out : List OutLine} (s : State) (h0 : h.addr ≠ some 0) (ho : out ≠ []) :
    let t := s.reply h out
    t.line.sent = out.map (OutLine.wire (h.cc || s.pnat Obj.lineMode == 1) (s.pnat Obj.lineMode == 0)) ∧
      t.line.sendEnd = s.now + s.sendTime s.fresh t.line.sent := by
  unfold State.reply
  simp only [beq_iff_eq, h0, false_and, if_false, List.isEmpty_iff, ho, Bool.and_eq_true]
  exact ⟨rfl, rfl⟩

/-- Settles O9: replies and refusals by `State.reply` and `State.refuse`, the time they take by `State.sendTime_bounds`, the
token by `checkOf_withCheck`. -/
theorem repliesAndErrors : Obligations.RepliesAndErrors := by
  refine ⟨fun h out s => ⟨fun h0 => ?_, fun h0 ha => ?_, State.keeps_reply h out s, (State.reply_queue h out s).1,
    State.reply_fields h out s⟩, fun h v e tok obj s => ⟨fun h0 => ⟨?_, State.keeps_refuse v e tok obj s h0⟩, fun h0 => ?_, ?_⟩,
    fun h out s h0 ho => ?_, fun o cc crlf ho => ?_, fun l hl => checkOf_withCheck hl⟩
  · by_cases ho : out = []
    · simp [State.reply, h0, ho]
    · exact State.reply_tx s h0 ho
  · simp [State.reply, h0, ha]
  · simp [State.refuse, State.reply, h0]
  · rw [State.refuse_broadcast v e tok obj s h0]
    simp
  · unfold State.refuse
    split
    · simp
    · exact (State.reply_fields _ _ _).2
  · obtain ⟨hsent, hend⟩ := State.reply_sent s h0 ho
    obtain ⟨hlow, hhigh⟩ := s.sendTime_bounds s.fresh (s.reply h out).line.sent
    have hlen : (s.reply h out).line.sent.length = out.length := by rw [hsent, List.length_map]
    rw [hlen] at hhigh
    dsimp only [Ticks] at hlow hhigh hend ⊢
    refine ⟨hsent, ?_, fun hc => ?_⟩
    · rw [hend]
      omega
    · rw [hend]
      have := hhigh hc
      omega
  · simp [OutLine.wire, ho]

end Sys2Proof.Machine

/-!
Proofs about flights that end: nothing but the flight leaves the table and the waiting list, and its record is written.
-/

namespace Sys2Proof.Machine

/-! ## Flights that end (R326, R328) -/

/-- The identifiers of the flights, in the table and on the waiting list. -/
def Work.ids (w : Work) : List Nat := w.table.map Flight.id ++ w.waiting.map Flight.id

theorem State.flight_isSome (s : State) (g : Nat) : (s.flight g).isSome = true ↔ g ∈ s.work.ids := by
  have hin (l : List Flight) : (l.find? (fun f => f.id == g)).isSome = true ↔ g ∈ l.map Flight.id := by
    simp [List.find?_isSome]
  unfold Work.ids State.flight
  rw [List.mem_append, ← hin, ← hin]
  split
  next f hf => simp [hf]
  next hf => simp [hf]

theorem State.flight_id {s : State} {id : Nat} {f : Flight} (hf : s.flight id = some f) : f.id = id := by
  unfold State.flight at hf
  split at hf
  next g hg =>
    cases hf
    simpa using List.find?_some hg
  next => simpa using List.find?_some hf

theorem map_replaceFirst {α β : Type} {p : α → Bool} {f : α → α} {g : α → β} (hf : ∀ x, g (f x) = g x) (l : List α) :
    (replaceFirst p f l).map g = l.map g := by
  induction l with
  | nil => rfl
  | cons x xs ih =>
    unfold replaceFirst
    split
    · rw [List.map_cons, List.map_cons, hf]
    · rw [List.map_cons, List.map_cons, ih]

theorem bestWaiting_mem {l : List Flight} {f : Flight} (h : bestWaiting l = some f) : f ∈ l := by
  induction l generalizing f with
  | nil => cases h
  | cons g gs ih =>
    unfold bestWaiting at h
    split at h
    · cases h
      exact List.mem_cons_self
    next x hx =>
      split at h <;> cases h
      · exact List.mem_cons_of_mem _ (ih hx)
      · exact List.mem_cons_self

theorem State.onFlight_ids (id : Nat) (g : Flight → Flight) (s : State) (hg : ∀ f, (g f).id = f.id) :
    (s.onFlight id g).work.ids = s.work.ids := by
  simp [State.onFlight, Work.ids, map_replaceFirst hg]

theorem State.toLastChance_ids (id : Nat) (s : State) : (s.toLastChance id).work.ids = s.work.ids := by
  unfold State.toLastChance
  split
  · rfl
  · have h := s.onFlight_ids id (fun f => { f with st := .lastchance, lcStep := 1, lane := none, awaiting := false })
      fun _ => rfl
    dsimp only
    split
    · exact h
    · have hc (t : State) : (t.count .cc "flight.lastchance").work = t.work := by simp
      rw [hc]
      exact h

/-- The flight that comes into the table has left the waiting list: no identifier is lost. -/
theorem State.admitWaiting_ids (g : Nat) (s : State) : g ∈ s.admitWaiting.work.ids ↔ g ∈ s.work.ids := by
  unfold State.admitWaiting
  split
  · rfl
  · split
    · rfl
    next f hf =>
      have hmem := bestWaiting_mem hf
      have hmoved : g ∈ Work.ids { s.work with
            waiting := s.work.waiting.filter (fun g => g.id ≠ f.id), table := s.work.table ++ [{ f with st := .ready }] } ↔
          g ∈ s.work.ids := by
        simp only [Work.ids, List.map_append, List.mem_append, List.map_cons, List.map_nil, List.mem_singleton, List.mem_map,
          List.mem_filter, decide_eq_true_eq]
        constructor
        · rintro ((ht | rfl) | ⟨x, ⟨hx, -⟩, rfl⟩)
          · exact .inl ht
          · exact .inr ⟨f, hmem, rfl⟩
          · exact .inr ⟨x, hx, rfl⟩
        · rintro (ht | ⟨x, hx, rfl⟩)
          · exact .inl (.inl ht)
          · by_cases he : x.id = f.id
            · exact .inl (.inr he)
            · exact .inr ⟨x, ⟨hx, he⟩, rfl⟩
      dsimp only
      split
      · rw [State.toLastChance_ids]
        exact hmoved
      · exact hmoved

/-- The groups that an acknowledged ADMIT gave its endpoint (R353). -/
def State.endedGroups (f : Flight) (o : Outcome) (s : State) : State :=
  match f.groups, o with
  | some gs, .done =>
    match s.byHandle f.handle with
    | some e => ((s.holdGroups e.groups false).holdGroups gs true).onEntry f.handle.index (fun e => { e with groups := gs })
    | none => s
  | _, _ => s

/-- The last record of a push session (R479). -/
def State.endedPush (f : Flight) (o : Outcome) (s : State) : State :=
  match f.push with
  | some p => s.pushRecord f p 4 (some o)
  | none => s

/-- What a flight leaves before its record is written: the table and the waiting list without it. -/
def State.withoutFlight (f : Flight) (o : Outcome) (s : State) : State :=
  (((s.freeFlightLane f).onWork (fun w => { w with
    table := w.table.filter (fun g => g.id ≠ f.id), waiting := w.waiting.filter (fun g => g.id ≠ f.id) })).endedGroups f
      o).endedPush f o

theorem State.endFlight_eq {id : Nat} {f : Flight} {s : State} (o : Outcome) (hf : s.flight id = some f) :
    s.endFlight id o = (((((s.withoutFlight f o).ledger (.flight f.id f.handle ((s.withoutFlight f o).flightId f) f.kind f.prio
      f.called o (min 255 f.attempts) f.lc f.deadline f.reason f.probe)).queue (.flight f.id o)).count .cc
        (outcomeCounter o)).admitWaiting).rosterCheck := by
  have hid := State.flight_id hf
  subst hid
  simp only [State.endFlight, hf]
  rfl

theorem assoc_assocSet {α β : Type} [DecidableEq α] (k i : α) (v : β) (l : List (α × β)) :
    assoc i (assocSet k v l) = if k = i then some v else assoc i l := by
  induction l with
  | nil => simp [assocSet, assoc]
  | cons x xs ih =>
    obtain ⟨a, b⟩ := x
    by_cases ha : a = k
    · subst ha
      simp only [assocSet, assoc, if_true]
      split <;> rfl
    · simp only [assocSet, assoc, ha, if_false, ih]
      split
      · next hai => rw [if_neg (fun hk => ha (hai.trans hk.symm))]
      · rfl

/-- A change of an entry that leaves its identifier leaves the identifier of every flight's endpoint. -/
theorem State.onEntry_flightId (i : Nat) (g : Entry → Entry) (f : Flight) (s : State) (hg : ∀ e, (g e).id = e.id) :
    (s.onEntry i g).flightId f = s.flightId f := by
  unfold State.onEntry
  split
  next e he =>
    unfold State.entry at he
    unfold State.flightId State.entry
    rw [State.onRoster_roster]
    dsimp only
    rw [assoc_assocSet]
    split
    next hi =>
      rw [← hi, he]
      simp [hg]
    next => rfl
  next => rfl

theorem State.flightId_of_roster {s t : State} (f : Flight) (hr : t.roster = s.roster) : t.flightId f = s.flightId f := by
  simp [State.flightId, State.entry, hr]

theorem State.endedGroups_keeps (f : Flight) (o : Outcome) (s : State) :
    (s.endedGroups f o).work = s.work ∧ (s.endedGroups f o).store = s.store ∧ (s.endedGroups f o).flightId f = s.flightId f := by
  unfold State.endedGroups
  split
  · split
    · refine ⟨by simp, by simp, (State.onEntry_flightId _ _ _ _ ?_).trans (State.flightId_of_roster _ rfl)⟩
      exact fun _ => rfl
    · exact ⟨rfl, rfl, rfl⟩
  · exact ⟨rfl, rfl, rfl⟩

/-- A body that fits into one record is written under the next sequence (R448). -/
theorem State.ledger_store {b : LBody} (hb : b.overflow = []) (s : State) : (s.ledger b).store =
    { s.store.place (.ledger { seq := s.store.nextSeq, time := s.stamp, continued := false, body := b } s.now) with
      nextSeq := s.store.nextSeq + 1 } := by
  simp [State.ledger, State.ledgerAt, LBody.all, hb, chunks, recordsFrom]

theorem State.endedPush_keeps (f : Flight) (o : Outcome) (s : State) :
    (s.endedPush f o).work = s.work ∧ (s.endedPush f o).flightId f = s.flightId f ∧
      (s.store.flush = none → (s.endedPush f o).store.flush = none) := by
  unfold State.endedPush
  split
  · refine ⟨by simp, State.flightId_of_roster _ (by simp), fun hn => ?_⟩
    have hl (b : LBody) (hb : b.overflow = []) : (s.ledger b).store.flush = none := by
      rw [State.ledger_store hb, Store.place, hn]
    unfold State.pushRecord State.dirPut
    dsimp only
    split
    · have hc (t : State) : (t.count .cc "push.dir.drop").store = t.store := by simp
      rw [hc]
      exact hl _ rfl
    · exact hl _ rfl
  · exact ⟨rfl, rfl, id⟩

theorem State.withoutFlight_keeps (f : Flight) (o : Outcome) (s : State) :
    (s.withoutFlight f o).work = { s.work with
      table := s.work.table.filter (fun g => g.id ≠ f.id), waiting := s.work.waiting.filter (fun g => g.id ≠ f.id) } ∧
    (s.withoutFlight f o).flightId f = s.flightId f ∧
    (s.store.flush = none → (s.withoutFlight f o).store.flush = none) := by
  unfold State.withoutFlight
  obtain ⟨hpw, hpi, hps⟩ := State.endedPush_keeps f o (((s.freeFlightLane f).onWork (fun w => { w with
    table := w.table.filter (fun g => g.id ≠ f.id), waiting := w.waiting.filter (fun g => g.id ≠ f.id) })).endedGroups f o)
  obtain ⟨hgw, hgs, hgi⟩ := State.endedGroups_keeps f o ((s.freeFlightLane f).onWork (fun w => { w with
    table := w.table.filter (fun g => g.id ≠ f.id), waiting := w.waiting.filter (fun g => g.id ≠ f.id) }))
  refine ⟨hpw.trans (hgw.trans ?_), hpi.trans (hgi.trans (State.flightId_of_roster f (by simp))), fun hn => hps ?_⟩
  · simp
  · rw [hgs]
    simpa using hn

/-- Settles O22, from the record that is written with the flight gone (`State.endFlight_eq`). -/
theorem flightEnds : Obligations.FlightEnds := by
  intro id o f s hf t
  obtain rfl := State.flight_id hf
  have he : t = _ := State.endFlight_eq o hf
  obtain ⟨hwork, hid, hflush⟩ := State.withoutFlight_keeps f o s
  generalize s.withoutFlight f o = u at he hwork hid hflush
  rw [hid] at he
  have hids (g : Nat) : (t.flight g).isSome = true ↔ g ∈ u.work.ids := by
    rw [State.flight_isSome, he]
    simp [State.admitWaiting_ids]
  refine ⟨?_, fun g hg => ?_, fun hf => ?_, by simp [t], by simp [t], by simp [t]⟩
  · rw [← Option.not_isSome_iff_eq_none, hids, hwork]
    simp [Work.ids]
  · have hkept (l : List Flight) : g ∈ (l.filter (fun x => x.id ≠ f.id)).map Flight.id ↔ g ∈ l.map Flight.id := by
      simp only [List.mem_map, List.mem_filter, decide_eq_true_eq]
      exact ⟨fun ⟨x, ⟨hx, _⟩, hi⟩ => ⟨x, hx, hi⟩, fun ⟨x, hx, hi⟩ => ⟨x, ⟨hx, hi.trans_ne hg⟩, hi⟩⟩
    rw [hids, State.flight_isSome, hwork, Work.ids, List.mem_append, hkept, hkept, ← List.mem_append]
    rfl
  · have hs := State.ledger_store (b := .flight f.id f.handle (s.flightId f) f.kind f.prio f.called o (min 255 f.attempts)
      f.lc f.deadline f.reason f.probe) rfl u
    have hstore : t.store = _ := (by rw [he]; simp : t.store = State.store (u.ledger _)).trans hs
    rw [Store.place, hflush hf] at hstore
    rw [hstore]
    exact ⟨_, _, List.mem_append_right _ List.mem_cons_self, rfl, rfl⟩

end Sys2Proof.Machine

/-!
Proofs about programming: records move from the write cache to the flash, and none is lost.
-/

namespace Sys2Proof.Machine

/-! ## Programming (R454, R455) -/

/-- The records of a partition that leave the cache are the first of it. -/
theorem filterMap_takePart {β : Type} {g : CRec → Option β} {aud : Bool} (hg : ∀ r : CRec, (g r).isSome = (r.isAudit == aud))
    (n : Nat) (l : List CRec) : (takePart aud n l).filterMap g = (l.filterMap g).drop n := by
  induction l generalizing n with
  | nil => simp [takePart]
  | cons r rs ih =>
    have hr := hg r
    cases n with
    | zero => simp [takePart]
    | succ n =>
      unfold takePart
      split
      next ha =>
        rw [ha, beq_self_eq_true, Option.isSome_iff_exists] at hr
        obtain ⟨x, hx⟩ := hr
        rw [ih, List.filterMap_cons_some hx, List.drop_succ_cons]
      next ha =>
        have hn : g r = none := by simpa [beq_eq_false_iff_ne.mpr ha] using hr
        rw [List.filterMap_cons_none hn, List.filterMap_cons_none hn, ih]

/-- The records of the other partition stay. -/
theorem filterMap_takePart_other {β : Type} {g : CRec → Option β} {aud : Bool} (hg : ∀ r : CRec, r.isAudit = aud → g r = none)
    (n : Nat) (l : List CRec) : (takePart aud n l).filterMap g = l.filterMap g := by
  induction l generalizing n with
  | nil => simp [takePart]
  | cons r rs ih =>
    cases n with
    | zero => simp [takePart]
    | succ n =>
      unfold takePart
      split
      next ha => rw [ih, List.filterMap_cons_none (hg r ha)]
      next ha => rw [List.filterMap_cons, List.filterMap_cons, ih]

theorem filterMap_take_part {β : Type} {g : CRec → Option β} {aud : Bool} (hg : ∀ r : CRec, (g r).isSome = (r.isAudit == aud))
    (n : Nat) (l : List CRec) : ((l.filter (fun r => r.isAudit == aud)).take n).filterMap g = (l.filterMap g).take n := by
  induction l generalizing n with
  | nil => simp
  | cons r rs ih =>
    have hr := hg r
    cases ha : r.isAudit == aud with
    | true =>
      rw [ha, Option.isSome_iff_exists] at hr
      obtain ⟨x, hx⟩ := hr
      rw [List.filter_cons, if_pos ha, List.filterMap_cons_some hx]
      cases n with
      | zero => rfl
      | succ n => rw [List.take_succ_cons, List.take_succ_cons, List.filterMap_cons_some hx, ih]
    | false =>
      have hn : g r = none := by simpa [ha] using hr
      rw [List.filter_cons, if_neg (by simp [ha]), List.filterMap_cons_none hn, ih]

theorem State.keeps_countN (b : Block) (name : String) (n : Nat) (s : State) : s.keeps [.tally] (s.countN b name n) := by
  refine ⟨by simp, by simp, by simp, fun g hg => ?_⟩
  cases g with
  | tally => simp at hg
  | _ => simp [State.same]

theorem CRec.ledger?_isSome (r : CRec) : r.ledger?.isSome = (r.isAudit == false) := by cases r <;> rfl

theorem CRec.audit?_isSome (r : CRec) : r.audit?.isSome = (r.isAudit == true) := by cases r <;> rfl

theorem CRec.audit?_of_ledger (r : CRec) (h : r.isAudit = false) : r.audit? = none := by cases r <;> simp_all [CRec.isAudit, CRec.audit?]

theorem CRec.ledger?_of_audit (r : CRec) (h : r.isAudit = true) : r.ledger? = none := by cases r <;> simp_all [CRec.isAudit, CRec.ledger?]

/-- Dropping from the front of a list that goes on with the rest of another. -/
theorem drop_take_append_drop {α : Type} (a l : List α) (n k : Nat) :
    (a ++ l.take n).drop k ++ l.drop n = (a ++ l).drop (min k (a ++ l.take n).length) := by
  have hl : a ++ l = (a ++ l.take n) ++ l.drop n := by rw [List.append_assoc, List.take_append_drop]
  rw [hl, List.drop_append_of_le_length (Nat.min_le_right _ _)]
  congr 1
  by_cases hk : k ≤ (a ++ l.take n).length
  · rw [Nat.min_eq_left hk]
  · rw [Nat.min_eq_right (by omega), List.drop_length, List.drop_eq_nil_of_le (by omega)]

/-- What the records in the flash and in the cache are read from, and the sequences. -/
def Store.sameRecords (c d : Store) : Prop :=
  d.archive = c.archive ∧ d.ledger = c.ledger ∧ d.audits = c.audits ∧ d.cache = c.cache ∧ d.nextSeq = c.nextSeq ∧
    d.nextAudit = c.nextAudit ∧ d.mark = c.mark

theorem Store.sameRecords_saved (c : Store) : c.sameRecords c.saved := by
  have hw : c.sameRecords c.writeSystem := by
    unfold Store.writeSystem
    split
    · split <;> exact ⟨rfl, rfl, rfl, rfl, rfl, rfl, rfl⟩
    all_goals exact ⟨rfl, rfl, rfl, rfl, rfl, rfl, rfl⟩
  unfold Store.saved
  dsimp only
  split
  · exact ⟨rfl, rfl, rfl, rfl, rfl, rfl, rfl⟩
  · exact hw

theorem Store.putLedger_records (l : List LRec) (words : Nat) (c : Store) :
    { c with ledger := c.ledger ++ l }.sameRecords (c.putLedger l words) := by
  unfold Store.putLedger
  dsimp only
  split <;> exact ⟨rfl, rfl, rfl, rfl, rfl, rfl, rfl⟩

theorem Store.putAudits_records (l : List ARec) (words : Nat) (c : Store) :
    ∃ k, { c with audits := (c.audits ++ l).drop k }.sameRecords (c.putAudits l words) := by
  unfold Store.putAudits
  dsimp only
  split
  · exact ⟨0, rfl, rfl, rfl, rfl, rfl, rfl, rfl⟩
  · split
    · exact ⟨0, rfl, rfl, rfl, rfl, rfl, rfl, rfl⟩
    · exact ⟨_, rfl, rfl, rfl, rfl, rfl, rfl, rfl⟩

/-- The store without the records that leave the cache. -/
def Store.uncached (aud : Bool) (n : Nat) (c : Store) : Store := Store.saved { c with cache := takePart aud n c.cache }

theorem Store.uncached_records (aud : Bool) (n : Nat) (c : Store) :
    { c with cache := takePart aud n c.cache }.sameRecords (c.uncached aud n) :=
  Store.sameRecords_saved _

/-- The state in which the records are put into the flash. -/
theorem State.programmed_eq (aud : Bool) (n : Nat) (s : State) : ∃ (u : State) (words : Nat), s.keeps [.tally] u ∧
    s.programmed aud n = u.onStore (fun c =>
      if aud then (c.uncached aud n).putAudits (((s.store.part aud).take n).filterMap CRec.audit?) words
      else (c.uncached aud n).putLedger (((s.store.part aud).take n).filterMap CRec.ledger?) words) := by
  refine ⟨_, _, ?_, rfl⟩
  exact State.keeps_trans (State.keeps_countN _ _ _ _) (State.keeps_trans (State.keeps_bytes _ _ _) (State.keeps_bytes _ _ _))

/-- Settles O25: what leaves the cache joins the records in the flash, and only AUDIT's ring drops any. -/
theorem programmingLosesNothing : Obligations.ProgrammingLosesNothing := by
  intro aud n s t
  obtain ⟨u, words, hu, ht⟩ := s.programmed_eq aud n
  have hkeep : s.keeps [.store, .tally] t := by
    change s.keeps _ (s.programmed aud n)
    rw [ht]
    exact State.keeps_trans (State.keeps_mono hu (by simp)) (State.keeps_mono (State.keeps_onStore _ _) (by simp))
  have hus : u.store = s.store := hu.2.2.2 .store (by simp)
  have hstore : t.store = _ := (congrArg State.store ht).trans (by rw [State.onStore_store, hus])
  obtain ⟨hba, hbl, hbu, hbc, hbn, hbx, hbm⟩ := s.store.uncached_records aud n
  generalize s.store.uncached aud n = b at *
  cases aud with
  | false =>
    obtain ⟨ha, hl, hau, hc, hn, hx, hm⟩ := b.putLedger_records (((s.store.part false).take n).filterMap CRec.ledger?) words
    simp only [Bool.false_eq_true, if_false] at hstore
    rw [hstore]
    refine ⟨?_, ⟨0, ?_, fun _ => rfl⟩, hn.trans hbn, hx.trans hbx, hm.trans hbm, hkeep⟩
    · unfold Store.allLedger
      rw [ha, hl, hc, hba, hbl, hbc, Store.part, filterMap_take_part CRec.ledger?_isSome, filterMap_takePart CRec.ledger?_isSome]
      simp
    · unfold Store.allAudits
      rw [hau, hc, hbu, hbc, filterMap_takePart_other CRec.audit?_of_ledger]
      rfl
  | true =>
    obtain ⟨k, ha, hl, hau, hc, hn, hx, hm⟩ := b.putAudits_records (((s.store.part true).take n).filterMap CRec.audit?) words
    simp only [if_true] at hstore
    rw [hstore]
    refine ⟨?_, ⟨min k (s.store.audits ++ ((s.store.part true).take n).filterMap CRec.audit?).length, ?_, fun h => nomatch h⟩,
      hn.trans hbn, hx.trans hbx, hm.trans hbm, hkeep⟩
    · unfold Store.allLedger
      rw [ha, hl, hc, hba, hbl, hbc, filterMap_takePart_other CRec.ledger?_of_audit]
    · unfold Store.allAudits
      rw [hau, hc, hbu, hbc, Store.part, filterMap_take_part CRec.audit?_isSome, filterMap_takePart CRec.audit?_isSome]
      exact drop_take_append_drop _ _ _ _

end Sys2Proof.Machine

/-!
Proofs about the sleep clock: in LARDER and CELLAR local time moves at its ticks and at nothing else.
-/

namespace Sys2Proof.Machine

/-! ## The sleep clock (R257, R258) -/

/-- The part stays in a power state: no entry runs, and no reset is asked for. -/
def Pm.stays (w : Power) (p : Pm) : Prop := p.power = w ∧ p.entering = none ∧ p.resetAt = none

variable {w : Power} {s : State}

theorem State.wakeEvent_stays (h : s.pm.stays w) : s.wakeEvent.pm.stays w := by
  obtain ⟨hw, he, hr⟩ := h
  unfold State.wakeEvent
  split
  · exact ⟨hw, he, hr⟩
  · split
    · exact ⟨hw, he, hr⟩
    · split
      · exact ⟨hw, rfl, hr⟩
      · split <;> exact ⟨hw, he, hr⟩

theorem State.pgAsk_stays (g : Fin 4) (h : s.pm.stays w) : (s.pgAsk g).2.pm.stays w := by
  unfold State.pgAsk
  split
  · exact State.wakeEvent_stays (by simpa using h)
  · exact h

theorem State.vauxTripped_stays (code : Nat) (h : s.pm.stays w) : (s.vauxTripped code).pm.stays w := by
  simpa using h

theorem State.vauxAttempt_stays (h : s.pm.stays w) : s.vauxAttempt.pm.stays w := by
  have hp := State.pgAsk_stays (s := (s.fire .vauxOn).onMon (fun m => { m with retryAt := none })) 2 h
  unfold State.vauxAttempt
  dsimp only
  split
  · exact hp
  · exact State.vauxTripped_stays _ hp

theorem State.vauxPolicy_stays (h : s.pm.stays w) : s.vauxPolicy.pm.stays w := by
  unfold State.vauxPolicy
  split
  · exact State.vauxAttempt_stays h
  · exact h

theorem State.driveWake_stays (h : s.pm.stays w) : s.driveWake.pm.stays w := by
  unfold State.driveWake
  dsimp only
  split
  · exact State.vauxPolicy_stays h
  · exact h

theorem State.queue_stays (e : Ev) (h : s.pm.stays w) : (s.queue e).pm.stays w :=
  State.vauxPolicy_stays (s := s.pushEv e) h

theorem State.lineTick_stays (h : s.pm.stays w) : s.lineTick.pm.stays w := by
  unfold State.lineTick
  dsimp only
  repeat' split
  all_goals try apply State.queue_stays
  all_goals simpa using h

theorem State.wclkEdge_stays (h : s.pm.stays w) : s.wclkEdge.pm.stays w := by
  unfold State.wclkEdge
  refine State.driveWake_stays ?_
  split <;> split <;> simpa using h

theorem Pm.residencyTick_stays {p : Pm} (h : p.stays w) : p.residencyTick.stays w := by
  unfold Pm.residencyTick
  split <;> exact h

theorem Pm.residencyTick_run (p : Pm) : p.residencyTick.run = p.run := by
  unfold Pm.residencyTick
  split <;> rfl

/-- No change waits to be judged while CC sleeps (R91). -/
theorem State.releaseHeld_of_asleep (h : s.ccOn = false) : s.releaseHeld = s := by
  unfold State.releaseHeld
  split
  · rfl
  · simp [h]

theorem State.entrySteps_of_none (h : s.pm.entering = none) : s.entrySteps = s := by
  simp [State.entrySteps, h]

theorem State.resetDue_of_none (h : s.pm.resetAt = none) : s.resetDue = s := by
  simp [State.resetDue, h]

theorem State.idleTime_stays (h : s.pm.stays w) : s.idleTime.pm.stays w := by
  unfold State.idleTime
  split
  · split <;> exact h
  · exact h

/-- What falls due of itself in LARDER and CELLAR touches neither local time nor the power state. -/
theorem State.dueWork_asleep (h : s.pm.stays w) (hw : w = .larder ∨ w = .cellar) (hf : ∀ f ∈ s.work.table, f.frameAt = none) :
    s.dueWork.time = s.time ∧ s.dueWork.pm.stays w := by
  have hnone : s.work.table.filter (fun f => f.frameAt.isSome) = [] :=
    List.filter_eq_nil_iff.mpr fun f hm => by simp [hf f hm]
  unfold State.dueWork
  rw [hnone]
  dsimp only [State.each, List.foldl_nil]
  generalize hu : s.coexTick.radioTick.rxTick.bootDue.lineTick = u
  have hut : u.time = s.time := by
    rw [← hu]
    simp
  have hup : u.pm.stays w := by
    rw [← hu]
    exact State.lineTick_stays (by simpa using h)
  have hcc : u.ccOn = false := by
    rcases hw with rfl | rfl <;> simp [State.ccOn, hup.1]
  have hi := State.idleTime_stays hup
  rw [State.releaseHeld_of_asleep hcc, State.entrySteps_of_none hup.2.1,
    State.resetDue_of_none (by simpa using hi.2.2)]
  exact ⟨by simpa using hut, by simpa using hi⟩

/-- In LARDER and CELLAR the sleep clock alone moves local time. -/
theorem State.clockEdges_asleep (hr : s.running = true) (h : s.pm.stays w) (hw : w = .larder ∨ w = .cellar)
    (hx : s.pm.exiting = none) :
    s.clockEdges.time = (if s.now % sleepTicks = 0 then s.slowTick.time else s.time) ∧ s.clockEdges.pm.stays w := by
  have hrun : s.pm.run = .running := by simpa [State.running] using hr
  have hcclk : s.cclkOn = false := by
    rcases hw with rfl | rfl <;> simp [State.cclkOn, hrun, h.1, State.exitPast, hx]
  have hcell {t : State} (ht : t.pm.stays w) (htr : t.pm.run = .running) : t.cellarOn = true := by
    rcases hw with rfl | rfl <;> simp [State.cellarOn, htr, ht.1]
  have hwclk {t : State} (ht : t.pm.stays w) (htr : t.pm.run = .running) :
      (if t.cellarOn && t.now % wclkTicks == 0 then t.wclkEdge else t).time = t.time ∧
        (if t.cellarOn && t.now % wclkTicks == 0 then t.wclkEdge else t).pm.stays w := by
    split
    · exact ⟨by simp, State.wclkEdge_stays ht⟩
    · exact ⟨rfl, ht⟩
  unfold State.clockEdges
  simp only [hcclk, Bool.false_and, Bool.false_eq_true, if_false, hcell h hrun, Bool.not_false, Bool.true_and, beq_iff_eq]
  by_cases hs : s.now % sleepTicks = 0
  · simp only [hs, if_true]
    have hst : s.slowTick.running = true := hr
    have hsn : s.slowTick.now % sleepTicks = 0 := hs
    simp only [hst, hsn, Bool.true_and, beq_self_eq_true, if_true]
    exact hwclk (t := s.slowTick.onPm Pm.residencyTick) (Pm.residencyTick_stays h) (by rw [← hrun]; exact Pm.residencyTick_run _)
  · have hb : (s.now % sleepTicks == 0) = false := by simpa using hs
    simp only [hs, hb, if_false, Bool.and_false, Bool.false_eq_true]
    exact hwclk h hrun

/-- Settles O4: while the part sleeps only `State.slowTick` moves local time (`State.dueWork_asleep`), and CCLK has no edge. -/
theorem sleepClockKeepsTime : Obligations.SleepClockKeepsTime := by
  intro s hp hr hpw hen hex hre hfr hy edge d
  have hstay : ({ s with now := s.now + 1 } : State).pm.stays s.pm.power := ⟨rfl, hen, hre⟩
  obtain ⟨hct, hcp⟩ := State.clockEdges_asleep (s := { s with now := s.now + 1 }) hr hstay hpw hex
  obtain ⟨hdt, hdp⟩ := State.dueWork_asleep hcp hpw (by simpa using hfr)
  have htick : s.tick = ({ s with now := s.now + 1 } : State).clockEdges.dueWork := by
    unfold State.tick
    exact if_pos hr
  have hk := s.tick_preserves
  refine ⟨s.tick, step_of_empty hp, hk.pending.trans hp, hk.now, by rw [htick]; exact hdp.1, ?_⟩
  rw [htick, hdt, hct]
  dsimp only [edge, d]
  by_cases he : (s.now + 1) % sleepTicks = 0
  · simp only [he, State.slowTick, Time.advance, State.onTime_time, decide_true, if_true, Bool.true_and,
      Bool.not_eq_true']
    refine ⟨trivial, trivial, ?_⟩
    cases s.time.counterMode <;> simp
  · simp [he]

end Sys2Proof.Machine

/-!
Proofs about records and reports: what enters the write cache, and what GET, SHOW and WHY answer.
-/

namespace Sys2Proof.Machine

/-! ## Records of the ledger and of the audit ring (R448 to R456) -/

theorem recordsFrom_length (seq : Nat) (time : Stamp) (l : List LBody) : (recordsFrom seq time l).length = l.length := by
  induction l generalizing seq with
  | nil => rfl
  | cons b bs ih => simp [recordsFrom, ih]

theorem recordsFrom_getElem? {seq : Nat} {time : Stamp} {l : List LBody} {k : Nat} {r : LRec}
    (h : (recordsFrom seq time l)[k]? = some r) : r.seq = seq + k ∧ r.time = time := by
  induction l generalizing seq k with
  | nil => simp [recordsFrom] at h
  | cons b bs ih =>
    cases k with
    | zero =>
      cases h
      exact ⟨rfl, rfl⟩
    | succ k =>
      obtain ⟨hs, ht⟩ := ih (show (recordsFrom (seq + 1) time bs)[k]? = some r from h)
      exact ⟨by omega, ht⟩

/-- Without a flush records join the write cache in their order. -/
theorem Store.foldl_place {α : Type} (g : α → CRec) (l : List α) {c : Store} (hf : c.flush = none) :
    l.foldl (fun c r => c.place (g r)) c = { c with cache := c.cache ++ l.map g } := by
  induction l generalizing c with
  | nil => simp
  | cons r rs ih =>
    have hp : c.place (g r) = { c with cache := c.cache ++ [g r] } := by simp [Store.place, hf]
    rw [List.foldl_cons, hp, ih (by simpa using hf)]
    simp

/-- An audit record away from a new pass of the ring is one record. -/
theorem State.audit_store (o : Origin) (action obj result : Nat) (old new : AVal) {s : State}
    (hc : s.store.auditCount < auditRing) :
    (s.audit o action obj result old new).store = { s.store.place (.audit
      { seq := s.store.nextAudit, origin := o, action := action, time := s.stamp, object := obj, result := result,
        old := old, new := new } s.now) with
      nextAudit := auditNext s.store.nextAudit, auditCount := s.store.auditCount + 1 } := by
  simp [State.audit, Nat.not_le.mpr hc, State.auditOne]

/-- Settles O10, from what one record adds to the cache (`Store.foldl_place`, `State.audit_store`). -/
theorem ledgerRecords : Obligations.LedgerRecords := by
  refine ⟨fun time b s hf => ?_, fun o action obj result old new s hc => ?_⟩
  · have hst : (s.ledgerAt time b).store = { s.store with
        cache := s.store.cache ++ (recordsFrom s.store.nextSeq time b.all).map (fun r => CRec.ledger r s.now),
        nextSeq := s.store.nextSeq + (recordsFrom s.store.nextSeq time b.all).length } := by
      simp [State.ledgerAt, Store.foldl_place (fun r => CRec.ledger r s.now) _ hf]
    refine ⟨recordsFrom s.store.nextSeq time b.all, by rw [hst], recordsFrom_length _ _ _,
      fun k r hr => recordsFrom_getElem? hr, rfl, by rw [hst], State.keeps_ledgerAt time b s⟩
  · intro r t
    have hst : t.store = _ := State.audit_store o action obj result old new hc
    refine ⟨State.keeps_audit _ _ _ _ _ _ s, by rw [hst], fun hf => ?_, fun hf => ?_⟩
    · rw [hst, Store.place, hf]
      exact ⟨rfl, rfl⟩
    · obtain ⟨x, hx⟩ := Option.ne_none_iff_exists'.mp hf
      rw [hst, Store.place, hx]
      exact ⟨rfl, rfl⟩

/-! ## Reports (R77, R515, R516, R525) -/

theorem exec_get_known {h : Hdr} {s : State} {obj : Nat} (ht : s.takes h) (ho : cardOf obj ≠ none) :
    exec (.get h obj) s = .next ((s.heard h).reply h [(s.heard h).valueLine obj]) := by
  obtain ⟨c, hc⟩ := Option.ne_none_iff_exists'.mp ho
  change Host.Outcome.next (s.verb h .get false false _) = _
  rw [State.verb_takes _ _ _ ht]
  simp only [hc]
  rfl

theorem exec_get_unknown {h : Hdr} {s : State} {obj : Nat} (ht : s.takes h) (ho : cardOf obj = none) :
    exec (.get h obj) s = .next ((s.heard h).refuse h .get .object 2 none) := by
  change Host.Outcome.next (s.verb h .get false false _) = _
  rw [State.verb_takes _ _ _ ht]
  simp only [ho]
  rw [State.finish_bad _ _ _ _ _ _ _ ht.2]

theorem exec_whyPath_known {h : Hdr} {s : State} {obj : Nat} (ht : s.takes h) (ho : cardOf obj ≠ none) :
    exec (.whyPath h obj) s = .next ((s.heard h).reply h [.whyPath obj ((s.heard h).pval obj) ((s.heard h).pnext obj)
      (((s.heard h).prow obj).map PRow.src) (((s.heard h).prow obj).map PRow.time)]) := by
  obtain ⟨c, hc⟩ := Option.ne_none_iff_exists'.mp ho
  change Host.Outcome.next (s.verb h .why false false _) = _
  rw [State.verb_takes _ _ _ ht]
  simp only [hc]
  rfl

theorem exec_whyPath_unknown {h : Hdr} {s : State} {obj : Nat} (ht : s.takes h) (ho : cardOf obj = none) :
    exec (.whyPath h obj) s = .next ((s.heard h).refuse h .why .object 2 none) := by
  change Host.Outcome.next (s.verb h .why false false _) = _
  rw [State.verb_takes _ _ _ ht]
  simp only [ho]
  rw [State.finish_bad _ _ _ _ _ _ _ ht.2]

theorem exec_showPart {h : Hdr} {s : State} (ht : s.takes h) :
    let u := s.heard h
    exec (.showPart h) s = .next (u.reply h [.part u.part.variant u.part.eui u.image.activeVer u.line.address u.line.chainMark
      u.line.solo (u.pnat Obj.lineMode == 1) u.line.level]) := by
  change Host.Outcome.next (s.verb h .show false false _) = _
  rw [State.verb_takes _ _ _ ht, State.finish_good]

theorem exec_showPrefix {h : Hdr} {s : State} {pre : String} (ht : s.takes h) (hm : matchingObjs pre ≠ []) :
    let u := s.heard h
    exec (.showPrefix h pre) s =
      .next (u.reply h ((matchingObjs pre).map (fun k => .pathValue k (u.pval k) (u.pnext k)) ++ [.dot])) := by
  change Host.Outcome.next (s.verb h .show false false _) = _
  rw [State.verb_takes _ _ _ ht]
  simp only [List.isEmpty_iff, hm, if_false, State.finish_good]

theorem exec_why {h : Hdr} {s : State} (ht : s.takes h) :
    exec (.why h) s = .next ((s.heard h).reply h [.why (s.heard h).line.lastErr]) := by
  change Host.Outcome.next (s.verb h .why false false _) = _
  rw [State.verb_takes _ _ _ ht, State.finish_good]

/-- SHOW lists the objects whose path begins as asked (R515). -/
theorem mem_matchingObjs (pre : String) (k : Nat) :
    k ∈ matchingObjs pre ↔ ∃ c, cardOf k = some c ∧ pre.toList <+: c.name.toList := by
  unfold matchingObjs
  simp only [List.mem_filterMap, List.mem_range]
  constructor
  · rintro ⟨i, hi, he⟩
    split at he
    next c hc =>
      split at he
      next hp =>
        cases he
        exact ⟨c, by simpa [cardOf] using hc, List.isPrefixOf_iff_prefix.mp hp⟩
      next => cases he
    next => cases he
  · rintro ⟨c, hc, hp⟩
    unfold cardOf at hc
    split at hc
    · cases hc
    next hk =>
      have hlt := (List.getElem?_eq_some_iff.mp hc).1
      refine ⟨k - 1, hlt, ?_⟩
      rw [hc]
      simp only [List.isPrefixOf_iff_prefix.mpr hp, if_true]
      congr 1
      omega

/-- SHOW lists in the order of the object numbers, each once. -/
theorem matchingObjs_pairwise (pre : String) : (matchingObjs pre).Pairwise (· < ·) := by
  unfold matchingObjs
  rw [List.pairwise_filterMap]
  refine List.pairwise_lt_range.imp fun hlt x hx y hy => ?_
  split at hx
  next =>
    split at hx
    next =>
      cases hx
      split at hy
      next =>
        split at hy
        next =>
          cases hy
          omega
        next => cases hy
      next => cases hy
    next => cases hx
  next => cases hx

/-- Settles O11, command by command. -/
theorem parameterReports : Obligations.ParameterReports :=
  ⟨fun _ _ ht => ⟨fun _ ho => exec_get_known ht ho, fun _ ho => ⟨exec_get_unknown ht ho, exec_whyPath_unknown ht ho⟩,
    exec_showPart ht, fun _ hm => exec_showPrefix ht hm, exec_why ht, fun _ ho => exec_whyPath_known ht ho⟩,
    fun pre => ⟨mem_matchingObjs pre, matchingObjs_pairwise pre⟩⟩

end Sys2Proof.Machine

/-!
Proofs about sessions: what AUTH, AUTH KEY and LOGOUT do to the session, and what they leave alone.
-/

namespace Sys2Proof.Machine

/-! ## What a change keeps, put together -/

theorem State.keeps_step {but small : List Group} {s t u : State} (h₁ : s.keeps but t) (h₂ : t.keeps small u)
    (hs : small ⊆ but := by decide) : s.keeps but u :=
  State.keeps_trans h₁ (State.keeps_mono h₂ hs)

theorem State.keeps_onRoster (f : Roster → Roster) (s : State) : s.keeps [.roster] (s.onRoster f) := by
  refine ⟨rfl, rfl, rfl, fun g hg => ?_⟩
  cases g with
  | roster => simp at hg
  | _ => rfl

theorem State.keeps_onPm (f : Pm → Pm) (s : State) : s.keeps [.pm] (s.onPm f) := by
  refine ⟨rfl, rfl, rfl, fun g hg => ?_⟩
  cases g with
  | pm => simp at hg
  | _ => rfl

theorem State.keeps_onTally (f : Tally → Tally) (s : State) : s.keeps [.tally] (s.onTally f) := by
  refine ⟨rfl, rfl, rfl, fun g hg => ?_⟩
  cases g with
  | tally => simp at hg
  | _ => rfl

theorem State.keeps_onWork (f : Work → Work) (s : State) : s.keeps [.work] (s.onWork f) := by
  refine ⟨rfl, rfl, rfl, fun g hg => ?_⟩
  cases g with
  | work => simp at hg
  | _ => rfl

/-- LINE without what says what is being sent and what failed last: what neither a reply nor a failure changes. -/
def Line.core (l : Line) : Line :=
  { l with tx := [], txCc := false, txCrLf := false, sending := none, sendEnd := 0, pushHeld := false, lastErr := none }

theorem State.reply_core (h : Hdr) (out : List OutLine) (s : State) : (s.reply h out).line.core = s.line.core := by
  unfold State.reply
  split
  · rfl
  · split <;> rfl

theorem State.refuse_core (h : Hdr) (v : Verb) (e : Err) (tok : Nat) (obj : Option Nat) (s : State) :
    (s.refuse h v e tok obj).line.core = s.line.core := by
  unfold State.refuse
  dsimp only
  split
  · simp [State.onLine, Line.core]
  · rw [State.reply_core]
    rfl

theorem Line.session_of_core {l m : Line} (hc : l.core = m.core) : l.level = m.level ∧ l.challenge = m.challenge ∧
    l.authFails = m.authFails ∧ l.lockout = m.lockout :=
  ⟨(congrArg Line.level hc :), (congrArg Line.challenge hc :), (congrArg Line.authFails hc :), (congrArg Line.lockout hc :)⟩

theorem Line.chain_of_core {l m : Line} (hc : l.core = m.core) : l.address = m.address ∧ l.chainMark = m.chainMark ∧
    l.chainOut = m.chainOut ∧ l.rollAt = m.rollAt :=
  ⟨(congrArg Line.address hc :), (congrArg Line.chainMark hc :), (congrArg Line.chainOut hc :), (congrArg Line.rollAt hc :)⟩

@[simp] theorem State.reply_session (h : Hdr) (out : List OutLine) (s : State) :
    (s.reply h out).line.level = s.line.level ∧ (s.reply h out).line.challenge = s.line.challenge ∧
      (s.reply h out).line.authFails = s.line.authFails ∧ (s.reply h out).line.lockout = s.line.lockout :=
  Line.session_of_core (s.reply_core h out)

@[simp] theorem State.refuse_session (h : Hdr) (v : Verb) (e : Err) (tok : Nat) (obj : Option Nat) (s : State) :
    (s.refuse h v e tok obj).line.level = s.line.level ∧ (s.refuse h v e tok obj).line.challenge = s.line.challenge ∧
      (s.refuse h v e tok obj).line.authFails = s.line.authFails ∧ (s.refuse h v e tok obj).line.lockout = s.line.lockout :=
  Line.session_of_core (s.refuse_core h v e tok obj)

@[simp] theorem State.reply_chain (h : Hdr) (out : List OutLine) (s : State) :
    (s.reply h out).line.address = s.line.address ∧ (s.reply h out).line.chainMark = s.line.chainMark ∧
      (s.reply h out).line.chainOut = s.line.chainOut ∧ (s.reply h out).line.rollAt = s.line.rollAt :=
  Line.chain_of_core (s.reply_core h out)

theorem State.refuse_tx {h : Hdr} (v : Verb) (e : Err) (tok : Nat) (obj : Option Nat) (s : State) (h0 : h.addr ≠ some 0) :
    (s.refuse h v e tok obj).line.tx = [.err e] := by
  simp [State.refuse, State.reply, h0]

/-! ## Sessions (R70 to R74) -/

@[simp] theorem State.count_fresh (b : Block) (name : String) (s : State) : (s.count b name).fresh = s.fresh := by
  unfold State.count State.countN
  split <;> rfl

@[simp] theorem State.authFailed_fields (s : State) :
    s.authFailed.line.level = s.line.level ∧ s.authFailed.line.challenge = s.line.challenge := by
  unfold State.authFailed
  simp only [State.onLine, State.count_frame]
  split
  · exact ⟨rfl, rfl⟩
  · split <;> exact ⟨rfl, rfl⟩

theorem State.authFailed_lockout {s : State} (hl : s.lockedOut = false) (hf : s.line.authFails = 2) :
    s.authFailed.line.lockout = some (s.now + secs 60) := by
  simp [State.authFailed, State.onLine, hl, hf]

theorem State.keeps_authFailed (s : State) : s.keeps [.line, .tally] s.authFailed :=
  State.keeps_step (State.keeps_mono (State.keeps_count ..) (by decide)) (State.keeps_onLine ..)

/-- A line whose record is written and that succeeds: what it sends, what else of LINE it leaves as it worked, and what it
keeps. -/
theorem State.finish_recorded {h : Hdr} (o : Origin) (v : Verb) {w : State} {out : List OutLine} (obj : Option Nat) (a : Aud)
    (h0 : h.addr ≠ some 0) (ho : out ≠ []) :
    let t := State.finish o h v (good w out obj (some a))
    t.line.tx = out ∧ t.line.level = w.line.level ∧ t.line.challenge = w.line.challenge ∧ t.line.authFails = w.line.authFails ∧
      t.roster = w.roster ∧ w.keeps [.line, .store, .params] t := by
  intro t
  have ht : t = (w.audit o a.action a.obj 0 a.old a.new).reply h out := State.finish_good_some ..
  rw [ht]
  exact ⟨State.reply_tx _ h0 ho, by simp, by simp, by simp, by simp,
    State.keeps_step (State.keeps_mono (State.keeps_audit ..) (by decide)) (State.keeps_reply ..)⟩

/-- The same of one that fails. -/
theorem State.finish_bad_recorded {h : Hdr} (o : Origin) (v : Verb) {w : State} (e : Err) (tok : Nat) (obj : Option Nat)
    (a : Aud) (h0 : h.addr ≠ some 0) :
    let t := State.finish o h v (bad w e tok obj (some a))
    t.line.tx = [.err e] ∧ t.line.level = w.line.level ∧ t.line.challenge = w.line.challenge ∧
      t.line.lockout = w.line.lockout ∧ w.keeps [.line, .store, .params] t := by
  intro t
  have ht : t = (w.audit o a.action a.obj (errNum e) a.old a.new).refuse h v e tok obj := State.finish_bad_some ..
  rw [ht]
  exact ⟨State.refuse_tx _ _ _ _ _ h0, by simp, by simp, by simp,
    State.keeps_step (State.keeps_mono (State.keeps_audit ..) (by decide)) (State.keeps_refuse _ _ _ _ _ h0)⟩

/-- A change that answers a challenge is judged in the state that the challenge is still standing in (R72). -/
theorem exec_authResponse {h : Hdr} (l : Level) (resp : BitVec 64) {s : State} (ht : s.takesAtOnce h) :
    let v := (s.takeLine h).beginLine true
    exec (.authResponse h l resp) s = .next (State.finish (v.lineOrigin h) h .auth (runAuthResponse h l resp v)) := by
  obtain ⟨⟨⟨hh, hu, hc⟩, hw⟩, h0⟩ := ht
  intro v
  have hc' : (s.takeLine h).noCheck h = false := hc
  have hv : (s.takeLine h).beginLine (true && !(s.takeLine h).noCheck h) = v := by simp [hc', v]
  have hcv : v.noCheck h = false := hc
  change Host.Outcome.next (s.takeVerb _ h .auth false true (runAuthResponse h l resp)) = _
  rw [(State.takeVerb_judges (some (.authResponse h l resp)) .auth false true (runAuthResponse h l resp) hh hu (fun e => absurd e h0)).1]
  · rw [hv]
    unfold State.judge
    simp [hcv]
  · rintro x -
    rw [hv]
    exact State.mustWait_free (s := v) x hw

/-- A session that has the level enters it again or drops to it (log 40). -/
theorem runAuthChallenge_allowed {h : Hdr} {l : Level} {s : State} (hl : s.lockedOut = false) (ha : s.allowed l = true) :
    runAuthChallenge h l s = good ((s.count .keeper "auth.try").onLine (fun x => { x with level := l })) [.level l] none
      (some (s.authAud l l)) := by
  simp [runAuthChallenge, hl, ha]

theorem runAuthChallenge_above {h : Hdr} {l : Level} {s : State} (hl : s.lockedOut = false) (ha : s.allowed l = false) :
    runAuthChallenge h l s = good ((s.count .keeper "auth.try").draw.2.onLine (fun x =>
      { x with challenge := some { level := l, value := Config.freeChallenge s.fresh, at_ := s.now } })) [.chal (Config.freeChallenge s.fresh)] none
      (some (s.authAud l s.line.level)) := by
  simp [runAuthChallenge, hl, ha, State.draw]

theorem runAuthResponse_right {h : Hdr} {l : Level} {resp : BitVec 64} {s : State} (hl : s.lockedOut = false)
    (ha : s.authOk l resp = true) : runAuthResponse h l resp s =
      good (((s.count .keeper "auth.try").onLine (fun x => { x with challenge := none })).onLine
        (fun x => { x with level := l, authFails := 0 })) [.level l] none (some (s.authAud l l)) := by
  simp [runAuthResponse, hl, ha]

theorem runAuthResponse_wrong {h : Hdr} {l : Level} {resp : BitVec 64} {s : State}
    (hb : s.lockedOut = true ∨ s.authOk l resp = false) : runAuthResponse h l resp s =
      bad ((s.count .keeper "auth.try").onLine (fun x => { x with challenge := none })).authFailed .auth 0 none
        (some (s.authAud l l)) := by
  unfold runAuthResponse
  dsimp only
  rw [if_neg (by rcases hb with hb | hb <;> simp [hb])]

/-- What AUTH KEY writes to the audit ring. -/
def State.authKeyAud (l : Level) (w : BitVec 192) (s : State) : Aud :=
  { action := 3, obj := 768 + levelNum l, old := keyVal (some (s.levelKey l)),
    new := keyVal (Config.unwrap s.roster.cuKey w) }

def Roster.withKey (l : Level) (k : Key) (r : Roster) : Roster :=
  if l == .custodian then { r with cuKey := k } else { r with opKey := k }

theorem State.count_allowed (b : Block) (name : String) (l : Level) (s : State) :
    (s.count b name).allowed l = s.allowed l := by
  simp [State.allowed]

theorem runAuthKey_some {h : Hdr} {l : Level} {w : BitVec 192} {k : Key} {s : State} (ha : s.allowed .custodian = true)
    (hl : s.lockedOut = false) (ho : l ≠ .observer) (hw : Config.unwrap s.roster.cuKey w = some k) :
    runAuthKey h l w s = good ((s.count .keeper "auth.try").onRoster (Roster.withKey l k)) [.key l] none
      (some (s.authKeyAud l w)) := by
  unfold runAuthKey
  simp only [needs, ha, if_true, State.count_allowed, hl, hw, beq_eq_false_iff_ne.mpr ho, State.authKeyAud]
  rfl

theorem runAuthKey_none {h : Hdr} {l : Level} {w : BitVec 192} {s : State} (ha : s.allowed .custodian = true)
    (hl : s.lockedOut = false) (ho : l ≠ .observer) (hw : Config.unwrap s.roster.cuKey w = none) :
    runAuthKey h l w s = bad (s.count .keeper "auth.try").authFailed .auth 0 none (some (s.authKeyAud l w)) := by
  unfold runAuthKey
  simp only [needs, ha, if_true, State.count_allowed, hl, hw, beq_eq_false_iff_ne.mpr ho, State.authKeyAud]
  rfl

theorem State.levelKey_withKey {s t : State} {l : Level} {k : Key} (ho : l ≠ .observer)
    (ht : t.roster = s.roster.withKey l k) :
    t.levelKey l = k ∧ ∀ l', l' ≠ .observer → l' ≠ l → t.levelKey l' = s.levelKey l' := by
  cases l with
  | observer => exact absurd rfl ho
  | operator =>
    refine ⟨by simp [State.levelKey, ht, Roster.withKey], fun l' h1 h2 => ?_⟩
    cases l' <;> simp_all [State.levelKey, Roster.withKey]
  | custodian =>
    refine ⟨by simp [State.levelKey, ht, Roster.withKey], fun l' h1 h2 => ?_⟩
    cases l' <;> simp_all [State.levelKey, Roster.withKey]

theorem exec_authChallenge {h : Hdr} {l : Level} {s : State} (ht : s.takesAtOnce h) : exec (.authChallenge h l) s =
    .next (State.finish ((s.heard h).lineOrigin h) h .auth (runAuthChallenge h l (s.heard h))) :=
  congrArg Host.Outcome.next (State.change_takes _ _ _ _ ht)

theorem exec_authKey {h : Hdr} {l : Level} {w : BitVec 192} {s : State} (ht : s.takesAtOnce h) : exec (.authKey h l w) s =
    .next (State.finish ((s.heard h).lineOrigin h) h .auth (runAuthKey h l w (s.heard h))) :=
  congrArg Host.Outcome.next (State.change_takes _ _ _ _ ht)

theorem exec_logout {h : Hdr} {s : State} (hj : s.judges h) :
    exec (.logout h) s = .next (((s.heard h).onLine Line.endSession).reply h [.level .observer]) :=
  congrArg Host.Outcome.next (State.verb_judged .logout true _ hj (fun _ => rfl))

theorem State.keeps_authTry (f : Line → Line) (s : State) :
    s.keeps [.line, .tally] ((s.count .keeper "auth.try").onLine f) :=
  State.keeps_step (State.keeps_mono (State.keeps_count ..) (by decide)) (State.keeps_onLine ..)

/-- Settles O13, command by command: each is judged at once, and its work is the model's `run`. -/
theorem authAndLogout : Obligations.AuthAndLogout := by
  intro h s u v
  refine ⟨fun l ht hl hal => ⟨_, exec_authChallenge ht, ?_⟩, fun l ht hl hal => ⟨_, exec_authChallenge ht, ?_⟩,
    fun l resp ht hl hok => ⟨_, exec_authResponse l resp ht, ?_⟩,
    fun l resp ht hbad => ⟨_, exec_authResponse l resp ht, ?_⟩, fun l w ht hal hl hlev => ⟨_, exec_authKey ht, ?_⟩,
    fun hj => ⟨_, exec_logout hj, ?_⟩⟩
  · rw [runAuthChallenge_allowed hl hal]
    obtain ⟨htx, hlev, hch, -, -, hk⟩ := State.finish_recorded (h := h) (u.lineOrigin h) .auth
      (w := (u.count .keeper "auth.try").onLine (fun x => { x with level := l })) none (u.authAud l l) ht.2
      (List.cons_ne_nil (OutLine.level l) [])
    refine ⟨htx, hlev, hch.trans ?_, State.keeps_step (State.keeps_mono (State.keeps_authTry _ u) (by decide)) hk⟩
    simp [State.onLine, u, State.heard, State.beginLine]
  · rw [runAuthChallenge_above hl hal]
    obtain ⟨htx, hlev, hch, -, -, hk⟩ := State.finish_recorded (h := h) (u.lineOrigin h) .auth
      (w := (u.count .keeper "auth.try").draw.2.onLine (fun x =>
        { x with challenge := some { level := l, value := Config.freeChallenge u.fresh, at_ := u.now } }))
      none (u.authAud l u.line.level) ht.2 (List.cons_ne_nil (OutLine.chal (Config.freeChallenge u.fresh)) [])
    refine ⟨htx, hch, hlev.trans ?_, State.keeps_step ?_ hk⟩
    · simp [State.onLine, State.draw]
    · exact State.keeps_step (State.keeps_step (State.keeps_mono (State.keeps_count .keeper "auth.try" u) (by decide))
        (State.keeps_draw [] _)) (State.keeps_onLine ..)
  · rw [runAuthResponse_right hl hok]
    obtain ⟨htx, hlev, hch, hfl, -, hk⟩ := State.finish_recorded (h := h) (v.lineOrigin h) .auth
      (w := ((v.count .keeper "auth.try").onLine (fun x => { x with challenge := none })).onLine
        (fun x => { x with level := l, authFails := 0 })) none (v.authAud l l) ht.2 (List.cons_ne_nil (OutLine.level l) [])
    exact ⟨htx, hlev, hch, hfl, State.keeps_step (State.keeps_mono (State.keeps_step (State.keeps_authTry _ v) (State.keeps_onLine ..)) (by decide)) hk⟩
  · rw [runAuthResponse_wrong hbad]
    obtain ⟨htx, hlev, hch, hlk, hk⟩ := State.finish_bad_recorded (h := h) (v.lineOrigin h) .auth
      (w := ((v.count .keeper "auth.try").onLine (fun x => { x with challenge := none })).authFailed) .auth 0
      none (v.authAud l l) ht.2
    refine ⟨htx, hlev.trans ?_, hch.trans ?_, fun hl hf => hlk.trans ?_,
      State.keeps_step (State.keeps_mono (State.keeps_step (State.keeps_authTry _ v) (State.keeps_authFailed _)) (by decide)) hk⟩
    · simp [State.onLine]
    · simp [State.onLine]
    · rw [State.authFailed_lockout]
      · simp [State.onLine]
      · simpa [State.lockedOut, State.onLine] using hl
      · simpa [State.onLine] using hf
  · cases hw : Config.unwrap u.roster.cuKey w with
    | some k =>
      rw [runAuthKey_some hal hl hlev hw]
      obtain ⟨htx, hlv, -, -, hro, hk⟩ := State.finish_recorded (h := h) (u.lineOrigin h) .auth
        (w := (u.count .keeper "auth.try").onRoster (Roster.withKey l k)) none (u.authKeyAud l w) ht.2
        (List.cons_ne_nil (OutLine.key l) [])
      obtain ⟨hkl, hother⟩ := State.levelKey_withKey (s := u) (l := l) (k := k) hlev (hro.trans (by simp [State.onRoster]))
      refine ⟨hlv.trans (by simp [State.onRoster]), htx, hkl, hother, State.keeps_step (State.keeps_step
        (State.keeps_mono (State.keeps_count ..) (by decide)) (State.keeps_onRoster ..)) hk⟩
    | none =>
      rw [runAuthKey_none hal hl hlev hw]
      obtain ⟨htx, hlv, -, -, hk⟩ := State.finish_bad_recorded (h := h) (u.lineOrigin h) .auth
        (w := (u.count .keeper "auth.try").authFailed) .auth 0 none (u.authKeyAud l w) ht.2
      exact ⟨hlv.trans (by simp), htx, State.keeps_step (State.keeps_step (State.keeps_mono (State.keeps_count ..) (by decide))
        (State.keeps_authFailed _)) hk⟩
  · refine ⟨fun h0 => State.reply_tx _ h0 (List.cons_ne_nil _ _), ?_, ?_, State.keeps_step (State.keeps_onLine ..)
      (State.keeps_reply ..)⟩
    · simp [State.onLine, Line.endSession]
    · simp [State.onLine, Line.endSession]

end Sys2Proof.Machine

/-!
Proofs about enumeration and polling, and about event lines that enter the queue.
-/

namespace Sys2Proof.Machine

/-! ## An event line in the queue -/

/-- LINE without its event queue and its receiver: what no event changes (R47, R65). -/
def Line.stood (l : Line) : Line := { l with events := [], lost := 0, isOpen := false, partialLine := [] }

@[simp] theorem Line.push_stood (e : EvLine) (l : Line) : (l.push e).stood = l.stood := by
  unfold Line.push
  split <;> rfl

@[simp] theorem State.pushEv_stood (e : Ev) (s : State) : (s.pushEv e).line.stood = s.line.stood :=
  Line.push_stood _ _

@[simp] theorem State.hostDeaf_stood (s : State) : s.hostDeaf.line.stood = s.line.stood := by
  unfold State.hostDeaf
  split <;> rfl

@[simp] theorem State.vauxTripped_stood (code : Nat) (s : State) : (s.vauxTripped code).line.stood = s.line.stood := by
  simp [State.vauxTripped, apply_ite State.line, apply_ite Line.stood]

@[simp] theorem State.pgAsk_line (g : Fin 4) (s : State) : (s.pgAsk g).2.line = s.line := by
  unfold State.pgAsk
  split <;> simp

@[simp] theorem State.vauxAttempt_stood (s : State) : s.vauxAttempt.line.stood = s.line.stood := by
  simp [State.vauxAttempt, apply_ite State.line, apply_ite Line.stood]

@[simp] theorem State.queue_stood (e : Ev) (s : State) : (s.queue e).line.stood = s.line.stood := by
  simp [State.queue, State.vauxPolicy, apply_ite State.line, apply_ite Line.stood]

theorem Line.sent_of_stood {l m : Line} (hc : l.stood = m.stood) : l.tx = m.tx ∧ l.sending = m.sending ∧
    l.address = m.address ∧ l.chainOut = m.chainOut :=
  ⟨(congrArg Line.tx hc :), (congrArg Line.sending hc :), (congrArg Line.address hc :), (congrArg Line.chainOut hc :)⟩

@[simp] theorem State.queue_sent (e : Ev) (s : State) : (s.queue e).line.tx = s.line.tx ∧
    (s.queue e).line.sending = s.line.sending ∧ (s.queue e).line.address = s.line.address ∧
    (s.queue e).line.chainOut = s.line.chainOut :=
  Line.sent_of_stood (s.queue_stood e)

@[simp] theorem State.lineFault_sent (k : LineFaultKind) (s : State) : (s.lineFault k).line.tx = s.line.tx ∧
    (s.lineFault k).line.sending = s.line.sending ∧ (s.lineFault k).line.address = s.line.address ∧
    (s.lineFault k).line.chainOut = s.line.chainOut := by
  unfold State.lineFault
  simp only [State.queue_sent, State.count_frame, State.onLine, and_self]

theorem State.keeps_lineFault (k : LineFaultKind) (s : State) :
    s.keeps [.line, .params, .mon, .pm, .tally] (s.lineFault k) :=
  State.keeps_step (State.keeps_step (State.keeps_mono (State.keeps_onLine ..) (by decide)) (State.keeps_count ..))
    (State.keeps_queue ..)

/-! ## Enumeration (R79 to R84) -/

theorem onlyBroadcast_all {h : Hdr} (s : State) (aud : Option Aud) (k : Done) (h0 : h.addr = some 0) :
    onlyBroadcast h s aud k = k := by
  simp [onlyBroadcast, h0]

/-- What a broadcast of ENUM that succeeds leaves: it is answered by an enumeration answer or by nothing. -/
theorem State.finish_enum {h : Hdr} (o : Origin) (v : Verb) {w : State} {out : List OutLine} (obj : Option Nat)
    (aud : Option Aud) (h0 : h.addr = some 0)
    (hs : Sending.answers w.line.sending = true ∧ out ≠ [] ∨
      Sending.answers w.line.sending = false ∧ w.line.tx = [] ∧ out = []) :
    let t := State.finish o h v (good w out obj aud)
    t.line.tx = out ∧ t.line.core = w.line.core ∧ t.line.lastErr = w.line.lastErr ∧ w.keeps [.line, .store, .params] t := by
  obtain ⟨x, hx, hl, hk⟩ : ∃ x : State, State.finish o h v (good w out obj aud) = x.reply h out ∧ x.line = w.line ∧
      w.keeps [.line, .store, .params] x := by
    cases aud with
    | none => exact ⟨w, rfl, rfl, State.keeps_refl ..⟩
    | some a => exact ⟨w.audit o a.action a.obj 0 a.old a.new, rfl, by simp, State.keeps_mono (State.keeps_audit ..) (by decide)⟩
  intro t
  rw [show t = x.reply h out from hx]
  refine ⟨?_, by rw [State.reply_core, hl], by rw [(State.reply_fields h out x).2, hl],
    State.keeps_step hk (State.keeps_reply ..)⟩
  rcases hs with ⟨ha, ho⟩ | ⟨ha, htx, ho⟩
  · simp [State.reply, h0, hl, ha, ho]
  · simp [State.reply, h0, hl, ha, htx, ho]

theorem exec_enumStart {h : Hdr} {s : State} (hj : s.judgesAtOnce h) : exec (.enumStart h) s =
    .next (State.finish ((s.heard h).lineOrigin h) h .enum (runEnumStart h (s.heard h))) :=
  congrArg Host.Outcome.next (State.change_judged _ .enum true _ hj (fun _ => rfl))

theorem exec_enumNext {h : Hdr} {n : Int} {c : Bool} {s : State} (hj : s.judgesAtOnce h) : exec (.enumNext h n c) s =
    .next (State.finish ((s.heard h).lineOrigin h) h .enum (runEnumNext h n c (s.heard h))) :=
  congrArg Host.Outcome.next (State.change_judged _ .enum true _ hj (fun _ => rfl))

theorem exec_enumClaim {h : Hdr} {e : Eui} {n : Int} {s : State} (hj : s.judgesAtOnce h) : exec (.enumClaim h e n) s =
    .next (State.finish ((s.heard h).lineOrigin h) h .enum (runEnumClaim h e n (s.heard h))) :=
  congrArg Host.Outcome.next (State.change_judged _ .enum true _ hj (fun _ => rfl))

theorem exec_roll {h : Hdr} {s : State} (hj : s.judges h) (h0 : h.addr = some 0) : exec (.roll h) s =
    .next (((s.heard h).onLine (fun l => { l with rollAt := some (s.heard h).now })).reply h []) := by
  refine congrArg Host.Outcome.next ((State.verb_judged .roll true _ hj (fun _ => rfl)).trans ?_)
  rw [onlyBroadcast_all _ _ _ h0, State.finish_good]

@[simp] theorem State.heard_sending (h : Hdr) (s : State) : (s.heard h).line.sending = none := rfl

/-- A unit that gets its address answers with its EUI, and drives CHAIN_OUT (R81, R83). -/
theorem State.finish_takeAddress {h : Hdr} (o : Origin) (marked : Bool) (n : Nat) (w : State) {x : State}
    (hsend : x.line.sending = some (.enumAnswer marked n)) (haddr : x.line.address = n) (hout : x.line.chainOut = true) (h0 : h.addr = some 0) :
    let t := State.finish o h .enum { w.takeAddress marked n with s := x }
    t.line.tx = [if marked then .chainAns n w.part.eui else .enumAns n w.part.eui] ∧ t.line.address = n ∧
      t.line.chainOut = true ∧ x.keeps [.line, .store, .params] t := by
  obtain ⟨htx, hcore, -, hk⟩ := State.finish_enum o .enum (w := x) none (w.addrAud n) h0
    (Or.inl ⟨by rw [hsend]; rfl, List.cons_ne_nil (if marked then OutLine.chainAns n w.part.eui else .enumAns n w.part.eui) []⟩)
  obtain ⟨ha, -, hc, -⟩ := Line.chain_of_core hcore
  exact ⟨htx, ha.trans haddr, hc.trans hout, hk⟩

theorem runEnumNext_free {h : Hdr} {n : Int} {s : State} (h0 : h.addr = some 0) (hn : inRange 1 16 n = true)
    (ha : s.line.address = 0) : runEnumNext h n true s =
      (s.onLine (fun l => { l with
        sawNext := true, chainInLow := false, faults := l.faults.filter (· ≠ .chainin) })).takeAddress s.line.chainMark
        n.toNat := by
  simp [runEnumNext, onlyBroadcast_all _ _ _ h0, hn, ha, State.onLine]

/-- A unit that has its address, or reads CHAIN_IN low, notes the line and answers nothing (R81). -/
theorem runEnumNext_other {h : Hdr} {n : Int} {c : Bool} {s : State} (h0 : h.addr = some 0) (hn : inRange 1 16 n = true)
    (ha : s.line.address ≠ 0 ∨ c = false) : ∃ f : Line → Line, runEnumNext h n c s = good (s.onLine f) [] none none ∧
      (f s.line).tx = s.line.tx ∧ (f s.line).sending = s.line.sending ∧ (f s.line).address = s.line.address ∧
      (f s.line).chainOut = s.line.chainOut := by
  by_cases hz : s.line.address = 0
  · have hc : c = false := ha.resolve_left (not_not.mpr hz)
    refine ⟨fun l => { l with sawNext := true, chainInLow := l.chainInLow || !l.sawNext }, ?_, rfl, rfl, rfl, rfl⟩
    simp [runEnumNext, onlyBroadcast_all _ _ _ h0, hn, hz, hc, State.onLine]
  · refine ⟨id, ?_, rfl, rfl, rfl, rfl⟩
    simp [runEnumNext, onlyBroadcast_all _ _ _ h0, hn, hz, State.onLine]

theorem runEnumClaim_mine {h : Hdr} {n : Int} {s : State} (h0 : h.addr = some 0) (hn : inRange 1 16 n = true)
    (ha : s.line.address = 0 ∨ s.line.address = n.toNat) : ∃ w, runEnumClaim h s.part.eui n s =
      { s.takeAddress false n.toNat with s := w } ∧ w.line.sending = some (.enumAnswer false n.toNat) ∧
      w.line.address = n.toNat ∧ w.line.chainOut = true ∧
      s.keeps [.line, .params, .mon, .pm, .tally] w := by
  have hmine : (s.line.address ≠ 0 && s.line.address ≠ n.toNat) = false := by
    rcases ha with ha | ha <;> simp [ha]
  have hk : s.keeps [.line, .params, .mon, .pm, .tally] (s.takeAddress false n.toNat).s :=
    State.keeps_mono (State.keeps_onLine _ s) (by decide)
  refine ⟨if (s.takeAddress false n.toNat).s.line.sawNext && (s.takeAddress false n.toNat).s.line.chainInLow then
    (s.takeAddress false n.toNat).s.lineFault .chainin else (s.takeAddress false n.toNat).s, ?_, ?_, ?_, ?_, ?_⟩
  · unfold runEnumClaim
    rw [onlyBroadcast_all _ _ _ h0, hn, hmine]
    simp only [ne_eq, not_true, if_false, Bool.not_true]
    rfl
  · split <;> simp [State.takeAddress, good, State.onLine]
  · split <;> simp [State.takeAddress, good, State.onLine]
  · split <;> simp [State.takeAddress, good, State.onLine]
  · split
    · exact State.keeps_step hk (State.keeps_lineFault ..)
    · exact hk

theorem runEnumClaim_other {h : Hdr} {e : Eui} {n : Int} {s : State} (h0 : h.addr = some 0) (hn : inRange 1 16 n = true)
    (he : e ≠ s.part.eui) : runEnumClaim h e n s = good s [] none none := by
  simp [runEnumClaim, onlyBroadcast_all _ _ _ h0, hn, he]

theorem runEnumNext_zero {h : Hdr} {c : Bool} {s : State} (h0 : h.addr = some 0) :
    runEnumNext h 0 c s = bad s .range 3 none (some (s.addrAsk 0)) := by
  simp [runEnumNext, onlyBroadcast_all _ _ _ h0, inRange]

theorem exec_rollSlotAnswer {t0 : Ticks} {s : State} (hr : s.line.rollAt = some t0) (ha : s.line.address ≠ 0)
    (hlo : t0 + 2 * s.line.address * s.charTime ≤ s.now)
    (hhi : s.now < t0 + 2 * s.line.address * s.charTime + 2 * s.charTime) :
    let w := !s.wake.queue.isEmpty || s.wake.foldFlag
    let v := s.onLine (fun l => { l with rollAt := none, tx := [] })
    exec .rollSlotAnswer s = .next (if w || !s.line.events.isEmpty then (v.bytes .line 1).sendBare (.rollChar w) .roll 1 else v) := by
  refine congrArg Host.Outcome.next ?_
  simp [hr, ha, Nat.not_lt.mpr hlo, Nat.not_le.mpr hhi]

/-- Settles O14, command by command; an answer of an enumeration is the one thing that answers a broadcast. -/
theorem enumAndRoll : Obligations.EnumAndRoll := by
  refine ⟨?_, ?_, ?_⟩
  · intro h s hj h0 u
    have hin (n : Int) (h1 : 1 ≤ n) (h16 : n ≤ 16) : inRange 1 16 n = true := inRange_iff.mpr ⟨h1, h16⟩
    refine ⟨⟨_, exec_enumStart hj, ?_⟩, fun n h1 h16 hz => ⟨_, exec_enumNext hj, ?_⟩,
      fun n c h1 h16 hz => ⟨_, exec_enumNext hj, ?_⟩, fun n h1 h16 hz => ⟨_, exec_enumClaim hj, ?_⟩,
      fun e n he h1 h16 => ?_, fun c => ⟨_, exec_enumNext hj, ?_⟩⟩
    · have hrun : runEnumStart h u = good (u.onLine (fun l => { l.endSession with
          address := 0, chainOut := false, chainMark := false, lastErr := none, chainInLow := false, sawNext := false,
          faults := l.faults.filter (· ≠ .mark) })) [] none (u.addrAud 0) := onlyBroadcast_all _ _ _ h0
      rw [hrun]
      obtain ⟨htx, hcore, herr, hk⟩ := State.finish_enum (h := h) (u.lineOrigin h) .enum (w := u.onLine (fun l =>
        { l.endSession with
          address := 0, chainOut := false, chainMark := false, lastErr := none, chainInLow := false, sawNext := false,
          faults := l.faults.filter (· ≠ .mark) })) none (u.addrAud 0) h0 (Or.inr ⟨rfl, rfl, rfl⟩)
      obtain ⟨ha, hm, hc, -⟩ := Line.chain_of_core hcore
      exact ⟨htx, ha, hm, hc, (Line.session_of_core hcore).1, herr, State.keeps_trans
        (State.keeps_mono (State.keeps_onLine _ u) (by decide)) hk⟩
    · rw [runEnumNext_free h0 (hin n h1 h16) hz]
      let w := u.onLine (fun l => { l with
        sawNext := true, chainInLow := false, faults := l.faults.filter (· ≠ .chainin) })
      obtain ⟨htx, ha, hc, hk⟩ := State.finish_takeAddress (h := h) (u.lineOrigin h) u.line.chainMark n.toNat w
        (x := (w.takeAddress u.line.chainMark n.toNat).s) rfl rfl rfl h0
      exact ⟨htx, ha, hc, State.keeps_trans (State.keeps_mono (State.keeps_trans (State.keeps_onLine _ u)
        (State.keeps_onLine _ _)) (by decide)) hk⟩
    · obtain ⟨f, hrun, htx, hse, had, hco⟩ := runEnumNext_other (h := h) (n := n) (c := c) (s := u) h0 (hin n h1 h16) hz
      rw [hrun, State.finish_good]
      exact ⟨State.reply_nil_tx h htx, (State.reply_chain ..).1.trans had, (State.reply_chain ..).2.2.1.trans hco,
        State.keeps_step (State.keeps_onLine ..) (State.keeps_reply ..)⟩
    · obtain ⟨w, hrun, hse, had, hco, hkw⟩ := runEnumClaim_mine (h := h) (n := n) (s := u) h0 (hin n h1 h16) hz
      rw [hrun]
      obtain ⟨htx, ha, hc, hk⟩ := State.finish_takeAddress (h := h) (u.lineOrigin h) false n.toNat u hse had hco h0
      exact ⟨htx, ha, hc, State.keeps_step (State.keeps_mono hkw (by decide)) hk⟩
    · rw [exec_enumClaim hj, runEnumClaim_other h0 (hin n h1 h16) he, State.finish_good]
    · rw [runEnumNext_zero h0, State.finish_bad_some, State.refuse_broadcast _ _ _ _ _ h0]
      refine ⟨?_, ?_, State.keeps_step (State.keeps_step (State.keeps_mono (State.keeps_audit ..) (by decide))
        (State.keeps_onLine ..)) (State.keeps_count ..)⟩
      · simp [State.onLine]
      · simp [State.onLine, u]
  · intro h s hj h0
    refine ⟨_, exec_roll hj h0, State.reply_nil_tx h rfl, ?_, State.keeps_step (State.keeps_onLine ..) (State.keeps_reply ..)⟩
    simp [State.onLine, State.heard]
  · intro s t0 hr ha hlo hhi
    refine ⟨_, exec_rollSlotAnswer hr ha hlo hhi, ?_⟩
    have hw : (s.wake.queue ≠ [] ∨ s.wake.foldFlag = true) ↔ (!s.wake.queue.isEmpty || s.wake.foldFlag) = true := by simp
    simp only [hw]
    generalize (!s.wake.queue.isEmpty || s.wake.foldFlag) = w
    split
    next hc =>
      refine ⟨by simp [State.sendBare, State.onLine], ?_, State.keeps_step (State.keeps_step (State.keeps_mono
        (State.keeps_onLine _ s) (by decide)) (State.keeps_bytes ..)) (State.keeps_onLine ..)⟩
      cases w <;> simp_all [State.sendBare, State.onLine]
    next hc =>
      refine ⟨rfl, ?_, State.keeps_mono (State.keeps_onLine _ s) (by decide)⟩
      cases w <;> simp_all [State.onLine]

end Sys2Proof.Machine

/-!
Proofs about seen bits: what WAKE SEEN copies and clears, and what an abandoned reply gives back.
-/

namespace Sys2Proof.Machine

@[simp] theorem State.vauxPolicy_stood (s : State) : s.vauxPolicy.line.stood = s.line.stood := by
  simp [State.vauxPolicy, apply_ite State.line, apply_ite Line.stood]

@[simp] theorem State.driveWake_stood (s : State) : s.driveWake.line.stood = s.line.stood := by
  simp [State.driveWake, apply_ite State.line, apply_ite Line.stood]

@[simp] theorem State.rosterCheck_stood (s : State) : s.rosterCheck.line.stood = s.line.stood := by
  simp [State.rosterCheck, apply_ite State.line, apply_ite Line.stood]

/-! ## Seen bits (R166, R167) -/

/-- Masking every byte masks what is read. -/
theorem Mem.read_map_and (mask : Byte) (a : Nat) : ∀ {lo : Nat} {m : Mem}, Mem.wfFrom lo m = true →
    Mem.read ((m.map (fun c => (c.1, c.2 &&& mask))).filter (fun c => c.2 ≠ 0)) a = Mem.read m a &&& mask
  | _, [], _ => by simp [Mem.read]
  | lo, (k, v) :: m, w => by
    obtain ⟨hlo, hv, hm⟩ := Mem.wfFrom_cons.1 w
    have ih := Mem.read_map_and mask a hm
    simp only [List.map_cons, List.filter_cons]
    by_cases hz : v &&& mask = 0
    · rw [if_neg (by simpa using hz), ih]
      by_cases hk : k = a
      · subst hk
        rw [Mem.read_below (by omega) hm, Mem.read, if_pos rfl, hz]
        exact BitVec.zero_and
      · rw [Mem.read, if_neg hk]
    · rw [if_pos (by simpa using hz), Mem.read, Mem.read]
      by_cases hk : k = a
      · rw [if_pos hk, if_pos hk]
      · rw [if_neg hk, if_neg hk, ih]

theorem Mem.mem_iff_read {a : Nat} {b : Byte} (hb : b ≠ 0) : ∀ {lo : Nat} {m : Mem}, Mem.wfFrom lo m = true →
    ((a, b) ∈ m ↔ Mem.read m a = b)
  | _, [], _ => by simpa [Mem.read] using Ne.symm hb
  | lo, (k, v) :: m, w => by
    obtain ⟨hlo, hv, hm⟩ := Mem.wfFrom_cons.1 w
    have ih := Mem.mem_iff_read (a := a) hb hm
    by_cases hk : k = a
    · subst hk
      have hn : (k, b) ∉ m := by
        rw [ih, Mem.read_below (Nat.lt_succ_self k) hm]
        exact Ne.symm hb
      simp [Mem.read, hn, eq_comm]
    · simp [Mem.read, hk, Ne.symm hk, ih]

theorem and_bit (x : Byte) (k : Fin 8) :
    x &&& BitVec.ofNat 8 (2 ^ k.val) = if x.getLsbD k.val then BitVec.ofNat 8 (2 ^ k.val) else 0 := by
  have hk : BitVec.ofNat 8 (2 ^ k.val) = BitVec.twoPow 8 k.val := by revert k; decide
  rw [hk, BitVec.and_twoPow]
  rfl

theorem bit_ne_zero (k : Fin 8) : BitVec.ofNat 8 (2 ^ k.val) ≠ 0 := by revert k; decide

/-- WAKE SEEN k copies the bit of each code that has it. -/
theorem mem_seenBits (k : Fin 8) {m : Mem} (hm : m.wf = true) (a : Nat) (b : Byte) :
    (a, b) ∈ seenBits (some k.val) m ↔ b = BitVec.ofNat 8 (2 ^ k.val) ∧ (Mem.read m a).getLsbD k.val = true := by
  have hbit (v : Byte) : v &&& BitVec.ofNat 8 (2 ^ k.val) = b ∧ b ≠ 0 ↔
      b = BitVec.ofNat 8 (2 ^ k.val) ∧ v.getLsbD k.val = true := by
    rw [and_bit]
    split
    next hv => simp only [hv, and_true]; exact ⟨fun h => h.1.symm, fun h => ⟨h.symm, h ▸ bit_ne_zero k⟩⟩
    next hv => simp only [hv]; exact ⟨fun h => absurd h.1.symm h.2, fun h => absurd h.2 (by simp)⟩
  have hmem (v : Byte) (hv : v.getLsbD k.val = true) : (a, v) ∈ m ↔ Mem.read m a = v :=
    Mem.mem_iff_read (by rintro rfl; simp at hv) hm
  simp only [seenBits, List.mem_filter, List.mem_map, Prod.mk.injEq, Prod.exists, decide_eq_true_eq]
  constructor
  · rintro ⟨⟨a', v, hin, rfl, hb⟩, hz⟩
    obtain ⟨hb, hv⟩ := (hbit v).mp ⟨hb, hz⟩
    rw [(hmem v hv).mp hin]
    exact ⟨hb, hv⟩
  · rintro ⟨hb, hv⟩
    obtain ⟨hb, hz⟩ := (hbit _).mpr ⟨hb, hv⟩
    exact ⟨⟨a, _, (hmem _ hv).mpr rfl, rfl, hb⟩, hz⟩

/-- The copied lines of WAKE SEEN k. -/
theorem mem_seenLines (k : Fin 8) {m : Mem} (hm : m.wf = true) (a n : Nat) :
    OutLine.seen a n ∈ (seenBits (some k.val) m).map (fun c => OutLine.seen c.1 c.2.toNat) ++ [.dot] ↔
      n = 2 ^ k.val ∧ (Mem.read m a).getLsbD k.val = true := by
  have hn : (BitVec.ofNat 8 (2 ^ k.val)).toNat = 2 ^ k.val := by revert k; decide
  simp only [List.mem_append, List.mem_map, List.mem_singleton, reduceCtorEq, or_false, OutLine.seen.injEq, Prod.exists]
  constructor
  · rintro ⟨a', b, hin, rfl, rfl⟩
    obtain ⟨rfl, hr⟩ := (mem_seenBits k hm a' b).mp hin
    exact ⟨hn, hr⟩
  · rintro ⟨rfl, hr⟩
    exact ⟨a, _, (mem_seenBits k hm a _).mpr ⟨rfl, hr⟩, rfl, hn⟩

/-- The part as a WAKE SEEN reply finds it: the bits are taken out, the reply notes them. -/
def State.seenTaken (r : Option Nat) (s : State) : State :=
  (((s.onWake (fun w => { w with seen := seenRest r w.seen, foldFlag := w.foldFlag && !(r.isNone && s.wake.foldFlag) })).onLine
    (fun l => { l with sending := some (.seen (seenBits r s.wake.seen) (r.isNone && s.wake.foldFlag)) })).driveWake).rosterCheck

theorem exec_wakeSeen_none {h : Hdr} {s : State} (ht : s.takes h) : exec (.wakeSeen h none) s =
    .next (((s.heard h).seenTaken none).reply h
      ((seenBits none (s.heard h).wake.seen).map (fun c => OutLine.seen c.1 c.2.toNat) ++ [.dot])) :=
  congrArg Host.Outcome.next (State.verb_takes .wake false _ ht)

theorem exec_wakeSeen_some {h : Hdr} {s : State} (k : Fin 8) (ht : s.takes h) : exec (.wakeSeen h (some k.val)) s =
    .next (((s.heard h).seenTaken (some k.val)).reply h
      ((seenBits (some k.val) (s.heard h).wake.seen).map (fun c => OutLine.seen c.1 c.2.toNat) ++ [.dot])) := by
  refine congrArg Host.Outcome.next ((State.verb_takes .wake false _ ht).trans ?_)
  have hk : inRange 0 7 (k.val : Int) = true := inRange_iff.mpr ⟨by omega, by omega⟩
  simp only [hk]
  rfl

theorem State.seenTaken_wake (r : Option Nat) (s : State) : (s.seenTaken r).wake.seen = seenRest r s.wake.seen ∧
    (s.seenTaken r).wake.foldFlag = (s.wake.foldFlag && !(r.isNone && s.wake.foldFlag)) ∧
    (s.seenTaken r).wake.queue = s.wake.queue ∧ (s.seenTaken r).wake.masks = s.wake.masks := by
  simp [State.seenTaken, State.driveWake_wake, State.onWake, State.onLine]

theorem State.keeps_seenTaken (r : Option Nat) (s : State) :
    s.keeps [.line, .wake, .params, .mon, .pm, .roster, .tally] (s.seenTaken r) :=
  State.keeps_step (State.keeps_step (State.keeps_step (State.keeps_mono (State.keeps_onWake _ s) (by decide))
    (State.keeps_onLine ..)) (State.keeps_driveWake ..)) (State.keeps_rosterCheck ..)

/-- The reply's note stays whatever the wires do in the same step. -/
theorem State.seenTaken_sending (r : Option Nat) (s : State) :
    (s.seenTaken r).line.sending = some (.seen (seenBits r s.wake.seen) (r.isNone && s.wake.foldFlag)) := by
  have hst : (s.seenTaken r).line.stood = ((s.onWake (fun w =>
      { w with seen := seenRest r w.seen, foldFlag := w.foldFlag && !(r.isNone && s.wake.foldFlag) })).onLine
      (fun l => { l with sending := some (.seen (seenBits r s.wake.seen) (r.isNone && s.wake.foldFlag)) })).line.stood := by
    simp only [State.seenTaken, State.rosterCheck_stood, State.driveWake_stood]
  exact (Line.sent_of_stood hst).2.1

theorem State.reply_sending {h : Hdr} {out : List OutLine} (s : State) (h0 : h.addr ≠ some 0) (ho : out ≠ []) :
    (s.reply h out).line.sending = some (Sending.ofReply s.line.sending) := by
  simp [State.reply, h0, ho, State.send, State.onLine]

theorem exec_seenReadAbandoned {bits : List Host.Cell} {fold : Bool} {s : State} (hw : s.onWire = some (.seen bits fold)) :
    exec .seenReadAbandoned s = .next ((s.onWake (fun w =>
        { w with seen := Mem.orAll w.seen bits, foldFlag := w.foldFlag || fold })).onLine
      (fun l => { l with sending := none, tx := [], sendEnd := min l.sendEnd s.now })).driveWake := by
  refine congrArg Host.Outcome.next ?_
  rw [hw]
  rfl

/-- Settles O17: what is copied is masked out of the memory (`Mem.read_map_and`, `mem_seenLines`). -/
theorem seenBitsAreRead : Obligations.SeenBitsAreRead := by
  refine ⟨?_, ?_⟩
  · intro h s ht u
    have hout (l : List OutLine) : l ++ [OutLine.dot] ≠ [] := by simp
    refine ⟨⟨_, exec_wakeSeen_none ht, ?_⟩, fun k hm => ⟨_, exec_wakeSeen_some k ht, ?_⟩⟩
    · obtain ⟨hseen, hfold, hqueue, hmasks⟩ := State.seenTaken_wake none u
      refine ⟨State.reply_tx _ ht.2 (hout _), ?_, ?_, ?_, ?_, ?_,
        State.keeps_step (State.keeps_seenTaken none u) (State.keeps_reply ..)⟩
      · simpa [seenRest] using hseen
      · simpa using hfold
      · simpa using hqueue
      · simpa using hmasks
      · rw [State.reply_sending _ ht.2 (hout _), State.seenTaken_sending]
        simp [Sending.ofReply, seenBits, u]
    · obtain ⟨hseen, hfold, hqueue, hmasks⟩ := State.seenTaken_wake (some k.val) u
      refine ⟨fun a => ?_, by simpa using hfold, by simpa using hqueue, by simpa using hmasks, fun a m => ?_,
        State.keeps_step (State.keeps_seenTaken (some k.val) u) (State.keeps_reply ..)⟩
      · rw [(State.reply_frame ..).2.2.2.2.1, hseen]
        exact Mem.read_map_and _ a hm
      · rw [State.reply_tx _ ht.2 (hout _)]
        exact mem_seenLines k hm a m
  · intro bits fold s hw
    refine ⟨_, exec_seenReadAbandoned hw, ?_⟩
    let v := (s.onWake (fun w => { w with seen := Mem.orAll w.seen bits, foldFlag := w.foldFlag || fold })).onLine
      (fun l => { l with sending := none, tx := [], sendEnd := min l.sendEnd s.now })
    obtain ⟨htx, hsend, -⟩ := Line.sent_of_stood v.driveWake_stood
    have hwake := v.driveWake_wake
    refine ⟨by rw [hwake]; rfl, by rw [hwake]; rfl, htx, hsend, by rw [hwake]; rfl, State.keeps_step (State.keeps_step
      (State.keeps_mono (State.keeps_onWake _ s) (by decide)) (State.keeps_onLine ..)) (State.keeps_driveWake ..)⟩

end Sys2Proof.Machine

/-!
Proofs about LOG: what a READ lists, and what an audit record leaves of the store.
-/

namespace Sys2Proof.Machine

/-! ## LOG (R460, R462) -/

/-- Away from the wires, reading words moves only the byte counts. -/
theorem State.keeps_readWords (per n : Nat) (s : State) : s.keeps [.tally] (s.readWords per n) := by
  refine ⟨by simp, by simp, by simp, fun g hg => ?_⟩
  cases g <;> simp [State.same] at hg ⊢

@[simp] theorem State.bytes_ctrs (p : Port) (n : Nat) (s : State) : (s.bytes p n).tally.ctrs = s.tally.ctrs := rfl

@[simp] theorem State.readWords_ctrs (per n : Nat) (s : State) : (s.readWords per n).tally.ctrs = s.tally.ctrs := rfl

/-- Without a filter a READ lists its count of records, and ends behind the last of them (R462). -/
theorem readLog_none (left count : Nat) (last : Option Nat) (l : List LRec) (hc : count ≤ left) (follow : Bool) :
    readLog none left count follow last l =
      (l.take count, match (l.take count).getLast? with | some r => some r.seq | none => last) := by
  induction l generalizing left count last follow with
  | nil => cases left <;> simp [readLog]
  | cons r rs ih =>
    cases count with
    | zero => cases left <;> simp [readLog]
    | succ count =>
      cases left with
      | zero => omega
      | succ left =>
        have hlast : (match (r :: rs.take count).getLast? with | some r => some r.seq | none => last) =
            (match (rs.take count).getLast? with | some r => some r.seq | none => some r.seq) := by
          cases hrs : rs.take count with
          | nil => rfl
          | cons x xs => simp [List.getLast?_eq_some_getLast]
        simp only [readLog, Nat.add_one_ne_zero, if_false, Nat.add_sub_cancel, List.take_succ_cons,
          ih left count (some r.seq) (by omega) false, hlast]

/-- A filtered READ lists, in order, records of the kind asked for, their continuations and lost records (R462, log 76). -/
theorem readLog_some (k : Nat) (left count : Nat) (follow : Bool) (last : Option Nat) (l : List LRec) :
    (readLog (some k) left count follow last l).1.Sublist l ∧
      ∀ r ∈ (readLog (some k) left count follow last l).1, r.body.kind = k ∨ r.body.kind = 2 ∨ r.lost = true := by
  induction l generalizing left count follow last with
  | nil => cases left <;> simp [readLog]
  | cons r rs ih =>
    cases left with
    | zero => simp [readLog]
    | succ left =>
      have hcons (count : Nat) (follow : Bool) (hr : r.body.kind = k ∨ r.body.kind = 2 ∨ r.lost = true) :
          (r :: (readLog (some k) left count follow (some r.seq) rs).1).Sublist (r :: rs) ∧
            ∀ x ∈ r :: (readLog (some k) left count follow (some r.seq) rs).1,
              x.body.kind = k ∨ x.body.kind = 2 ∨ x.lost = true := by
        obtain ⟨hs, hm⟩ := ih left count follow (some r.seq)
        refine ⟨hs.cons_cons r, fun x hx => ?_⟩
        rcases List.mem_cons.mp hx with rfl | hx
        · exact hr
        · exact hm x hx
      unfold readLog
      dsimp only
      split
      next hlost => exact hcons _ _ (Or.inr (Or.inr (Bool.and_eq_true_iff.mp hlost).1))
      next =>
        split
        next hcont => exact hcons _ _ (Or.inr (Or.inl (by simp at hcont; exact hcont.1.2)))
        next =>
          split
          next => simp
          next =>
            split
            next hkind => exact hcons _ _ (Or.inl (by simpa using hkind))
            next =>
              obtain ⟨hs, hm⟩ := ih left count false (some r.seq)
              exact ⟨hs.cons r, hm⟩

/-- The first and the last sequence of a list of records. -/
theorem seqEnds (l : List LRec) :
    let ends : Option (Nat × Nat) := match l.head?, l.getLast? with
      | some a, some b => some (a.seq, b.seq)
      | _, _ => none
    ends.map Prod.fst = l.head?.map LRec.seq ∧ ends.map Prod.snd = l.getLast?.map LRec.seq := by
  cases l with
  | nil => simp
  | cons r rs =>
    rw [List.getLast?_eq_some_getLast (List.cons_ne_nil r rs)]
    exact ⟨rfl, rfl⟩

theorem runLogMark_allowed {h : Hdr} {seq : Int} {s : State} (ha : s.allowed .operator = true)
    (hs : inRange 0 (2 ^ 40 - 1) seq = true) : runLogMark h seq s =
      good ((s.journal s.auditSeq (.mark s.store.mark)).onStore (fun c => { c with mark := seq.toNat })) [.num seq] (some 545)
        (some { action := 4, obj := 545, old := .num s.store.mark, new := .num seq }) := by
  unfold runLogMark
  rw [needs_allowed ha, if_pos hs]

/-- What an audit record leaves of the store: the records programmed and the host's mark. -/
theorem State.audit_kept (o : Origin) (action obj result : Nat) (old new : AVal) (s : State) :
    (s.audit o action obj result old new).store.mark = s.store.mark ∧
    (s.audit o action obj result old new).store.ledger = s.store.ledger ∧
    (s.audit o action obj result old new).store.archive = s.store.archive ∧
    (s.audit o action obj result old new).store.audits = s.store.audits := by
  have hplace (r : CRec) (c : Store) : (c.place r).mark = c.mark ∧ (c.place r).ledger = c.ledger ∧
      (c.place r).archive = c.archive ∧ (c.place r).audits = c.audits := by
    unfold Store.place
    split <;> exact ⟨rfl, rfl, rfl, rfl⟩
  have hone (o : Origin) (action obj result : Nat) (old new : AVal) (s : State) :
      (s.auditOne o action obj result old new).store.mark = s.store.mark ∧
      (s.auditOne o action obj result old new).store.ledger = s.store.ledger ∧
      (s.auditOne o action obj result old new).store.archive = s.store.archive ∧
      (s.auditOne o action obj result old new).store.audits = s.store.audits := hplace _ _
  unfold State.audit
  dsimp only
  split
  · simp only [hone]
    exact ⟨rfl, rfl, rfl, rfl⟩
  · simp only [hone, and_self]

theorem exec_logRead {h : Hdr} {seq : Int} {count kind : Option Int} {s : State} (ht : s.takes h)
    (h1 : inRange 0 (2 ^ 40 - 1) seq = true) (h2 : inRange 1 256 (argOr 16 count) = true)
    (h3 : inRange 0 31 (argOr 0 kind) = true) :
    let u := s.heard h
    let l := u.store.allLedger.filter (fun r => decide (seq.toNat ≤ r.seq))
    let p := readLog (kind.map Int.toNat) 16384 (argOr 16 count).toNat false none l
    let next : Nat := match p.2 with | some k => k + 1 | none => u.store.nextSeq
    let w := u.readWords 32 ((l.take 16384).filter (fun r => decide (r.seq < next) && !u.store.inCache r.seq)).length
    exec (.logRead h seq count kind) s = .next ((w.countN .cc "log.bad" (p.1.filter LRec.lost).length).reply h
      (p.1.map LRec.line ++ [.dotNext next])) := by
  refine congrArg Host.Outcome.next ((State.verb_takes .log false _ ht).trans ?_)
  simp only [h1, h2, h3]
  rfl

theorem exec_logAudit {h : Hdr} {seq : Int} {count : Option Int} {s : State} (ht : s.takes h)
    (h1 : inRange 0 0xFFFFFE seq = true) (h2 : inRange 1 256 (argOr 16 count) = true) :
    let u := s.heard h
    let l := (u.store.allAudits.dropWhile (fun r => decide (r.seq < seq.toNat))).take (argOr 16 count).toNat
    exec (.logAudit h seq count) s = .next (((u.readWords 42 (l.filter (fun r => !u.store.auditCached r.seq)).length).countN
        .cc "log.bad" (l.filter ARec.lost).length).reply h
      (l.map ARec.line ++ [.dotNext (match l.getLast? with | some r => auditNext r.seq | none => u.store.nextAudit)])) := by
  refine congrArg Host.Outcome.next ((State.verb_takes .log false _ ht).trans ?_)
  simp only [h1, h2]
  rfl

/-- Settles O18, from what a READ lists (`readLog_none`, `readLog_some`) and what an audit record leaves of the store. -/
theorem logIsRead : Obligations.LogIsRead := by
  intro h s ht u held
  have hall : u.store.allLedger = u.store.archive ++ held := List.append_assoc ..
  refine ⟨⟨_, _, _, congrArg Host.Outcome.next ((State.verb_takes .log false _ ht).trans (State.finish_good ..)), ?_⟩,
    fun seq count h1 h2 => ?_, fun seq kind count h1 h2 h3 => ?_, fun seq count h1 h2 => ?_, fun seq hw ha h1 => ?_⟩
  · obtain ⟨hf, hl⟩ := seqEnds held
    obtain ⟨haf, hal⟩ := seqEnds u.store.archive
    exact ⟨hf, hl, haf, hal⟩
  · obtain ⟨-, hc⟩ := inRange_iff.mp h2
    intro l
    have hx := exec_logRead (kind := none) ht h1 h2 rfl
    simp only [Option.map_none, readLog_none 16384 (argOr 16 count).toNat none _ (by omega)] at hx
    have hl : List.take (argOr 16 count).toNat (List.filter (fun r => decide (seq.toNat ≤ r.seq)) u.store.allLedger) = l := by
      rw [hall]
    rw [show s.heard h = u from rfl, hl] at hx
    have hnext : (match (match l.getLast? with | some r => some r.seq | none => none) with
        | some k => k + 1 | none => u.store.nextSeq) = (match l.getLast? with | some r => r.seq + 1 | none => u.store.nextSeq) := by
      cases l.getLast? <;> rfl
    rw [hnext] at hx
    exact ⟨_, State.keeps_readWords 32 _ u, State.readWords_ctrs .., hx⟩
  · obtain ⟨h0, -⟩ := inRange_iff.mp h3
    obtain ⟨hsub, hmem⟩ := readLog_some kind.toNat 16384 (argOr 16 count).toNat false none
      (u.store.allLedger.filter (fun r => decide (seq.toNat ≤ r.seq)))
    refine ⟨_, _, _, State.keeps_readWords 32 _ u, exec_logRead ht h1 h2 h3, hall ▸ hsub, fun r hr => ?_⟩
    exact (hmem r hr).imp_left (fun hk => by omega)
  · exact ⟨_, State.keeps_readWords 42 _ u, State.readWords_ctrs .., exec_logAudit ht h1 h2⟩
  · refine ⟨_, congrArg Host.Outcome.next (State.change_takes _ .log false _ ⟨⟨ht.1, hw⟩, ht.2⟩), ?_⟩
    rw [runLogMark_allowed ha h1, State.finish_good_some]
    obtain ⟨hm, hl, har, hau⟩ := State.audit_kept (u.lineOrigin h) 4 545 0 (.num u.store.mark) (.num seq)
      ((u.journal u.auditSeq (.mark u.store.mark)).onStore (fun c => { c with mark := seq.toNat }))
    rw [State.reply_tx _ ht.2 (List.cons_ne_nil _ _), (State.reply_frame ..).2.2.2.2.2.2.2.2.2.2.2.2.2.2.2.1]
    exact ⟨rfl, hm, hl, har, hau, State.keeps_step (State.keeps_step (State.keeps_mono (State.keeps_trans
      (State.keeps_onStore _ u) (State.keeps_onStore ..)) (by decide)) (State.keeps_audit ..)) (State.keeps_reply ..)⟩

end Sys2Proof.Machine

/-!
Proofs about TALLY: reading, snapshot, freeze, clearing and the bandwidth windows.
-/

namespace Sys2Proof.Machine

/-! ## TALLY (R500 to R514) -/

theorem State.reply_tally (h : Hdr) (out : List OutLine) (s : State) : (s.reply h out).tally = s.tally := by simp

theorem openForm_open {s : State} {k : Done} (ho : s.pint Obj.tallyOpen = 1 ∨ s.allowed .operator = true) :
    openForm s k = k := by
  unfold openForm
  rcases ho with ho | ho
  · simp [ho]
  · rw [needs_allowed ho, ite_self]

theorem mem_allPorts (p : Port) : p ∈ allPorts := by
  cases p with
  | airRx n => simp [allPorts]
  | _ => simp [allPorts]

theorem mem_allBlocks (b : Block) : b ∈ allBlocks := by
  cases b <;> decide

/-- A list that gives each port a value gives it that value. -/
theorem portValue_map (f : Port → Nat) (p : Port) {l : List Port} (hp : p ∈ l) :
    portValue p (l.map (fun q => (q, f q))) = f p := by
  induction l with
  | nil => simp at hp
  | cons q qs ih =>
    by_cases hq : q = p
    · simp [portValue, hq]
    · have hin : p ∈ qs := (List.mem_cons.mp hp).resolve_left (fun h => hq h.symm)
      have hnext := ih hin
      simp only [portValue, List.map_cons, List.find?_cons, beq_eq_false_iff_ne.mpr hq] at hnext ⊢
      exact hnext

/-- What a list of counters gives a counter. -/
def ctrValue (b : Block) (k : String) (l : List Ctr) : Nat :=
  match l.find? (fun c => c.block == b && c.name == k) with
  | some c => c.value
  | none => 0

theorem State.counter_eq (b : Block) (k : String) (s : State) : s.counter b k = ctrValue b k s.tally.ctrs := rfl

theorem ctrValue_cons (b : Block) (k : String) (c : Ctr) (l : List Ctr) :
    ctrValue b k (c :: l) = if c.block = b ∧ c.name = k then c.value else ctrValue b k l := by
  by_cases hc : c.block = b ∧ c.name = k
  · rw [if_pos hc, ctrValue, List.find?_cons_of_pos (by simp [hc])]
  · rw [if_neg hc, ctrValue, List.find?_cons_of_neg (by simpa using hc), ctrValue]

theorem ctrValue_cleared (b b' : Block) (k : String) (l : List Ctr) :
    ctrValue b' k (l.filter (fun c => c.block ≠ b)) = if b' = b then 0 else ctrValue b' k l := by
  induction l with
  | nil => simp [ctrValue]
  | cons c cs ih =>
    by_cases hc : c.block = b
    · rw [List.filter_cons_of_neg (by simpa using hc), ih, ctrValue_cons]
      by_cases hb : b' = b
      · rw [if_pos hb, if_pos hb]
      · rw [if_neg hb, if_neg hb, if_neg (fun h => hb (h.1.symm.trans hc))]
    · rw [List.filter_cons_of_pos (by simpa using hc), ctrValue_cons, ctrValue_cons, ih]
      by_cases hb : b' = b
      · rw [if_pos hb, if_pos hb, if_neg (fun h => hc (h.1.trans hb))]
      · rw [if_neg hb, if_neg hb]

/-- A counter that counts n more, short of its end (R501). -/
theorem ctrValue_bump (b : Block) (k : String) (n : Nat) (l : List Ctr) (hn : ctrValue b k l + n < 2 ^ 48) :
    ctrValue b k (bumpCtr b k n l) = ctrValue b k l + n := by
  induction l with
  | nil =>
    have h0 : ctrValue b k [] = 0 := rfl
    rw [h0] at hn ⊢
    rw [bumpCtr, ctrValue_cons, if_pos ⟨rfl, rfl⟩]
    exact Nat.mod_eq_of_lt hn
  | cons c cs ih =>
    unfold bumpCtr
    by_cases hc : c.block = b ∧ c.name = k
    · rw [ctrValue_cons, if_pos hc] at hn ⊢
      rw [if_pos (by simp [hc]), ctrValue_cons, if_pos (show (c.add n).block = b ∧ (c.add n).name = k from hc)]
      exact Nat.mod_eq_of_lt hn
    · rw [ctrValue_cons, if_neg hc] at hn ⊢
      rw [if_neg (by simpa using hc), ctrValue_cons, if_neg hc, ih hn]

theorem State.clearBlock_ctrs (b : Block) (s : State) :
    (s.clearBlock b).tally.ctrs = s.tally.ctrs.filter (fun c => c.block ≠ b) := by
  simp only [State.clearBlock, State.onTally]
  split <;> rfl

theorem State.clearBlock_counter (b b' : Block) (k : String) (s : State) :
    (s.clearBlock b).counter b' k = if b' = b then 0 else s.counter b' k := by
  rw [State.counter_eq, State.clearBlock_ctrs, ctrValue_cleared, State.counter_eq]

theorem State.clearBlocks_counter (l : List Block) (b' : Block) (k : String) (s : State) :
    (s.each l State.clearBlock).counter b' k = if b' ∈ l then 0 else s.counter b' k := by
  induction l generalizing s with
  | nil => rfl
  | cons b bs ih =>
    change ((s.clearBlock b).each bs State.clearBlock).counter b' k = _
    rw [ih, State.clearBlock_counter]
    by_cases hb : b' = b
    · simp [hb]
    · simp [hb]

theorem State.keeps_clearBlocks (l : List Block) (s : State) : s.keeps [.tally] (s.each l State.clearBlock) :=
  State.keeps_each (fun _ _ => State.keeps_onTally ..) _ s

theorem State.counter_of_tally {s t : State} (ht : t.tally = s.tally) (b : Block) (k : String) : t.counter b k = s.counter b k := by
  unfold State.counter
  rw [ht]

theorem State.thaw_frozen {s : State} {f : Ticks} {at_ : Stamp} (hf : s.tally.frozen = some (f, at_)) :
    s.thaw = (s.onTally (fun k => { k with frozen := none })).countN .tally "tally.frozen" ((s.now - f) / cclkTicks) := by
  simp [State.thaw, hf]

@[simp] theorem State.thaw_isFrozen (s : State) : s.thaw.tally.frozen = none := by
  unfold State.thaw
  split
  next hf => exact hf
  next => rfl

theorem State.thaw_counter {s : State} {f : Ticks} {at_ : Stamp} (hf : s.tally.frozen = some (f, at_))
    (hn : s.counter .tally "tally.frozen" + (s.now - f) / cclkTicks < 2 ^ 48) :
    s.thaw.counter .tally "tally.frozen" = s.counter .tally "tally.frozen" + (s.now - f) / cclkTicks := by
  have hctrs : s.thaw.tally.ctrs = if (s.now - f) / cclkTicks = 0 then s.tally.ctrs
      else bumpCtr .tally "tally.frozen" ((s.now - f) / cclkTicks) s.tally.ctrs := by
    rw [State.thaw_frozen hf]
    rfl
  rw [State.counter_eq, hctrs]
  split
  next h0 => rw [h0]; rfl
  next => exact ctrValue_bump _ _ _ _ hn

theorem State.keeps_thaw (s : State) : s.keeps [.tally] s.thaw := by
  unfold State.thaw
  split
  · exact State.keeps_refl ..
  · exact State.keeps_step (State.keeps_onTally ..) (State.keeps_countN ..)

theorem exec_tally {h : Hdr} {s : State} (run : State → Done) (ht : s.takes h) (ha : (s.heard h).allowed .operator = true) :
    s.tallyDo h run = .next (State.finish ((s.heard h).lineOrigin h) h .tally (run (s.heard h))) := by
  refine congrArg Host.Outcome.next ((State.verb_takes .tally false _ ht).trans ?_)
  rw [needs_allowed ha]

theorem exec_tallyOpen {h : Hdr} {s : State} (k : State → Done) (ht : s.takes h)
    (ho : (s.heard h).pint Obj.tallyOpen = 1 ∨ (s.heard h).allowed .operator = true) :
    s.verb h .tally false false (fun s => openForm s (k s)) =
      State.finish ((s.heard h).lineOrigin h) h .tally (k (s.heard h)) := by
  rw [State.verb_takes .tally false _ ht, openForm_open ho]

theorem exec_tallyOcc {h : Hdr} {s : State} (ht : s.takes h)
    (ho : (s.heard h).pint Obj.tallyOpen = 1 ∨ (s.heard h).allowed .operator = true) : exec (.tallyOcc h) s =
    .next ((s.heard h).reply h ((s.heard h).occupancies.zipIdx.map
      (fun (n, k) => OutLine.occ (k + 1) n (max n ((s.heard h).tally.peaks.toList.getD k 0))) ++ [.dot])) := by
  change Host.Outcome.next (s.verb h .tally false false (fun s => openForm s _)) = _
  rw [exec_tallyOpen _ ht ho, State.finish_good]

theorem exec_tallyBw {h : Hdr} {s : State} (port : Option Port) (ht : s.takes h)
    (ho : (s.heard h).pint Obj.tallyOpen = 1 ∨ (s.heard h).allowed .operator = true) : exec (.tallyBw h port) s =
    .next ((s.heard h).reply h ((match port with | some p => [p] | none => allPorts).map
      (fun p => (s.heard h).bwLine p) ++ [.dot])) := by
  exact congrArg Host.Outcome.next ((exec_tallyOpen _ ht ho).trans (State.finish_good ..))

theorem exec_tallyClear {h : Hdr} {b : Option Block} {s : State} (ht : s.takes h) (hw : (s.heard h).noWait)
    (ha : (s.heard h).allowed .operator = true) : exec (.tallyClear h b) s = .next (s.did h 544 [.word "CLEAR"]
      ((s.acting h).each (match b with | some b => [b] | none => allBlocks) State.clearBlock)) := by
  refine congrArg Host.Outcome.next ((State.change_takes _ .tally false _ ⟨⟨ht.1, hw⟩, ht.2⟩).trans ?_)
  change State.finish _ h .tally (needs .operator (s.acting h) (some 544) _ _) = _
  rw [needs_allowed (by simpa using ha), State.finish_good_some]
  rfl

theorem exec_tallyFreezeExpiry {s : State} {f : Ticks} {at_ : Stamp} (hf : s.tally.frozen = some (f, at_))
    (hle : f + secs 60 ≤ s.now) : exec .tallyFreezeExpiry s = .next s.thaw := by
  change execTallyFreezeExpiry s = _
  unfold execTallyFreezeExpiry
  rw [hf]
  exact congrArg Host.Outcome.next (if_pos hle)

theorem exec_bandwidthWindowEnd {s : State} (hc : s.cellarOn = true)
    (hw : s.tally.bwFrom + ms (s.pnat Obj.bwWindow) ≤ s.now) : exec .bandwidthWindowEnd s = .next s.windowEnd := by
  refine congrArg Host.Outcome.next ?_
  simp [hc, hw]

/-- Settles O19, command by command. -/
theorem tally : Obligations.Tally := by
  refine ⟨?_, ?_, ?_, ?_⟩
  · intro h s ht u ho
    refine ⟨fun p hp => ?_, fun p x hp hx => ?_, ⟨_, exec_tallyOcc ht ho, ?_⟩,
      fun p => exec_tallyBw (some p) ht ho, exec_tallyBw none ht ho⟩
    · refine congrArg Host.Outcome.next ((State.verb_takes .tally false _ ht).trans ?_)
      rw [if_pos hp, openForm_open ho, State.finish_good]
    · refine congrArg Host.Outcome.next ((State.verb_takes .tally false _ ht).trans ?_)
      rw [if_pos hp, openForm_open ho]
      simp only [show (s.heard h).tally.snap = some x from hx]
      rfl
    · rw [List.mapIdx_eq_zipIdx_map]
      rfl
  · intro h s ht u ha
    refine ⟨⟨_, exec_tally _ ht ha, ?_⟩, fun hf => ⟨_, exec_tally _ ht ha, ?_⟩, fun f at_ hf => ⟨?_, _, exec_tally _ ht ha, ?_⟩,
      fun b hw => ⟨_, exec_tallyClear ht hw ha, ?_⟩⟩
    · rw [State.finish_good]
      exact ⟨State.reply_tx _ ht.2 (List.cons_ne_nil _ _), State.reply_tally ..,
        State.keeps_step (State.keeps_mono (State.keeps_onTally _ u) (by decide)) (State.keeps_reply ..)⟩
    · simp only [show (s.heard h).tally.frozen = none from hf, State.finish_good]
      exact ⟨State.reply_tx _ ht.2 (List.cons_ne_nil _ _), State.reply_tally .., State.keeps_step (State.keeps_mono
        (State.keeps_onTally _ u) (by decide)) (State.keeps_reply ..)⟩
    · refine (exec_tally _ ht ha).trans ?_
      simp only [show (s.heard h).tally.frozen = some (f, at_) from hf, State.finish_good]
      rfl
    · rw [State.finish_good]
      refine ⟨State.reply_tx _ ht.2 (List.cons_ne_nil _ _), ?_, fun hn => ?_,
        State.keeps_step (State.keeps_mono (State.keeps_thaw u) (by decide)) (State.keeps_reply ..)⟩
      · rw [State.reply_tally, State.thaw_isFrozen]
      · rw [State.counter_of_tally (State.reply_tally ..)]
        exact State.thaw_counter hf hn
    · let l := match b with | some b => [b] | none => allBlocks
      have htally : (s.did h 544 [.word "CLEAR"] ((s.acting h).each l State.clearBlock)).tally =
          ((s.acting h).each l State.clearBlock).tally := by simp [State.did]
      have hcount (b' : Block) (k : String) : (s.did h 544 [.word "CLEAR"] ((s.acting h).each l State.clearBlock)).counter b' k =
          if b' ∈ l then 0 else u.counter b' k := by
        rw [State.counter_of_tally htally, State.clearBlocks_counter]
        rfl
      refine ⟨State.did_tx 544 s _ ht.2 (List.cons_ne_nil _ _), fun b' k hb => ?_, fun b' k hb hb' => ?_, ?_⟩
      · rw [hcount, if_pos]
        rcases hb with rfl | rfl
        · exact mem_allBlocks b'
        · exact List.mem_singleton.mpr rfl
      · rw [hcount, if_neg]
        cases b with
        | none => exact absurd rfl hb
        | some b => exact fun hin => hb' (congrArg some (List.mem_singleton.mp hin).symm)
      · exact State.keeps_trans (State.keeps_draw _ u) (State.keeps_step (State.keeps_mono (State.keeps_clearBlocks l _)
          (by decide)) (State.keeps_did ..))
  · intro s f at_ hf hle
    exact ⟨s.thaw, exec_tallyFreezeExpiry hf hle, s.thaw_isFrozen, State.keeps_thaw s⟩
  · intro s hc hw
    refine ⟨_, exec_bandwidthWindowEnd hc hw, rfl, rfl, by simp [State.windowEnd, State.onTally], fun p => ?_, State.keeps_onTally ..⟩
    have hlast : portValue p s.windowEnd.tally.bwLast = portValue p s.tally.bwBytes * 1000 / s.pnat Obj.bwWindow :=
      portValue_map (fun q => portValue q s.tally.bwBytes * 1000 / s.pnat Obj.bwWindow) p (mem_allPorts p)
    refine ⟨hlast, ?_⟩
    rw [hlast]
    have hpeak : s.windowEnd.tally.bwPeak = allPorts.map (fun q => (q, max (portValue q s.tally.bwBytes * 1000 /
        s.pnat Obj.bwWindow) (portValue q s.tally.bwPeak))) := by
      simp [State.windowEnd, State.onTally, Function.comp_def]
    rw [hpeak]
    exact portValue_map (fun q => max (portValue q s.tally.bwBytes * 1000 / s.pnat Obj.bwWindow)
      (portValue q s.tally.bwPeak)) p (mem_allPorts p)

end Sys2Proof.Machine

/-!
Proofs about entering, listing and cancelling flights.
-/

namespace Sys2Proof.Machine

/-! ## Entering, listing and cancelling flights (R320 to R327) -/

/-- What SEND checks before it looks for the endpoint (R322). -/
structure SendArgsOk (hd : HandleArg) (k : FlightKind) (p len r call : Int) (data : List Byte) : Prop where
  fits : hd.fits = true
  kind : k ≠ .push
  prio : inRange 0 7 p = true
  length : inRange 10 1000000 len = true
  reason : inRange 0 7 r = true
  called : inRange 0 1 call = true
  payload : data.length ≤ 32
  indexed : ¬(call = 1 ∧ hd.index = 0)

/-- A SEND whose arguments and endpoint are right asks for room (R322). -/
theorem exec_send {h : Hdr} {hd : HandleArg} {k : FlightKind} {p dl r call : Option Int} {data : List Byte} {s : State}
    (ht : s.takes h) (ha : (s.heard h).allowed .operator = true)
    (hok : SendArgsOk hd k (argOr 3 p) (argOr (((s.heard h).fire .send).pint Obj.flightDeadline) dl) (argOr 0 r) (argOr 0 call) data)
    (hf : ((s.heard h).fire .send).sendFault hd.get (argOr 3 p).toNat = none) :
    let u := (s.heard h).fire .send
    let x := u.newFlight (Flight.make hd.get k (argOr 3 p).toNat (argOr 0 call == 1)
      (u.slotNow + (argOr (u.pint Obj.flightDeadline) dl).toNat) (argOr 0 r).toNat data none none)
    exec (.send h hd k p dl r call data) s = .next (match x with
      | (.busy, t) => t.refuse h .send .busy 0 none
      | (e, t) => t.reply h (enteredLine e)) := by
  obtain ⟨hfits, hkind, hprio, hlen, hreason, hcalled, hdata, hindex⟩ := hok
  have hguard : (!inRange 0 7 (argOr 3 p) || !inRange 10 1000000 (argOr (((s.heard h).fire .send).pint Obj.flightDeadline) dl)
      || !inRange 0 7 (argOr 0 r) || !inRange 0 1 (argOr 0 call) || decide (32 < data.length)
      || (argOr 0 call == 1 && hd.index == 0)) = false := by
    simp only [hprio, hlen, hreason, hcalled, Bool.not_true, Bool.false_or, Bool.or_eq_false_iff, decide_eq_false_iff_not]
    exact ⟨Nat.not_lt.mpr hdata, by simpa using hindex⟩
  refine congrArg Host.Outcome.next ((State.verb_takes .send false _ ht).trans ?_)
  rw [needs_allowed ha]
  simp only [hfits, beq_eq_false_iff_ne.mpr hkind, hguard, hf]
  generalize State.newFlight _ _ = x
  obtain ⟨e, t⟩ := x
  cases e with
  | busy => exact State.finish_bad _ _ _ _ _ _ _ ht.2
  | _ => exact State.finish_good ..

/-- The flight as the part numbers it (R320, R322). -/
def State.numbered (f : Flight) (s : State) : Flight := { f with id := s.work.nextFlight, nextTry := s.now }

def State.nextId (s : State) : Nat := if s.work.nextFlight = 65535 then 1 else s.work.nextFlight + 1

theorem State.newFlight_table {f : Flight} {s : State} (ht : s.work.table.length < 32)
    (hr : s.unreachable f.handle.index = false) : s.newFlight f = (.table s.work.nextFlight,
      s.onWork (fun w => { w with nextFlight := s.nextId, table := w.table ++ [s.numbered f] })) := by
  have hr' (g : Work → Work) : (s.onWork g).unreachable f.handle.index = false := hr
  simp only [State.newFlight, ht, if_true, hr', Bool.and_false]
  rfl

theorem State.newFlight_waiting {f : Flight} {s : State} (ht : 32 ≤ s.work.table.length)
    (hw : s.work.waiting.length < 256) : s.newFlight f = (.waiting s.work.nextFlight (s.work.waiting.length + 1),
      s.onWork (fun w => { w with nextFlight := s.nextId, waiting := w.waiting ++ [{ s.numbered f with st := .waiting }] })) := by
  simp only [State.newFlight, Nat.not_lt.mpr ht, if_false, hw, if_true]
  simp [State.onWork, State.nextId, State.numbered]

theorem State.newFlight_busy {f : Flight} {s : State} (ht : 32 ≤ s.work.table.length)
    (hw : 256 ≤ s.work.waiting.length) : s.newFlight f = (.busy, s.count .cc "flight.busy") := by
  simp only [State.newFlight, Nat.not_lt.mpr ht, if_false, Nat.not_lt.mpr hw]

theorem State.reply_work (h : Hdr) (out : List OutLine) (s : State) : (s.reply h out).work = s.work := by simp

/-- Settles O20: the table has room, else the waiting list has, else the line fails. -/
theorem sendEntersFlight : Obligations.SendEntersFlight := by
  intro h hd k p dl r call data s ht u len g f ha hfits hkind hprio hlen hreason hcalled hdata hindex hfault
  have hex := exec_send (hd := hd) (k := k) (p := p) (dl := dl) (r := r) (call := call) (data := data) ht ha
    ⟨hfits, hkind, hprio, hlen, hreason, hcalled, hdata, hindex⟩ hfault
  have hwork (w : Work → Work) (out : List OutLine) : u.keeps [.line, .work] ((u.onWork w).reply h out) :=
    State.keeps_step (State.keeps_mono (State.keeps_onWork w u) (by decide)) (State.keeps_reply ..)
  refine ⟨fun htab hreach => ⟨_, hex, ?_⟩, fun htab hwait => ⟨_, hex, ?_⟩, fun htab hwait => ⟨_, hex, ?_⟩⟩
  · rw [State.newFlight_table (f := g) htab hreach]
    exact ⟨State.reply_tx _ ht.2 (List.cons_ne_nil _ _), by rw [State.reply_work]; rfl, by rw [State.reply_work]; rfl,
      by rw [State.reply_work]; rfl, hwork _ _⟩
  · rw [State.newFlight_waiting (f := g) htab hwait]
    exact ⟨State.reply_tx _ ht.2 (List.cons_ne_nil _ _), by rw [State.reply_work]; rfl, by rw [State.reply_work]; rfl,
      hwork _ _⟩
  · rw [State.newFlight_busy (f := g) htab hwait]
    exact ⟨State.refuse_tx _ _ _ _ _ ht.2, State.keeps_step (State.keeps_mono (State.keeps_count ..) (by decide))
      (State.keeps_refuse _ _ _ _ _ ht.2)⟩

theorem find?_replaceFirst {α : Type} {p : α → Bool} {f : α → α} (hf : ∀ x, p (f x) = p x) (l : List α) :
    (replaceFirst p f l).find? p = (l.find? p).map f := by
  induction l with
  | nil => rfl
  | cons x xs ih =>
    unfold replaceFirst
    by_cases hx : p x = true
    · rw [if_pos hx, List.find?_cons_of_pos (by rw [hf]; exact hx), List.find?_cons_of_pos hx]
      rfl
    · rw [if_neg hx, List.find?_cons_of_neg hx, List.find?_cons_of_neg hx, ih]

/-- A flight that is changed in place. -/
theorem State.flight_onFlight (id : Nat) {g : Flight → Flight} (hg : ∀ f, (g f).id = f.id) (s : State) :
    (s.onFlight id g).flight id = (s.flight id).map g := by
  have hfind (l : List Flight) := find?_replaceFirst (p := fun f => f.id == id) (f := g) (fun f => by rw [hg]) l
  unfold State.flight State.onFlight
  simp only [State.onWork, hfind]
  cases s.work.table.find? (fun f => f.id == id) <;> rfl

theorem State.allowed_observer (s : State) : s.allowed .observer = true := by
  simp [State.allowed, levelNum]

/-- What an action's record and reply leave as the action made it. -/
@[simp] theorem State.did_frame (h : Hdr) (obj : Nat) (out : List OutLine) (s w : State) :
    (s.did h obj out w).now = w.now ∧ (s.did h obj out w).wake = w.wake ∧ (s.did h obj out w).jomen = w.jomen ∧
      (s.did h obj out w).radio = w.radio ∧ (s.did h obj out w).time = w.time ∧ (s.did h obj out w).sched = w.sched ∧
      (s.did h obj out w).net = w.net ∧ (s.did h obj out w).work = w.work ∧ (s.did h obj out w).roster = w.roster ∧
      (s.did h obj out w).mon = w.mon ∧ (s.did h obj out w).pm = w.pm ∧ (s.did h obj out w).image = w.image ∧
      (s.did h obj out w).faults = w.faults ∧ (s.did h obj out w).tally = w.tally := by
  simp [State.did]

theorem State.did_work (h : Hdr) (obj : Nat) (out : List OutLine) (s w : State) : (s.did h obj out w).work = w.work := by simp

theorem State.flight_of_work {s t : State} (ht : t.work = s.work) (id : Nat) : t.flight id = s.flight id := by
  unfold State.flight
  rw [ht]

def Flight.cancelled (f : Flight) : Flight := { f with cancel := true }

theorem exec_doFlightList {h : Hdr} {s : State} (hj : s.judges h) : exec (.doFlightList h) s =
    .next ((s.heard h).reply h (((s.heard h).work.table ++ admissionOrder (s.heard h).work.waiting).map flightLine ++ [.dot])) := by
  refine congrArg Host.Outcome.next ((State.report_judged 526 .observer _ hj).trans ?_)
  rw [needs_allowed (State.allowed_observer _), State.finish_good]

theorem exec_doFlightCancel {h : Hdr} {id : Nat} {f : Flight} {s : State} (hj : s.judges h) (hw : (s.heard h).noWait)
    (ha : (s.heard h).allowed .operator = true) (h1 : 1 ≤ id) (hmax : id ≤ 65535) (hf : (s.heard h).flight id = some f) :
    exec (.doFlightCancel h id) s = .next (s.did h 527 [.flightId id] ((s.acting h).cancelFlight f)) := by
  refine congrArg Host.Outcome.next ((State.change_judged _ .do_ true _ ⟨hj, hw⟩ (fun _ => rfl)).trans ?_)
  have hin : inRange 1 65535 (id : Int) = true := inRange_iff.mpr ⟨by omega, by omega⟩
  unfold runDoFlightCancel
  rw [actionRun_heard, needs_allowed (by simpa using ha)]
  simp only [hin, if_true, Int.toNat_natCast, show (s.acting h).flight id = some f from hf, State.flight_id hf]
  rfl

theorem State.cancelFlight_idle {f : Flight} {s : State} (hf : f.st = .ready ∨ f.st = .waiting ∨ f.st = .backoff) :
    s.cancelFlight f = s.endFlight f.id .cancel := by
  rcases hf with hf | hf | hf <;> simp [State.cancelFlight, State.midAttempt, hf]

theorem State.cancelFlight_air {f : Flight} {s : State} (hf : f.st = .air) :
    s.cancelFlight f = s.onFlight f.id Flight.cancelled := by
  simp only [State.cancelFlight, State.midAttempt, hf]
  rfl

/-- Settles O21: `cancelFlight` ends a flight of which no attempt is in progress, and marks the others. -/
theorem flightListAndCancel : Obligations.FlightListAndCancel := by
  intro h s hj u
  refine ⟨exec_doFlightList hj, fun id f hw ha h1 hmax hf => ?_⟩
  obtain rfl := State.flight_id hf
  have hex := exec_doFlightCancel hj hw ha h1 hmax hf
  refine ⟨fun hst => ?_, fun hst => ⟨_, hex, ?_⟩⟩
  · rw [hex, State.cancelFlight_idle hst]
  · rw [State.cancelFlight_air hst]
    refine ⟨fun h0 => State.did_tx 527 s _ h0 (List.cons_ne_nil _ _), ?_, State.keeps_trans (State.keeps_draw _ u)
      (State.keeps_step (State.keeps_mono (State.keeps_onWork _ (s.acting h)) (by decide)) (State.keeps_did ..))⟩
    rw [State.flight_of_work (State.did_work ..), State.flight_onFlight f.id (g := Flight.cancelled) (fun _ => rfl),
      show (s.acting h).flight f.id = some f from hf]
    rfl

end Sys2Proof.Machine

/-!
Proofs about the attempts of flights: how they begin, fail and back off.
-/

namespace Sys2Proof.Machine

/-! ## Parameters and triggers -/

theorem PRow.settle_settle (r : PRow) : r.settle.settle = r.settle := by
  cases hp : r.pending with
  | none => simp [PRow.settle, hp]
  | some v => simp [PRow.settle, hp]

/-- A trigger that comes twice brings nothing more into force (R517). -/
@[simp] theorem State.fire_fire (tr : Trigger) (s : State) : (s.fire tr).fire tr = s.fire tr := by
  unfold State.fire
  simp only [List.map_map, Function.comp_def]
  congr 1
  refine List.map_congr_left fun r _ => ?_
  by_cases hr : Option.map Card.eff (cardOf r.obj) = some tr
  · rw [if_pos hr, PRow.settle_obj, if_pos hr, PRow.settle_settle]
  · rw [if_neg hr, if_neg hr]

theorem State.pval_congr {s t : State} (hp : t.params = s.params) (hq : t.part = s.part) (obj : Nat) : t.pval obj = s.pval obj := by
  unfold State.pval State.prow State.pdefault
  rw [hp, hq]

theorem State.pnat_congr {s t : State} (hp : t.params = s.params) (hq : t.part = s.part) (obj : Nat) : t.pnat obj = s.pnat obj := by
  unfold State.pnat State.pint
  rw [State.pval_congr hp hq]

theorem State.pnat_fire_congr {s t : State} (tr : Trigger) (hp : t.params = s.params) (hq : t.part = s.part) (obj : Nat) :
    (t.fire tr).pnat obj = (s.fire tr).pnat obj := by
  refine State.pnat_congr (s := s.fire tr) (t := t.fire tr) ?_ hq obj
  unfold State.fire
  rw [hp]

theorem State.keeps_fire (tr : Trigger) (s : State) : s.keeps [.params] (s.fire tr) := by
  refine ⟨rfl, rfl, rfl, fun g hg => ?_⟩
  cases g with
  | params => simp at hg
  | _ => rfl

/-! ## Entries of the roster -/

theorem State.entry_onEntry (i j : Nat) (g : Entry → Entry) (s : State) :
    (s.onEntry i g).entry j = if i = j then (s.entry i).map g else s.entry j := by
  unfold State.onEntry
  split
  next e he =>
    rw [he]
    unfold State.entry
    exact assoc_assocSet i j (g e) s.roster.entries
  next hn =>
    by_cases hij : i = j
    · subst hij
      rw [if_pos rfl, hn]
      rfl
    · rw [if_neg hij]

theorem State.keeps_onEntry (i : Nat) (g : Entry → Entry) (s : State) : s.keeps [.roster] (s.onEntry i g) := by
  unfold State.onEntry
  split
  · exact State.keeps_onRoster ..
  · exact State.keeps_refl ..

/-! ## Lanes that are bound (R299, R224) -/

theorem State.countN_rx (b : Block) (name : String) (n : Nat) (s : State) : (s.countN b name n).rx = s.rx := by simp

theorem State.onLane_holder_self (n : Fin 16) (f : Lane → Lane) (s : State) :
    (s.onLane n f).rx.lanes[n].holder = (f s.rx.lanes[n]).holder := by
  simp [State.onLane]

theorem State.countInvalid_holder (n m : Fin 16) (t0 t1 : Ticks) (s : State) :
    (s.countInvalid n t0 t1).rx.lanes[m].holder = s.rx.lanes[m].holder := by
  unfold State.countInvalid
  dsimp only
  split
  · simp only [State.countN_rx]
    refine State.onLane_holder ?_ n m s
    exact fun _ => rfl
  · rfl

theorem State.spoilSpan_holder (n m : Fin 16) (a b : Bool) (t0 t1 : Ticks) (s : State) :
    (s.spoilSpan n a b t0 t1).rx.lanes[m].holder = s.rx.lanes[m].holder := by
  unfold State.spoilSpan
  dsimp only
  split
  · rfl
  · refine Eq.trans (State.onLane_holder ?_ n m _) ?_
    · exact fun _ => rfl
    · exact State.countInvalid_holder ..

/-- A lane that is bound has its new holder, at once or with its retune still owed. -/
theorem State.bind_holder (n : Fin 16) (hd : Holder) (ch rate program : Nat) (s : State) :
    (s.bind n hd ch rate program).rx.lanes[n].holder = hd := by
  unfold State.bind
  dsimp only
  generalize (if s.rx.lanes[n].bound = true then s else _) = u
  split
  · exact State.onLane_holder_self ..
  · split
    · exact State.onLane_holder_self ..
    · exact (State.spoilSpan_holder ..).trans (State.onLane_holder_self ..)

theorem State.listenOn_holder (n : Fin 16) (hd : Holder) (ch program : Nat) (s : State) :
    (s.listenOn n hd ch program).rx.lanes[n].holder = hd := by
  unfold State.listenOn
  dsimp only
  rw [State.moveRadio_holder, State.bind_holder]

/-! ## Attempts (R323 to R325) -/

theorem exec_flightAttempt {id : Nat} {cell : Option Nat} {f : Flight} {s : State}
    (hf : s.work.table.find? (fun f => f.id == id) = some f) (hb : s.txBarred = false) (hr : s.roundRuns = false)
    (hfr : f.frameAt = none) : exec (.flightAttempt id cell) s =
      .next (match cell with | some i => s.cellAttempt f i | none => s.calledAttempt f) := by
  refine congrArg Host.Outcome.next ?_
  simp only [hf, hb, hr, hfr]
  cases cell <;> rfl

theorem table_flight {id : Nat} {f : Flight} {s : State} (hf : s.work.table.find? (fun f => f.id == id) = some f) :
    s.flight id = some f := by
  unfold State.flight
  rw [hf]

/-- A flight on its way in a called attempt. -/
def Flight.onAir (n : Fin 16) (f : Flight) : Flight :=
  { f with st := .air, lane := some n, frameAt := none, awaiting := false, waits := false }

/-- A called attempt that has a lane and a code asks for its burst (R299, R324). -/
theorem State.calledAttempt_lane {f : Flight} {n : Fin 16} {c : Nat} {s : State} (hc : f.called = true)
    (hr : f.st = .ready ∨ (f.st = .backoff ∧ f.nextTry ≤ s.now))
    (hcode : ((s.entry f.handle.index).map (codeOf f.handle.index)) = some c) (h0 : c ≠ 0)
    (hn : s.listenLane ((s.makeBurst c 6 (s.pnat Obj.sync) (s.pnat Obj.txRepeat) (.called f.id)).length + ms 100) s.startChannel
      = some n) :
    s.calledAttempt f = (((s.onFlight f.id (Flight.onAir n)).listenOn n (.called f.id) s.startChannel 3).scheduleBurst c 6
      (.called f.id)) := by
  have hready : (f.st == .ready || (f.st == .backoff && decide (f.nextTry ≤ s.now))) = true := by
    rcases hr with hr | ⟨hr, ht⟩ <;> simp [*]
  unfold State.calledAttempt
  simp only [hc, hready, hcode, Option.getD_some, hn, h0]
  rfl

/-- A flight that backs off by the draw k (R325). -/
def Flight.backOff (att k : Nat) (now : Ticks) (f : Flight) : Flight :=
  { f with st := .backoff, attempts := att, lane := none, awaiting := false, skips := if f.called then 0 else k,
           nextTry := if f.called then now + secs k else now }

/-- The state after a failed attempt, before its consequences (R325): the flight backs off by a draw. -/
def State.backedOff (f : Flight) (silence : Bool) (s : State) : State :=
  let att := min 255 (f.attempts + 1)
  let k := (s.drawTo (2 ^ min att 4 - 1)).1
  let t := (s.drawTo (2 ^ min att 4 - 1)).2.onFlight f.id (Flight.backOff att k s.now)
  if silence then t.onEntry f.handle.index (fun e => { e with fails := min 255 (e.fails + 1) }) else t

theorem State.keeps_backedOff (f : Flight) (silence : Bool) (s : State) : s.keeps [.work, .roster] (s.backedOff f silence) := by
  have hk (g : Flight → Flight) (b : Nat) : s.keeps [.work, .roster] ((s.drawTo b).2.onFlight f.id g) :=
    State.keeps_step (State.keeps_draw _ s) (State.keeps_onWork ..)
  unfold State.backedOff
  dsimp only
  split
  · exact State.keeps_step (hk _ _) (State.keeps_onEntry ..)
  · exact hk _ _

theorem State.backedOff_entry (f : Flight) (silence : Bool) (s : State) :
    (s.backedOff f silence).entry f.handle.index = (s.entry f.handle.index).map
      (fun e => if silence then { e with fails := min 255 (e.fails + 1) } else e) := by
  cases silence with
  | true => exact (State.entry_onEntry ..).trans (if_pos rfl)
  | false =>
    change s.entry f.handle.index = _
    simp

theorem State.backedOff_unreachable (f : Flight) (silence : Bool) (s : State) :
    (s.backedOff f silence).unreachable f.handle.index = s.unreachable f.handle.index := by
  unfold State.unreachable
  rw [State.backedOff_entry, Option.map_map]
  cases silence <;> rfl

theorem State.backedOff_work (f : Flight) (silence : Bool) (s : State) :
    (s.backedOff f silence).work = (s.backedOff f false).work := by
  cases silence with
  | true => simp [State.backedOff]
  | false => rfl

/-- The flight that backs off (R325). -/
theorem State.backedOff_flight {f : Flight} (silence : Bool) {s : State} (hf : s.flight f.id = some f) :
    ∃ g k, (s.backedOff f silence).flight f.id = some g ∧ g.st = .backoff ∧ g.attempts = min 255 (f.attempts + 1) ∧
      k < 2 ^ min (min 255 (f.attempts + 1)) 4 ∧ (f.called = true → g.nextTry = s.now + secs k) ∧
      (f.called = false → g.skips = k) ∧ g.cancel = f.cancel ∧ g.late = f.late ∧ g.handle = f.handle := by
  rw [State.flight_of_work (State.backedOff_work f silence s)]
  let att := min 255 (f.attempts + 1)
  let k := (s.drawTo (2 ^ min att 4 - 1)).1
  have hfl : (s.backedOff f false).flight f.id = some (f.backOff att k s.now) :=
    (State.flight_onFlight f.id (g := Flight.backOff att k s.now) (fun _ => rfl) _).trans
      (congrArg (Option.map (Flight.backOff att k s.now)) hf)
  refine ⟨f.backOff att k s.now, k, hfl, rfl, rfl, ?_, ?_, ?_, rfl, rfl, rfl⟩
  · have hpos : 0 < 2 ^ min (min 255 (f.attempts + 1)) 4 := Nat.pow_pos (by decide)
    have hlt := Nat.mod_lt (Config.freeDraw s.fresh) (y := 2 ^ min (min 255 (f.attempts + 1)) 4 - 1 + 1) (by omega)
    simp only [k, att, State.drawTo]
    omega
  · intro hc
    simp [Flight.backOff, hc]
  · intro hc
    simp [Flight.backOff, hc]

/-- A failed attempt of a flight that may go on (R325). -/
theorem State.failAttempt_backoff {id : Nat} {silence : Bool} {f : Flight} {s : State} (hf : s.flight id = some f)
    (hl : f.lane = none) (hc : f.cancel = false) (hlate : f.late = false) (hu : s.unreachable f.handle.index = false)
    (hn : min 255 (f.attempts + 1) < (s.fire .failedAttempt).pnat Obj.flightTries)
    (hfail : silence = true → ((s.entry f.handle.index).map Entry.fails).getD 0 + 1 < (s.fire .failedAttempt).pnat Obj.failLimit) :
    s.failAttempt id silence = (s.backedOff f silence).fire .failedAttempt := by
  obtain rfl := State.flight_id hf
  have hpar (obj : Nat) : ((s.backedOff f silence).fire .failedAttempt).pnat obj = (s.fire .failedAttempt).pnat obj := by
    have hk := s.keeps_backedOff f silence
    exact State.pnat_fire_congr _ (hk.2.2.2 .params (by decide)) hk.2.2.1 obj
  have hstep : s.failAttempt f.id silence = ((if silence && !(s.backedOff f silence).unreachable f.handle.index &&
      ((s.backedOff f silence).fire .failedAttempt).pnat Obj.failLimit ≤
        (((s.backedOff f silence).entry f.handle.index).map Entry.fails).getD 0 then
        ((s.backedOff f silence).fire .failedAttempt).markUnreach f.handle.index
      else (s.backedOff f silence).fire .failedAttempt)).afterAttempt f.id := by
    unfold State.failAttempt
    simp only [hf, State.freeFlightLane, hl]
    rfl
  rw [hstep, if_neg]
  · obtain ⟨g, k, hg, -, hatt, -, -, -, hgc, hgl, hgh⟩ := State.backedOff_flight silence hf
    unfold State.afterAttempt
    simp only [State.fire_fire]
    rw [show ((s.backedOff f silence).fire .failedAttempt).flight f.id = some g from hg]
    have htries : ((s.backedOff f silence).fire .failedAttempt).pnat Obj.flightTries ≤ g.attempts ↔ False := by
      rw [hpar, hatt, iff_false]
      exact Nat.not_le.mpr hn
    have hreach : ((s.backedOff f silence).fire .failedAttempt).unreachable g.handle.index = false := by
      rw [hgh]
      exact (State.backedOff_unreachable f silence s).trans hu
    simp [hgc, hc, hgl, hlate, hreach, htries]
  · rw [hpar, State.backedOff_unreachable, hu, State.backedOff_entry]
    cases hs : silence with
    | false => simp
    | true =>
      have hlim := hfail hs
      cases he : s.entry f.handle.index with
      | none => simp [he] at hlim ⊢; omega
      | some e => simp [he] at hlim ⊢; omega

/-- A cell's attempt is taken to its turn (R178, R209). -/
theorem State.cellAttempt_turn {f : Flight} {i ch : Nat} {c : Cell} {s : State} (hrun : assoc i s.sched.run = some ch)
    (hcell : assoc i s.sched.cells = some c) (hk : c.kind = .tx) (hh : s.rx.lanes[Fin.ofNat 16 c.lane].holder = .cell i)
    (hbest : (bestWaiting (s.cellFlights c)).map Flight.id = some f.id) :
    s.cellAttempt f i = s.cellTurn f i (Fin.ofNat 16 c.lane) (s.cellRate c.rate) ch := by
  unfold State.cellAttempt
  simp only [hrun, hcell]
  rw [if_pos (by rw [hk, hh, hbest]; simp)]

theorem exec_calledListenTimeout_air {id : Nat} {f : Flight} {n : Fin 16} {s : State}
    (hf : s.work.table.find? (fun f => f.id == id) = some f) (hst : f.st = .air) (hc : f.called = true)
    (hfr : f.frameAt = none) (haw : f.awaiting = false) (hb : s.burstPending (.called id) = false) (ht : f.nextTry ≤ s.now)
    (hl : f.lane = some n) (hh : s.rx.lanes[n].holder = .called id) :
    exec (.calledListenTimeout id) s = .next (s.failAttempt id true) := by
  refine congrArg Host.Outcome.next ?_
  simp only [hf, hst, hl]
  rw [if_pos (by rw [hc, hfr, haw, hb, hh, decide_eq_true ht]; simp)]

/-- Settles O23, event by event. -/
theorem flightAttempts : Obligations.FlightAttempts := by
  refine ⟨?_, ?_, ?_, ?_, ?_⟩
  · intro id f n c s hf hb hr hfr hcall hst hlane hcode h0
    obtain rfl := State.flight_id (table_flight hf)
    have hex := exec_flightAttempt (cell := none) hf hb hr hfr
    dsimp only at hex
    rw [State.calledAttempt_lane hcall hst hcode h0 hlane] at hex
    let v := (s.onFlight f.id (Flight.onAir n)).listenOn n (.called f.id) s.startChannel 3
    refine ⟨_, v.makeBurst c 6 (v.pnat Obj.sync) (v.pnat Obj.txRepeat) (.called f.id), hex, ?_, rfl, rfl, rfl, ?_, ?_, ?_, ?_⟩
    · change v.jomen.due ++ _ = _
      simp [v, State.onFlight]
    · have hw : v.work = (s.onFlight f.id (Flight.onAir n)).work := by simp [v]
      change (v.flight f.id).map Flight.st = _
      rw [State.flight_of_work hw, State.flight_onFlight f.id (g := Flight.onAir n) (fun _ => rfl), table_flight hf]
      rfl
    · exact State.listenOn_holder ..
    · simp [State.onFlight]
    · simp [State.onFlight]
  · intro id i ch f c s hf hb hr hfr hrun hcell hk hh hbest n rate a on
    obtain rfl := State.flight_id (table_flight hf)
    rw [exec_flightAttempt hf hb hr hfr]
    dsimp only
    rw [State.cellAttempt_turn hrun hcell hk hh hbest]
    unfold State.cellTurn
    generalize hx : s.takeAir (bandOf (s.cellRate c.rate)) 0 = x
    have ha : a = x := hx
    obtain ⟨turn, w⟩ := x
    simp only [on, ha]
    cases turn <;> rfl
  · intro id f s hf hst
    refine ⟨fun hu => congrArg Host.Outcome.next ?_, congrArg Host.Outcome.next ?_⟩
    · simp [hf, hu, hst]
    · simp [hf, hst]
  · intro id f n s hf hst hc hfr haw hb ht hl hh
    exact exec_calledListenTimeout_air hf hst hc hfr haw hb ht hl hh
  · intro id silence f s hf hl hc hlate hu n v hn hfail
    rw [State.failAttempt_backoff hf hl hc hlate hu hn hfail]
    obtain rfl := State.flight_id hf
    obtain ⟨g, k, hg, hst, hatt, hk, hnext, hskip, -, -, -⟩ := State.backedOff_flight silence hf
    refine ⟨g, k, hg, hst, hatt, hk, hnext, hskip, ?_, State.keeps_step (State.keeps_mono (s.keeps_backedOff f silence)
      (by decide)) (State.keeps_fire ..)⟩
    have he := State.backedOff_entry f silence s
    change ((s.backedOff f silence).entry f.handle.index).map Entry.fails = _
    rw [he, Option.map_map]
    congr 1
    funext e
    cases silence <;> rfl

end Sys2Proof.Machine

/-!
Proofs about the last chance and reacquisition.
-/

namespace Sys2Proof.Machine

/-! ## The last chance (R334 to R337) -/

theorem exec_lastChanceBurst {i c : Nat} {q : LcSeq} {s : State} (hq : s.lcOf i = some q) (ha : q.attempt ≤ 3)
    (hl : q.listen = none) (han : q.answered = false) (hb : s.burstPending (.lastChance i) = false)
    (ht : q.trigger + secs (q.attempt - 1) ≤ s.now) (hc : (s.entry i).map (codeOf i) = some c) (h0 : c ≠ 0) :
    exec (.lastChanceBurst i) s = .next (s.scheduleBurst c 6 (.lastChance i)) := by
  refine congrArg Host.Outcome.next ?_
  have hwait : (decide (3 < q.attempt) || q.listen.isSome || q.answered || s.burstPending (.lastChance i) ||
      decide (s.now < q.trigger + secs (q.attempt - 1))) = false := by
    rw [decide_eq_false (Nat.not_lt.mpr ha), hl, han, hb, decide_eq_false (Nat.not_lt.mpr ht)]
    rfl
  simp only [hq, hwait, hc, Option.getD_some, h0]
  rfl

theorem exec_calledListenTimeout_lastChance {id : Nat} {f : Flight} {q : LcSeq} {e : Ticks} {s : State}
    (hf : s.work.table.find? (fun f => f.id == id) = some f) (hst : f.st = .lastchance)
    (hq : s.lcOf f.handle.index = some q) (hl : q.listen = some e) (han : q.answered = false) (ht : e ≤ s.now) :
    exec (.calledListenTimeout id) s = .next (s.lcFail q.index .noAnswer) := by
  refine congrArg Host.Outcome.next ?_
  simp only [hf, hst, hq, hl, han, decide_eq_true ht]
  rfl

/-- A flight whose last chance is over is flooded, or ends UNREACH (R336). -/
def State.floodOrEnd (f : Flight) (s : State) : State :=
  match s.floodFlight f with
  | some s => s.endFlight f.id .flood
  | none => s.endFlight f.id .unreach

theorem State.floodOrEnd_none {f : Flight} {s : State} (h : s.floodFlight f = none) :
    s.floodOrEnd f = s.endFlight f.id .unreach := by
  unfold State.floodOrEnd
  rw [h]

theorem State.floodOrEnd_some {f : Flight} {s v : State} (h : s.floodFlight f = some v) :
    s.floodOrEnd f = v.endFlight f.id .flood := by
  unfold State.floodOrEnd
  rw [h]

/-- The flights that are left after the third attempt are flooded or end, one after the other (R336). -/
theorem exec_lastChanceFlood {i : Nat} {q : LcSeq} {s : State} (hq : s.lcOf i = some q) (ha : 4 ≤ q.attempt) :
    exec (.lastChanceFlood i) s = .next ((s.each (s.lcFlights i) State.floodOrEnd).lcOver i) := by
  refine congrArg Host.Outcome.next ?_
  simp only [hq, Nat.not_lt.mpr ha, if_false]
  rfl

theorem exec_reacquireTimeout {q : Reacq} {s : State} (hq : s.net.reacq.filter (fun q => decide (q.nextAt ≤ s.now)) = [q])
    (hb : s.burstPending (.reacquire q.index) = false) (hl : q.listening = false) :
    exec .reacquireTimeout s = .next (if 3 ≤ q.tries then s.reacqFailed q.index else s.reacqBurst q.index) := by
  refine congrArg Host.Outcome.next ?_
  rw [hq]
  simp only [State.each, List.foldl_cons, List.foldl_nil, hb, hl]
  rfl

/-- Settles O24, event by event. -/
theorem lastChanceAndReacquisition : Obligations.LastChanceAndReacquisition := by
  refine ⟨?_, ?_, ?_, ?_, ?_⟩
  · intro i c q s hq ha hl han hb ht hc h0
    exact ⟨_, _, exec_lastChanceBurst hq ha hl han hb ht hc h0, rfl, rfl, rfl, rfl, State.keeps_onJomen ..⟩
  · intro id f q e s hf hst hq hl han ht
    exact exec_calledListenTimeout_lastChance hf hst hq hl han ht
  · intro i q s hq ha hnone
    rw [exec_lastChanceFlood hq ha, hnone]
    rfl
  · intro i q f s hq ha hone
    rw [exec_lastChanceFlood hq ha, hone]
    refine ⟨fun hn => ?_, fun v hv => ?_⟩
    · simp only [State.each, List.foldl_cons, List.foldl_nil, State.floodOrEnd_none hn]
    · simp only [State.each, List.foldl_cons, List.foldl_nil, State.floodOrEnd_some hv]
  · intro q s hq hb hl
    rw [exec_reacquireTimeout hq hb hl]
    exact ⟨fun ht => by rw [if_neg (Nat.not_le.mpr ht)], fun ht => by rw [if_pos ht]⟩

end Sys2Proof.Machine

/-!
Proofs about STORE: wear and retirement of its blocks, and its events.
-/

namespace Sys2Proof.Machine

/-! ## Wear (R446, R447) -/

theorem assoc_assocDel {α β : Type} [DecidableEq α] (k i : α) (l : List (α × β)) :
    assoc i (assocDel k l) = if k = i then none else assoc i l := by
  induction l with
  | nil => simp [assocDel, assoc]
  | cons x xs ih =>
    obtain ⟨a, b⟩ := x
    unfold assocDel at ih ⊢
    by_cases ha : a = k
    · rw [List.filter_cons_of_neg (by simpa using ha), ih]
      by_cases hk : k = i
      · rw [if_pos hk, if_pos hk]
      · rw [if_neg hk, if_neg hk, assoc, if_neg (fun h => hk (ha.symm.trans h))]
    · rw [List.filter_cons_of_pos (by simpa using ha), assoc, assoc, ih]
      by_cases hai : a = i
      · rw [if_pos hai, if_pos hai, if_neg (fun h => ha (hai.trans h.symm))]
      · rw [if_neg hai, if_neg hai]

theorem Wear.put_blockOf (p b q : Nat) (w : Wear) : (w.put p b).blockOf q = if q = p then b else w.blockOf q := by
  unfold Wear.put Wear.blockOf
  dsimp only
  split
  next hpb =>
    rw [assoc_assocDel]
    by_cases hq : q = p
    · subst hq; simp [hpb]
    · rw [if_neg (Ne.symm hq), if_neg hq]
  next =>
    rw [assoc_assocSet]
    by_cases hq : q = p
    · rw [if_pos hq.symm, if_pos hq]; rfl
    · rw [if_neg (Ne.symm hq), if_neg hq]

theorem Wear.swap_blockOf (p q r : Nat) (w : Wear) :
    (w.swap p q).blockOf r = if r = p then w.blockOf q else if r = q then w.blockOf p else w.blockOf r := by
  unfold Wear.swap
  split
  next hpq =>
    subst hpq
    split
    next h => rw [h]
    next => rfl
  next hpq =>
    rw [Wear.put_blockOf, Wear.put_blockOf]
    by_cases hp : r = p
    · rw [if_pos hp, if_pos hp, if_neg (fun h => hpq (hp.symm.trans h))]
    · rw [if_neg hp, if_neg hp]

@[simp] theorem Wear.swap_erases (p q b : Nat) (w : Wear) : (w.swap p q).erases b = w.erases b := by
  unfold Wear.swap
  split <;> rfl

@[simp] theorem Wear.erase_blockOf (p q : Nat) (w : Wear) : (w.erase p).blockOf q = w.blockOf q := rfl

theorem Wear.erase_erases (p b : Nat) (w : Wear) :
    (w.erase p).erases b = if w.blockOf p = b then w.erases (w.blockOf p) + 1 else w.erases b := by
  unfold Wear.erase Wear.erases
  dsimp only
  rw [assoc_assocSet]
  split <;> rfl

/-- Of some pecks, the one whose block has been erased least. -/
theorem Wear.least_spec (p : Nat) (l : List Nat) (w : Wear) : w.least p l ∈ p :: l ∧
    ∀ k ∈ p :: l, w.erases (w.blockOf (w.least p l)) ≤ w.erases (w.blockOf k) := by
  induction l generalizing p with
  | nil => simp [Wear.least]
  | cons q qs ih =>
    have hstep : w.least p (q :: qs) = w.least (if w.erases (w.blockOf q) < w.erases (w.blockOf p) then q else p) qs := rfl
    rw [hstep]
    split
    next hlt =>
      obtain ⟨hm, hle⟩ := ih q
      refine ⟨List.mem_cons_of_mem _ hm, fun k hk => ?_⟩
      rcases List.mem_cons.mp hk with rfl | hk
      · exact (hle q List.mem_cons_self).trans (Nat.le_of_lt hlt)
      · exact hle k hk
    next hge =>
      obtain ⟨hm, hle⟩ := ih p
      refine ⟨?_, fun k hk => ?_⟩
      · rcases List.mem_cons.mp hm with hm | hm
        · exact List.mem_cons.mpr (.inl hm)
        · exact List.mem_cons_of_mem _ (List.mem_cons_of_mem _ hm)
      · rcases List.mem_cons.mp hk with rfl | hk
        · exact hle k List.mem_cons_self
        · rcases List.mem_cons.mp hk with rfl | hk
          · exact (hle p List.mem_cons_self).trans (Nat.not_lt.mp hge)
          · exact hle k (List.mem_cons_of_mem _ hk)

theorem mem_regionPecks_self {p : Nat} (hp : p < 8192) : p ∈ regionPecks p := by
  unfold regionPecks tlcPeck
  by_cases h : 4096 ≤ p
  · simp only [h, decide_true, if_true, List.mem_map, List.mem_range]
    exact ⟨p - 4096, by omega, by omega⟩
  · simp only [h, decide_false, Bool.false_eq_true, if_false, List.mem_map, List.mem_range]
    exact ⟨p, by omega, rfl⟩

theorem Wear.least_region {p : Nat} (w : Wear) (hp : p < 8192) : w.least p (regionPecks p) ∈ regionPecks p ∧
    ∀ k ∈ regionPecks p, w.erases (w.blockOf (w.least p (regionPecks p))) ≤ w.erases (w.blockOf k) := by
  obtain ⟨hm, hle⟩ := w.least_spec p (regionPecks p)
  refine ⟨?_, fun k hk => hle k (List.mem_cons_of_mem _ hk)⟩
  rcases List.mem_cons.mp hm with hm | hm
  · rw [hm]; exact mem_regionPecks_self hp
  · exact hm

/-- Static data stays where no block of the region lies more than the limit behind (R447). -/
theorem Wear.level_stays {p : Nat} {w : Wear} (hp : p < 8192)
    (h : ∀ q ∈ regionPecks p, w.erases (w.blockOf p) ≤ w.erases (w.blockOf q) + wearLimit p) : w.level p = w := by
  unfold Wear.level
  split
  · rfl
  · dsimp only
    rw [if_pos (h _ (w.least_region hp).1)]

/-- Where one does, the data of the block erased least moves (R447). -/
theorem Wear.level_moves {p q : Nat} {w : Wear} (hp : p < 8192) (hq : q ∈ regionPecks p)
    (h : w.erases (w.blockOf q) + wearLimit p < w.erases (w.blockOf p)) :
    w.level p = (w.swap p (w.least p (regionPecks p))).erase p := by
  have hle := (w.least_region hp).2 q hq
  unfold Wear.level
  rw [if_neg (by omega)]
  dsimp only
  rw [if_neg (by omega)]

/-- A retired block that held a peck is replaced, while a block is left (R446). -/
theorem Store.replaceBlock_spare {p b : Nat} {c : Store} (hb : c.wear.peckOf b = some p) (hs : 0 < c.spare) :
    let t := c.replaceBlock b
    t.spare = c.spare - 1 ∧ t.lost = c.lost ∧ t.free = c.free ∧ t.freeArch = c.freeArch ∧
      (∃ x, t.wear.blockOf p = x ∧ (x ∈ c.wear.back ∨ x = 8192 + c.wear.taken)) ∧
      (∀ q, q ≠ p → t.wear.blockOf q = c.wear.blockOf q) := by
  have hplace (x q : Nat) : (Wear.put p x { c.wear with was := assocSet b p c.wear.was }).blockOf q =
      if q = p then x else c.wear.blockOf q := Wear.put_blockOf ..
  intro t
  cases hback : c.wear.back with
  | nil =>
    have ht : t = { c with spare := c.spare - 1, wear := { Wear.put p (8192 + c.wear.taken)
        { c.wear with was := assocSet b p c.wear.was } with taken := c.wear.taken + 1 } } := by
      simp only [t, Store.replaceBlock, hb, hs, if_true, hback]
    rw [ht]
    exact ⟨rfl, rfl, rfl, rfl, ⟨_, (hplace _ p).trans (if_pos rfl), .inr rfl⟩, fun q hq => (hplace _ q).trans (if_neg hq)⟩
  | cons x l =>
    have ht : t = { c with spare := c.spare - 1, wear := { Wear.put p x
        { c.wear with was := assocSet b p c.wear.was } with back := l } } := by
      simp only [t, Store.replaceBlock, hb, hs, if_true, hback]
    rw [ht]
    exact ⟨rfl, rfl, rfl, rfl, ⟨_, (hplace _ p).trans (if_pos rfl), .inl List.mem_cons_self⟩,
      fun q hq => (hplace _ q).trans (if_neg hq)⟩

/-- With none left a peck of its ring is lost (R446). -/
theorem Store.replaceBlock_none {p b : Nat} {c : Store} (hb : c.wear.peckOf b = some p) (hs : c.spare = 0) :
    let t := c.replaceBlock b
    t.spare = 0 ∧ t.lost = c.lost + 1 ∧ (tlcPeck p = false → t.free = c.free - 1 ∧ t.freeArch = c.freeArch) ∧
      (tlcPeck p = true → t.freeArch = c.freeArch - 1 ∧ t.free = c.free) := by
  cases hp : tlcPeck p <;> simp [Store.replaceBlock, hb, hs, hp]

/-! ## What a retirement leaves (R485, R446) -/

/-- STORE without what an audit record moves: the cache and the sequence. -/
def Store.unaudited (c : Store) : Store :=
  { c with cache := [], held := [], nextAudit := 0, auditCount := 0, auditPass := 0 }

theorem State.auditOne_unaudited (o : Origin) (action obj result : Nat) (old new : AVal) (s : State) :
    (s.auditOne o action obj result old new).store.unaudited = s.store.unaudited := by
  unfold State.auditOne State.onStore Store.place
  dsimp only
  split <;> rfl

theorem State.audit_unaudited (o : Origin) (action obj result : Nat) (old new : AVal) (s : State) :
    (s.audit o action obj result old new).store.unaudited = s.store.unaudited := by
  unfold State.audit
  dsimp only
  rw [State.auditOne_unaudited]
  split
  · rw [State.auditOne_unaudited]
    rfl
  · rfl

theorem find?_putRes (r : Res) (l : List Res) :
    (putRes r l).find? (fun x => x.id == r.id) = if r = Res.clean r.id then none else some r := by
  have hnone : (l.filter (fun x => x.id ≠ r.id)).find? (fun x => x.id == r.id) = none := by
    rw [List.find?_eq_none]
    intro x hx
    simpa using (List.mem_filter.mp hx).2
  unfold putRes
  dsimp only
  split
  · exact hnone
  · rw [List.find?_append, hnone]
    simp

theorem State.res_id (id : ResId) (s : State) : (s.res id).id = id := by
  unfold State.res
  split
  next r hr => simpa using List.find?_some hr
  next => rfl

theorem State.res_congr {s t : State} (ht : t.faults = s.faults) (id : ResId) : t.res id = s.res id := by
  unfold State.res
  rw [ht]

theorem State.isRetired_congr {s t : State} (ht : t.faults = s.faults) (k : ResKind) (n : Nat) :
    t.isRetired k n = s.isRetired k n := by
  unfold State.isRetired
  rw [State.res_congr ht]

/-- A resource that is changed reads as it was changed. -/
theorem State.res_onRes {id : ResId} {f : Res → Res} (hf : ∀ r, (f r).id = r.id) (s : State) :
    (s.onRes id f).res id = f (s.res id) := by
  obtain ⟨r, hr⟩ : ∃ r, f (s.res id) = r := ⟨_, rfl⟩
  have hid : r.id = id := by rw [← hr, hf, State.res_id]
  have hfind : (s.onRes id f).faults.find? (fun x => x.id == id) = if r = Res.clean id then none else some r := by
    have h := find?_putRes r s.faults
    rw [hid] at h
    exact (congrArg (fun r => (putRes r s.faults).find? (fun x => x.id == id)) hr).trans h
  rw [hr]
  unfold State.res
  rw [hfind]
  by_cases hc : r = Res.clean id
  · rw [if_pos hc]
    exact hc.symm
  · rw [if_neg hc]

def Res.retiredBy (cause : Nat) (r : Res) : Res := { r with retired := true, cause := cause, resting := false, until_ := none }

theorem State.retire_retired (o : Origin) (id : ResId) (cause : Nat) (s : State) :
    ((s.retire o id cause).res id).retired = true := by
  unfold State.retire
  split
  next h => exact h
  next =>
    rw [State.res_congr (s := s.onRes id (Res.retiredBy cause)) (by simp; rfl),
      State.res_onRes (f := Res.retiredBy cause) (fun _ => rfl)]
    rfl

theorem State.retire_unaudited (o : Origin) (id : ResId) (cause : Nat) (s : State) :
    (s.retire o id cause).store.unaudited = s.store.unaudited := by
  unfold State.retire
  split
  · rfl
  · simp [State.audit_unaudited, State.onRes]

/-- What the replacement of a block leaves while a block is left: the records, and the free pecks (R446). -/
theorem Store.replaceBlock_records (b : Nat) {c : Store} (hs : 0 < c.spare) :
    (c.replaceBlock b).spare = c.spare - 1 ∧ (c.replaceBlock b).lost = c.lost ∧ (c.replaceBlock b).free = c.free ∧
      (c.replaceBlock b).ledger = c.ledger ∧ (c.replaceBlock b).archive = c.archive ∧ (c.replaceBlock b).audits = c.audits := by
  unfold Store.replaceBlock
  split
  · rw [if_pos hs]
    exact ⟨rfl, rfl, rfl, rfl, rfl, rfl⟩
  · dsimp only
    rw [if_pos hs]
    split <;> exact ⟨rfl, rfl, rfl, rfl, rfl, rfl⟩

theorem Store.records_of_unaudited {c d : Store} (h : c.unaudited = d.unaudited) : c.spare = d.spare ∧ c.lost = d.lost ∧
    c.free = d.free ∧ c.ledger = d.ledger ∧ c.archive = d.archive ∧ c.audits = d.audits :=
  ⟨(congrArg Store.spare h :), (congrArg Store.lost h :), (congrArg Store.free h :), (congrArg Store.ledger h :),
    (congrArg Store.archive h :), (congrArg Store.audits h :)⟩

/-- A block that is retired while a block is left: a spare takes its peck, and no record is lost (R446). -/
theorem State.retireBlock_spare (o : Origin) (block cause : Nat) {s : State} (hr : s.isRetired .block block = false)
    (hs : 0 < s.store.spare) :
    let t := s.retireBlock o block cause
    t.isRetired .block block = true ∧ t.store.spare = s.store.spare - 1 ∧ t.store.free = s.store.free ∧
      t.store.ledger = s.store.ledger ∧ t.store.archive = s.store.archive ∧ t.store.audits = s.store.audits ∧
      t.wake = s.wake ∧ t.roster = s.roster ∧ t.work = s.work := by
  intro t
  have hret := State.retire_retired o { kind := .block, num := block } cause s
  obtain ⟨h1, h2, h3, h4, h5, h6⟩ := Store.records_of_unaudited (s.retire_unaudited o { kind := .block, num := block } cause)
  obtain ⟨k1, k2, k3, k4, k5, k6⟩ := Store.replaceBlock_records block (c := (s.retire o { kind := .block, num := block } cause).store)
    (by rw [h1]; exact hs)
  have ht : t = (s.retire o { kind := .block, num := block } cause).onStore (Store.replaceBlock block) := by
    simp only [t, State.retireBlock, hr]
    rw [if_neg (by simp)]
    exact if_pos (k2.trans h2)
  rw [ht]
  exact ⟨hret, k1.trans (by rw [h1]), k3.trans h3, k4.trans h4, k5.trans h5, k6.trans h6, by simp, by simp, by simp⟩

/-! ## The events of STORE (R445, R455, R456, R459, R479) -/

theorem exec_programFailure {erase : Bool} {block : Nat} {s : State} (hc : s.ccOn = true) : exec (.programFailure erase block) s =
    .next ((s.count .store (if erase then "store.erase.fail" else "store.prog.fail")).retireBlock (.self .faultBlock) block 6) := by
  refine congrArg Host.Outcome.next ?_
  simp [hc]

theorem exec_peckRefresh_moves {n block : Nat} {s : State} (hc : s.ccOn = true) (hn : 48 < n) (hm : n ≤ 72) :
    exec (.peckRefresh n block) s =
      .next ((s.count .store "store.refresh").onStore (fun c => { c with moves := c.moves ++ [block] })) := by
  refine congrArg Host.Outcome.next ?_
  simp [hc, Nat.not_le.mpr hn, hm]

theorem exec_peckRefresh_lost {n block : Nat} {s : State} (hc : s.ccOn = true) (hn : 72 < n) :
    exec (.peckRefresh n block) s =
      .next ((s.count .store "store.ecc.fail").codewordLost.retireBlock (.self .faultBlock) block 7) := by
  refine congrArg Host.Outcome.next ?_
  simp [hc, Nat.not_le.mpr hn, show ¬ n ≤ 48 by omega]

/-- A codeword that is lost leaves every record in its place, and no record that was lost comes back (R446, log 76). -/
theorem State.codewordLost_records (s : State) :
    let t := s.codewordLost
    t.store.spare = s.store.spare ∧ t.store.ledger.map LRec.seq = s.store.ledger.map LRec.seq ∧
      t.store.archive.map LRec.body = s.store.archive.map LRec.body ∧
      t.store.audits.map ARec.seq = s.store.audits.map ARec.seq ∧
      (∀ r ∈ s.store.ledger, r.lost = true → ∃ r' ∈ t.store.ledger, r'.seq = r.seq ∧ r'.lost = true) ∧
      t.roster.entries = s.roster.entries := by
  intro t
  have hsame : ∀ {u : State}, u.store = s.store → (∀ r ∈ s.store.ledger, r.lost = true →
      ∃ r' ∈ u.store.ledger, r'.seq = r.seq ∧ r'.lost = true) := fun hu r hr hl => ⟨r, by rw [hu]; exact hr, rfl, hl⟩
  simp only [t, State.codewordLost]
  split
  · refine ⟨rfl, ?_, ?_, rfl, fun r hr hl => ⟨_, List.mem_map_of_mem hr, rfl, ?_⟩, rfl⟩
    · exact (List.map_map ..).trans (List.map_congr_left fun _ _ => rfl)
    · exact (List.map_map ..).trans (List.map_congr_left fun _ _ => rfl)
    · simp [hl]
  · refine ⟨rfl, rfl, rfl, ?_, fun r hr hl => ⟨r, hr, rfl, hl⟩, rfl⟩
    exact (List.map_map ..).trans (List.map_congr_left fun _ _ => rfl)
  · exact ⟨rfl, rfl, rfl, rfl, hsame rfl, rfl⟩
  · exact ⟨rfl, rfl, rfl, rfl, hsame rfl, rfl⟩

@[simp] theorem State.ledgerLoss_store (gone : List LRec) (s : State) : (s.ledgerLoss gone).store = s.store := by
  unfold State.ledgerLoss
  dsimp only
  split <;> simp

/-- Room for a peck in ARCHIVE: a free one, or that of the oldest (R445). -/
theorem State.archiveRoom_store (s : State) : s.archiveRoom.store.ledger = s.store.ledger ∧
    s.archiveRoom.store.pecks = s.store.pecks ∧ s.archiveRoom.store.free = s.store.free ∧
    s.archiveRoom.store.cache = s.store.cache ∧ (0 < s.store.freeArch → s.archiveRoom.store.archive = s.store.archive) := by
  unfold State.archiveRoom
  split
  next => exact ⟨rfl, rfl, rfl, rfl, fun _ => rfl⟩
  next hn =>
    simp only [State.ledgerLoss_store, State.countN_frame]
    exact ⟨rfl, rfl, rfl, rfl, fun h => absurd h hn⟩

/-- The peck of LEDGER that goes is erased. -/
def Store.dropLedgerPeck (n : Nat) (c : Store) : Store :=
  { c.erasePeck (ledgerPeck0 + c.ledgerTail) with
    ledger := c.ledger.drop n, pecks := c.pecks.drop 1, free := c.free + 1, ledgerTail := (c.ledgerTail + 1) % 3836 }

theorem exec_ledgerRingAdvance {s : State} (ho : s.storeOn = true) (hf : s.store.free < 4) (hp : s.store.pecks ≠ []) :
    let n := s.store.pecks.headD 0
    let u := s.fire .ledgerPeck
    let gone := s.store.ledger.take n
    exec .ledgerRingAdvance s = .next (if u.pint Obj.archive == 1 then
        (((u.archiveRoom.bytes .storeRd (2 * 512 * 2048)).bytes .storeWr (512 * 2048)).onStore (fun c =>
          { c with archive := c.archive ++ gone, archPecks := c.archPecks ++ [n] })).onStore (Store.dropLedgerPeck n)
      else ((u.onStore (Store.dropLedgerPeck n)).countN .store "store.ledger.drop" n).ledgerLoss gone) := by
  have hgo : (!s.storeOn || decide (4 ≤ s.store.free) || s.store.pecks.isEmpty) = false := by
    simp [ho, Nat.not_le.mpr hf, hp]
  intro n u gone
  change execLedgerRingAdvance s = _
  unfold execLedgerRingAdvance
  rw [if_neg (by rw [hgo]; decide)]
  rfl

/-- The oldest peck of LEDGER goes (R445): to ARCHIVE when it is kept, else it is dropped. -/
theorem ledgerRingAdvance_records {s : State} (ho : s.storeOn = true) (hf : s.store.free < 4) (hp : s.store.pecks ≠ []) :
    let n := s.store.pecks.headD 0
    let u := s.fire .ledgerPeck
    ∃ t, exec .ledgerRingAdvance s = .next t ∧ t.store.ledger = s.store.ledger.drop n ∧
      t.store.pecks = s.store.pecks.drop 1 ∧ t.store.free = s.store.free + 1 ∧ t.store.cache = s.store.cache ∧
      (u.pint Obj.archive = 1 → 0 < s.store.freeArch → t.store.archive = s.store.archive ++ s.store.ledger.take n) ∧
      (u.pint Obj.archive ≠ 1 → t.store.archive = s.store.archive) := by
  intro n u
  refine ⟨_, exec_ledgerRingAdvance ho hf hp, ?_⟩
  obtain ⟨hl, hpk, hfr, hca, har⟩ := u.archiveRoom_store
  split
  next harch =>
    refine ⟨congrArg (List.drop n) hl, congrArg (List.drop 1) hpk, congrArg (· + 1) hfr, hca, fun _ hfree => ?_,
      fun hne => absurd (by simpa using harch) hne⟩
    exact congrArg (· ++ s.store.ledger.take n) (har hfree)
  next harch =>
    simp only [State.ledgerLoss_store, State.countN_frame]
    exact ⟨rfl, rfl, rfl, rfl, fun he => absurd (by simpa using he) harch, fun _ => rfl⟩

theorem exec_codewordDue {s : State} (aud : Bool) (ho : s.storeOn = true) (hr : s.store.running = none)
    (h0 : aud = true → s.pageRecords false = 0) (hp : 0 < s.pageRecords aud) : exec .codewordDue s =
      .next (s.onStore (fun c => { c with running := some (aud, s.pageRecords aud) })) := by
  refine congrArg Host.Outcome.next ?_
  cases aud with
  | false => simp [ho, hr, hp]
  | true => simp [ho, hr, h0 rfl, hp]

theorem exec_storeOperationDone_running {s : State} {aud : Bool} {n : Nat} (hr : s.store.running = some (aud, n)) :
    let u := s.onStore (fun c => { c with running := none })
    let words := (n + perWord aud - 1) / perWord aud
    exec (.storeOperationDone true) s = .next ((u.programmed aud n).drainBuf s.rx.buf.length) ∧
      exec (.storeOperationDone false) s =
        .next ((u.bytes .storeWr (2048 * words)).bytes .storeRd (2048 * words)) := by
  refine ⟨congrArg Host.Outcome.next ?_, congrArg Host.Outcome.next ?_⟩
  · simp only [hr]
    rfl
  · simp only [hr]
    rfl

theorem exec_storeOperationDone_moves {s : State} {b : Nat} {l : List Nat} (ok : Bool) (hr : s.store.running = none)
    (hm : s.store.moves = b :: l) : exec (.storeOperationDone ok) s =
      .next (s.onStore (fun c => { c.relocate b with moves := l })) := by
  refine congrArg Host.Outcome.next ?_
  simp only [hr, hm]

theorem exec_emergencyFlushEnd {s : State} (hf : s.store.flush ≠ none) (hc : s.ccOn = true) :
    exec .emergencyFlushEnd s = .next (s.flushEnd.drainBuf s.flushEnd.rx.buf.length) := by
  obtain ⟨x, hx⟩ := Option.ne_none_iff_exists'.mp hf
  refine congrArg Host.Outcome.next ?_
  simp only [hx, hc]
  rfl

/-- A full half of the push directory is written to the other half (R479). -/
def Store.compactPush (c : Store) : Store :=
  { c.erasePecks ((List.range 8).map ((libraryPeck0 + (if c.pushGen % 2 = 0 then 1016 else 1008)) + ·)) with
    pushGen := c.pushGen + 1, pushUsed := c.pushDir.length + 2 }

theorem Store.erasePecks_pushDir (l : List Nat) (c : Store) : (c.erasePecks l).pushDir = c.pushDir := by
  induction l generalizing c with
  | nil => rfl
  | cons p ps ih => exact (ih (c.erasePeck p)).trans rfl

theorem exec_pushDirectoryCompaction {s : State} (ho : s.storeOn = true) (hu : 262144 ≤ s.store.pushUsed) :
    exec .pushDirectoryCompaction s = .next (s.onStore Store.compactPush) := by
  refine congrArg Host.Outcome.next ?_
  have hgo : (!s.storeOn || decide (s.store.pushUsed < 262144)) = false := by
    rw [ho, decide_eq_false (Nat.not_lt.mpr hu)]
    rfl
  rw [if_neg (by rw [hgo]; decide)]
  rfl

/-- Settles O26, event by event, from the laws of wear and of retirement above. -/
theorem storeEvents : Obligations.StoreEvents := by
  refine ⟨?_, ?_, ?_, ?_⟩
  · intro s
    refine ⟨fun ho hr hp => ⟨_, exec_codewordDue false ho hr (fun h => by cases h) hp, rfl, State.keeps_onStore ..⟩,
      fun ho hr h0 hp => ⟨_, exec_codewordDue true ho hr (fun _ => h0) hp, rfl, State.keeps_onStore ..⟩,
      fun aud n hr => ⟨(exec_storeOperationDone_running hr).1, _, (exec_storeOperationDone_running hr).2, rfl, ?_⟩,
      fun b l hr hm => ⟨_, exec_storeOperationDone_moves true hr hm, rfl, State.keeps_onStore ..⟩,
      fun hf hc => exec_emergencyFlushEnd hf hc,
      fun erase block hc hr hs => ⟨_, exec_programFailure hc, ?_⟩,
      fun n block hc hn hm => ⟨_, exec_peckRefresh_moves hc hn hm, ?_, ?_⟩,
      fun n block hc hn hr hs => ⟨_, exec_peckRefresh_lost hc hn, ?_⟩, fun ho hf hp => ledgerRingAdvance_records ho hf hp,
      fun ho hu => ⟨_, exec_pushDirectoryCompaction ho hu, ?_, ?_, ?_, State.keeps_onStore ..⟩⟩
    · exact State.keeps_step (State.keeps_step (State.keeps_mono (State.keeps_onStore _ s) (by decide))
        (State.keeps_bytes ..)) (State.keeps_bytes ..)
    · obtain ⟨h1, h2, h3, h4, -, -, h7, h8, h9⟩ := State.retireBlock_spare (.self .faultBlock) block 6
        (s := s.count .store (if erase then "store.erase.fail" else "store.prog.fail")) (by rw [State.isRetired_congr (s := s) (by simp)]; exact hr)
        (by simpa using hs)
      exact ⟨h1, h2.trans (by simp), h3.trans (by simp), h4.trans (by simp), h7.trans (by simp), h8.trans (by simp),
        h9.trans (by simp)⟩
    · simp [State.onStore]
    · exact State.keeps_step (State.keeps_mono (State.keeps_count ..) (by decide)) (State.keeps_onStore ..)
    · obtain ⟨c1, c2, c3, c4, c5, c6⟩ := (s.count .store "store.ecc.fail").codewordLost_records
      obtain ⟨h1, h2, -, h4, h5, h6, h7, h8, h9⟩ := State.retireBlock_spare (.self .faultBlock) block 7
        (s := (s.count .store "store.ecc.fail").codewordLost)
        (by rw [State.isRetired_congr (s := s) (by simp)]; exact hr) (by rw [c1]; simpa using hs)
      simp only [State.count_frame] at c1 c2 c3 c4 c5 c6
      refine ⟨h1, by rw [h2, c1], by rw [h4, c2], by rw [h5, c3], by rw [h6, c4], fun r hr hl => ?_,
        by rw [h8, c6], h7.trans (by simp), h9.trans (by simp)⟩
      rw [h4]
      exact c5 r hr hl
    · exact Store.erasePecks_pushDir ..
    · rfl
    · rfl
  · intro p w hp v
    refine ⟨?_, fun b hb => ?_, fun q => rfl, fun h => Wear.level_stays hp h, fun q hq h => ⟨_, (v.least_region hp).1,
      (v.least_region hp).2, Wear.level_moves hp hq h⟩⟩
    · rw [Wear.erase_blockOf, Wear.erase_erases, if_pos rfl]
    · rw [Wear.erase_erases, if_neg (Ne.symm hb)]
  · intro p q w
    refine ⟨?_, ?_, fun r hp hq => ?_, fun b => Wear.swap_erases p q b w⟩
    · rw [Wear.swap_blockOf, if_pos rfl]
    · rw [Wear.swap_blockOf]
      by_cases hqp : q = p
      · rw [if_pos hqp, hqp]
      · rw [if_neg hqp, if_pos rfl]
    · rw [Wear.swap_blockOf, if_neg hp, if_neg hq]
  · intro p b c hb
    exact ⟨fun hs => Store.replaceBlock_spare hb hs, fun hs => Store.replaceBlock_none hb hs⟩

end Sys2Proof.Machine

/-!
Proofs about images: what the operations on them leave, and the download of an image.
-/

namespace Sys2Proof.Machine

/-! ## What the image operations leave (R464 to R476) -/

theorem State.img_putImg (r k : ImageRef) (i : Option Img) (s : State) :
    (s.putImg r i).img k = if r = k then i else s.img k := by
  cases r with
  | self => cases k <;> rfl
  | lib n =>
    cases k with
    | self => cases i <;> rfl
    | lib m =>
      have hlib : (ImageRef.lib n = ImageRef.lib m) ↔ n = m := by simp
      cases i with
      | none => simp only [hlib]; exact assoc_assocDel n m s.image.lib
      | some x => simp only [hlib]; exact assoc_assocSet n m x s.image.lib

@[simp] theorem State.putImg_image (r : ImageRef) (i : Option Img) (s : State) :
    (s.putImg r i).image.boot = s.image.boot ∧ (s.putImg r i).image.download = s.image.download ∧
      (s.putImg r i).image.verify = s.image.verify ∧ (s.putImg r i).image.stage = s.image.stage ∧
      (s.putImg r i).image.libStage = s.image.libStage := by
  cases r with
  | self => exact ⟨rfl, rfl, rfl, rfl, rfl⟩
  | lib n => cases i <;> exact ⟨rfl, rfl, rfl, rfl, rfl⟩

theorem State.stageOf_congr {s t : State} (h₁ : t.image.stage = s.image.stage) (h₂ : t.image.libStage = s.image.libStage)
    (r : ImageRef) : t.stageOf r = s.stageOf r := by
  cases r with
  | self => exact h₁
  | lib k => exact congrArg (fun l => (assoc k l).getD Stage.idle) h₂

theorem State.img_congr {s t : State} (h₁ : t.image.selfImg = s.image.selfImg) (h₂ : t.image.lib = s.image.lib)
    (r : ImageRef) : t.img r = s.img r := by
  cases r with
  | self => exact h₁
  | lib k => exact congrArg (assoc k) h₂

theorem State.img_of_image {s t : State} (h : t.image = s.image) (r : ImageRef) : t.img r = s.img r :=
  State.img_congr (congrArg Images.selfImg h) (congrArg Images.lib h) r

theorem State.stageOf_of_image {s t : State} (h : t.image = s.image) (r : ImageRef) : t.stageOf r = s.stageOf r :=
  State.stageOf_congr (congrArg Images.stage h) (congrArg Images.libStage h) r

theorem State.stageOf_setStage (r k : ImageRef) (st : Stage) (s : State) :
    (s.setStage r st).stageOf k = if r = k then st else s.stageOf k := by
  cases r with
  | self => cases k <;> rfl
  | lib n =>
    cases k with
    | self => rfl
    | lib m =>
      have hlib : (ImageRef.lib n = ImageRef.lib m) ↔ n = m := by simp
      have hst : (s.setStage (.lib n) st).stageOf (.lib m) =
          (assoc m (if st = .idle then assocDel n s.image.libStage else assocSet n st s.image.libStage)).getD .idle := rfl
      rw [hst]
      simp only [hlib]
      split
      next hidle =>
        rw [assoc_assocDel]
        by_cases hn : n = m
        · simp [hn, hidle]
        · simp [hn, State.stageOf]
      next =>
        rw [assoc_assocSet]
        by_cases hn : n = m
        · simp [hn]
        · simp [hn, State.stageOf]

@[simp] theorem State.setStage_image (r : ImageRef) (st : Stage) (s : State) :
    (s.setStage r st).image.boot = s.image.boot ∧ (s.setStage r st).image.download = s.image.download ∧
      (s.setStage r st).image.verify = s.image.verify ∧ (s.setStage r st).image.selfImg = s.image.selfImg ∧
      (s.setStage r st).image.lib = s.image.lib := by
  cases r <;> exact ⟨rfl, rfl, rfl, rfl, rfl⟩

theorem State.img_setStage (r k : ImageRef) (st : Stage) (s : State) : (s.setStage r st).img k = s.img k :=
  State.img_congr (s.setStage_image r st).2.2.2.1 (s.setStage_image r st).2.2.2.2 k

theorem State.stageNow_image (r : ImageRef) (st : Stage) (s : State) : (s.stageNow r st).image = (s.setStage r st).image := by
  simp [State.stageNow]

theorem State.keeps_onImage (f : Images → Images) (s : State) : s.keeps [.image] (s.onImage f) := by
  refine ⟨rfl, rfl, rfl, fun g hg => ?_⟩
  cases g with
  | image => simp at hg
  | _ => rfl

theorem State.keeps_stageNow (r : ImageRef) (st : Stage) (s : State) : s.keeps [.image, .store, .params] (s.stageNow r st) :=
  State.keeps_step (State.keeps_mono (State.keeps_onImage _ s) (by decide)) (State.keeps_audit ..)

/-- An image's line is judged at CUSTODIAN. -/
theorem imageRun_allowed {aud : State → Option Aud} {run : State → Option Aud → Done} {s : State}
    (ha : s.allowed .custodian = true) : imageRun aud run s = run s (aud s) := by
  unfold imageRun
  rw [needs_allowed ha]

theorem exec_imageVerb {h : Hdr} {run : State → Done} {s : State} (ht : s.takes h) (ha : (s.heard h).allowed .custodian = true) :
    s.imageVerb h run = .next (State.finish ((s.heard h).lineOrigin h) h .image (run (s.heard h))) := by
  refine congrArg Host.Outcome.next ((State.verb_takes .image false _ ht).trans ?_)
  rw [needs_allowed ha]

/-- A line of IMAGE that succeeds keeps the image that its work left, and sends its reply. -/
theorem State.finish_image {h : Hdr} (o : Origin) {w : State} {out : List OutLine} (a : Option Aud) (h0 : h.addr ≠ some 0)
    (ho : out ≠ []) : let t := State.finish o h .image (good w out none a)
    t.line.tx = out ∧ t.image = w.image ∧ t.pm = w.pm ∧ w.keeps [.line, .store, .params] t := by
  obtain ⟨x, hx, himg, hpm, hk⟩ : ∃ x : State, State.finish o h .image (good w out none a) = x.reply h out ∧
      x.image = w.image ∧ x.pm = w.pm ∧ w.keeps [.line, .store, .params] x := by
    cases a with
    | none => exact ⟨w, rfl, rfl, rfl, State.keeps_refl ..⟩
    | some a =>
      exact ⟨w.audit o a.action a.obj 0 a.old a.new, rfl, by simp, by simp, State.keeps_mono (State.keeps_audit ..) (by decide)⟩
  intro t
  rw [show t = x.reply h out from hx]
  exact ⟨State.reply_tx _ h0 ho, by simpa using himg, by simpa using hpm, State.keeps_step hk (State.keeps_reply ..)⟩

/-! ## Downloads (R467 to R469) -/

/-- A download opens into an empty image. -/
theorem State.openImage_spec (h : Hdr) (r : ImageRef) (len : Nat) (s : State) :
    (s.openImage h r len).stageOf r = .download ∧
      (∀ k, (s.openImage h r len).img k =
        if r = k then some { len := len, bytes := [], head := none, pecks := 0, ok := false } else s.img k) ∧
      (s.openImage h r len).image.download = some { what := r, times := [], last := s.now, stalled := false } ∧
      (s.openImage h r len).image.boot = s.image.boot ∧ s.keeps [.image, .store] (s.openImage h r len) := by
  let e := s.onStore (Store.erasePecks (s.slotPecks r))
  let v := (e.putImg r (some { len := len, bytes := [], head := none, pecks := 0, ok := false })).setStage r .download
  have himg (k : ImageRef) : (s.openImage h r len).img k = v.img k := State.img_congr rfl rfl k
  have hstage : (s.openImage h r len).stageOf r = v.stageOf r := State.stageOf_congr rfl rfl r
  refine ⟨?_, fun k => ?_, rfl, ?_, ?_⟩
  · rw [hstage, State.stageOf_setStage, if_pos rfl]
  · rw [himg, State.img_setStage, State.img_putImg]
    split
    · rfl
    · exact State.img_congr rfl rfl k
  · change v.image.boot = _
    rw [(State.setStage_image ..).1, (State.putImg_image ..).1]
    rfl
  · exact State.keeps_step (State.keeps_step (State.keeps_step (State.keeps_step (State.keeps_mono (State.keeps_onStore _ s)
      (by decide)) (State.keeps_onImage ..)) (State.keeps_onImage ..)) (State.keeps_onImage ..)) (State.keeps_onImage ..)

theorem exec_imageBeginSelf {h : Hdr} {len : Int} {s : State} (ht : s.takes h) (ha : (s.heard h).allowed .custodian = true)
    (hw : (s.heard h).noWait) (hl : inRange 4097 25165824 len = true) (hd : (s.heard h).image.download = none)
    (hst : (s.heard h).image.stage = .idle ∨ (s.heard h).image.stage = .verified) :
    let u := s.heard h
    exec (.imageBeginSelf h len) s = .next (State.finish (u.lineOrigin h) h .image
      (good (u.openImage h .self len.toNat) [.num 0] none (u.imgAud .self .download))) := by
  refine congrArg Host.Outcome.next ((State.change_takes _ .image false _ ⟨⟨ht.1, hw⟩, ht.2⟩).trans ?_)
  unfold runImageBeginSelf
  rw [imageRun_allowed ha, hl, hd]
  have hfree : ((s.heard h).image.stage == .idle || (s.heard h).image.stage == .verified) = true := by simpa using hst
  rw [hfree]
  rfl

theorem exec_imageBeginLib {h : Hdr} {slot len : Int} {s : State} (ht : s.takes h)
    (ha : (s.heard h).allowed .custodian = true) (hw : (s.heard h).noWait) (hs : slotOk slot = true)
    (hl : inRange 4097 16777216 len = true) (hd : (s.heard h).image.download = none)
    (hb : (s.heard h).imgBusy (.lib slot.toNat) = false) :
    let u := s.heard h
    exec (.imageBeginLib h slot len) s = .next (State.finish (u.lineOrigin h) h .image
      (good (u.openImage h (.lib slot.toNat) len.toNat) [.num 0] none (u.imgAud (.lib slot.toNat) .download))) := by
  refine congrArg Host.Outcome.next ((State.change_takes _ .image false _ ⟨⟨ht.1, hw⟩, ht.2⟩).trans ?_)
  unfold runImageBeginLib
  rw [imageRun_allowed ha, hs, hl, hd, hb]
  rfl

/-- The state in which the octets of a DATA line are taken. -/
def State.dataTaken (h : Hdr) (d : Download) (i : Img) (data : List Byte) (s : State) : State :=
  (((s.imageBy h).onImage (fun m => { m with download := some (d.taken s.now) }))).bytes .storeWr
    (imageWritten i.len i.bytes.length (i.bytes.length + data.length))

/-- What becomes of a DATA line's octets (R468). -/
def State.dataDone (d : Download) (x : Taken × Img) (s : State) : Done :=
  match x with
  | (.more, i) => good (s.putImg d.what (some i)) [.num i.bytes.length] none none
  | (.badPeck, i) => bad ((s.putImg d.what (some i)).count .cc "image.hash.bad") .hash 4 none none
  | (.badHead, _) =>
    bad (((s.putImg d.what none).onImage (fun m => { m with download := none })).stageNow d.what .idle) .format 4 none none
  | (.complete, i) =>
    good ((((s.putImg d.what (some i)).onImage (fun m => { m with download := none })).stageNow d.what .verifying).beginVerify d.what)
      [.num i.bytes.length] none none

section

variable {h : Hdr} {d : Download} {i : Img} {data : List Byte} {s : State}

theorem exec_imageData (ht : s.takes h) (ha : (s.heard h).allowed .custodian = true)
    (hd : (s.heard h).image.download = some d) (hi : (s.heard h).img d.what = some i) (hne : data ≠ [])
    (hmax : data.length ≤ 64) (hlen : i.bytes.length + data.length ≤ i.len) {o : Int} (ho : 0 ≤ o) :
    let u := s.heard h
    exec (.imageData h o data) s = .next (State.finish (u.lineOrigin h) h .image
      (if o ≠ i.bytes.length then bad u .order 3 none none else (u.dataTaken h d i data).dataDone d (i.take d.what data))) := by
  have hok : (data.isEmpty || decide (64 < data.length) || decide (i.len < i.bytes.length + data.length)) = false := by
    rw [decide_eq_false (Nat.not_lt.mpr hmax), decide_eq_false (Nat.not_lt.mpr hlen)]
    simpa using hne
  refine (exec_imageVerb ht ha).trans ?_
  simp only [hd, hi, hok, if_neg (Int.not_lt.mpr ho), Bool.false_eq_true, if_false]
  rfl

theorem exec_imageStall (hd : s.image.download = some d) (hr : s.running = true) (hs : d.stalled = false)
    (ht : d.last + d.patience ≤ s.now) (hi : s.img d.what = some i) : exec .imageStall s =
      .next ((((s.putImg d.what (some i.cutBack)).onImage (fun m =>
        { m with download := some { d with stalled := true, times := [] } })).count .cc "image.stall").queue
          (.imageStall i.cutBack.bytes.length)) := by
  have hgo : (!s.running || d.stalled || decide (s.now < d.last + d.patience)) = false := by
    rw [hr, hs, decide_eq_false (Nat.not_lt.mpr ht)]
    rfl
  refine congrArg Host.Outcome.next ?_
  simp only [hd, hgo, hi]
  rfl

end

theorem State.keeps_dataTaken (h : Hdr) (d : Download) (i : Img) (data : List Byte) (s : State) :
    s.keeps [.image, .tally] (s.dataTaken h d i data) :=
  State.keeps_step (State.keeps_step (State.keeps_mono (State.keeps_onImage _ s) (by decide)) (State.keeps_onImage ..))
    (State.keeps_bytes ..)

/-- A line of IMAGE that fails without a record keeps the image that its work left, and sends the error. -/
theorem State.finish_image_bad {h : Hdr} (o : Origin) (w : State) (e : Err) (tok : Nat) (h0 : h.addr ≠ some 0) :
    let t := State.finish o h .image (bad w e tok none none)
    t.line.tx = [.err e] ∧ t.image = w.image ∧ w.keeps [.line] t := by
  intro t
  rw [show t = w.refuse h .image e tok none from State.finish_bad _ _ _ _ _ _ _ h0]
  exact ⟨State.refuse_tx _ _ _ _ _ h0, by simp, State.keeps_refuse _ _ _ _ _ h0⟩

/-- Settles O27, line by line. -/
theorem imageDownload : Obligations.ImageDownload := by
  refine ⟨?_, ?_⟩
  · intro h s ht u ha
    refine ⟨fun len hw hl hd hst => ⟨_, exec_imageBeginSelf ht ha hw hl hd hst, ?_⟩,
      fun slot len hw hs hl hd hb => ⟨_, exec_imageBeginLib ht ha hw hs hl hd hb, ?_⟩,
      fun d i data hd hi hne hmax hlen => ⟨fun o ho hoff => ⟨_, exec_imageData ht ha hd hi hne hmax hlen ho, ?_⟩,
        _, exec_imageData ht ha hd hi hne hmax hlen (Int.natCast_nonneg _), ?_⟩⟩
    · obtain ⟨htx, himg, -, hk⟩ := State.finish_image (h := h) (u.lineOrigin h) (w := u.openImage h .self len.toNat)
        (u.imgAud .self .download) ht.2 (List.cons_ne_nil (OutLine.num 0) [])
      obtain ⟨hstage, hi, hdl, hb, hko⟩ := State.openImage_spec h .self len.toNat u
      refine ⟨htx, (congrArg Images.stage himg).trans hstage, (congrArg Images.selfImg himg).trans (hi .self),
        (congrArg Images.download himg).trans hdl, (congrArg Images.lib himg).trans rfl, (congrArg Images.boot himg).trans hb,
        State.keeps_trans (State.keeps_mono hko (by decide)) (State.keeps_mono hk (by decide))⟩
    · obtain ⟨htx, himg, -, hk⟩ := State.finish_image (h := h) (u.lineOrigin h)
        (w := u.openImage h (.lib slot.toNat) len.toNat) (u.imgAud (.lib slot.toNat) .download) ht.2
        (List.cons_ne_nil (OutLine.num 0) [])
      obtain ⟨hstage, hi, hdl, hb, hko⟩ := State.openImage_spec h (.lib slot.toNat) len.toNat u
      have hlib (k : ImageRef) := (State.img_of_image himg k).trans (hi k)
      refine ⟨htx, (State.stageOf_of_image himg _).trans hstage, (hlib _).trans (if_pos rfl),
        fun k hk => (hlib _).trans (if_neg (by simpa using Ne.symm hk)), (hlib .self).trans (if_neg (by simp)),
        (congrArg Images.boot himg).trans hb, State.keeps_trans (State.keeps_mono hko (by decide)) (State.keeps_mono hk (by decide))⟩
    · rw [if_pos hoff]
      obtain ⟨htx, -, hk⟩ := State.finish_image_bad (h := h) (u.lineOrigin h) u .order 3 ht.2
      exact ⟨htx, hk⟩
    · rw [if_neg (fun h => h rfl)]
      have hv := State.keeps_mono (u.keeps_dataTaken h d i data) (more := [.line, .image, .store, .params, .tally]) (by decide)
      have hboot : (u.dataTaken h d i data).image.boot = u.image.boot := rfl
      have hput (j : Option Img) : u.keeps [.line, .image, .store, .params, .tally] ((u.dataTaken h d i data).putImg d.what j) :=
        State.keeps_step hv (State.keeps_onImage ..)
      have hbp (j : Option Img) : ((u.dataTaken h d i data).putImg d.what j).image.boot = u.image.boot :=
        (State.putImg_image ..).1.trans hboot
      have himg (j : Option Img) : ((u.dataTaken h d i data).putImg d.what j).img d.what = j :=
        (State.img_putImg ..).trans (if_pos rfl)
      generalize i.take d.what data = x
      obtain ⟨y, j⟩ := x
      cases y with
      | more =>
        obtain ⟨htx, him, -, hk⟩ := State.finish_image (h := h) (u.lineOrigin h)
          (w := (u.dataTaken h d i data).putImg d.what (some j)) none ht.2 (List.cons_ne_nil (OutLine.num j.bytes.length) [])
        exact ⟨(congrArg Images.boot him).trans (hbp _), State.keeps_step (hput _) hk, htx,
          (State.img_of_image him _).trans (himg _), (congrArg Images.download him).trans (State.putImg_image ..).2.1⟩
      | badPeck =>
        obtain ⟨htx, him, hk⟩ := State.finish_image_bad (h := h) (u.lineOrigin h)
          (((u.dataTaken h d i data).putImg d.what (some j)).count .cc "image.hash.bad") .hash 4 ht.2
        have him' := him.trans (show _ = ((u.dataTaken h d i data).putImg d.what (some j)).image by simp)
        exact ⟨(congrArg Images.boot him').trans (hbp _), State.keeps_step (State.keeps_step (hput _) (State.keeps_count ..)) hk,
          htx, (State.img_of_image him' _).trans (himg _)⟩
      | badHead =>
        let w := ((u.dataTaken h d i data).putImg d.what none).onImage (fun m => { m with download := none })
        obtain ⟨htx, him, hk⟩ := State.finish_image_bad (h := h) (u.lineOrigin h) (w.stageNow d.what .idle) .format 4 ht.2
        have him' := him.trans (w.stageNow_image d.what .idle)
        refine ⟨(congrArg Images.boot him').trans ((State.setStage_image ..).1.trans (hbp none)),
          State.keeps_step (State.keeps_step (State.keeps_step (hput none) (State.keeps_onImage ..)) (State.keeps_stageNow ..)) hk,
          htx, (State.img_of_image him' _).trans ((State.img_setStage ..).trans ((State.img_congr rfl rfl _).trans (himg none))),
          (congrArg Images.download him').trans (State.setStage_image ..).2.1,
          (State.stageOf_of_image him' _).trans ((State.stageOf_setStage ..).trans (if_pos rfl))⟩
      | complete =>
        let w := ((u.dataTaken h d i data).putImg d.what (some j)).onImage (fun m => { m with download := none })
        obtain ⟨htx, him, -, hk⟩ := State.finish_image (h := h) (u.lineOrigin h)
          (w := (w.stageNow d.what .verifying).beginVerify d.what) none ht.2 (List.cons_ne_nil (OutLine.num j.bytes.length) [])
        have him' := w.stageNow_image d.what .verifying
        refine ⟨(congrArg Images.boot him).trans ((congrArg Images.boot him').trans
            ((State.setStage_image ..).1.trans (hbp _))),
          State.keeps_step (State.keeps_step (State.keeps_step (State.keeps_step (hput _) (State.keeps_onImage ..))
            (State.keeps_stageNow ..)) (State.keeps_onImage ..)) hk, htx, ?_, ?_, congrArg Images.verify him, ?_⟩
        · exact (State.img_of_image him _).trans ((State.img_congr rfl rfl _).trans ((State.img_of_image him' _).trans
            ((State.img_setStage ..).trans ((State.img_congr rfl rfl _).trans (himg _)))))
        · exact (congrArg Images.download him).trans ((congrArg Images.download him').trans (State.setStage_image ..).2.1)
        · exact (State.stageOf_of_image him _).trans ((State.stageOf_congr rfl rfl _).trans ((State.stageOf_of_image him' _).trans
            ((State.stageOf_setStage ..).trans (if_pos rfl))))
  · intro d i s hd hr hs ht hi
    let v := (s.putImg d.what (some i.cutBack)).onImage (fun m => { m with download := some { d with stalled := true, times := [] } })
    have him : ((v.count .cc "image.stall").queue (.imageStall i.cutBack.bytes.length)).image = v.image := by simp
    refine ⟨_, exec_imageStall hd hr hs ht hi, ?_, congrArg Images.download him, ?_⟩
    · exact (State.img_of_image him _).trans ((State.img_congr rfl rfl _).trans ((State.img_putImg ..).trans (if_pos rfl)))
    · exact State.keeps_step (State.keeps_step (State.keeps_step (State.keeps_mono (State.keeps_onImage _ s) (by decide))
        (State.keeps_onImage ..)) (State.keeps_count ..)) (State.keeps_queue ..)

end Sys2Proof.Machine

/-!
Proofs about the reports of IMAGE and about verification.
-/

namespace Sys2Proof.Machine

/-! ## Reports and verification (R467, R470) -/

theorem mem_insertBy {α : Type} (key : α → Nat) (x y : α) (l : List α) : y ∈ insertBy key x l ↔ y = x ∨ y ∈ l := by
  induction l with
  | nil => simp [insertBy]
  | cons z zs ih =>
    unfold insertBy
    split
    · simp
    · simp only [List.mem_cons, ih]
      tauto

/-- Sorting by insertion keeps the elements. -/
theorem mem_foldl_insertBy {α : Type} (key : α → Nat) (y : α) (l acc : List α) :
    y ∈ l.foldl (fun l x => insertBy key x l) acc ↔ y ∈ l ∨ y ∈ acc := by
  induction l generalizing acc with
  | nil => simp
  | cons x xs ih =>
    rw [List.foldl_cons, ih, mem_insertBy, List.mem_cons]
    tauto

/-- The library slots that hold an image, by slot (R467). -/
def State.imageLines (s : State) : List OutLine :=
  (s.image.lib.foldl (fun l x => insertBy (fun y => y.1) x l) []).filterMap
    (fun x => x.2.head.map (fun hd => OutLine.imageSlot x.1 hd.ver hd.target hd.digest x.2.ok))

theorem State.mem_imageLines (s : State) (x : OutLine) : x ∈ s.imageLines ↔
    ∃ k i hd, (k, i) ∈ s.image.lib ∧ i.head = some hd ∧ x = .imageSlot k hd.ver hd.target hd.digest i.ok := by
  simp only [State.imageLines, List.mem_filterMap, mem_foldl_insertBy, List.not_mem_nil, or_false, Option.map_eq_some_iff,
    Prod.exists]
  constructor
  · rintro ⟨k, i, hin, hd, hhd, rfl⟩
    exact ⟨k, i, hd, hin, hhd, rfl⟩
  · rintro ⟨k, i, hd, hin, hhd, rfl⟩
    exact ⟨k, i, hin, hd, hhd, rfl⟩

/-- The version that a status reports: of the running image, or of the one in the slot. -/
def State.statusVer (r : ImageRef) (s : State) : Nat × Nat × Nat :=
  match r with
  | .self => s.image.activeVer
  | .lib _ => (((s.img r).bind Img.head).map ImgHead.ver).getD (0, 0, 0)

section

variable {h : Hdr} {lib : Option Int} {i : Img} {s : State}

theorem exec_imageStatus (ht : s.takes h) (ha : (s.heard h).allowed .custodian = true) (hr : refOk lib = true) :
    let u := s.heard h
    let r := refOf lib
    exec (.imageStatus h lib) s = .next (u.reply h [.imageStatus (u.stageOf r)
      (((u.img r).map (fun i => i.bytes.length)).getD 0) (((u.img r).map Img.pecks).getD 0)
      ((((u.img r).bind Img.head).map ImgHead.pecks).getD 0) u.image.boot.activeB (u.statusVer r) u.image.boot.boots]) := by
  refine (exec_imageVerb ht ha).trans ?_
  rw [hr]
  rfl

theorem exec_imageList (ht : s.takes h) (ha : (s.heard h).allowed .custodian = true) :
    exec (.imageList h) s = .next ((s.heard h).reply h ((s.heard h).imageLines ++ [.dot])) :=
  exec_imageVerb ht ha

theorem exec_imageVerify (ht : s.takes h) (ha : (s.heard h).allowed .custodian = true) (hw : (s.heard h).noWait)
    (hr : refOk lib = true) (hi : (s.heard h).img (refOf lib) = some i) (hh : i.head ≠ none) (hlen : i.bytes.length = i.len)
    (hv : (s.heard h).image.verify = none) (hb : (s.heard h).imgBusy (refOf lib) = false)
    (hst : (s.heard h).stageOf (refOf lib) ≠ .trial) :
    let u := s.heard h
    exec (.imageVerify h lib) s = .next (State.finish (u.lineOrigin h) h .image
      (good (((u.setStage (refOf lib) .verifying).beginVerify (refOf lib)).imageBy h) [.bare] none
        (u.imgAud (refOf lib) .verifying))) := by
  refine congrArg Host.Outcome.next ((State.change_takes _ .image false _ ⟨⟨ht.1, hw⟩, ht.2⟩).trans ?_)
  have hgo : (i.head.isNone || decide (i.bytes.length ≠ i.len) || (s.heard h).image.verify.isSome ||
      (s.heard h).imgBusy (refOf lib) || ((s.heard h).stageOf (refOf lib) == .trial)) = false := by
    obtain ⟨x, hx⟩ := Option.ne_none_iff_exists'.mp hh
    simp [hx, hlen, hv, hb, hst]
  unfold runImageVerify
  rw [imageRun_allowed ha]
  simp only [hr, hi, hgo]
  rfl

/-- The image as its verification leaves it. -/
def State.verified (r : ImageRef) (i : Img) (s : State) : State :=
  let v := (s.onImage (fun m => { m with verify := none })).bytes .storeRd ((i.bytes.length + 2047) / 2048 * 2048)
  match s.verifyFault r i with
  | none => ((v.putImg r (some { i with ok := true })).stageNow r .verified).queue (.image .verified r)
  | some e => ((v.putImg r (some { i with ok := false })).stageNow r .idle).queue (.image (.failed e) r)

theorem exec_imageVerifyDone {r : ImageRef} (hv : s.image.verify = some r) (hc : s.ccOn = true) (hi : s.img r = some i) :
    exec .imageVerifyDone s = .next (s.verified r i) := by
  have hi' : (s.onImage (fun m => { m with verify := none })).img r = some i := (State.img_congr rfl rfl r).trans hi
  refine congrArg Host.Outcome.next ?_
  simp only [hv, hc, hi']
  rfl

end

/-- The end of a verification with its result (R470). -/
theorem State.verified_image (v : State) (r : ImageRef) (i : Img) (st : Stage) (e : Ev) :
    let t := ((v.putImg r (some i)).stageNow r st).queue e
    t.image.verify = v.image.verify ∧ t.stageOf r = st ∧ t.img r = some i ∧
      v.keeps [.line, .image, .store, .params, .mon, .pm, .tally] t := by
  intro t
  have him : t.image = ((v.putImg r (some i)).setStage r st).image :=
    (show t.image = ((v.putImg r (some i)).stageNow r st).image by simp [t]).trans (State.stageNow_image ..)
  refine ⟨?_, ?_, ?_, ?_⟩
  · exact (congrArg Images.verify him).trans ((State.setStage_image ..).2.2.1.trans (State.putImg_image ..).2.2.1)
  · exact (State.stageOf_of_image him _).trans ((State.stageOf_setStage ..).trans (if_pos rfl))
  · exact (State.img_of_image him _).trans ((State.img_setStage ..).trans ((State.img_putImg ..).trans (if_pos rfl)))
  · exact State.keeps_step (State.keeps_step (State.keeps_mono (State.keeps_onImage _ v) (by decide))
      (State.keeps_stageNow ..)) (State.keeps_queue ..)

/-- Settles O28, line by line; the end of a verification by `State.verified_image`. -/
theorem imageVerification : Obligations.ImageVerification := by
  refine ⟨?_, ?_⟩
  · intro h s ht u ha
    refine ⟨?_, ⟨_, exec_imageList ht ha, u.mem_imageLines⟩, fun lib i hw hr hi hh hlen hv hb hst =>
        ⟨_, exec_imageVerify ht ha hw hr hi hh hlen hv hb hst, ?_⟩⟩
    · intro lib hr r
      refine ⟨u.statusVer r, _, _, exec_imageStatus ht ha hr, rfl, rfl, fun hs => ?_, fun k hk => ?_⟩
      · rw [hs]
        rfl
      · rw [hk]
        rfl
    · obtain ⟨htx, him, -, hk⟩ := State.finish_image (h := h) (u.lineOrigin h)
        (w := ((u.setStage (refOf lib) .verifying).beginVerify (refOf lib)).imageBy h) (u.imgAud (refOf lib) .verifying) ht.2
        (List.cons_ne_nil OutLine.bare [])
      refine ⟨htx, congrArg Images.verify him, ?_, ?_, ?_⟩
      · exact (State.stageOf_of_image him _).trans ((State.stageOf_congr rfl rfl _).trans
          ((State.stageOf_setStage ..).trans (if_pos rfl)))
      · exact (State.img_of_image him _).trans ((State.img_congr rfl rfl _).trans ((State.img_setStage ..).trans hi))
      · exact State.keeps_trans (State.keeps_mono (State.keeps_trans (State.keeps_trans (State.keeps_onImage _ u)
          (State.keeps_onImage ..)) (State.keeps_onImage ..)) (by decide)) (State.keeps_mono hk (by decide))
  · intro r i s hv hc hi
    refine ⟨_, exec_imageVerifyDone hv hc hi, ?_⟩
    let v := (s.onImage (fun m => { m with verify := none })).bytes .storeRd ((i.bytes.length + 2047) / 2048 * 2048)
    have hkv : s.keeps [.line, .image, .store, .params, .mon, .pm, .tally] v :=
      State.keeps_step (State.keeps_mono (State.keeps_onImage _ s) (by decide)) (State.keeps_bytes ..)
    unfold State.verified
    cases s.verifyFault r i with
    | none =>
      obtain ⟨h1, h2, h3, h4⟩ := v.verified_image r { i with ok := true } .verified (.image .verified r)
      exact ⟨h1, ⟨h2, h3⟩, State.keeps_trans hkv h4⟩
    | some e =>
      obtain ⟨h1, h2, h3, h4⟩ := v.verified_image r { i with ok := false } .idle (.image (.failed e) r)
      exact ⟨h1, ⟨h2, h3⟩, State.keeps_trans hkv h4⟩

end Sys2Proof.Machine

/-!
Proofs about the boot selector, and about activation, confirmation and removal of an image.
-/

namespace Sys2Proof.Machine

/-! ## The boot selector (R471, R472) -/

/-- The record in force, written over the copy that holds the lower sequence, stays in force. -/
theorem Images.boot_putBoot_self (m : Images) : (m.putBoot (some m.boot)).boot = m.boot := by
  unfold Images.putBoot Images.firstA
  rcases ha : m.bootA with _ | a <;> rcases hc : m.bootB with _ | c
  · simp [Images.boot, ha, hc]
  · simp [Images.boot, ha, hc]
  · simp [Images.boot, ha, hc]
  · by_cases hac : a.seq ≤ c.seq
    · by_cases hlt : a.seq < c.seq
      · simp [Images.boot, ha, hc, hac, hlt]
      · simp [Images.boot, ha, hc, hac, hlt]
    · simp [Images.boot, ha, hc, hac, show ¬ a.seq < c.seq by omega]

/-- The write of the other copy changes no record in force (R472). -/
theorem Images.boot_bootSettle {m : Images} (hm : m.inStep) : m.bootSettle.boot = m.boot := by
  unfold Images.bootSettle
  split
  next t b hb =>
    obtain rfl : b = m.boot := hm (t, b) hb
    exact m.boot_putBoot_self
  next => rfl

/-- Once a newer record stands in one copy, the other is written next (R472). -/
theorem Images.putBoot_putBoot {m : Images} {b : BootSel} (h : m.boot.seq < b.seq) (x : Option BootSel) :
    ((m.putBoot (some b)).putBoot x).bootA = (if m.firstA then some b else x) ∧
      ((m.putBoot (some b)).putBoot x).bootB = (if m.firstA then x else some b) := by
  unfold Images.putBoot Images.firstA
  unfold Images.boot at h
  rcases ha : m.bootA with _ | a <;> rcases hc : m.bootB with _ | c <;> simp only [ha, hc] at h
  · simp
  · simp [Nat.not_le.mpr h]
  · simp [Nat.le_of_lt h]
  · by_cases hac : a.seq ≤ c.seq
    · have hcb : ¬ b.seq ≤ c.seq := by split at h <;> omega
      simp [hac, hcb]
    · have hab : a.seq ≤ b.seq := by split at h <;> omega
      simp [hac, hab]

/-- Which copy is written, and with what the other stands, says nothing but the two copies. -/
theorem Images.putBoot_copies {m n : Images} (hA : m.bootA = n.bootA) (hB : m.bootB = n.bootB) (x : Option BootSel) :
    (m.putBoot x).bootA = (n.putBoot x).bootA ∧ (m.putBoot x).bootB = (n.putBoot x).bootB := by
  have hfirst : m.firstA = n.firstA := by
    unfold Images.firstA
    rw [hA, hB]
  unfold Images.putBoot
  rw [hfirst]
  split
  · exact ⟨rfl, hB⟩
  · exact ⟨hA, rfl⟩

/-- The parts of IMAGES that a write of the boot selector leaves alone. -/
theorem State.writeBoot_kept (f : BootSel → BootSel) (s : State) : (s.writeBoot f).image.stage = s.image.stage ∧
    (s.writeBoot f).image.selfImg = s.image.selfImg ∧ (s.writeBoot f).image.confirmAt = s.image.confirmAt := by
  have hput (b : Option BootSel) (m : Images) : (m.putBoot b).stage = m.stage ∧ (m.putBoot b).selfImg = m.selfImg ∧
      (m.putBoot b).confirmAt = m.confirmAt := by
    unfold Images.putBoot
    split <;> exact ⟨rfl, rfl, rfl⟩
  have hsettle (m : Images) : m.bootSettle.stage = m.stage ∧ m.bootSettle.selfImg = m.selfImg ∧
      m.bootSettle.confirmAt = m.confirmAt := by
    unfold Images.bootSettle
    split
    · exact hput _ m
    · exact ⟨rfl, rfl, rfl⟩
  obtain ⟨h1, h2, h3⟩ := hput (some (f s.image.bootSettle.boot)) s.image.bootSettle
  obtain ⟨k1, k2, k3⟩ := hsettle s.image
  exact ⟨h1.trans k1, h2.trans k2, h3.trans k3⟩

/-- A record that is written is in force from then on (R472). -/
theorem State.writeBoot_boot {f : BootSel → BootSel} {s : State} (hin : s.image.inStep)
    (hf : (f s.image.boot).seq = s.image.boot.seq + 1) : (s.writeBoot f).image.boot = f s.image.boot := by
  have hb := Images.boot_bootSettle hin
  have hlt : s.image.bootSettle.boot.seq < (f s.image.bootSettle.boot).seq := by rw [hb, hf]; omega
  exact (Images.boot_putBoot hlt).trans (congrArg f hb)

theorem State.writeBoot_owed (f : BootSel → BootSel) {s : State} (hin : s.image.inStep) :
    (s.writeBoot f).image.bootOwed = some (s.now + us 490, f s.image.boot) :=
  congrArg (fun b => some (s.now + us 490, f b)) (Images.boot_bootSettle hin)

theorem Images.bootSettle_some {m : Images} {t : Ticks} {b : BootSel} (h : m.bootOwed = some (t, b)) :
    m.bootSettle = { m.putBoot (some b) with bootOwed := none } := by
  unfold Images.bootSettle
  rw [h]

theorem Images.bootCut_some {m : Images} {x : Ticks × BootSel} (h : m.bootOwed = some x) :
    m.bootCut = { m.putBoot none with bootOwed := none } := by
  unfold Images.bootCut
  rw [h]

theorem State.bootDue_some {s : State} {t : Ticks} {b : BootSel} (h : s.image.bootOwed = some (t, b)) (ht : t ≤ s.now) :
    s.bootDue = s.onImage Images.bootSettle := by
  unfold State.bootDue
  rw [h]
  exact if_pos ht

/-- What a write of the boot selector leaves in its two copies, at once, after 490 µs and at a loss of power (R472). -/
theorem State.writeBoot_copies {f : BootSel → BootSel} {s : State} (hin : s.image.inStep)
    (hf : (f s.image.boot).seq = s.image.boot.seq + 1) :
    let b := f s.image.boot
    let t := s.writeBoot f
    (t.image.bootA = some b ∨ t.image.bootB = some b) ∧
      (t.image.bootSettle.bootA = some b ∧ t.image.bootSettle.bootB = some b ∧ t.image.bootSettle.bootOwed = none) ∧
      (t.image.bootCut.boot = b ∧ t.image.bootCut.bootOwed = none ∧
        (t.image.bootCut.bootA = none ∨ t.image.bootCut.bootB = none)) := by
  intro b t
  have hb := Images.boot_bootSettle hin
  let m := s.image.bootSettle
  have hlt : m.boot.seq < b.seq := by
    have h : m.boot = s.image.boot := hb
    rw [h, hf]; omega
  have him : t.image = { m.putBoot (some b) with bootOwed := some (s.now + us 490, b) } := by
    change ({ m.putBoot (some (f m.boot)) with bootOwed := some (s.now + us 490, f m.boot) } : Images) = _
    rw [show f m.boot = b from congrArg f hb]
  have howed : t.image.bootOwed = some (s.now + us 490, b) := congrArg Images.bootOwed him
  have hcopies (x : Option BootSel) : (t.image.putBoot x).bootA = (if m.firstA then some b else x) ∧
      (t.image.putBoot x).bootB = (if m.firstA then x else some b) := by
    obtain ⟨hA, hB⟩ := Images.putBoot_copies (m := t.image) (n := m.putBoot (some b)) (congrArg Images.bootA him :)
      (congrArg Images.bootB him :) x
    obtain ⟨kA, kB⟩ := Images.putBoot_putBoot hlt x
    exact ⟨hA.trans kA, hB.trans kB⟩
  refine ⟨?_, ?_, ?_⟩
  · rw [congrArg Images.bootA him, congrArg Images.bootB him]
    unfold Images.putBoot
    split
    · exact .inl rfl
    · exact .inr rfl
  · rw [Images.bootSettle_some howed]
    obtain ⟨hA, hB⟩ := hcopies (some b)
    exact ⟨hA.trans (ite_self _), hB.trans (ite_self _), rfl⟩
  · rw [Images.bootCut_some howed]
    obtain ⟨hA, hB⟩ := hcopies none
    refine ⟨?_, rfl, ?_⟩
    · unfold Images.boot
      simp only [hA, hB]
      by_cases hfirst : m.firstA = true <;> simp [hfirst]
    · by_cases hfirst : m.firstA = true
      · exact .inr (hB.trans (if_pos hfirst))
      · exact .inl (hA.trans (if_neg hfirst))

/-! ## Activation, confirmation and removal (R467, R471, R475, R476) -/

section

variable {h : Hdr} {i : Img} {s : State}

theorem exec_imageActivate (ht : s.takesAtOnce h) (ha : (s.heard h).allowed .custodian = true)
    (hi : (s.heard h).image.selfImg = some i) (hok : i.ok = true) (hst : (s.heard h).image.stage = .verified)
    (htr : (s.heard h).image.boot.trial = false) (hlc : ∀ f ∈ (s.heard h).work.table, f.st ≠ .lastchance) :
    let u := s.heard h
    let v := (u.imageBy h).onImage (fun m => { m with stage := .trial })
    let w := v.writeBoot (fun b => { seq := b.seq + 1, activeB := !b.activeB, trial := true, prevOk := true, boots := 0,
                                     active := digestOf i.bytes, prev := b.active, floor := b.floor })
    exec (.imageActivate h) s = .next (State.finish (u.lineOrigin h) h .image
      (good (w.onPm (fun p => { p with resetAt := some (w.now + ms 1, .warm .activate) })) [.word "ACTIVATE"] none
        (u.imgAud .self .trial))) := by
  refine congrArg Host.Outcome.next ((State.change_takes _ .image false _ ht).trans ?_)
  have hnone : (s.heard h).work.table.any (fun f => f.st == .lastchance) = false := by
    rw [List.any_eq_false]
    intro f hf
    simpa using hlc f hf
  unfold runImageActivate
  rw [imageRun_allowed ha]
  simp only [hi, hst, hok, htr, hnone]
  rfl

theorem exec_imageConfirm (ht : s.takesAtOnce h) (ha : (s.heard h).allowed .custodian = true)
    (hst : (s.heard h).image.stage = .trial) :
    let u := s.heard h
    exec (.imageConfirm h) s = .next (State.finish (u.lineOrigin h) h .image
      (good (((u.imageBy h).onImage (fun m => { m with stage := .idle, confirmAt := none })).writeBoot (fun b =>
        { b with seq := b.seq + 1, trial := false, boots := 0, floor := max b.floor u.image.activeCtr }))
        [.word "CONFIRM"] none (u.imgAud .self .idle))) := by
  refine congrArg Host.Outcome.next ((State.change_takes _ .image false _ ht).trans ?_)
  unfold runImageConfirm
  rw [imageRun_allowed ha]
  simp only [hst]
  rfl

/-- The part as IMAGE ABORT leaves it. -/
def State.aborted (h : Hdr) (r : ImageRef) (s : State) : State :=
  let v := ((s.putImg r none).setStage r .idle).imageBy h
  v.onImage (fun m => { m with download := if v.image.download.isSome then none else m.download,
                               verify := if v.image.download.isSome then m.verify else none })

theorem exec_imageAbort {r : ImageRef} (ht : s.takesAtOnce h) (ha : (s.heard h).allowed .custodian = true)
    (hr : (s.heard h).abortRef = some r) :
    let u := s.heard h
    exec (.imageAbort h) s = .next (State.finish (u.lineOrigin h) h .image
      (good (u.aborted h r) [.word "ABORT"] none (u.imgAud r .idle))) := by
  refine congrArg Host.Outcome.next ((State.change_takes _ .image false _ ht).trans ?_)
  unfold runImageAbort
  rw [imageRun_allowed ha]
  simp only [hr]
  rfl

theorem exec_imageDropLib {slot : Int} (ht : s.takesAtOnce h) (ha : (s.heard h).allowed .custodian = true)
    (hs : slotOk slot = true) (hp : (s.heard h).pushUses slot.toNat = false) (hb : (s.heard h).imgBusy (.lib slot.toNat) = false)
    (hi : (s.heard h).img (.lib slot.toNat) ≠ none) :
    let u := s.heard h
    exec (.imageDropLib h slot) s = .next (State.finish (u.lineOrigin h) h .image
      (good (((u.putImg (.lib slot.toNat) none).setStage (.lib slot.toNat) .idle).imageBy h) [.word "DROP"] none
        (u.imgAud (.lib slot.toNat) .idle))) := by
  refine congrArg Host.Outcome.next ((State.change_takes _ .image false _ ht).trans ?_)
  obtain ⟨x, hx⟩ := Option.ne_none_iff_exists'.mp hi
  unfold runImageDropLib
  rw [imageRun_allowed ha]
  simp only [hs, hp, hb, hx]
  rfl

theorem exec_confirmTimerExpiry {t0 : Ticks} (hc : s.image.confirmAt = some t0) (hr : s.running = true)
    (hp : s.pm.power ≠ .shelf) (ht : t0 ≤ s.now) : exec .confirmTimerExpiry s = .next (s.warmEdge .trial) := by
  have hrun : s.pm.run = .running := by simpa [State.running] using hr
  have hon : s.cellarOn = true := by simp [State.cellarOn, hrun, hp]
  refine congrArg Host.Outcome.next ?_
  simp only [hc]
  rw [if_pos (by rw [hon, hr, decide_eq_true ht]; rfl)]

end

/-- An image that is taken out of its slot. -/
theorem State.removed_image (r : ImageRef) (s : State) :
    let t := (s.putImg r none).setStage r .idle
    t.image.boot = s.image.boot ∧ t.image.download = s.image.download ∧ t.image.verify = s.image.verify ∧
      t.stageOf r = .idle ∧ (∀ k, t.img k = if r = k then none else s.img k) ∧ s.keeps [.image] t := by
  intro t
  refine ⟨?_, ?_, ?_, ?_, fun k => ?_, State.keeps_trans (State.keeps_onImage _ s) (State.keeps_onImage ..)⟩
  · exact (State.setStage_image ..).1.trans (State.putImg_image ..).1
  · exact (State.setStage_image ..).2.1.trans (State.putImg_image ..).2.1
  · exact (State.setStage_image ..).2.2.1.trans (State.putImg_image ..).2.2.1
  · exact (State.stageOf_setStage ..).trans (if_pos rfl)
  · exact (State.img_setStage ..).trans (State.img_putImg ..)

/-- Settles O29, line by line; the boot selector by `State.writeBoot_boot` and `State.writeBoot_copies`. -/
theorem imageActivation : Obligations.ImageActivation := by
  refine ⟨?_, ?_, ?_⟩
  · intro h s ht hin u ha
    have hinu : u.image.inStep := by
      have hu : u.image = s.image := by simp [u, State.heard]
      exact hu ▸ hin
    refine ⟨fun i hi hok hst htr hlc => ⟨_, exec_imageActivate ht ha hi hok hst htr hlc, ?_⟩,
      fun hst => ⟨_, exec_imageConfirm ht ha hst, ?_⟩, fun r hr => ⟨_, exec_imageAbort ht ha hr, ?_⟩,
      fun slot hs hp hb hi => ⟨_, exec_imageDropLib ht ha hs hp hb hi, ?_⟩⟩
    · let f (b : BootSel) : BootSel := { seq := b.seq + 1, activeB := !b.activeB, trial := true, prevOk := true, boots := 0,
                                         active := digestOf i.bytes, prev := b.active, floor := b.floor }
      let v := (u.imageBy h).onImage (fun m => { m with stage := .trial })
      let w := v.writeBoot f
      have hb : w.image.boot = f u.image.boot := State.writeBoot_boot (s := v) hinu rfl
      obtain ⟨hstage, hself, -⟩ := v.writeBoot_kept f
      obtain ⟨htx, him, hpm, hk⟩ := State.finish_image (h := h) (u.lineOrigin h)
        (w := w.onPm (fun p => { p with resetAt := some (w.now + ms 1, .warm .activate) })) (u.imgAud .self .trial) ht.2
        (List.cons_ne_nil (OutLine.word "ACTIVATE") [])
      have hbt := (congrArg Images.boot him).trans hb
      refine ⟨htx, (congrArg Images.stage him).trans hstage, congrArg BootSel.trial hbt, congrArg BootSel.activeB hbt,
        congrArg BootSel.active hbt, congrArg BootSel.boots hbt, (congrArg BootSel.floor hbt :), congrArg Pm.resetAt hpm,
        (congrArg Images.selfImg him).trans (hself.trans hi), ?_⟩
      exact State.keeps_trans (State.keeps_mono (State.keeps_trans (State.keeps_onImage _ u) (State.keeps_trans
        (State.keeps_onImage ..) (State.keeps_onImage ..))) (by decide)) (State.keeps_step (State.keeps_mono
          (State.keeps_onPm _ w) (by decide)) hk)
    · let f (b : BootSel) : BootSel :=
        { b with seq := b.seq + 1, trial := false, boots := 0, floor := max b.floor u.image.activeCtr }
      let v := (u.imageBy h).onImage (fun m => { m with stage := .idle, confirmAt := none })
      have hb : (v.writeBoot f).image.boot = f u.image.boot := State.writeBoot_boot (s := v) hinu rfl
      obtain ⟨hstage, -, hconf⟩ := v.writeBoot_kept f
      obtain ⟨htx, him, -, hk⟩ := State.finish_image (h := h) (u.lineOrigin h) (w := v.writeBoot f) (u.imgAud .self .idle) ht.2
        (List.cons_ne_nil (OutLine.word "CONFIRM") [])
      have hbt := (congrArg Images.boot him).trans hb
      refine ⟨htx, (congrArg Images.stage him).trans hstage, congrArg BootSel.trial hbt, (congrArg Images.confirmAt him).trans hconf,
        (congrArg BootSel.floor hbt :), ?_⟩
      exact State.keeps_trans (State.keeps_mono (State.keeps_trans (State.keeps_onImage _ u) (State.keeps_trans
        (State.keeps_onImage ..) (State.keeps_onImage ..))) (by decide)) (State.keeps_mono hk (by decide))
    · obtain ⟨hb, hd, -, hst, himg, hkr⟩ := State.removed_image r u
      obtain ⟨htx, him, -, hk⟩ := State.finish_image (h := h) (u.lineOrigin h) (w := u.aborted h r) (u.imgAud r .idle) ht.2
        (List.cons_ne_nil (OutLine.word "ABORT") [])
      refine ⟨htx, ?_, ?_, ?_, ?_, ?_⟩
      · exact (State.img_of_image him r).trans ((State.img_congr rfl rfl r).trans ((himg r).trans (if_pos rfl)))
      · exact (State.stageOf_of_image him r).trans ((State.stageOf_congr rfl rfl r).trans hst)
      · rw [congrArg Images.download him]
        change (if ((u.putImg r none).setStage r .idle).image.download.isSome = true then none
          else ((u.putImg r none).setStage r .idle).image.download) = none
        cases ((u.putImg r none).setStage r .idle).image.download <;> rfl
      · exact (congrArg Images.boot him).trans hb
      · exact State.keeps_trans (State.keeps_mono (State.keeps_trans hkr (State.keeps_trans (State.keeps_onImage ..)
          (State.keeps_onImage ..))) (by decide)) (State.keeps_mono hk (by decide))
    · obtain ⟨hbt, -, -, hst, himg, hkr⟩ := State.removed_image (.lib slot.toNat) u
      obtain ⟨htx, him, -, hk⟩ := State.finish_image (h := h) (u.lineOrigin h)
        (w := ((u.putImg (.lib slot.toNat) none).setStage (.lib slot.toNat) .idle).imageBy h) (u.imgAud (.lib slot.toNat) .idle)
        ht.2 (List.cons_ne_nil (OutLine.word "DROP") [])
      have hlib (k : ImageRef) := (State.img_of_image him k).trans ((State.img_congr rfl rfl k).trans (himg k))
      refine ⟨htx, (State.stageOf_of_image him _).trans ((State.stageOf_congr rfl rfl _).trans hst),
        (hlib .self).trans (if_neg (by simp)), (congrArg Images.boot him).trans hbt,
        fun k hk => (hlib _).trans (if_neg (by simpa using Ne.symm hk)), (hlib _).trans (if_pos rfl), ?_⟩
      exact State.keeps_trans (State.keeps_mono (State.keeps_trans hkr (State.keeps_onImage ..)) (by decide))
        (State.keeps_mono hk (by decide))
  · intro t0 s hc hr hp ht
    exact exec_confirmTimerExpiry hc hr hp ht
  · intro f s hin hf b t
    obtain ⟨h1, h2, h3⟩ := State.writeBoot_copies hin hf
    have hboot : t.image.boot = b := State.writeBoot_boot hin hf
    have howed : t.image.bootOwed = some (s.now + us 490, b) := State.writeBoot_owed f hin
    refine ⟨hboot, howed, fun x hx => ?_, State.keeps_onImage .., h1, fun v hv hle => ?_, h3⟩
    · rw [howed] at hx
      cases hx
      exact hboot.symm
    · rw [State.bootDue_some (by rw [hv, howed]) hle]
      change v.image.bootSettle.bootA = _ ∧ v.image.bootSettle.bootB = _ ∧ v.image.bootSettle.bootOwed = _
      rw [hv]
      exact h2

end Sys2Proof.Machine

/-!
Proofs about pushing an image to an endpoint.
-/

namespace Sys2Proof.Machine

/-! ## PUSH flights (R479 to R485) -/

/-- A flight of a lower priority than 7 enters a table that has room, whatever its endpoint. -/
theorem State.newFlight_low {f : Flight} {s : State} (ht : s.work.table.length < 32) (hp : f.prio ≠ 7) :
    s.newFlight f = (.table s.work.nextFlight,
      s.onWork (fun w => { w with nextFlight := s.nextId, table := w.table ++ [s.numbered f] })) := by
  have hp' : (f.prio == 7) = false := beq_eq_false_iff_ne.mpr hp
  simp only [State.newFlight, ht, if_true, hp', Bool.false_and]
  rfl

section

variable {h : Hdr} {slot : Int} {hd : HandleArg} {p dl : Option Int} {i : Img} {e : Entry} {x : ImgHead} {s : State}

/-- The flight of a push (R480). -/
def State.pushEntry (hd : HandleArg) (slot : Int) (p dl : Option Int) (e : Entry) (x : ImgHead) (s : State) : Flight :=
  Flight.make hd.get .push (argOr 2 p).toNat false ((dl.map (fun d => s.slotNow + d.toNat)).getD (2 ^ 40 - 1)) 0 [] none
    (some (s.pushResume slot.toNat e.id x))

theorem exec_imagePush (ht : s.takes h) (ha : (s.heard h).allowed .custodian = true) (hs : slotOk slot = true)
    (hfit : hd.fits = true) (hp : inRange 0 6 (argOr 2 p) = true) (hdl : inRange 10 1000000 (argOr 10 dl) = true)
    (hfault : (s.heard h).sendFault hd.get (argOr 2 p).toNat = none) (hi : assoc slot.toNat (s.heard h).image.lib = some i)
    (he : (s.heard h).byHandle hd.get = some e) (hx : i.head = some x) (hok : i.ok = true)
    (hst : (s.heard h).stageOf (.lib slot.toNat) = .verified) (hm : e.model ≠ 0) (htm : x.target = e.model)
    (hpush : (s.heard h).hasPush hd.get = false) (hroom : (s.heard h).work.table.length < 32)
    (hleft : ((s.heard h).pushResume slot.toNat e.id x).complete = false) :
    let u := s.heard h
    exec (.imagePush h slot hd p dl) s = .next ((u.onWork (fun w => { w with
      nextFlight := u.nextId, table := w.table ++ [u.numbered (u.pushEntry hd slot p dl e x)] })).reply h
        [.flightId u.work.nextFlight]) := by
  intro u
  obtain ⟨hp0, hp6⟩ := inRange_iff.mp hp
  have hprio : (argOr 2 p).toNat ≠ 7 := by omega
  have hgo : (!i.ok || (s.heard h).stageOf (.lib slot.toNat) != .verified || decide (e.model = 0) ||
      decide (x.target ≠ e.model) || (s.heard h).hasPush hd.get) = false := by
    simp [hok, hst, hm, htm, hpush]
  refine (exec_imageVerb ht ha).trans ?_
  cases dl with
  | none =>
    have hnew := State.newFlight_low (f := u.pushEntry hd slot p none e x) hroom hprio
    simp only [u, State.pushEntry, Option.map_none, Option.getD_none] at hnew ⊢
    simp only [hs, hfit, hp, hdl, hfault, hi, he, hx, hgo, hnew, hleft]
    rfl
  | some d =>
    have hnew := State.newFlight_low (f := u.pushEntry hd slot p (some d) e x) hroom hprio
    simp only [u, State.pushEntry, Option.map_some, Option.getD_some] at hnew ⊢
    simp only [hs, hfit, hp, hdl, hfault, hi, he, hx, hgo, hnew, hleft]
    rfl

end

section

variable {cell ch : Nat} {c : Cell} {f : Flight} {p : PushSess} {i : Img} {s : State}

/-- What a PUSH cell does with the air it asked for (R481). -/
def State.pushTurn (f : Flight) (p : PushSess) (i : Img) (cell : Nat) (n : Fin 16) (rate ch : Nat) (path : Ticks)
    (x : AirTurn × State) : State :=
  match x with
  | (.go, s) => s.sendBlock f p i n rate ch (State.launch path)
  | (.busy, s) => s
  | (.denied, s) => s.cellUsed cell
  | (.lost, s) => ((s.cellUsed cell).onFlight f.id (fun g => { g with st := .air, lane := some n })).failAttempt f.id false

/-- A PUSH cell that may send its flight's next block (R480). -/
theorem exec_pushBlock (hc : s.pushCell cell = some (c, ch)) (hon : s.ccOn = true) (hb : s.txBarred = false)
    (hr : s.roundRuns = false) (hfit : s.blockFits (s.cellRate c.rate) = true) (hf : s.pushFlight c = some f)
    (hp : f.push = some p) (hi : s.pushImg p = some i) :
    let rate := s.cellRate c.rate
    let n : Fin 16 := Fin.ofNat 16 c.lane
    let path := s.blockPath c
    exec (.pushBlock cell) s = .next (
      if path ≠ 0 && s.coexOn (bandOf rate) then
        (if s.txFree && !s.anyPayload then s.sendBlock f p i n rate ch State.transmit else s)
      else State.pushTurn f p i cell n rate ch path (s.takeAir (bandOf rate) path)) := by
  refine congrArg Host.Outcome.next ?_
  have hbind : (f.push.bind (fun p => (s.pushImg p).map (fun i => (p, i)))) = some (p, i) := by simp [hp, hi]
  simp only [hc, hon, hb, hr, hfit, hf, hbind]
  rfl

end

/-- Settles O30: the flight that IMAGE PUSH enters, and the block that a PUSH cell sends. -/
theorem imagePush : Obligations.ImagePush := by
  refine ⟨?_, ?_⟩
  · intro h slot hd p dl i e x s ht u ha hs hfit hp hdl hfault hi he hx hok hst hm htm hpush hroom hleft
    refine ⟨_, u.numbered (u.pushEntry hd slot p dl e x),
      exec_imagePush ht ha hs hfit hp hdl hfault hi he hx hok hst hm htm hpush hroom hleft,
      State.reply_tx _ ht.2 (List.cons_ne_nil _ _), by rw [State.reply_work]; rfl, rfl, rfl, rfl, rfl, rfl, fun hn => ?_, fun d hd => ?_,
      State.keeps_step (State.keeps_mono (State.keeps_onWork _ u) (by decide)) (State.keeps_reply ..)⟩
    · subst hn
      rfl
    · subst hd
      rfl
  · intro cell ch c f p i s hc hon hb hr hfit hf hp hi rate path a
    have hex := exec_pushBlock hc hon hb hr hfit hf hp hi
    have hnow (h : path = 0 ∨ s.coexOn (bandOf rate) = false) : (decide (path ≠ 0) && s.coexOn (bandOf rate)) = false := by
      rcases h with h | h <;> simp [h]
    have hturn {y : AirTurn} (h : a.1 = y) : s.takeAir (bandOf rate) path = (y, a.2) := by rw [← h]
    refine ⟨fun h hgo => ?_, fun h hden => ?_, fun hpath hco hfree hpay => ?_⟩
    · rw [hex, if_neg (by rw [hnow h]; decide), hturn hgo]
      rfl
    · rw [hex, if_neg (by rw [hnow h]; decide), hturn hden]
      rfl
    · rw [hex, if_pos (by rw [hco]; simpa using hpath), if_pos (by rw [hfree, hpay]; rfl)]

end Sys2Proof.Machine

/-!
Proofs about what a wake event leaves of PMU, and about the descent of the power states.
-/

namespace Sys2Proof.Machine

/-! ## The power states under a wake event (R416, R423, R424) -/

variable (s : State)

/-- The part of PMU that no wake event moves: everything but an entry, a further wake event during an exit, the idle time
and, in a sleeping state, the exit. -/
def Pm.unroused (p : Pm) : Pm :=
  { p with entering := none, exiting := if p.power = .active then p.exiting else none, held := false, idleFrom := none }

@[simp] theorem State.wakeEvent_unroused : s.wakeEvent.pm.unroused = s.pm.unroused := by
  unfold State.wakeEvent
  split
  · rfl
  split
  · rfl
  split
  · rfl
  split
  · rfl
  · rfl
  · next h _ =>
    have hp : s.pm.power ≠ .active := h
    simp [Pm.unroused, hp]

@[simp] theorem State.pgAsk_unroused (g : Fin 4) : (s.pgAsk g).2.pm.unroused = s.pm.unroused := by
  unfold State.pgAsk
  split <;> simp

@[simp] theorem State.vauxAttempt_unroused : s.vauxAttempt.pm.unroused = s.pm.unroused := by
  unfold State.vauxAttempt
  dsimp only
  split <;> simp

@[simp] theorem State.vauxPolicy_unroused : s.vauxPolicy.pm.unroused = s.pm.unroused := by
  unfold State.vauxPolicy
  split <;> simp

@[simp] theorem State.queue_unroused (e : Ev) : (s.queue e).pm.unroused = s.pm.unroused := by
  simp [State.queue]

@[simp] theorem State.driveWake_unroused : s.driveWake.pm.unroused = s.pm.unroused := by
  unfold State.driveWake
  dsimp only
  split <;> simp

@[simp] theorem State.wmAct_unroused (n : Fin 8) : (s.wmAct n).pm.unroused = s.pm.unroused := by
  simp [State.wmAct]

@[simp] theorem State.wmClear_unroused (n : Fin 8) : (s.wmClear n).pm.unroused = s.pm.unroused := by
  unfold State.wmClear
  dsimp only
  split <;> simp

@[simp] theorem State.relatch_unroused (n : Fin 8) : (s.relatch n).pm.unroused = s.pm.unroused := by
  unfold State.relatch
  dsimp only
  split
  · simp
  · split <;> simp

theorem State.each_unroused {α : Type} {f : α → State → State} (hf : ∀ x s, (f x s).pm.unroused = s.pm.unroused) (l : List α) :
    (s.each l f).pm.unroused = s.pm.unroused := by
  induction l generalizing s with
  | nil => rfl
  | cons x l ih => exact (ih (f x s)).trans (hf x s)

@[simp] theorem State.wmPaOff_unroused : s.wmPaOff.pm.unroused = s.pm.unroused := by
  refine State.each_unroused s (fun n s => ?_) _
  dsimp only
  split <;> simp

@[simp] theorem State.paOff_unroused (band : Band) (ramp : Ticks) : (s.paOff band ramp).pm.unroused = s.pm.unroused := by
  cases band <;> simp [State.paOff]

@[simp] theorem State.rosterCheck_unroused : s.rosterCheck.pm.unroused = s.pm.unroused := by
  unfold State.rosterCheck
  split <;> simp

@[simp] theorem State.endFlight_unroused (id : Nat) (o : Outcome) : (s.endFlight id o).pm.unroused = s.pm.unroused := by
  unfold State.endFlight
  split
  · rfl
  · next f _ =>
    dsimp only
    simp only [State.rosterCheck_unroused, State.admitWaiting_frame, State.count_frame, State.queue_unroused, State.ledger_frame]
    (repeat' split) <;> simp

@[simp] theorem State.expire_unroused (id : Nat) (o : Outcome) : (s.expire id o).pm.unroused = s.pm.unroused := by
  unfold State.expire
  (repeat' split) <;> simp

@[simp] theorem State.markUnreach_unroused (i : Nat) : (s.markUnreach i).pm.unroused = s.pm.unroused := by
  unfold State.markUnreach
  dsimp only
  rw [State.each_unroused _ fun id s => s.expire_unroused id .unreach]
  simp

@[simp] theorem State.afterAttempt_unroused (id : Nat) : (s.afterAttempt id).pm.unroused = s.pm.unroused := by
  unfold State.afterAttempt
  dsimp only
  (repeat' split) <;> simp

@[simp] theorem State.failAttempt_unroused (id : Nat) (silence : Bool) : (s.failAttempt id silence).pm.unroused = s.pm.unroused := by
  unfold State.failAttempt
  split
  · rfl
  · dsimp only
    rw [State.afterAttempt_unroused]
    (repeat' split) <;> simp

@[simp] theorem State.burstCut_unroused (b : Burst) : (s.burstCut b).pm.unroused = s.pm.unroused := by
  unfold State.burstCut
  dsimp only
  split <;> simp

@[simp] theorem State.txLost_unroused (tx : Tx) : (s.txLost tx).pm.unroused = s.pm.unroused := by
  unfold State.txLost
  (repeat' split) <;> simp

@[simp] theorem State.cutTx_unroused : s.cutTx.pm.unroused = s.pm.unroused := by
  unfold State.cutTx
  split <;> simp

@[simp] theorem State.stopTx_unroused : s.stopTx.pm.unroused = s.pm.unroused := by
  unfold State.stopTx
  split <;> simp

/-- The items that fail a check move nothing of PMU but the residency counters (R432, R438). -/
theorem State.escalate_power (i : Item) :
    (s.escalate i).pm.power = s.pm.power ∧ (s.escalate i).pm.exiting = s.pm.exiting ∧ (s.escalate i).pm.run = s.pm.run := by
  cases i <;> simp only [State.escalate, State.keepLost] <;> (repeat' split) <;> simp

/-! ## The descent (R412 to R415, R422, R436) -/

/-- What a trigger brings into force, and PMU after it. -/
theorem State.keeps_fired {tr : Trigger} {s u : State} (hk : (s.fire tr).keeps [.pm] u) : s.keeps [.pm, .params] u :=
  State.keeps_trans (State.keeps_mono (State.keeps_fire tr s) (by decide)) (State.keeps_mono hk (by decide))

theorem State.keeps_beginEntry (p : Power) (d : Ticks) : s.keeps [.pm] (s.beginEntry p d) := State.keeps_onPm _ s

theorem State.keeps_enterPower (p : Power) : s.keeps [.pm] (s.enterPower p) := State.keeps_onPm _ s

theorem State.keeps_enterLarder : s.keeps [.pm, .params] s.enterLarder :=
  State.keeps_fired (State.keeps_beginEntry _ _ _)

/-- A command that begins an entry: its record and its reply leave the entry as it is. -/
theorem State.finish_entry {h : Hdr} (o : Origin) (v : Verb) {u w : State} {out : List OutLine} (obj : Option Nat) (a : Aud)
    (hk : u.keeps [.pm, .params] w) (ho : out ≠ []) :
    let t := State.finish o h v (good w out obj (some a))
    (h.addr ≠ some 0 → t.line.tx = out) ∧ t.pm = w.pm ∧ u.keeps [.line, .pm, .store, .params] t := by
  refine ⟨fun h0 => (State.finish_recorded o v obj a h0 ho).1, ?_, ?_⟩
  · rw [State.finish_good_some]; simp
  · rw [State.finish_good_some]
    exact State.keeps_step (State.keeps_step (State.keeps_mono hk (by decide)) (State.keeps_audit ..)) (State.keeps_reply ..)

section

variable {s}

theorem exec_idleToLoft {f : Ticks} (hs : s.steady = true) (hp : s.pm.power = .active) (hi : s.pm.idleFrom = some f)
    (hw : (s.fire .timerCompare).noWork = true) (hfl : 1 ≤ (s.fire .timerCompare).pnat Obj.pmFloor)
    (hd : f + ms ((s.fire .timerCompare).pnat Obj.idleLoft) ≤ s.now) :
    exec .idleToLoft s = .next (((s.fire .timerCompare).fire .loftEntry).enterPower .loft) := by
  have hf : (s.fire .timerCompare).steady = true := hs
  exact congrArg Host.Outcome.next (by simp [hs, hi, hf, hp, hw, hfl, hd])

theorem exec_loftToLarder {f : Ticks} (hs : s.steady = true) (hp : s.pm.power = .loft) (hi : s.pm.loftFrom = some f)
    (hfl : 2 ≤ (s.fire .timerCompare).pnat Obj.pmFloor) (hd : f + ms ((s.fire .timerCompare).pnat Obj.idleLarder) ≤ s.now)
    (ho : (s.fire .timerCompare).larderOk = true) :
    exec .loftToLarder s = .next (s.fire .timerCompare).enterLarder := by
  have hf : (s.fire .timerCompare).steady = true := hs
  exact congrArg Host.Outcome.next (by simp [hs, hf, hi, hp, hfl, hd, ho])

/-- The way to CELLAR begins: entry steps from LOFT, an exit from LARDER (R412, R415). -/
def State.towardsCellar (s : State) : State :=
  match s.pm.power with
  | .loft => s.beginEntry .cellar cellarSteps
  | .larder => s.onPm (fun p => { p with exiting := some (.larder, s.now + exitTime .larder), thenCellar := true })
  | _ => s

theorem exec_cellarEntry (hs : s.steady = true) (hfl : 3 ≤ (s.fire .timerCompare).pnat Obj.pmFloor)
    (hd : s.pm.lineIdle + secs ((s.fire .timerCompare).pnat Obj.idleCellar) ≤ s.now)
    (ho : (s.fire .timerCompare).cellarOk = true) (hv : s.holdOver = true) :
    exec .cellarEntry s = .next (s.fire .timerCompare).towardsCellar := by
  have hf : (s.fire .timerCompare).steady = true := hs
  have hv' : (s.fire .timerCompare).holdOver = true := hv
  refine congrArg Host.Outcome.next ?_
  simp only [hs, if_true]
  rw [if_pos (by simp [hf, hfl, hd, ho, hv'])]
  rfl

theorem exec_doPmSleep_cellar {h : Hdr} (hj : s.judgesAtOnce h) (ha : (s.heard h).allowed .operator = true)
    (ho : (s.heard h).cellarOk = true) :
    exec (.doPmSleep h true) s = .next (State.finish ((s.heard h).lineOrigin h) h .do_
      (good ((s.heard h).beginEntry .cellar cellarSteps) [.word "CELLAR"] (some 540)
        (some { action := 4, obj := 540, old := .num 0, new := .num 3 }))) := by
  refine congrArg Host.Outcome.next ((State.change_judged _ .do_ true _ hj (fun _ => rfl)).trans ?_)
  rw [runDoPmSleep, needs_allowed ha, if_pos rfl, if_pos ho]
  rfl

theorem exec_doPmSleep_larder {h : Hdr} (hj : s.judgesAtOnce h) (ha : (s.heard h).allowed .operator = true)
    (ho : (s.heard h).larderOk = true) :
    exec (.doPmSleep h false) s = .next (State.finish ((s.heard h).lineOrigin h) h .do_
      (good (s.heard h).enterLarder [.word "LARDER"] (some 540)
        (some { action := 4, obj := 540, old := .num 0, new := .num 2 }))) := by
  refine congrArg Host.Outcome.next ((State.change_judged _ .do_ true _ hj (fun _ => rfl)).trans ?_)
  rw [runDoPmSleep, needs_allowed ha, if_neg (by decide), if_pos ho]
  rfl

theorem exec_doPmShelf {h : Hdr} (hj : s.judgesAtOnce h) (ha : (s.heard h).allowed .custodian = true)
    (hc : (s.heard h).pm.crystal = true) :
    exec (.doPmShelf h) s = .next (State.finish ((s.heard h).lineOrigin h) h .do_
      (good ((s.acting h).beginEntry .shelf cellarSteps) [.word "SHELF"] (some 541)
        (some { action := 4, obj := 541, old := .num 0, new := .hash (Config.freeHash (s.heard h).fresh) }))) := by
  refine congrArg Host.Outcome.next ((State.change_judged _ .do_ true _ hj (fun _ => rfl)).trans ?_)
  have hc' : (s.acting h).pm.crystal = true := hc
  rw [runDoPmShelf, actionRun_heard, needs_allowed ((State.acting_allowed h s .custodian).trans ha), if_pos hc']

end

/-- Settles O31: an entry or LOFT is asked for by what its condition reads once the timers' values are in force
(`State.keeps_fired`), and by command at once (`State.finish_entry`). -/
theorem powerDescends : Obligations.PowerDescends := by
  refine ⟨fun f s hs => ⟨fun hp hw hi hfl hd => ⟨_, exec_idleToLoft hs hp hi hw hfl hd, rfl, by simp [State.enterPower, powerIdx], rfl, ?_⟩,
      fun hp hi hfl hd ho => ⟨_, exec_loftToLarder hs hp hi hfl hd ho, rfl, rfl, ?_⟩,
      fun hfl hd ho hv => ⟨fun hp => ⟨_, exec_cellarEntry hs hfl hd ho hv, ?_⟩, fun hp => ⟨_, exec_cellarEntry hs hfl hd ho hv, ?_⟩⟩⟩,
    fun h s hj => ⟨fun ha ho => ⟨_, exec_doPmSleep_cellar hj ha ho, ?_⟩, fun ha ho => ⟨_, exec_doPmSleep_larder hj ha ho, ?_⟩,
      fun ha hc => ⟨_, exec_doPmShelf hj ha hc, ?_⟩⟩,
    fun h s hj => congrArg Host.Outcome.next (State.report_judged 542 .observer _ hj)⟩
  · exact State.keeps_trans (State.keeps_mono (State.keeps_fire _ s) (by decide)) (State.keeps_fired (State.keeps_enterPower _ _))
  · exact State.keeps_trans (State.keeps_mono (State.keeps_fire _ s) (by decide)) (State.keeps_enterLarder _)
  · have hp' : (s.fire .timerCompare).pm.power = .loft := hp
    rw [State.towardsCellar, hp']
    exact ⟨rfl, State.keeps_fired (State.keeps_beginEntry _ _ _)⟩
  · have hp' : (s.fire .timerCompare).pm.power = .larder := hp
    rw [State.towardsCellar, hp']
    exact ⟨rfl, rfl, State.keeps_fired (State.keeps_onPm _ _)⟩
  · obtain ⟨htx, hpm, hk⟩ := State.finish_entry ((s.heard h).lineOrigin h) .do_ (h := h) (some 540) _
      (State.keeps_mono ((s.heard h).keeps_beginEntry .cellar cellarSteps) (by decide)) (List.cons_ne_nil (.word "CELLAR") [])
    exact ⟨htx, congrArg Pm.entering hpm, hk⟩
  · obtain ⟨htx, hpm, hk⟩ := State.finish_entry ((s.heard h).lineOrigin h) .do_ (h := h) (some 540) _
      (s.heard h).keeps_enterLarder (List.cons_ne_nil (.word "LARDER") [])
    exact ⟨htx, congrArg (fun p : Pm => p.entering.map Prod.fst) hpm, hk⟩
  · obtain ⟨htx, hpm, hk⟩ := State.finish_entry ((s.heard h).lineOrigin h) .do_ (h := h) (some 541) _
      (State.keeps_mono ((s.acting h).keeps_beginEntry .shelf cellarSteps) (by decide)) (List.cons_ne_nil (.word "SHELF") [])
    exact ⟨htx, congrArg Pm.entering hpm, hk⟩

end Sys2Proof.Machine

/-!
Proofs about wake events and the exits from the power states.
-/

namespace Sys2Proof.Machine
variable {s : State}

/-! ## Wake events and exits (R416, R423 to R426) -/

/-- A wake event in a sleeping state starts an exit (R424). -/
theorem State.wakeEvent_asleep (hr : s.running = true) (hx : s.pm.exiting = none) (he : s.pm.entering = none)
    (ha : s.pm.power ≠ .active) (hs : s.pm.power ≠ .shelf) :
    s.wakeEvent = s.onPm (fun p => { p with exiting := some (s.pm.power, s.now + exitTime s.pm.power) }) := by
  simp [State.wakeEvent, hr, hx, he]

/-- A wake event cancels an entry (R416). -/
theorem State.wakeEvent_entering (hr : s.running = true) (hx : s.pm.exiting = none) (he : s.pm.entering.isSome = true) :
    s.wakeEvent = s.onPm (fun p => { p with entering := none, idleFrom := none }) := by
  simp [State.wakeEvent, hr, hx, he]

theorem WakeCause.wakes_power {c : WakeCause} {p : Power} (h : WakeCause.wakes c p = true) : p ≠ .active ∧ p ≠ .shelf := by
  cases p with
  | active => simp [WakeCause.wakes] at h
  | shelf => simp [WakeCause.wakes] at h
  | _ => simp

theorem exec_wakeEventExit {c : WakeCause} (hl : c = .line → s.lineHeeded = true)
    (hw : s.pm.entering.isSome = true ∨ WakeCause.wakes c s.pm.power = true) :
    exec (.wakeEventExit c) s = .next s.wakeEvent := by
  have hline : (c == .line && !s.lineHeeded) = false := by
    by_cases hc : c = .line
    · simp [hl hc]
    · simp [hc]
  refine congrArg Host.Outcome.next ?_
  rw [if_neg]
  rcases hw with hw | hw <;> simp [hline, hw]

/-- The part is in ACTIVE and on its way to no other state but by an entry. -/
def Pm.awake (p : Pm) : Prop := p.power = .active ∧ p.exiting = none

theorem Pm.awake_of_unroused {p q : Pm} (h : p.unroused = q.unroused) (hq : q.awake) : p.awake := by
  obtain ⟨hqp, hqx⟩ := hq
  have hp : p.power = .active := (congrArg Pm.power h :).trans hqp
  have hx : (if p.power = .active then p.exiting else none) = if q.power = .active then q.exiting else none :=
    (congrArg Pm.exiting h :)
  exact ⟨hp, by simpa [hp, hqp, hqx] using hx⟩

theorem State.cellarExit_awake (failed : List Item) (h : s.pm.awake) : (s.cellarExit failed).pm.awake := by
  have hesc (l : List Item) : ∀ u : State, u.pm.awake → (u.each l State.escalate).pm.awake := by
    induction l with
    | nil => exact fun _ hu => hu
    | cons i l ih =>
      refine fun u hu => ih (u.escalate i) ?_
      obtain ⟨hp, hx, -⟩ := u.escalate_power i
      exact ⟨hp.trans hu.1, hx.trans hu.2⟩
  have hl := hesc (cellarItems failed) s h
  unfold State.cellarExit
  dsimp only
  split
  · split
    · exact Pm.awake_of_unroused (State.queue_unroused _ _) (by simpa using hl)
    · simpa using hl
  · simpa using hl

/-- At the end of an exit the part is in ACTIVE, and no exit runs (R424). -/
theorem State.exitFrom_awake (failed : List Item) (p : Power) : (s.exitFrom failed p).pm.awake := by
  have ha : (s.enterPower .active).pm.awake := ⟨rfl, rfl⟩
  cases p with
  | larder =>
    dsimp only [State.exitFrom]
    split
    · exact Pm.awake_of_unroused (by simp [State.slotTaken, State.radioStandby]) ha
    · exact ha
  | cellar => exact State.cellarExit_awake failed (s := (s.enterPower .active).slotTaken) ha
  | _ => exact ha

theorem State.exitFrom_cellar_loaded (failed : List Item) : (s.exitFrom failed .cellar).roster.loaded = true := by
  unfold State.exitFrom State.radioStandby State.cellarExit
  dsimp only
  (repeat' split) <;> simp

theorem exec_exitComplete {failed : List Item} {p : Power} {t : Ticks} (hr : s.running = true)
    (hx : s.pm.exiting = some (p, t)) (ht : t ≤ s.now) (hon : s.pm.thenCellar = false ∨ s.pm.held = true) :
    exec (.exitComplete failed) s =
      .next ((s.exitFrom failed p).onPm (fun m => { m with held := false, thenCellar := false })) := by
  refine congrArg Host.Outcome.next ?_
  rcases hon with hon | hon <;> simp [hx, hr, ht, hon]

theorem exec_scheduleTimerWake (hr : s.running = true) (hx : s.pm.exiting = none) (he : s.pm.entering = none)
    (hp : WakeCause.wakes .schedule s.pm.power = true)
    (hsoon : s.slotSoon (wakeLead s.pm.power) = true ∨ s.burstSoon (wakeLead s.pm.power) = true) :
    exec .scheduleTimerWake s = .next s.wakeEvent := by
  refine congrArg Host.Outcome.next ?_
  rw [if_pos]
  simpa [State.steady, hr, hx, he, hp] using hsoon

/-- The end of the timer of `pm.cellar.period`, before its wake event (R426). -/
def State.cellarPeriodOver (s : State) : State :=
  let s := s.onPm (fun p => { p with cellarAt := none })
  if s.net.st == .member || s.net.st == .holdover then
    s.onNet (fun n => { n with holdCellar := some (s.now + 2 * s.l0 * s.slotTicks) })
  else s

theorem exec_cellarPeriodWake {t : Ticks} (hr : s.running = true) (hc : s.pm.cellarAt = some t) (hp : s.pm.power = .cellar)
    (ht : t ≤ s.now) : exec .cellarPeriodWake s = .next s.cellarPeriodOver.wakeEvent := by
  refine congrArg Host.Outcome.next ?_
  simp only [hc]
  rw [if_pos (by simp [hr, hp, ht])]
  rfl

theorem exec_backgroundReload (hc : s.ccOn = true) (hl : s.pm.reload ≠ []) (hb : s.rx.buf = []) :
    exec .backgroundReload s =
      .next ((s.onRoster (fun r => { r with loaded := true })).onPm (fun p => { p with reload := [] })) := by
  refine congrArg Host.Outcome.next ?_
  rw [if_pos (by simp [hc, hl])]
  simp [hb, State.drainBuf]

theorem State.keeps_onNet (f : Net → Net) (s : State) : s.keeps [.net] (s.onNet f) := by
  refine ⟨rfl, rfl, rfl, fun g hg => ?_⟩
  cases g with
  | net => simp at hg
  | _ => rfl

theorem State.cellarPeriodOver_pm (s : State) : s.cellarPeriodOver.pm = { s.pm with cellarAt := none } := by
  unfold State.cellarPeriodOver
  dsimp only
  split <;> rfl

theorem State.keeps_cellarPeriodOver (s : State) : s.keeps [.pm, .net] s.cellarPeriodOver := by
  have hp : s.keeps [.pm, .net] (s.onPm (fun p => { p with cellarAt := none })) :=
    State.keeps_mono (State.keeps_onPm _ s) (by decide)
  unfold State.cellarPeriodOver
  dsimp only
  split
  · exact State.keeps_step hp (State.keeps_onNet _ _)
  · exact hp

/-- Settles O32: what a wake event does in each state is said once (`State.wakeEvent_asleep`, `State.wakeEvent_entering`), and
each end of an exit leads to ACTIVE (`State.exitFrom_awake`). -/
theorem wakingUp : Obligations.WakingUp := by
  intro s hr
  refine ⟨fun c hx he hw hl => ?_, fun c e hx he hl => ?_, fun failed p t0 hx ht hon => ?_, fun hx he hp hsoon => ?_,
    fun t0 hc hp ht hx he => ?_, fun hc hl hb => ⟨_, exec_backgroundReload hc hl hb, rfl, rfl, ?_⟩⟩
  · obtain ⟨ha, hs⟩ := WakeCause.wakes_power hw
    refine ⟨_, exec_wakeEventExit hl (.inr hw), ?_⟩
    rw [State.wakeEvent_asleep hr hx he ha hs]
    refine ⟨?_, rfl, State.keeps_onPm _ s⟩
    rw [State.onPm_pm]
    cases hp : s.pm.power with
    | active => exact absurd hp ha
    | shelf => exact absurd hp hs
    | loft => simp [exitTime, us]
    | _ => rfl
  · refine ⟨_, exec_wakeEventExit hl (.inl (by simp [he])), ?_⟩
    rw [State.wakeEvent_entering hr hx (by simp [he])]
    exact ⟨rfl, hx, rfl, State.keeps_onPm _ s⟩
  · obtain ⟨hp, hnx⟩ := State.exitFrom_awake (s := s) failed p
    refine ⟨_, exec_exitComplete hr hx ht hon, hp, hnx, rfl, ?_⟩
    rintro rfl
    exact State.exitFrom_cellar_loaded failed
  · have hw : WakeCause.wakes .schedule s.pm.power = true := by rcases hp with hp | hp <;> rw [hp] <;> rfl
    obtain ⟨ha, hs⟩ := WakeCause.wakes_power hw
    refine ⟨_, exec_scheduleTimerWake hr hx he hw hsoon, ?_⟩
    rw [State.wakeEvent_asleep hr hx he ha hs]
    exact ⟨rfl, State.keeps_onPm _ s⟩
  · have hpm := s.cellarPeriodOver_pm
    have hnow : s.cellarPeriodOver.now = s.now := s.keeps_cellarPeriodOver.2.1
    refine ⟨_, exec_cellarPeriodWake hr hc hp ht, ?_⟩
    rw [State.wakeEvent_asleep (by simpa [State.running, hpm] using hr) (by simpa [hpm] using hx) (by simpa [hpm] using he)
      (by simp [hpm, hp]) (by simp [hpm, hp])]
    refine ⟨?_, ?_, fun hn => ?_, State.keeps_step s.keeps_cellarPeriodOver (State.keeps_onPm _ _)⟩
    · simp [hpm, hp, exitTime, hnow]
    · simp [hpm]
    · have hn' : (s.net.st == .member || s.net.st == .holdover) = true := by simpa using hn
      simp only [State.cellarPeriodOver, State.onPm_net, hn', if_true]
      rfl
  · exact State.keeps_trans (State.keeps_mono (State.keeps_onRoster _ s) (by decide)) (State.keeps_mono (State.keeps_onPm _ _) (by decide))


end Sys2Proof.Machine

/-!
Proofs about the reset edge: what asks for it, and what it leaves.
-/

namespace Sys2Proof.Machine

/-! ## The cache is emptied (R427, R455) -/

theorem takePart_part (aud b : Bool) (n : Nat) (l : List CRec) :
    (takePart aud n l).filter (fun r => r.isAudit == b) =
      if b = aud then (l.filter (fun r => r.isAudit == b)).drop n else l.filter (fun r => r.isAudit == b) := by
  induction l generalizing n with
  | nil => simp [takePart]
  | cons r rs ih =>
    cases n with
    | zero => simp [takePart]
    | succ n =>
      unfold takePart
      split
      · next ha =>
        rw [ih, List.filter_cons]
        by_cases hb : b = aud
        · simp [hb, ha]
        · simp [hb, ha, Ne.symm hb]
      · next ha =>
        rw [List.filter_cons, List.filter_cons, ih]
        by_cases hb : b = aud
        · simp [hb, ha]
        · simp [hb]

/-- Programming takes the first records of its partition out of the cache. -/
theorem State.programmed_part (aud b : Bool) (n : Nat) (s : State) :
    (s.programmed aud n).store.part b = if b = aud then (s.store.part b).drop n else s.store.part b := by
  have hcache : (s.programmed aud n).store.cache = takePart aud n s.store.cache := by
    obtain ⟨u, words, hk, hu⟩ := State.programmed_eq aud n s
    have hstore : u.store = s.store := hk.2.2.2 .store (by decide)
    rw [hu, State.onStore_store, hstore]
    obtain ⟨-, -, -, hbc, -⟩ := s.store.uncached_records aud n
    cases aud with
    | false =>
      obtain ⟨-, -, -, hc, -⟩ := (s.store.uncached false n).putLedger_records (((s.store.part false).take n).filterMap CRec.ledger?) words
      exact hc.trans hbc
    | true =>
      obtain ⟨k, -, -, -, hc, -⟩ := (s.store.uncached true n).putAudits_records (((s.store.part true).take n).filterMap CRec.audit?) words
      exact hc.trans hbc
  rw [Store.part, hcache]
  exact takePart_part aud b n s.store.cache

theorem State.programAll_part (aud b : Bool) (s : State) :
    (s.programAll aud).store.part b = if b = aud then [] else s.store.part b := by
  unfold State.programAll
  dsimp only
  rw [State.programmed_part, State.programmed_part]
  by_cases hb : b = aud
  · subst hb
    simp
  · simp [hb]

theorem State.flushCache_cache (s : State) : s.flushCache.store.cache = [] := by
  have hpart (b : Bool) : s.flushCache.store.part b = [] := by
    rw [State.flushCache, State.programAll_part, State.programAll_part]
    cases b <;> rfl
  refine List.eq_nil_iff_forall_not_mem.mpr fun r hr => ?_
  have hm : r ∈ s.flushCache.store.part r.isAudit := List.mem_filter.mpr ⟨hr, beq_self_eq_true _⟩
  rw [hpart] at hm
  exact List.not_mem_nil hm

/-! ## The reset edge (R32, R167, R427, R433) -/

variable {s : State}

/-- A running part asks for its reset edge only when none is asked for already (R427). -/
theorem State.askReset_resetAt (t : Ticks) (c : StartCause) (s : State) :
    (s.askReset t c).pm.resetAt = some (s.pm.resetAt.getD (t, c)) := by
  unfold State.askReset
  cases hr : s.pm.resetAt with
  | none => rfl
  | some x => simp [hr]

theorem State.keeps_askReset (t : Ticks) (c : StartCause) (s : State) : s.keeps [.pm] (s.askReset t c) := by
  unfold State.askReset
  split
  · exact State.keeps_refl _ s
  · exact State.keeps_onPm _ s

theorem State.audit_nextSeq (o : Origin) (action obj result : Nat) (old new : AVal) (s : State) :
    (s.audit o action obj result old new).store.nextSeq = s.store.nextSeq := by
  have hplace (r : CRec) (c : Store) : (c.place r).nextSeq = c.nextSeq := by
    unfold Store.place
    split <;> rfl
  have hone (o : Origin) (action obj result : Nat) (old new : AVal) (s : State) :
      (s.auditOne o action obj result old new).store.nextSeq = s.store.nextSeq := hplace _ _
  unfold State.audit
  rw [hone]
  split
  · exact hone ..
  · rfl

theorem exec_resetWarm {h : Hdr} (hj : s.judgesAtOnce h) (ha : (s.heard h).allowed .operator = true) :
    exec (.resetWarm h) s = .next (State.finish ((s.heard h).lineOrigin h) h .reset
      (good ((s.heard h).askReset ((s.heard h).now + ms 1) (.warm .warm)) [.word "WARM"] (some 772) (some (resetAud 772)))) := by
  refine congrArg Host.Outcome.next ((State.change_judged _ .reset true _ hj (fun _ => rfl)).trans ?_)
  rw [runResetWarm, needs_allowed ha]

/-- The closed wake records of a cold reset in the write cache (R161, R427). -/
def State.wakeSaved (s : State) : State := s.wakeLedger (s.wake.queue.filter (fun r => !r.isOpen))

theorem exec_resetCold {h : Hdr} (hj : s.judgesAtOnce h) (ha : (s.heard h).allowed .custodian = true) :
    exec (.resetCold h) s = .next (State.finish ((s.heard h).lineOrigin h) h .reset
      (good ((s.heard h).wakeSaved.askReset ((s.heard h).wakeSaved.now + ms 5) (.cold .cold)) [.word "COLD"] (some 773)
        (some (resetAud 773)))) := by
  refine congrArg Host.Outcome.next ((State.change_judged _ .reset true _ hj (fun _ => rfl)).trans ?_)
  rw [runResetCold, needs_allowed ha]
  rfl

@[simp] theorem State.wmAct_stood (n : Fin 8) (s : State) : (s.wmAct n).line.stood = s.line.stood := by
  simp [State.wmAct]

@[simp] theorem State.wmClear_stood (n : Fin 8) (s : State) : (s.wmClear n).line.stood = s.line.stood := by
  unfold State.wmClear
  dsimp only
  split <;> simp

@[simp] theorem State.relatch_stood (n : Fin 8) (s : State) : (s.relatch n).line.stood = s.line.stood := by
  unfold State.relatch
  dsimp only
  split
  · simp
  · split <;> simp

theorem State.each_stood {α : Type} {f : α → State → State} (hf : ∀ x s, (f x s).line.stood = s.line.stood) (l : List α)
    (s : State) : (s.each l f).line.stood = s.line.stood := by
  induction l generalizing s with
  | nil => rfl
  | cons x l ih => exact (ih (f x s)).trans (hf x s)

@[simp] theorem State.paOff_stood (band : Band) (ramp : Ticks) (s : State) : (s.paOff band ramp).line.stood = s.line.stood := by
  have hwm (s : State) : s.wmPaOff.line.stood = s.line.stood := by
    refine State.each_stood (fun n s => ?_) _ s
    dsimp only
    split <;> simp
  cases band <;> simp [State.paOff, hwm]

/-- The wake receiver's memories and its queue. -/
def Wake.memory (w : Wake) : Mem × List WakeRec × Mem := (w.masks, w.queue, w.seen)

@[simp] theorem State.quiet_stood (s : State) : s.quiet.line.stood = s.line.stood := by
  unfold State.quiet
  dsimp only
  split <;> simp

@[simp] theorem State.quiet_memory (s : State) : s.quiet.wake.memory = s.wake.memory := by
  unfold State.quiet State.paOff
  (repeat' split) <;> simp [Wake.memory]

@[simp] theorem State.resetWork_memory (s : State) : s.resetWork.wake.memory = s.wake.memory := by
  unfold State.resetWork
  dsimp only
  rw [State.onWake_wake]
  split <;> rfl

/-- A WAKE SEEN reply that a reset cuts gives its bits back, and the memories stay (R167, R433). -/
theorem State.resetEdge_memory (s : State) : s.resetEdge.wake.memory = (s.seenBack s.onWire).wake.memory := by
  have h : s.resetEdge.wake.memory = (s.seenBack s.onWire).cutChanges.resetWork.resetBursts.quiet.wake.memory := by
    simp [State.resetEdge, Wake.memory]
  rw [h]
  simp

theorem State.resetEdge_address (s : State) : s.resetEdge.line.address = s.line.address := by
  have h : s.resetEdge.line.address = (s.seenBack s.onWire).cutChanges.resetWork.resetBursts.quiet.line.stood.address := by
    simp [State.resetEdge, Line.endSession, Line.stood]
  rw [h, State.quiet_stood]
  simp [Line.stood]

/-- LINE after a reset edge (R433). -/
theorem State.resetEdge_line (s : State) : s.resetEdge.line.level = .observer ∧ s.resetEdge.line.isOpen = false := by
  simp [State.resetEdge, Line.endSession]

/-- The radio and the lanes after a reset edge (R433). -/
theorem State.resetEdge_radio (s : State) : let t := s.resetEdge
    t.radio.st = .sleep ∧ t.radio.paOn = false ∧ t.radio.coexReq = false ∧ t.radio.tx = none ∧
      t.rx.lanes = Vector.replicate 16 Lane.reset ∧ t.rx.capture = none ∧ t.wake.low = false := by
  simp [State.resetEdge, State.quiet]

theorem State.resetEdge_boot (s : State) : s.resetEdge.image.boot = s.image.boot := by
  have hloss (s : State) : s.downloadLoss.image.boot = s.image.boot := by
    unfold State.downloadLoss
    split
    · rfl
    · split
      · exact (State.putImg_image ..).1
      · rfl
  simp [State.resetEdge, hloss]

/-- The memory of the wake receiver when WAKE SEEN has no reply on the wire. -/
theorem State.seenBack_memory (what : Option Sending) (s : State) :
    (s.seenBack what).wake.masks = s.wake.masks ∧ (s.seenBack what).wake.queue = s.wake.queue ∧
      ((∀ bits fold, what ≠ some (.seen bits fold)) → (s.seenBack what).wake.seen = s.wake.seen) ∧
      (∀ bits fold, what = some (.seen bits fold) → (s.seenBack what).wake.seen = Mem.orAll s.wake.seen bits) := by
  unfold State.seenBack
  split
  · next bits fold => 
    refine ⟨rfl, rfl, fun h => absurd rfl (h bits fold), ?_⟩
    rintro _ _ ⟨⟩
    rfl
  · next h => exact ⟨rfl, rfl, fun _ => rfl, fun bits fold hw => absurd hw (h bits fold)⟩

theorem exec_watchdog (hr : s.running = true) (hp : s.pm.power = .active) :
    exec .watchdog s = .next ((s.count .pmu "pm.watchdog").warmEdge .watchdog) :=
  congrArg Host.Outcome.next (by simp [hr, hp])

theorem exec_brownOut (hr : s.pm.run ≠ .unpowered) : exec .brownOut s = .next (s.coldEdge .brownout none) := by
  refine congrArg Host.Outcome.next ?_
  split
  · next h => exact absurd h hr
  · rfl

theorem exec_shelfWake (hr : s.running = true) (hp : s.pm.power = .shelf) (ha : s.pm.shelfArmed = true) :
    exec .shelfWake s = .next (s.coldEdge .shelf none) :=
  congrArg Host.Outcome.next (by simp [hr, hp, ha])

theorem exec_shelfDetectorArm {t : Ticks} (hf : s.pm.shelfFrom = some t) (hr : s.running = true) (hp : s.pm.power = .shelf)
    (ht : t + ms 10 ≤ s.now) : exec .shelfDetectorArm s = .next (s.onPm (fun p => { p with shelfArmed := true })) :=
  congrArg Host.Outcome.next (by simp [hf, hr, hp, ht])

theorem exec_sleepCrystalGood (hr : s.running = true) :
    exec .sleepCrystalGood s = .next (s.onPm (fun p => { p with crystal := true })) :=
  congrArg Host.Outcome.next (if_pos hr)

/-- What a cold reset that was asked for does before its edge (R427, R455). -/
def State.storeFlushed (s : State) : State := s.cutChanges.flushCache.onStore Store.writeSystem

theorem Store.writeSystem_cache (c : Store) : c.writeSystem.cache = c.cache := by
  unfold Store.writeSystem
  (repeat' split) <;> rfl

theorem State.storeFlushed_cache (s : State) : s.storeFlushed.store.cache = [] :=
  (Store.writeSystem_cache _).trans (State.flushCache_cache _)

/-- Settles O33: a command asks for its edge (`State.askReset_resetAt`), and the edge is the same for every cause
(`State.resetEdge_memory`, `State.resetEdge_radio`, `State.resetEdge_line`). -/
theorem resets : Obligations.Resets := by
  refine ⟨fun h s hj => ⟨fun ha => ?_, fun ha => ?_⟩, fun t0 s hr => ⟨fun c hx => ?_, fun c hx ht => ?_, fun c hx ht => ?_⟩,
    fun s => ⟨exec_watchdog, exec_brownOut, exec_shelfWake, fun t0 hf hr hp ht => ⟨_, exec_shelfDetectorArm hf hr hp ht, rfl, State.keeps_onPm _ s⟩,
      fun hr => ⟨_, exec_sleepCrystalGood hr, rfl, State.keeps_onPm _ s⟩, fun c => ?_⟩⟩
  · obtain ⟨htx, hpm, hk⟩ := State.finish_entry ((s.heard h).lineOrigin h) .reset (h := h) (some 772) (resetAud 772)
      (State.keeps_mono (State.keeps_askReset ((s.heard h).now + ms 1) (.warm .warm) (s.heard h)) (by decide))
      (List.cons_ne_nil (.word "WARM") [])
    exact ⟨_, exec_resetWarm hj ha, htx, (congrArg Pm.resetAt hpm).trans (State.askReset_resetAt ..), hk⟩
  · have hkw := State.keeps_wakeLedger ((s.heard h).wake.queue.filter (fun r => !r.isOpen)) (s.heard h)
    have hpw : (s.heard h).wakeSaved.pm = (s.heard h).pm := hkw.2.2.2 .pm (by decide)
    have hnw : (s.heard h).wakeSaved.now = (s.heard h).now := hkw.2.1
    refine ⟨_, exec_resetCold hj ha, fun h0 => (State.finish_recorded _ _ _ _ h0 (by simp)).1, ?_, ?_, ?_⟩
    · rw [State.finish_good_some]
      simp only [State.reply_frame, State.audit_frame]
      rw [State.askReset_resetAt, hpw, hnw]
    · rw [State.finish_good_some]
      simp only [State.reply_frame, State.audit_nextSeq]
      rw [(State.keeps_askReset _ _ _).2.2.2 .store (by decide)]
      exact State.wakeLedger_nextSeq _ _
    · rw [State.finish_good_some]
      exact State.keeps_step (State.keeps_step (State.keeps_step (State.keeps_mono hkw (by decide)) (State.keeps_askReset ..))
        (State.keeps_audit ..)) (State.keeps_reply ..)
  · simp only [State.resetDue, hx, hr]
  · refine ⟨s.storeFlushed, ?_, s.storeFlushed_cache, by simp [State.storeFlushed], by simp [State.storeFlushed]⟩
    simp only [State.resetDue, hx, hr, ht, if_true]
    rfl
  · simp only [State.resetDue, hx, hr, Nat.not_le.mpr ht, if_false]
  · intro t
    obtain ⟨hst, hpa, hreq, htx, hln, hcap, hlow⟩ := (s.onImage Images.bootSettle).resetEdge_radio
    obtain ⟨hlev, hop⟩ := (s.onImage Images.bootSettle).resetEdge_line
    have hmem := (s.onImage Images.bootSettle).resetEdge_memory
    obtain ⟨hmk, hq, hseen, hback⟩ := State.seenBack_memory s.onWire (s.onImage Images.bootSettle)
    refine ⟨rfl, hst, hpa, hreq, htx, hln, hcap, hlow, (congrArg Prod.fst hmem).trans hmk,
      (congrArg (fun m => m.2.1) hmem).trans hq, fun h => (congrArg (fun m => m.2.2) hmem).trans (hseen h),
      fun bits fold h => (congrArg (fun m => m.2.2) hmem).trans (hback bits fold h), hlev, hop,
      (s.onImage Images.bootSettle).resetEdge_address, by simp [t], by simp [t], fun hin => ?_⟩
    exact ((s.onImage Images.bootSettle).resetEdge_boot).trans (Images.boot_bootSettle hin)

end Sys2Proof.Machine

/-!
Proofs about what announcements, counts and records leave of what a start has set.
-/

namespace Sys2Proof.Machine

/-! ## What goes on beside a start (R429 to R432) -/

/-- Every parameter has its stored value in force and none pending. -/
def State.settled (s : State) : Prop := ∀ r ∈ s.params, r.now = r.stored ∧ r.pending = none

theorem State.fire_settled {s : State} (tr : Trigger) (h : s.settled) : (s.fire tr).settled := by
  intro r hr
  obtain ⟨x, hx, rfl⟩ := List.mem_map.mp hr
  obtain ⟨hn, hp⟩ := h x hx
  split
  · simp [PRow.settle, hn, hp]
  · exact ⟨hn, hp⟩

/-- From one state to another only what announcements, counts, records and the end of what was under way change has
changed: what a start has set stands. -/
structure State.Beside (s t : State) : Prop where
  line : t.line.stood = s.line.stood
  pm : t.pm.unroused = s.pm.unroused
  params : s.settled → t.settled
  store : t.store.ledger = s.store.ledger ∧ t.store.archive = s.store.archive
  wake : t.wake.memory = s.wake.memory
  rx : t.rx.buf = s.rx.buf
  roster : t.roster.netKey = s.roster.netKey
  image : t.image.lib = s.image.lib

namespace State.Beside

variable {s₀ s t : State}

theorem refl (s : State) : s.Beside s := ⟨rfl, rfl, id, ⟨rfl, rfl⟩, rfl, rfl, rfl, rfl⟩

theorem trans (h : s₀.Beside s) (h' : s.Beside t) : s₀.Beside t :=
  ⟨h'.line.trans h.line, h'.pm.trans h.pm, fun hp => h'.params (h.params hp),
    ⟨h'.store.1.trans h.store.1, h'.store.2.trans h.store.2⟩, h'.wake.trans h.wake, h'.rx.trans h.rx,
    h'.roster.trans h.roster, h'.image.trans h.image⟩

/-- A step that leaves all of these groups as they are. -/
theorem frame (h : s₀.Beside s) (hf : t.line = s.line ∧ t.pm = s.pm ∧ t.params = s.params ∧ t.store = s.store ∧ t.wake = s.wake ∧
    t.rx = s.rx ∧ t.roster = s.roster ∧ t.image = s.image) : s₀.Beside t := by
  obtain ⟨h1, h2, h3, h4, h5, h6, h7, h8⟩ := hf
  exact h.trans ⟨by rw [h1], by rw [h2], fun hp => by rw [State.settled, h3]; exact hp, by rw [h4]; exact ⟨rfl, rfl⟩, by rw [h5],
    by rw [h6], by rw [h7], by rw [h8]⟩

theorem ite {c : Prop} [Decidable c] (h : s₀.Beside s) (h' : s₀.Beside t) : s₀.Beside (if c then s else t) := by
  split <;> assumption

theorem each {α : Type} {l : List α} {f : α → State → State} (h : s₀.Beside s)
    (hf : ∀ {s} x, s₀.Beside s → s₀.Beside (f x s)) : s₀.Beside (s.each l f) := by
  induction l generalizing s with
  | nil => exact h
  | cons x l ih => exact ih (hf x h)

theorem fire (h : s₀.Beside s) (tr : Trigger) : s₀.Beside (s.fire tr) :=
  h.trans ⟨rfl, rfl, State.fire_settled tr, ⟨rfl, rfl⟩, rfl, rfl, rfl, rfl⟩

theorem count (h : s₀.Beside s) (b : Block) (name : String) : s₀.Beside (s.count b name) := h.frame (by simp)

theorem countN (h : s₀.Beside s) (b : Block) (name : String) (n : Nat) : s₀.Beside (s.countN b name n) := h.frame (by simp)

theorem onMon (h : s₀.Beside s) (f : Mons → Mons) : s₀.Beside (s.onMon f) := h.frame (by simp)

theorem onWork (h : s₀.Beside s) (f : Work → Work) : s₀.Beside (s.onWork f) := h.frame (by simp)

theorem onRes (h : s₀.Beside s) (id : ResId) (f : Res → Res) : s₀.Beside (s.onRes id f) := h.frame (by simp)

theorem onRx (h : s₀.Beside s) {f : Rx → Rx} (hf : ∀ x : Rx, (f x).buf = x.buf := by exact fun _ => rfl) : s₀.Beside (s.onRx f) :=
  h.trans ⟨rfl, rfl, id, ⟨rfl, rfl⟩, rfl, hf _, rfl, rfl⟩

theorem onRoster (h : s₀.Beside s) {f : Roster → Roster} (hf : ∀ x : Roster, (f x).netKey = x.netKey := by exact fun _ => rfl) :
    s₀.Beside (s.onRoster f) :=
  h.trans ⟨rfl, rfl, id, ⟨rfl, rfl⟩, rfl, rfl, hf _, rfl⟩

theorem onWake (h : s₀.Beside s) {f : Wake → Wake} (hf : ∀ x : Wake, (f x).memory = x.memory := by exact fun _ => rfl) : s₀.Beside (s.onWake f) :=
  h.trans ⟨rfl, rfl, id, ⟨rfl, rfl⟩, hf _, rfl, rfl, rfl⟩

theorem onImage (h : s₀.Beside s) {f : Images → Images} (hf : ∀ x : Images, (f x).lib = x.lib := by exact fun _ => rfl) : s₀.Beside (s.onImage f) :=
  h.trans ⟨rfl, rfl, id, ⟨rfl, rfl⟩, rfl, rfl, rfl, hf _⟩

theorem onStore (h : s₀.Beside s) {f : Store → Store} (hf : ∀ x : Store, (f x).ledger = x.ledger ∧ (f x).archive = x.archive := by
      exact fun _ => ⟨rfl, rfl⟩) :
    s₀.Beside (s.onStore f) :=
  h.trans ⟨rfl, rfl, id, hf _, rfl, rfl, rfl, rfl⟩

theorem onLine (h : s₀.Beside s) {f : Line → Line} (hf : ∀ x : Line, (f x).stood = x.stood := by exact fun _ => rfl) : s₀.Beside (s.onLine f) :=
  h.trans ⟨hf _, rfl, id, ⟨rfl, rfl⟩, rfl, rfl, rfl, rfl⟩

/-! ### Announcements and counts -/

theorem wakeEvent (h : s₀.Beside s) : s₀.Beside s.wakeEvent :=
  h.trans ⟨by simp, by simp, fun hp => by simpa [State.settled] using hp, by simp, by simp, by simp, by simp, by simp⟩

theorem pgAsk (h : s₀.Beside s) (g : Fin 4) : s₀.Beside (s.pgAsk g).2 := by
  unfold State.pgAsk
  split
  · exact (h.count .pg _).wakeEvent
  · exact h.frame (by simp)

theorem hostDeaf (h : s₀.Beside s) : s₀.Beside s.hostDeaf := by
  unfold State.hostDeaf
  split
  · exact h.onLine
  · exact h

theorem pushEv (h : s₀.Beside s) (e : Ev) : s₀.Beside (s.pushEv e) := h.onLine (by exact fun l => Line.push_stood _ l)

theorem vauxTripped (h : s₀.Beside s) (code : Nat) : s₀.Beside (s.vauxTripped code) := by
  have hoff := fun f => (((h.count .pg "vaux.trip").pushEv (.vauxTrip code)).onMon f).hostDeaf
  exact (((hoff _).onMon _).count ..).pushEv _ |>.ite ((hoff _).onMon _)

theorem vauxAttempt (h : s₀.Beside s) : s₀.Beside s.vauxAttempt := by
  have hp := ((h.fire .vauxOn).onMon (fun m => { m with retryAt := none })).pgAsk 2
  unfold State.vauxAttempt
  dsimp only
  split
  · exact hp.onMon _
  · exact hp.vauxTripped _

theorem vauxPolicy (h : s₀.Beside s) : s₀.Beside s.vauxPolicy := by
  unfold State.vauxPolicy
  split
  · exact (h.onMon _).vauxAttempt
  · exact h

theorem queue (h : s₀.Beside s) (e : Ev) : s₀.Beside (s.queue e) := (h.pushEv e).vauxPolicy

theorem queueAll (h : s₀.Beside s) (l : List Ev) : s₀.Beside (s.queueAll l) := h.each fun e h => h.queue e

theorem driveWake (h : s₀.Beside s) : s₀.Beside s.driveWake := by
  unfold State.driveWake
  dsimp only
  split
  · exact (h.onWake).vauxPolicy
  · exact h.onWake

/-! ### Records -/

theorem place (r : CRec) (c : Store) : (c.place r).ledger = c.ledger ∧ (c.place r).archive = c.archive := by
  unfold Store.place
  split <;> exact ⟨rfl, rfl⟩

theorem audit (h : s₀.Beside s) (o : Origin) (action obj result : Nat) (old new : AVal) :
    s₀.Beside (s.audit o action obj result old new) := by
  have hone {s : State} (h : s₀.Beside s) (o : Origin) (action obj result : Nat) (old new : AVal) :
      s₀.Beside (s.auditOne o action obj result old new) :=
    (h.fire .record).onStore (by exact fun c => place _ c)
  unfold State.audit
  dsimp only
  split
  · exact hone (hone (h.onStore) ..) ..
  · exact hone h ..

theorem ledgerAt (h : s₀.Beside s) (time : Stamp) (b : LBody) : s₀.Beside (s.ledgerAt time b) := by
  unfold State.ledgerAt
  refine (h.fire .record).onStore fun c => ?_
  suffices hl : ∀ (l : List LRec) (c : Store), (l.foldl (fun c r => c.place (.ledger r s.now)) c).ledger = c.ledger ∧
      (l.foldl (fun c r => c.place (.ledger r s.now)) c).archive = c.archive from hl _ c
  intro l
  induction l with
  | nil => exact fun _ => ⟨rfl, rfl⟩
  | cons r l ih =>
    intro c
    obtain ⟨h1, h2⟩ := ih (c.place (.ledger r s.now))
    obtain ⟨h3, h4⟩ := place (.ledger r s.now) c
    exact ⟨h1.trans h3, h2.trans h4⟩

theorem dirPut (h : s₀.Beside s) (id : Eui) (digest : BitVec 64) (seq : Nat) : s₀.Beside (s.dirPut id digest seq) := by
  have hs := h.onStore (f := fun c => { c with
    pushDir := ((id, digest, seq) :: s.store.pushDir.filter (fun x => !(x.1 == id && x.2.1 == digest))).take 131072,
    pushUsed := min 262144 (c.pushUsed + 1) }) fun _ => ⟨rfl, rfl⟩
  unfold State.dirPut
  dsimp only
  split
  · exact hs.count ..
  · exact hs

theorem pushRecord (h : s₀.Beside s) (f : Flight) (p : PushSess) (event : Nat) (o : Option Outcome) :
    s₀.Beside (s.pushRecord f p event o) := (h.ledgerAt ..).dirPut ..

/-! ### Lanes and flights -/

theorem onLane (h : s₀.Beside s) (n : Fin 16) (f : Lane → Lane) : s₀.Beside (s.onLane n f) := h.onRx

theorem release (h : s₀.Beside s) (n : Fin 16) : s₀.Beside (s.release n) := h.onLane ..

theorem releaseAll (h : s₀.Beside s) (p : Holder → Bool) : s₀.Beside (s.releaseAll p) := by
  refine h.each fun n h => ?_
  split
  · exact h.release n
  · exact h

theorem freeFlightLane (h : s₀.Beside s) (f : Flight) : s₀.Beside (s.freeFlightLane f) := by
  unfold State.freeFlightLane
  split
  · next n _ =>
    split
    · split
      · exact h.release n
      · exact h
    · exact h
  · exact h

theorem onEntry (h : s₀.Beside s) (i : Nat) (f : Entry → Entry) : s₀.Beside (s.onEntry i f) := by
  unfold State.onEntry
  split
  · exact h.onRoster
  · exact h

theorem onFlight (h : s₀.Beside s) (id : Nat) (f : Flight → Flight) : s₀.Beside (s.onFlight id f) := h.frame (by simp)

theorem toLastChance (h : s₀.Beside s) (id : Nat) : s₀.Beside (s.toLastChance id) := by
  unfold State.toLastChance
  split
  · exact h
  · next f _ =>
    have hf := h.onFlight id (fun f => { f with st := .lastchance, lcStep := 1, lane := none, awaiting := false })
    dsimp only
    split
    · exact hf
    · exact (hf.onWork _).count ..

theorem admitWaiting (h : s₀.Beside s) : s₀.Beside s.admitWaiting := by
  unfold State.admitWaiting
  split
  · exact h
  · split
    · exact h
    · dsimp only
      split
      · exact (h.onWork _).toLastChance _
      · exact h.onWork _

theorem rosterCheck (h : s₀.Beside s) : s₀.Beside s.rosterCheck := by
  unfold State.rosterCheck
  split
  · exact (h.onRoster).queue _
  · exact h

theorem holdGroups (h : s₀.Beside s) (gs : List Nat) (up : Bool) : s₀.Beside (s.holdGroups gs up) := h.frame (by simp)

theorem endFlight (h : s₀.Beside s) (id : Nat) (o : Outcome) : s₀.Beside (s.endFlight id o) := by
  have hw (f : Flight) : s₀.Beside (s.withoutFlight f o) := by
    have hl := (h.freeFlightLane f).onWork fun w =>
      { w with table := w.table.filter (fun g => g.id ≠ f.id), waiting := w.waiting.filter (fun g => g.id ≠ f.id) }
    have hg : s₀.Beside (((s.freeFlightLane f).onWork fun w => { w with
        table := w.table.filter (fun g => g.id ≠ f.id), waiting := w.waiting.filter (fun g => g.id ≠ f.id) }).endedGroups f o) := by
      unfold State.endedGroups
      split
      · split
        · exact ((hl.holdGroups ..).holdGroups ..).onEntry ..
        · exact hl
      · exact hl
    unfold State.withoutFlight State.endedPush
    split
    · exact hg.pushRecord ..
    · exact hg
  cases hf : s.flight id with
  | none =>
    unfold State.endFlight
    rw [hf]
    exact h
  | some f =>
    rw [State.endFlight_eq o hf]
    exact (((((hw f).ledgerAt ..).queue _).count ..).admitWaiting).rosterCheck

theorem lcNote (h : s₀.Beside s) (i attempt : Nat) (r : LcResult) : s₀.Beside (s.lcNote i attempt r) :=
  h.each fun _ h => (h.onFlight ..).queue _

theorem retire (h : s₀.Beside s) (o : Origin) (id : ResId) (cause : Nat) : s₀.Beside (s.retire o id cause) := by
  unfold State.retire
  split
  · exact h
  · exact (((h.onRes ..).audit ..).queue _).count ..

theorem writeMask (h : s₀.Beside s) (code : Nat) (m : Byte) : s₀.Beside (s.writeMask code m) := by
  unfold State.writeMask
  split
  · exact h
  · exact h.onWake

theorem retirePeer (h : s₀.Beside s) (o : Origin) (i cause : Nat) : s₀.Beside (s.retirePeer o i cause) := by
  unfold State.retirePeer
  split
  · exact h
  · split
    · exact h
    · split
      · exact h.onEntry ..
      · exact (((h.onEntry ..).writeMask ..).retire ..).each fun f h => h.endFlight ..

theorem owedRetire (h : s₀.Beside s) (i : Nat) : s₀.Beside (s.owedRetire i) := by
  unfold State.owedRetire
  split
  · split
    · exact h
    · exact h.retirePeer ..
  · exact h

theorem lcOver (h : s₀.Beside s) (i : Nat) : s₀.Beside (s.lcOver i) := ((h.onWork _).releaseAll _).owedRetire i

theorem lcFail (h : s₀.Beside s) (i : Nat) (r : LcResult) : s₀.Beside (s.lcFail i r) := by
  unfold State.lcFail
  split
  · exact h
  · next q _ =>
    have hc (u : State) (hu : s₀.Beside u) (l : List Flight) : s₀.Beside (u.each l (fun f s => s.endFlight f.id .cancel)) :=
      hu.each fun f h => h.endFlight ..
    dsimp only
    split
    · exact (hc _ (((h.releaseAll _).lcNote ..).onWork _) _).lcOver i
    · exact hc _ (((h.releaseAll _).lcNote ..).onWork _) _

theorem endCut (h : s₀.Beside s) : s₀.Beside s.endCut := by
  refine (h.each fun f h => ?_).each fun q h => h.lcFail ..
  dsimp only
  split
  · exact (h.endFlight ..).lcOver _
  · exact h.endFlight ..

/-! ### Images and resources -/

theorem stageNow (h : s₀.Beside s) (st : Stage) : s₀.Beside (s.stageNow .self st) :=
  (h.onImage).audit ..

theorem writeBoot (h : s₀.Beside s) (f : BootSel → BootSel) : s₀.Beside (s.writeBoot f) :=
  by
  have hput (b : Option BootSel) (m : Images) : (m.putBoot b).lib = m.lib := by
    unfold Images.putBoot
    split <;> rfl
  have hsettle (m : Images) : m.bootSettle.lib = m.lib := by
    unfold Images.bootSettle
    split
    · exact hput ..
    · rfl
  unfold State.writeBoot
  exact h.onImage fun m => (hput ..).trans (hsettle m)

theorem revertImage (h : s₀.Beside s) : s₀.Beside s.revertImage :=
  ((((h.onImage).writeBoot _).stageNow _).count ..).queue _

theorem loader (h : s₀.Beside s) (selfTest : Bool) : s₀.Beside (s.loader selfTest) := by
  have hb : s₀.Beside ((s.onImage (fun m => if s.image.boot.boots = 0 then m.swap else m)).writeBoot
      (fun b => { b with seq := b.seq + 1, boots := b.boots + 1 })) := by
    refine (h.onImage fun m => ?_).writeBoot _
    split <;> rfl
  unfold State.loader
  split
  · exact h
  split
  · exact h.revertImage
  · dsimp only
    split
    · exact hb.revertImage
    · exact (hb.fire .trialStart).onImage

theorem floorSaid (h : s₀.Beside s) (id : ResId) : s₀.Beside (s.floorSaid id) := (h.count ..).queue _

theorem restFor (h : s₀.Beside s) (id : ResId) (period : Ticks) : s₀.Beside (s.restFor id period) :=
  ((h.onRes ..).count ..).queue _

theorem retireOrRest (h : s₀.Beside s) (id : ResId) (cause : Nat) : s₀.Beside (s.retireOrRest id cause) := by
  unfold State.retireOrRest
  split
  · dsimp only
    split
    · exact h.floorSaid id
    · exact (h.floorSaid id).restFor ..
  · exact h.retire ..

theorem bistRetire (h : s₀.Beside s) (b : Bist) : s₀.Beside (s.bistRetire b) := by
  refine (h.each fun n h => ?_).each fun sd h => ?_
  · split
    · exact h
    · exact h.retireOrRest ..
  · split
    · exact h
    · exact h.retireOrRest ..

end State.Beside
end Sys2Proof.Machine

/-!
Proofs about the cold start: what the store and the reset values give.
-/

namespace Sys2Proof.Machine

/-! ## The cold start (R10, R28, R429 to R431) -/

/-- A cold start up to the wake receiver and the network: what the store and the reset values give. -/
def State.coldSet (cause : ColdCause) (temp : Int) (s : State) : State :=
  let s := (s.stored.startValues true).inService (.cold cause)
  let s := s.enterPower .active
  let s := s.onLine (fun l => { l with rate := s.pnat Obj.lineRate })
  let s := s.openLine.buildHops (PVal.maskBits (s.pval Obj.hopMask))
  let s := s.calibrated temp
  let s := s.onTime (fun t => { t with slot := s.slotNow, slotAt := s.now, temps := [(s.now, temp)], xoTemp := temp })
  let s := (s.onWake (fun w => { w with armed := true })).armBranches
  s.onNet (fun n => { n with started := true })

/-- The rest of it: VAUX, the loader, what BIST retires, and what is counted and announced. -/
def State.coldNews (cause : ColdCause) (b : Bist) (wasNormal : Bool) (s : State) : State :=
  let s := if s.pint Obj.vauxDefault == 1 then (s.onMon (fun m => { m with wanted := true })).vauxAttempt else s
  let s := s.loader (b.lanes.isEmpty && b.chains.isEmpty)
  ((((s.bistRetire b).count .pmu "pm.start.cold").queue (.start (.cold cause) [])).coldMode wasNormal).driveWake

theorem State.coldStart_eq (cause : ColdCause) (b : Bist) (temp : Int) (s : State) :
    s.coldStart cause b temp = (s.coldSet cause temp).coldNews cause b (!s.time.counterMode) := rfl

variable {s : State}

theorem State.Beside.coldMode {s₀ : State} (h : s₀.Beside s) (wasNormal : Bool) : s₀.Beside (s.coldMode wasNormal) := by
  unfold State.coldMode
  split
  · exact (h.audit ..).queue _
  · exact h

theorem State.Beside.coldNews {s₀ : State} (h : s₀.Beside s) (cause : ColdCause) (b : Bist) (wasNormal : Bool) :
    s₀.Beside (s.coldNews cause b wasNormal) := by
  have hv : s₀.Beside (if s.pint Obj.vauxDefault == 1 then (s.onMon (fun m => { m with wanted := true })).vauxAttempt else s) :=
    (h.onMon _).vauxAttempt.ite h
  exact ((((hv.loader _).bistRetire b).count ..).queue _).coldMode wasNormal |>.driveWake

theorem State.driveWake_low (s : State) : ∃ b, s.driveWake.wake = { s.wake with low := b } := ⟨_, s.driveWake_wake⟩

/-- What goes on after a cold start has set the state touches none of this. -/
theorem State.coldNews_frame (cause : ColdCause) (b : Bist) (wasNormal : Bool) (s : State) :
    let t := s.coldNews cause b wasNormal
    t.part = s.part ∧ t.time = s.time ∧ t.work = s.work ∧ t.radio = s.radio ∧ t.net = s.net ∧ t.roster = s.roster ∧ t.rx = s.rx ∧
      ∃ low, t.wake = { s.wake with low := low } := by
  unfold State.coldNews
  dsimp only
  generalize hu : (((((if s.pint Obj.vauxDefault == 1 then (s.onMon (fun m => { m with wanted := true })).vauxAttempt else s).loader
      (b.lanes.isEmpty && b.chains.isEmpty)).bistRetire b).count .pmu "pm.start.cold").queue (.start (.cold cause) [])).coldMode
      wasNormal = u
  obtain ⟨low, hw⟩ := u.driveWake_low
  have huw : u.wake = s.wake := by
    rw [← hu]
    simp [apply_ite State.wake]
  rw [hw, huw]
  refine ⟨?_, ?_, ?_, ?_, ?_, ?_, ?_, low, rfl⟩ <;> rw [← hu]
  · simp [apply_ite State.part]
  · simp [apply_ite State.time]
  · simp [apply_ite State.work]
  · simp [apply_ite State.radio]
  · simp [apply_ite State.net]
  · simp [apply_ite State.roster]
  · simp [apply_ite State.rx]

theorem State.undo_store (u : Undo) (s : State) :
    (s.undo u).store.ledger = s.store.ledger ∧ (s.undo u).store.archive = s.store.archive := by
  rcases u with ⟨obj, _ | r⟩ | ⟨code, m⟩ | n <;> exact ⟨rfl, rfl⟩

theorem State.cacheLoss_store (s : State) :
    s.cacheLoss.store.ledger = s.store.ledger ∧ s.cacheLoss.store.archive = s.store.archive := by
  unfold State.cacheLoss
  generalize (s.store.unsaved.filter (fun u => s.store.auditCached u.1)).reverse = l
  induction l generalizing s with
  | nil => exact ⟨rfl, rfl⟩
  | cons u l ih =>
    obtain ⟨h1, h2⟩ := ih (s.undo u.2)
    obtain ⟨h3, h4⟩ := s.undo_store u.2
    exact ⟨h1.trans h3, h2.trans h4⟩

/-- What a loss of power leaves of identity, records and keys, and the reset values of the rest (R10, R365). -/
theorem State.stored_kept (s : State) : s.stored.part = s.part ∧ s.stored.store.ledger = s.store.ledger ∧
    s.stored.store.archive = s.store.archive ∧ s.stored.roster.netKey = s.roster.netKey ∧ s.stored.roster.loaded = true := by
  obtain ⟨hl, ha⟩ := s.cacheLoss_store
  simp [State.stored, State.coldRoster, Store.scanned, hl, ha]

/-- LINE opens as the unit it was. -/
theorem State.openLine_unit (s : State) : s.openLine.line.level = s.line.level ∧ s.openLine.line.address = s.line.address ∧
    s.openLine.line.solo = s.line.solo := by
  unfold State.openLine State.hostDeaf
  dsimp only
  (repeat' split) <;> exact ⟨rfl, rfl, rfl⟩

theorem State.dcTaken_buf (sd : Side) (b : Band) (s : State) : (s.dcTaken sd b).rx.buf = s.rx.buf := by
  cases sd <;> rfl

theorem State.calibrated_st (temp : Int) (s : State) :
    (s.calibrated temp).radio.st = s.radio.st ∧ (s.calibrated temp).rx.buf = s.rx.buf := by
  simp [State.calibrated, State.each, State.dcTaken_buf]

/-- The wake receiver without its branches. -/
def Wake.trunk (w : Wake) : Wake := { w with a := .reset, b := .reset, det := .envelope }

theorem State.armBranches_trunk (s : State) : s.armBranches.wake.trunk = s.wake.trunk := by
  have hbr (sd : Side) (f : Branch → Branch) (s : State) : (s.onWake (Wake.onBr sd f)).wake.trunk = s.wake.trunk := by
    cases sd <;> rfl
  have harm (sd : Side) (s : State) : (if s.isRetired .branch (Side.num sd) then s.onWake (Wake.onBr sd (Branch.stop .retired))
      else if s.branchUsed sd then s.settle sd else s.onWake (Wake.onBr sd (Branch.stop .off))).wake.trunk = s.wake.trunk := by
    split
    · exact hbr ..
    · split <;> exact hbr ..
  exact (harm .b _).trans (harm .a _)

theorem State.coldSet_pm (cause : ColdCause) (temp : Int) (s : State) : let t := s.coldSet cause temp
    t.pm.run = .running ∧ t.pm.power = .active ∧ t.pm.start = some (.cold cause) := by
  simp [State.coldSet, State.inService, State.enterPower]

theorem State.coldSet_line (cause : ColdCause) (temp : Int) (s : State) : let t := s.coldSet cause temp
    t.line.address = 0 ∧ t.line.level = .observer ∧ t.line.solo = true := by
  simp [State.coldSet, State.openLine_unit, State.stored, State.reset, Line.reset]

theorem State.coldSet_radio (cause : ColdCause) (temp : Int) (s : State) : let t := s.coldSet cause temp
    t.radio.st = .sleep ∧ t.rx.buf = [] := by
  simp [State.coldSet, State.calibrated_st, State.stored, State.reset, Radio.reset, Rx.reset]

theorem Wake.of_trunk {w x : Wake} (h : w.trunk = x.trunk) : w.armed = x.armed ∧ w.queue = x.queue ∧ w.seen = x.seen ∧
    w.masks = x.masks ∧ w.stored = x.stored ∧ w.seq = x.seq :=
  ⟨(congrArg Wake.armed h :), (congrArg Wake.queue h :), (congrArg Wake.seen h :), (congrArg Wake.masks h :),
    (congrArg Wake.stored h :), (congrArg Wake.seq h :)⟩

theorem State.coldSet_trunk (cause : ColdCause) (temp : Int) (s : State) :
    (s.coldSet cause temp).wake.trunk = { s.stored.wake with armed := true }.trunk := by
  simp only [State.coldSet, State.onNet_wake, State.armBranches_trunk, State.onWake_wake]
  simp

theorem State.coldSet_wake (cause : ColdCause) (temp : Int) (s : State) : let t := s.coldSet cause temp
    t.wake.armed = true ∧ t.wake.queue = [] ∧ t.wake.seen = [] ∧ t.wake.masks = t.wake.stored ∧ t.wake.seq = 0 := by
  have hw : s.stored.wake.queue = [] ∧ s.stored.wake.seen = [] ∧ s.stored.wake.masks = s.stored.wake.stored ∧
      s.stored.wake.seq = 0 := by
    simp [State.stored, Wake.reset]
  obtain ⟨ha, hq, hs, hm, hst, hn⟩ := Wake.of_trunk (s.coldSet_trunk cause temp)
  generalize s.coldSet cause temp = t at *
  generalize s.stored = u at *
  intro _
  exact ⟨ha, hq.trans hw.1, hs.trans hw.2.1, hm.trans (hw.2.2.1.trans hst.symm), hn.trans hw.2.2.2⟩

theorem State.coldSet_rest (cause : ColdCause) (temp : Int) (s : State) : let t := s.coldSet cause temp
    t.part = s.stored.part ∧ t.time.counterMode = true ∧ t.work = Work.reset ∧ t.roster = s.stored.roster ∧ t.net.st = .unsynced ∧
      t.net.started = true ∧ t.store = s.stored.store := by
  simp [State.coldSet, State.stored, State.reset, Net.reset, Time.reset]

theorem State.coldSet_settled (cause : ColdCause) (temp : Int) (s : State) : (s.coldSet cause temp).settled := by
  have hp : (s.coldSet cause temp).params = s.stored.fireAll.params := by
    simp [State.coldSet, State.startValues]
  unfold State.settled
  rw [hp]
  intro r hr
  obtain ⟨x, -, rfl⟩ := List.mem_map.mp hr
  exact ⟨rfl, rfl⟩

/-- A cold start in service: what it sets is what the store and the reset values give, and the rest of the start changes
none of it. -/
theorem State.coldStart_facts (cause : ColdCause) (b : Bist) (temp : Int) (s : State) : let t := s.coldStart cause b temp
    t.pm.run = .running ∧ t.pm.power = .active ∧ t.pm.start = some (.cold cause) ∧ t.time.counterMode = true ∧
      t.line.address = 0 ∧ t.line.level = .observer ∧ t.line.solo = true ∧ t.wake.armed = true ∧ t.wake.queue = [] ∧
      t.wake.seen = [] ∧ t.wake.masks = t.wake.stored ∧ t.wake.seq = 0 ∧ t.work.table = [] ∧ t.work.waiting = [] ∧
      t.rx.buf = [] ∧ t.radio.st = .sleep ∧ t.roster.loaded = true ∧ t.roster.netKey = s.roster.netKey ∧
      (∀ r ∈ t.params, r.now = r.stored ∧ r.pending = none) ∧ t.net.st = .unsynced ∧ t.net.started = true ∧
      t.store.ledger = s.store.ledger ∧ t.store.archive = s.store.archive := by
  rw [State.coldStart_eq]
  have hb := (State.Beside.refl (s.coldSet cause temp)).coldNews cause b (!s.time.counterMode)
  obtain ⟨-, htime, hwork, hradio, hnet, hroster, hrx, low, hwake⟩ :=
    State.coldNews_frame cause b (!s.time.counterMode) (s.coldSet cause temp)
  obtain ⟨hrun, hpower, hstart⟩ := s.coldSet_pm cause temp
  obtain ⟨haddr, hlevel, hsolo⟩ := s.coldSet_line cause temp
  obtain ⟨hst, hbuf⟩ := s.coldSet_radio cause temp
  obtain ⟨harm, hq, hseen, hmasks, hseq⟩ := s.coldSet_wake cause temp
  obtain ⟨-, hcm, hw, hros, hun, hsd, hstore⟩ := s.coldSet_rest cause temp
  obtain ⟨-, kledger, karchive, kkey, kloaded⟩ := s.stored_kept
  have hset := hb.params (s.coldSet_settled cause temp)
  obtain ⟨hl, ha⟩ := hb.store
  have hline := hb.line
  have hpm := hb.pm
  clear hb
  generalize (s.coldSet cause temp).coldNews cause b (!s.time.counterMode) = t at *
  generalize s.coldSet cause temp = u at *
  intro _
  refine ⟨(congrArg Pm.run hpm :).trans hrun, (congrArg Pm.power hpm :).trans hpower, (congrArg Pm.start hpm :).trans hstart,
    by rw [htime]; exact hcm, (congrArg Line.address hline :).trans haddr, (congrArg Line.level hline :).trans hlevel,
    (congrArg Line.solo hline :).trans hsolo, by rw [hwake]; exact harm, by rw [hwake]; exact hq, by rw [hwake]; exact hseen,
    by rw [hwake]; exact hmasks, by rw [hwake]; exact hseq, by rw [hwork, hw]; rfl, by rw [hwork, hw]; rfl,
    by rw [hrx]; exact hbuf, by rw [hradio]; exact hst, by rw [hroster, hros]; exact kloaded, by rw [hroster, hros]; exact kkey,
    hset, by rw [hnet]; exact hun, by rw [hnet]; exact hsd, hl.trans (by rw [hstore]; exact kledger),
    ha.trans (by rw [hstore]; exact karchive)⟩

/-- A start that BIST halts, or that waits for its tester (R28, R431). -/
theorem State.powerOn_fatal {cause : ColdCause} {b : Bist} {temp : Int} {n : Nat} {s : State} (hb : b.fatal = true) :
    s.powerOn cause false b temp n = s.stored.onPm (fun p => { p with
      run := .bistHalt (n + 1) (if n + 1 < 3 then some (s.now + secs 10) else none) }) := by
  simp [State.powerOn, hb]

theorem State.powerOn_good {cause : ColdCause} {b : Bist} {temp : Int} {n : Nat} {s : State} (hb : b.fatal = false) :
    s.powerOn cause false b temp n = s.coldStart cause b temp := by
  simp [State.powerOn, hb]

theorem exec_powerOnStart_unpowered {cause : ColdCause} {test : Bool} {b : Bist} {temp : Int} {s : State}
    (hr : s.pm.run = .unpowered) : exec (.powerOnStart cause test b temp) s = .next (s.powerOn cause test b temp 0) := by
  refine congrArg Host.Outcome.next ?_
  simp only [hr]

theorem exec_bistRetry {b : Bist} {temp : Int} {n : Nat} {t : Ticks} {s : State} (hr : s.pm.run = .bistHalt n (some t))
    (ht : t ≤ s.now) : exec (.bistRetry b temp) s = .next (s.powerOn .bist false b temp n) := by
  refine congrArg Host.Outcome.next ?_
  simp only [hr, ht, if_true]

end Sys2Proof.Machine

/-!
Proofs about frames and the power states, and about the warm start.
-/

namespace Sys2Proof.Machine

/-! ## What frames leave of the power states -/

section

variable (s : State)

@[simp] theorem State.retire_unroused (o : Origin) (id : ResId) (cause : Nat) :
    (s.retire o id cause).pm.unroused = s.pm.unroused := by
  unfold State.retire
  split <;> simp

@[simp] theorem State.retirePeer_unroused (o : Origin) (i cause : Nat) : (s.retirePeer o i cause).pm.unroused = s.pm.unroused := by
  unfold State.retirePeer
  split
  · rfl
  · dsimp only
    rw [apply_ite State.pm, apply_ite Pm.unroused, apply_ite State.pm, apply_ite Pm.unroused,
      State.each_unroused _ fun f s => s.endFlight_unroused f .unreach]
    simp

@[simp] theorem State.owedRetire_unroused (i : Nat) : (s.owedRetire i).pm.unroused = s.pm.unroused := by
  unfold State.owedRetire
  (repeat' split) <;> simp

@[simp] theorem State.lcOver_unroused (i : Nat) : (s.lcOver i).pm.unroused = s.pm.unroused := by
  simp [State.lcOver]

@[simp] theorem State.rejected_unroused (id : Eui) (b : Block) (name : String) :
    (s.rejected id b name).pm.unroused = s.pm.unroused := by
  unfold State.rejected
  dsimp only
  (repeat' split) <;> simp

@[simp] theorem State.heardFrom_unroused (i : Nat) : (s.heardFrom i).pm.unroused = s.pm.unroused := by
  unfold State.heardFrom
  dsimp only
  split <;> simp

@[simp] theorem State.found_unroused (i : Nat) : (s.found i).pm.unroused = s.pm.unroused := by
  unfold State.found
  (repeat' split) <;> simp

@[simp] theorem State.acceptEntry_unroused (i : Nat) (l : BitVec 32) (w : BitVec 32) (x : RxFrame) :
    (s.acceptEntry i l w x).pm.unroused = s.pm.unroused := by
  simp [State.acceptEntry, apply_ite State.pm]

@[simp] theorem State.lcSuccess_unroused (f : Flight) : (s.lcSuccess f).pm.unroused = s.pm.unroused := by
  unfold State.lcSuccess
  dsimp only
  (repeat' split) <;> simp

@[simp] theorem State.flightDone_unroused (f : Flight) : (s.flightDone f).pm.unroused = s.pm.unroused := by
  unfold State.flightDone
  (repeat' split) <;> simp

@[simp] theorem State.exchangeDone_unroused (x : RxFrame) (i : Nat) : (s.exchangeDone x i).pm.unroused = s.pm.unroused := by
  unfold State.exchangeDone
  (repeat' split) <;> simp

@[simp] theorem State.pushReport_unroused (i : Nat) (plain : List Byte) : (s.pushReport i plain).pm.unroused = s.pm.unroused := by
  unfold State.pushReport
  dsimp only
  (repeat' split) <;> simp

@[simp] theorem State.recordEntry_unroused (i : Nat) (l : BitVec 32) (w : BitVec 32) (x : RxFrame) (plain : List Byte)
    (admission : Bool) : (s.recordEntry i l w x plain admission).2.pm.unroused = s.pm.unroused := by
  unfold State.recordEntry
  dsimp only
  (repeat' split) <;> simp

@[simp] theorem State.giveIndex_unroused (i : Nat) (e : Entry) : (s.giveIndex i e).pm.unroused = s.pm.unroused := by
  unfold State.giveIndex
  dsimp only
  (repeat' split) <;> simp

@[simp] theorem State.activate_unroused (i : Nat) (e : Entry) : (s.activate i e).pm.unroused = s.pm.unroused := by
  simp [State.activate]

@[simp] theorem State.unattached_unroused : s.unattached.pm.unroused = s.pm.unroused := by
  unfold State.unattached
  dsimp only
  split <;> simp

@[simp] theorem State.recordUnattached_unroused (e : Entry) (l : BitVec 32) (w : BitVec 32) (x : RxFrame) (plain : List Byte)
    (admission : Bool) : (s.recordUnattached e l w x plain admission).2.pm.unroused = s.pm.unroused := by
  simp [State.recordUnattached]

@[simp] theorem State.restoreSpill_unroused (e : Entry) (l : BitVec 32) (w : BitVec 32) (x : RxFrame) (plain : List Byte) :
    (s.restoreSpill e l w x plain).2.pm.unroused = s.pm.unroused := by
  have hi : s.takeIndex.2.pm = s.pm := by simp
  unfold State.restoreSpill
  split
  next he => rw [he] at hi; exact (by simp : _ = _).trans (congrArg Pm.unroused hi)
  next he => rw [he] at hi; exact (by simp : _ = _).trans (congrArg Pm.unroused hi)

@[simp] theorem State.replayStep_unroused (x : RxFrame) : (s.replayStep x).2.pm.unroused = s.pm.unroused := by
  unfold State.replayStep
  dsimp only
  (repeat' split) <;> simp

@[simp] theorem State.setNet_unroused (st : NetState) : (s.setNet st).pm.unroused = s.pm.unroused := by
  unfold State.setNet
  dsimp only
  split <;> simp

@[simp] theorem State.join_unroused : s.join.pm.unroused = s.pm.unroused := by
  unfold State.join
  split <;> simp

@[simp] theorem State.spillFull_unroused : s.spillFull.pm.unroused = s.pm.unroused := by
  unfold State.spillFull
  dsimp only
  (repeat' split) <;> simp

@[simp] theorem State.admitNew_unroused (x : RxFrame) (plain : List Byte) : (s.admitNew x plain).2.pm.unroused = s.pm.unroused := by
  unfold State.admitNew
  dsimp only
  split
  next he => have hi := congrArg (fun p => p.2.pm) he; simp at hi; simp [hi]
  next he => have hi := congrArg (fun p => p.2.pm) he; simp at hi; simp [hi]

@[simp] theorem State.joinFrame_unroused (x : RxFrame) : (s.joinFrame x).2.pm.unroused = s.pm.unroused := by
  unfold State.joinFrame
  dsimp only
  (repeat' split) <;> simp

@[simp] theorem State.processFrame_unroused (x : RxFrame) : (s.processFrame x).2.pm.unroused = s.pm.unroused := by
  unfold State.processFrame
  dsimp only
  (repeat' split) <;> simp

@[simp] theorem State.bufCheck_unroused : s.bufCheck.pm.unroused = s.pm.unroused := by
  unfold State.bufCheck
  dsimp only
  (repeat' split) <;> simp

@[simp] theorem State.drainBuf_unroused (k : Nat) : (s.drainBuf k).pm.unroused = s.pm.unroused := by
  induction k generalizing s with
  | zero => rfl
  | succ k ih =>
    rw [State.drainBuf]
    split
    · rfl
    · split
      · rw [ih]
        simp
      · rfl

end

/-! ## The warm start (R428, R432) -/

variable {s : State}

/-- What a warm start goes through before it announces anything. -/
def State.warmSet (cause : WarmCause) (failed : List Item) (s : State) : State :=
  (if failed.contains .keep then s.onNet (fun n => { n with st := .unsynced }) else s).warmService cause

/-- VAUX after a warm start, the store, WAKE and the frames that waited. -/
def State.warmEnd (s : State) : State :=
  let s := if s.mon.wanted && s.mon.vaux == .off && !s.mon.lockout && s.mon.retryAt.isNone && !s.mon.tripOwed then s.vauxAttempt else s
  s.flushCache.driveWake.drainBuf s.rx.buf.length

theorem State.warmStart_eq (cause : WarmCause) (failed : List Item) (temp : Int) (selfTest : Bool) (s : State) :
    s.warmStart cause failed temp selfTest =
      (((s.warmChecks failed temp).2.warmSet cause (s.warmChecks failed temp).1).warmNews cause (s.warmChecks failed temp).1
        (!s.time.counterMode) selfTest).warmEnd := rfl

theorem exec_warmStart {c : WarmCause} {failed : List Item} {temp : Int} {ok : Bool} (hr : s.pm.run = .warmReset c) :
    exec (.warmStart failed temp ok) s = .next (s.warmStart c failed temp ok) := by
  refine congrArg Host.Outcome.next ?_
  simp only [hr]

/-- The checks of a warm start of which none fails. -/
theorem State.warmChecks_passed {temp : Int} (hc : (s.startValues false).calFits temp = true) :
    s.warmChecks [] temp = ([], (s.startValues false).onRadio (fun r => { r with temp := temp })) := by
  have hc' : ((s.startValues false).onRadio (fun r => { r with temp := temp })).calFits temp = true := hc
  simp [State.warmChecks, hc', failedItems, State.each]

theorem State.Beside.warmNews {s₀ : State} (h : s₀.Beside s) (cause : WarmCause) (failed : List Item) (wasNormal selfTest : Bool) :
    s₀.Beside (s.warmNews cause failed wasNormal selfTest) := by
  have hn := ((((((h.frame (t := s.onJomen (fun j => { j with afterWarm := [] })) (by simp)).queueAll s.jomen.afterWarm).endCut.loader
    selfTest).countN .pmu "pm.retain.fail" (itemNames failed).length).count .pmu "pm.start.warm").queue
      (.start (.warm cause) (itemNames failed)))
  exact (hn.queue _).ite hn

/-- The end of a warm start when no frame waits: records go into the flash, and nothing else of this changes. -/
theorem State.warmEnd_facts (hb : s.rx.buf = []) : let t := s.warmEnd
    t.line.stood = s.line.stood ∧ t.wake.memory = s.wake.memory ∧ t.roster.netKey = s.roster.netKey ∧
      t.image.lib = s.image.lib ∧ t.time = s.time := by
  unfold State.warmEnd
  generalize hu : (if s.mon.wanted && s.mon.vaux == .off && !s.mon.lockout && s.mon.retryAt.isNone && !s.mon.tripOwed then s.vauxAttempt
    else s) = u
  have h : s.Beside u := by
    rw [← hu]
    exact (State.Beside.refl s).vauxAttempt.ite (State.Beside.refl s)
  have htime : u.time = s.time := by
    rw [← hu]
    simp [apply_ite State.time]
  have hd := (State.Beside.refl u.flushCache).driveWake
  have hbuf : u.flushCache.driveWake.rx.buf = [] := by simpa [h.rx] using hb
  have hdrain (k : Nat) : u.flushCache.driveWake.drainBuf k = u.flushCache.driveWake := by
    cases k with
    | zero => rfl
    | succ k => rw [State.drainBuf, hbuf]
  dsimp only
  rw [hdrain]
  refine ⟨?_, ?_, ?_, ?_, ?_⟩
  · rw [hd.line]
    simpa using h.line
  · rw [hd.wake]
    simpa using h.wake
  · rw [hd.roster]
    simpa using h.roster
  · rw [hd.image]
    simpa using h.image
  · simpa using htime

theorem State.warmEnd_unroused : s.warmEnd.pm.unroused = s.pm.unroused := by
  unfold State.warmEnd
  dsimp only
  split <;> simp

/-- The outputs, hopping, the slot, the roster and the windows of TALLY after a warm start. -/
def State.resumed (s : State) : State :=
  let s := s.openLine.buildHops s.sched.maskNow
  let s := s.onTime (fun t => { t with slot := s.slotNow, slotAt := s.now })
  let s := (s.onNet (fun n => { n with started := true })).onRoster (fun r => { r with loaded := true })
  s.onTally (fun t => { t with bwFrom := s.now, bwBytes := [] })

theorem State.resumed_facts (s : State) : s.resumed.pm = s.pm ∧ s.resumed.line.level = s.line.level ∧
    s.resumed.line.address = s.line.address ∧ s.resumed.wake = s.wake ∧ s.resumed.time.counterMode = s.time.counterMode ∧
    s.resumed.roster.netKey = s.roster.netKey ∧ s.resumed.image = s.image ∧ s.resumed.rx = s.rx := by
  unfold State.resumed
  generalize hv : s.openLine.buildHops s.sched.maskNow = v
  obtain ⟨h1, h2, -⟩ := s.openLine_unit
  have hk : v.pm = s.pm ∧ v.line = s.openLine.line ∧ v.wake = s.wake ∧ v.time = s.time ∧ v.roster = s.roster ∧ v.image = s.image ∧
      v.rx = s.rx := by
    rw [← hv]
    simp
  obtain ⟨kp, kl, kw, kt, kr, ki, kx⟩ := hk
  simp [kp, kl, kw, kt, kr, ki, kx, h1, h2]

/-- The part in ACTIVE after a start. -/
def State.inActive (c : StartCause) (s : State) : State :=
  let s := s.inService c
  if s.pm.power == .active then s else s.enterPower .active

theorem State.inActive_pm (c : StartCause) (s : State) : (s.inActive c).pm.run = .running ∧
    (s.inActive c).pm.power = .active ∧ (s.inActive c).pm.start = some c := by
  unfold State.inActive
  dsimp only
  split
  · next hp => exact ⟨rfl, eq_of_beq hp, rfl⟩
  · exact ⟨rfl, rfl, rfl⟩

theorem State.inActive_frame (c : StartCause) (s : State) : (s.inActive c).line = s.line ∧ (s.inActive c).wake = s.wake ∧
    (s.inActive c).time = s.time ∧ (s.inActive c).roster = s.roster ∧ (s.inActive c).image = s.image ∧
    (s.inActive c).rx = s.rx := by
  unfold State.inActive
  dsimp only
  split <;> exact ⟨rfl, rfl, rfl, rfl, rfl, rfl⟩

theorem State.warmService_facts (cause : WarmCause) (s : State) : let t := s.warmService cause
    t.pm.run = .running ∧ t.pm.power = .active ∧ t.pm.start = some (.warm cause) ∧ t.line.level = s.line.level ∧
      t.line.address = s.line.address ∧ t.wake = s.wake ∧ t.time.counterMode = s.time.counterMode ∧
      t.roster.netKey = s.roster.netKey ∧ t.image = s.image ∧ t.rx = s.rx := by
  have ht : s.warmService cause = (s.inActive (.warm cause)).resumed := rfl
  obtain ⟨hr, hp, hs⟩ := s.inActive_pm (.warm cause)
  obtain ⟨hl, hw, htm, hro, hi, hx⟩ := s.inActive_frame (.warm cause)
  obtain ⟨kp, kl, ka, kw, kt, kr, ki, kx⟩ := (s.inActive (.warm cause)).resumed_facts
  rw [ht]
  exact ⟨(congrArg Pm.run kp).trans hr, (congrArg Pm.power kp).trans hp, (congrArg Pm.start kp).trans hs, kl.trans (by rw [hl]),
    ka.trans (by rw [hl]), kw.trans hw, kt.trans (by rw [htm]), kr.trans (by rw [hro]), ki.trans hi, kx.trans hx⟩

theorem State.warmStart_run (cause : WarmCause) (failed : List Item) (temp : Int) (selfTest : Bool) (s : State) :
    let t := s.warmStart cause failed temp selfTest
    t.pm.run = .running ∧ t.pm.power = .active ∧ t.pm.start = some (.warm cause) := by
  rw [State.warmStart_eq]
  generalize s.warmChecks failed temp = p
  obtain ⟨hr, hp, hs, -⟩ := State.warmService_facts cause (if p.1.contains .keep then p.2.onNet (fun n => { n with st := .unsynced }) else p.2)
  have hn := ((State.Beside.refl (p.2.warmSet cause p.1)).warmNews cause p.1 (!s.time.counterMode) selfTest).pm
  have hset : p.2.warmSet cause p.1 =
    (if p.1.contains .keep then p.2.onNet (fun n => { n with st := .unsynced }) else p.2).warmService cause := rfl
  rw [← State.warmEnd_unroused, hset] at hn
  rw [hset]
  generalize (if p.1.contains .keep then p.2.onNet (fun n => { n with st := .unsynced }) else p.2).warmService cause = v at *
  generalize (v.warmNews cause p.1 (!s.time.counterMode) selfTest).warmEnd = w at *
  exact ⟨(congrArg Pm.run hn :).trans hr, (congrArg Pm.power hn :).trans hp, (congrArg Pm.start hn :).trans hs⟩

/-- A warm start with every check passed (R432). -/
theorem State.warmStart_passed {cause : WarmCause} {temp : Int} {ok : Bool} (hb : s.rx.buf = [])
    (hc : (s.startValues false).calFits temp = true) : let t := s.warmStart cause [] temp ok
    t.line.address = s.line.address ∧ t.line.level = s.line.level ∧ t.wake.queue = s.wake.queue ∧ t.wake.seen = s.wake.seen ∧
      t.time.counterMode = s.time.counterMode ∧ t.roster.netKey = s.roster.netKey ∧ t.image.lib = s.image.lib := by
  rw [State.warmStart_eq, State.warmChecks_passed hc]
  generalize hu : (s.startValues false).onRadio (fun r => { r with temp := temp }) = u
  have hset : u.warmSet cause [] = u.warmService cause := rfl
  obtain ⟨-, -, -, hlev, hadr, hwake, hmode, hkey, himg, hrx⟩ := State.warmService_facts cause u
  have hn := (State.Beside.refl (u.warmService cause)).warmNews cause [] (!s.time.counterMode) ok
  have htime : ((u.warmService cause).warmNews cause [] (!s.time.counterMode) ok).time = (u.warmService cause).time := by simp
  have hul : u.line = s.line ∧ u.wake = s.wake ∧ u.time = s.time ∧ u.roster = s.roster ∧ u.image = s.image ∧ u.rx = s.rx := by
    rw [← hu]
    simp
  obtain ⟨ul, uw, ut, uro, ui, ux⟩ := hul
  have hbuf : ((u.warmService cause).warmNews cause [] (!s.time.counterMode) ok).rx.buf = [] := by
    rw [hn.rx, hrx, ux, hb]
  obtain ⟨el, ew, er, ei, et⟩ := State.warmEnd_facts hbuf
  rw [hset]
  generalize (u.warmService cause).warmNews cause [] (!s.time.counterMode) ok = v at *
  have hl := el.trans hn.line
  have hw := ew.trans hn.wake
  intro t
  refine ⟨(congrArg Line.address hl :).trans (hadr.trans (by rw [ul])), (congrArg Line.level hl :).trans (hlev.trans (by rw [ul])),
    (congrArg (fun m => m.2.1) hw :).trans (by rw [hwake, uw]; rfl), (congrArg (fun m => m.2.2) hw :).trans (by rw [hwake, uw]; rfl),
    ?_, er.trans (hn.roster.trans (hkey.trans (by rw [uro]))), ei.trans (hn.image.trans (by rw [himg, ui]))⟩
  exact (congrArg Time.counterMode (et.trans htime)).trans (hmode.trans (by rw [ut]))

end Sys2Proof.Machine

/-!
Proofs about the stored values of parameters, and about SET.
-/

namespace Sys2Proof.Machine

/-! ## The stored values of the parameters (R10, R518) -/

section

/-- Every parameter that has been given a value, with the value stored for it. -/
def savedIn (l : List PRow) : List (Nat × PVal) := l.map (fun r => (r.obj, r.stored))

variable (s : State)

@[simp] theorem State.fire_saved (tr : Trigger) : savedIn (s.fire tr).params = savedIn s.params := by
  have hset (r : PRow) : (r.settle.obj, r.settle.stored) = (r.obj, r.stored) := by
    unfold PRow.settle
    split <;> rfl
  unfold State.fire savedIn
  rw [List.map_map]
  refine List.map_congr_left fun r _ => ?_
  dsimp only [Function.comp]
  split
  · exact hset r
  · rfl

theorem State.each_saved {α : Type} {f : α → State → State} (hf : ∀ x s, savedIn (f x s).params = savedIn s.params)
    (l : List α) : savedIn (s.each l f).params = savedIn s.params := by
  induction l generalizing s with
  | nil => rfl
  | cons x l ih => exact (ih (f x s)).trans (hf x s)

@[simp] theorem State.vauxAttempt_saved : savedIn s.vauxAttempt.params = savedIn s.params := by
  unfold State.vauxAttempt
  dsimp only
  split <;> simp

@[simp] theorem State.vauxPolicy_saved : savedIn s.vauxPolicy.params = savedIn s.params := by
  unfold State.vauxPolicy
  split <;> simp

@[simp] theorem State.queue_saved (e : Ev) : savedIn (s.queue e).params = savedIn s.params := by
  simp [State.queue]

@[simp] theorem State.wmAct_saved (n : Fin 8) : savedIn (s.wmAct n).params = savedIn s.params := by
  simp [State.wmAct]

@[simp] theorem State.wmClear_saved (n : Fin 8) : savedIn (s.wmClear n).params = savedIn s.params := by
  unfold State.wmClear
  dsimp only
  split <;> simp

@[simp] theorem State.relatch_saved (n : Fin 8) : savedIn (s.relatch n).params = savedIn s.params := by
  unfold State.relatch
  dsimp only
  split
  · simp
  · split <;> simp

@[simp] theorem State.wmPaOff_saved : savedIn s.wmPaOff.params = savedIn s.params := by
  refine State.each_saved s (fun n s => ?_) _
  dsimp only
  split <;> simp

@[simp] theorem State.paOff_saved (band : Band) (ramp : Ticks) : savedIn (s.paOff band ramp).params = savedIn s.params := by
  cases band <;> simp [State.paOff]

@[simp] theorem State.audit_saved (o : Origin) (action obj result : Nat) (old new : AVal) :
    savedIn (s.audit o action obj result old new).params = savedIn s.params := by
  unfold State.audit State.auditOne
  dsimp only
  split <;> simp

@[simp] theorem State.ledger_saved (b : LBody) : savedIn (s.ledger b).params = savedIn s.params := by
  simp [State.ledger, State.ledgerAt]

@[simp] theorem State.pushRecord_saved (f : Flight) (p : PushSess) (event : Nat) (o : Option Outcome) :
    savedIn (s.pushRecord f p event o).params = savedIn s.params := by
  simp [State.pushRecord]

@[simp] theorem State.rosterCheck_saved : savedIn s.rosterCheck.params = savedIn s.params := by
  unfold State.rosterCheck
  split <;> simp

@[simp] theorem State.endFlight_saved (id : Nat) (o : Outcome) : savedIn (s.endFlight id o).params = savedIn s.params := by
  unfold State.endFlight
  split
  · rfl
  · dsimp only
    simp only [State.rosterCheck_saved, State.admitWaiting_frame, State.count_frame, State.queue_saved, State.ledger_saved]
    (repeat' split) <;> simp

@[simp] theorem State.expire_saved (id : Nat) (o : Outcome) : savedIn (s.expire id o).params = savedIn s.params := by
  unfold State.expire
  (repeat' split) <;> simp

@[simp] theorem State.markUnreach_saved (i : Nat) : savedIn (s.markUnreach i).params = savedIn s.params := by
  unfold State.markUnreach
  dsimp only
  rw [State.each_saved _ fun id s => s.expire_saved id .unreach]
  simp

@[simp] theorem State.afterAttempt_saved (id : Nat) : savedIn (s.afterAttempt id).params = savedIn s.params := by
  unfold State.afterAttempt
  dsimp only
  (repeat' split) <;> simp

@[simp] theorem State.failAttempt_saved (id : Nat) (silence : Bool) :
    savedIn (s.failAttempt id silence).params = savedIn s.params := by
  unfold State.failAttempt
  split
  · rfl
  · dsimp only
    rw [State.afterAttempt_saved]
    (repeat' split) <;> simp

@[simp] theorem State.burstCut_saved (b : Burst) : savedIn (s.burstCut b).params = savedIn s.params := by
  unfold State.burstCut
  dsimp only
  split <;> simp

@[simp] theorem State.txLost_saved (tx : Tx) : savedIn (s.txLost tx).params = savedIn s.params := by
  unfold State.txLost
  (repeat' split) <;> simp

@[simp] theorem State.cutTx_saved : savedIn s.cutTx.params = savedIn s.params := by
  unfold State.cutTx
  split <;> simp

@[simp] theorem State.transmit_saved (tx : Tx) : savedIn (s.transmit tx).params = savedIn s.params := by
  unfold State.transmit
  dsimp only
  (repeat' split) <;> simp

@[simp] theorem State.resume_saved : savedIn s.resume.params = savedIn s.params := by
  unfold State.resume
  (repeat' split) <;> simp

@[simp] theorem State.stopTx_saved : savedIn s.stopTx.params = savedIn s.params := by
  unfold State.stopTx
  split <;> simp

@[simp] theorem State.tripPa_saved : savedIn s.tripPa.params = savedIn s.params := by
  unfold State.tripPa State.restAerial State.restSaid
  dsimp only
  (repeat' split) <;> simp

@[simp] theorem State.pgFall_saved (g : Fin 4) : savedIn (s.pgFall g).params = savedIn s.params := by
  unfold State.pgFall
  dsimp only
  (repeat' split) <;> simp

@[simp] theorem State.pgFallAll_saved : savedIn s.pgFallAll.params = savedIn s.params :=
  State.each_saved s (fun g s => s.pgFall_saved g) _

@[simp] theorem State.bufCheck_saved : savedIn s.bufCheck.params = savedIn s.params := by
  unfold State.bufCheck
  dsimp only
  (repeat' split) <;> simp

/-- What a write does beside the value stores none (R516). -/
@[simp] theorem State.written_saved (obj : Nat) (before : State) : savedIn (s.written obj before).params = savedIn s.params := by
  unfold State.written
  (repeat' split) <;> simp

theorem State.prow_saved (obj : Nat) :
    (s.prow obj).map PRow.stored = ((savedIn s.params).find? (fun x => x.1 == obj)).map Prod.snd := by
  rw [State.prow, savedIn, List.find?_map, Option.map_map]
  rfl

end

/-! ## SET (R516 to R518) -/

theorem find?_putRow (r : PRow) (l : List PRow) : (putRow r l).find? (fun x => x.obj == r.obj) = some r := by
  induction l with
  | nil => simp [putRow]
  | cons x xs ih =>
    unfold putRow
    split
    · simp
    · split
      · simp
      · next h => rw [List.find?_cons_of_neg (by simpa using h), ih]

/-- The row that a write leaves for its parameter (R516). -/
def State.setRow (obj : Nat) (v : PVal) (src : Nat) (s : State) : PRow :=
  { obj := obj, now := if s.takesNow obj v then v else s.pval obj, stored := v,
    pending := if s.takesNow obj v then none else some v, src := src, time := s.stamp }

/-- The state that a write has been applied in, before what it does beside the value. -/
def State.setIn (o : Origin) (obj : Nat) (v : PVal) (s : State) : State :=
  (s.journal s.auditSeq (.param obj (s.prow obj))).writeParam obj v (originNum o) s.stamp

theorem State.setIn_prow (o : Origin) (obj : Nat) (v : PVal) (s : State) :
    (s.setIn o obj v).prow obj = some (s.setRow obj v (originNum o)) :=
  find?_putRow (s.setRow obj v (originNum o)) s.params

theorem exec_set {h : Hdr} {obj : Nat} {arg : PArg} {c : Card} {s : State} (ht : s.takesAtOnce h) (hc : cardOf obj = some c) :
    let u := s.heard h
    let v := u.asked obj arg
    u.allowed c.level = true → u.rangeOk obj v = true → u.setBlocked obj v = false →
    exec (.set h obj arg) s = .next (State.finish (u.lineOrigin h) h .set
      (good ((u.setIn (u.lineOrigin h) obj v).written obj u) [(u.setIn (u.lineOrigin h) obj v).valueLine obj] (some obj)
        (some (u.setAud obj v)))) := by
  intro u v ha hr hb
  refine congrArg Host.Outcome.next ((State.change_takes _ .set true _ ht).trans ?_)
  simp only [runSet, hc, needs_allowed (show (s.heard h).allowed c.level = true from ha)]
  rw [if_neg (by simp [show (s.heard h).rangeOk obj ((s.heard h).asked obj arg) = true from hr]),
    if_neg (by simp [show (s.heard h).setBlocked obj ((s.heard h).asked obj arg) = false from hb])]
  rfl

theorem State.setIn_valueLine (o : Origin) (obj : Nat) (v : PVal) (s : State) : (s.setIn o obj v).valueLine obj =
    .value obj (if s.takesNow obj v then v else s.pval obj) (if s.takesNow obj v then none else some v) := by
  have hp := s.setIn_prow o obj v
  simp only [State.valueLine, State.pval, State.pnext, hp]
  rfl

end Sys2Proof.Machine

/-!
Proofs about how starts end, and that writes, resets and starts complete.
-/

namespace Sys2Proof.Machine

/-! ## Starts (R28, R427 to R432) -/

variable {cause : ColdCause} {test : Bool} {b : Bist} {temp : Int} {n : Nat} {s : State}

/-- How a cold start ends (R28, R431). -/
theorem State.powerOn_run (cause : ColdCause) (test : Bool) (b : Bist) (temp : Int) (n : Nat) (s : State) :
    let t := s.powerOn cause test b temp n
    t.pm.run = (if test then .testWait else if b.fatal then .bistHalt (n + 1) (if n + 1 < 3 then some (s.now + secs 10) else none)
      else .running) ∧
    t.line.address = 0 ∧ t.part = s.part ∧ t.roster.netKey = s.roster.netKey := by
  obtain ⟨hpart, -, -, hkey, -⟩ := s.stored_kept
  have hline : s.stored.line.address = 0 := by simp [State.stored, State.reset, Line.reset]
  cases test with
  | true => exact ⟨rfl, hline, hpart, hkey⟩
  | false =>
    cases hb : b.fatal with
    | true =>
      rw [State.powerOn_fatal hb]
      exact ⟨rfl, hline, hpart, hkey⟩
    | false =>
      rw [State.powerOn_good hb]
      obtain ⟨h1, -, -, -, h2, -, -, -, -, -, -, -, -, -, -, -, -, h3, -⟩ := s.coldStart_facts cause b temp
      exact ⟨h1, h2, by simp, h3⟩

theorem exec_powerOnStart_reset {c : ColdCause} (hr : s.pm.run = .coldReset c) (ht : ∀ x, s.pm.resetAt = some x → x.1 ≤ s.now) :
    exec (.powerOnStart cause test b temp) s = .next (s.powerOn c test b temp 0) := by
  refine congrArg Host.Outcome.next ?_
  simp only [hr]
  cases hx : s.pm.resetAt with
  | none => rfl
  | some x => exact if_pos (ht x hx)

theorem State.askReset_run (t : Ticks) (c : StartCause) (s : State) : (s.askReset t c).pm.run = s.pm.run := by
  unfold State.askReset
  split <;> rfl

theorem State.wakeEvent_run (s : State) : s.wakeEvent.pm.run = s.pm.run :=
  (congrArg Pm.run s.wakeEvent_unroused :)

/-- A line that is heard is no reset (R47). -/
theorem State.heard_run (h : Hdr) (s : State) : (s.heard h).pm.run = s.pm.run := by
  have hrouse (u : State) : u.rouse.pm.run = u.pm.run := by
    unfold State.rouse
    split <;> rfl
  unfold State.heard State.beginLine State.takeLine
  dsimp only
  rw [State.onLine_pm, State.onPm_pm, State.onLine_pm]
  split
  · exact (State.wakeEvent_run _).trans (hrouse _)
  · exact hrouse _

theorem State.wakeSaved_pm (s : State) : s.wakeSaved.pm = s.pm := by
  simp [State.wakeSaved]

/-- Settles O34: `State.coldStart_facts` says what a cold start sets, `State.warmStart_passed` what a warm start keeps. -/
theorem starts : Obligations.Starts := by
  refine ⟨fun cause b temp s hr => ⟨⟨_, exec_powerOnStart_unpowered hr, (State.powerOn_run ..).1⟩, fun hb => ?_, fun hb => ?_⟩,
    fun b temp n t0 s hr ht => ⟨_, exec_bistRetry hr ht, fun hb => ?_, fun hb => ?_⟩, fun c temp ok s hr hx hc => ?_⟩
  · exact ⟨_, exec_powerOnStart_unpowered hr, (State.powerOn_run ..).1.trans (by simp [hb])⟩
  · exact ⟨_, (exec_powerOnStart_unpowered hr).trans (by rw [State.powerOn_good hb]), s.coldStart_facts cause b temp⟩
  · exact (State.powerOn_run ..).1.trans (by simp [hb])
  · rw [State.powerOn_good hb]
    obtain ⟨h1, -, h3, -⟩ := s.coldStart_facts .bist b temp
    exact ⟨h1, h3⟩
  · obtain ⟨h1, h2, h3⟩ := State.warmStart_run c [] temp ok s
    exact ⟨_, exec_warmStart hr, h1, h2, h3, State.warmStart_passed hx hc⟩

/-- Settles O35: a write stores its value (`State.setIn_prow`, `State.written_saved`), resets ask for their edge or make it
(`resets`), and every start ends in one of its three ways (`State.powerOn_run`, `State.warmStart_run`). -/
theorem writesResetsAndStartsComplete : Obligations.WritesResetsAndStartsComplete := by
  refine ⟨fun h obj arg c s ht hc => ?_, fun h s ht => ⟨fun ha => ?_, fun ha => ?_⟩, fun s => ⟨fun hr hp => ?_, fun hr => ?_,
    fun hr hp ha => ?_, fun t0 hf hr hp ht => exec_shelfDetectorArm hf hr hp ht, exec_sleepCrystalGood⟩,
    fun cause test b temp s hr => ?_, fun b temp n t0 s hr ht => ?_, fun c failed temp ok s hr => ?_⟩
  · intro u v ha hr hb
    have hexec := exec_set ht hc ha hr hb
    rw [State.finish_good_some, State.setIn_valueLine] at hexec
    refine ⟨_, hexec, ?_, State.reply_tx _ ht.2 (List.cons_ne_nil _ _), by simp [State.setIn, u], by simp [State.setIn, u]⟩
    rw [State.prow_saved, (State.reply_frame ..).2.2.2.1, State.audit_saved, State.written_saved, ← State.prow_saved, State.setIn_prow]
    rfl
  · obtain ⟨htx, hpm, -⟩ := State.finish_entry ((s.heard h).lineOrigin h) .reset (h := h) (some 772) (resetAud 772)
      (State.keeps_mono (State.keeps_askReset ((s.heard h).now + ms 1) (.warm .warm) (s.heard h)) (by decide))
      (List.cons_ne_nil (.word "WARM") [])
    exact ⟨_, exec_resetWarm ht.1 ha, htx ht.2, by rw [hpm, State.askReset_resetAt]; rfl,
      by rw [hpm, State.askReset_run, State.heard_run]⟩
  · obtain ⟨htx, -⟩ := State.finish_recorded ((s.heard h).lineOrigin h) .reset (some 773) (resetAud 773)
      (w := (s.heard h).wakeSaved.askReset ((s.heard h).wakeSaved.now + ms 5) (.cold .cold)) ht.2 (List.cons_ne_nil (.word "COLD") [])
    refine ⟨_, exec_resetCold ht.1 ha, htx, ?_, ?_⟩
    · simp [State.askReset_resetAt]
    · simp [State.askReset_run, State.wakeSaved_pm, State.heard_run]
  · obtain ⟨hst, hpa, -⟩ := ((s.count .pmu "pm.watchdog").onImage Images.bootSettle).resetEdge_radio
    obtain ⟨-, hop⟩ := ((s.count .pmu "pm.watchdog").onImage Images.bootSettle).resetEdge_line
    exact ⟨_, exec_watchdog hr hp, rfl, hst, hpa, hop, by simp⟩
  · obtain ⟨hst, hpa, -⟩ := (s.onImage Images.bootCut).resetEdge_radio
    obtain ⟨-, hop⟩ := (s.onImage Images.bootCut).resetEdge_line
    exact ⟨_, exec_brownOut hr, rfl, rfl, hst, hpa, hop, by simp⟩
  · obtain ⟨-, hop⟩ := (s.onImage Images.bootSettle).resetEdge_line
    exact ⟨_, exec_shelfWake hr hp ha, rfl, hop, by simp⟩
  · rcases hr with hr | ⟨c, hr, hx⟩
    · exact ⟨_, exec_powerOnStart_unpowered hr, State.powerOn_run ..⟩
    · exact ⟨_, exec_powerOnStart_reset hr hx, State.powerOn_run ..⟩
  · obtain ⟨h1, -, -, h4⟩ := State.powerOn_run .bist false b temp n s
    exact ⟨_, exec_bistRetry hr ht, h4, h1⟩
  · obtain ⟨h1, h2, h3⟩ := State.warmStart_run c failed temp ok s
    exact ⟨_, exec_warmStart hr, h1, by simp⟩

end Sys2Proof.Machine

/-!
Proofs about the airtime limit of bursts.
-/

namespace Sys2Proof.Machine

/-! ## The airtime limit (R119, R121, R122) -/

theorem State.audit_prow {obj : Nat} (o : Origin) (action object result : Nat) (old new : AVal) (s : State)
    (h : (cardOf obj).map Card.eff ≠ some .record) : (s.audit o action object result old new).prow obj = s.prow obj := by
  have hone (o : Origin) (action object result : Nat) (old new : AVal) (s : State) :
      (s.auditOne o action object result old new).prow obj = s.prow obj := s.prow_fire_other h
  unfold State.audit
  rw [hone]
  split
  · exact hone ..
  · rfl

/-- The airtime of an accepted burst counts for 3,600 s (R121). -/
theorem State.acceptBurst_airtime (b : Burst) (s : State) : (s.acceptBurst b).airtime = s.airtime + b.length := by
  have hlt : s.now < s.now + secs 3600 := Nat.lt_add_of_pos_right (by decide)
  simp [State.airtime, State.acceptBurst, hlt]

theorem State.airtime_congr {s t : State} (hj : t.jomen.airtime = s.jomen.airtime) (hn : t.now = s.now) : t.airtime = s.airtime := by
  simp [State.airtime, hj, hn]

theorem State.prow_congr {s t : State} (hp : t.params = s.params) (obj : Nat) : t.prow obj = s.prow obj := by
  rw [State.prow, State.prow, hp]

theorem State.refuse_params (h : Hdr) (v : Verb) (e : Err) (tok : Nat) (obj : Option Nat) (s : State) :
    (s.refuse h v e tok obj).params = s.params := by
  simp

theorem State.dutyOk_iff {b : Burst} {s : State} :
    s.dutyOk b = true ↔ (s.airtime + b.length) * 1000 ≤ secs 3600 * s.pnat Obj.txDuty := by
  simp [State.dutyOk]

section

variable {h : Hdr} {code reason : Int} {sync rep : Option Int} {s : State}

/-- The burst that `DO jomen.burst` asks for, made with the settings that wait for it (R124 to R127). -/
def State.burstAsked (h : Hdr) (code reason : Int) (sync rep : Option Int) (s : State) : Burst :=
  let u := s.heard h
  let v := u.fire .burst
  v.makeBurst code.toNat reason.toNat (argOr (u.pint Obj.sync) sync).toNat (argOr (v.pint Obj.txRepeat) rep).toNat .command

/-- `DO jomen.burst` within its ranges, at OPERATOR. -/
theorem exec_doJomenBurst (hj : s.judgesAtOnce h) (ha : (s.heard h).allowed .operator = true) (hc : inRange 1 8191 code = true)
    (hr : inRange 0 7 reason = true) (hy : inRange 0 63 (argOr ((s.heard h).pint Obj.sync) sync) = true)
    (hn : inRange 1 64 (argOr (((s.heard h).fire .burst).pint Obj.txRepeat) rep) = true) :
    ∃ a, exec (.doJomenBurst h code reason sync rep) s = .next (State.finish ((s.heard h).lineOrigin h) h .do_
      (if ((s.heard h).fire .burst).dutyOk (s.burstAsked h code reason sync rep) then
        good (((s.acting h).fire .burst).acceptBurst (s.burstAsked h code reason sync rep)) [.burstOk] (some 514) (some a)
      else bad (s.acting h) .duty 0 (some 514) (some a))) := by
  refine ⟨{ action := 4, obj := 514, old := .num 0, new := .hash (Config.freeHash (s.heard h).fresh) },
    congrArg Host.Outcome.next ((State.change_judged _ .do_ true _ hj (fun _ => rfl)).trans ?_)⟩
  rw [runDoJomenBurst, actionRun_heard, needs_allowed ((State.acting_allowed h s .operator).trans ha)]
  have hy' : inRange 0 63 (argOr ((s.acting h).pint Obj.sync) sync) = true := hy
  have hn' : inRange 1 64 (argOr (((s.acting h).fire .burst).pint Obj.txRepeat) rep) = true := hn
  simp only [hc, hr, hy', hn', Bool.not_true, Bool.false_eq_true, if_false]
  rfl

end

/-- Settles O37: a burst is judged by its own airtime beside what the window holds (`State.dutyOk_iff`,
`State.acceptBurst_airtime`). -/
theorem burstsKeepTheDuty : Obligations.BurstsKeepTheDuty := by
  refine ⟨?_, ?_, fun s => ⟨_, rfl, ?_, fun x => ?_, State.keeps_onJomen _ s⟩⟩
  · intro h code reason sync rep s hj u v y n b ha hc hr hy hn
    obtain ⟨a, he⟩ := exec_doJomenBurst hj ha hc hr hy hn
    refine ⟨fun hd => ?_, fun hd => ?_⟩
    · have hok : ((s.heard h).fire .burst).dutyOk (s.burstAsked h code reason sync rep) = true := State.dutyOk_iff.mpr hd
      rw [if_pos hok, State.finish_good_some] at he
      refine ⟨_, he, fun h0 => State.reply_tx _ h0 (List.cons_ne_nil _ _), by simp; rfl, ?_, ?_⟩
      · exact (State.airtime_congr (by simp; rfl) (by simp; rfl)).trans (State.acceptBurst_airtime b u)
      · exact State.keeps_step (State.keeps_step (State.keeps_step (State.keeps_step (State.keeps_refl _ (s.acting h))
          (State.keeps_fire ..)) (State.keeps_onJomen ..)) (State.keeps_audit ..)) (State.keeps_reply ..)
    · have hok : ((s.heard h).fire .burst).dutyOk (s.burstAsked h code reason sync rep) = true → False :=
        fun hok => absurd (State.dutyOk_iff.mp hok) (Nat.not_le.mpr hd)
      rw [if_neg hok] at he
      obtain ⟨htx, -, -, hk⟩ := State.finish_bad_keeps ((s.heard h).lineOrigin h) .do_ (s.acting h) .duty 0 (some 514) (some a)
        (h := h) rfl
      refine ⟨_, he, htx, fun o ho => ?_, hk⟩
      rw [State.finish_bad_some, State.prow_congr (State.refuse_params ..), State.audit_prow _ _ _ _ _ _ _ ho]
      rfl
  · intro b rest s hq w v x
    refine ⟨fun hd => ⟨v.acceptBurst x, congrArg Host.Outcome.next ?_, rfl, rfl, v.acceptBurst_airtime x, ?_⟩,
      fun hd => congrArg Host.Outcome.next ?_⟩
    · simp only [hq]
      exact if_pos (State.dutyOk_iff.mpr hd)
    · exact State.keeps_step (State.keeps_step (State.keeps_mono (State.keeps_onJomen _ s) (by decide)) (State.keeps_fire ..))
        (State.keeps_onJomen ..)
    · simp only [hq]
      exact if_neg fun hok => absurd (State.dutyOk_iff.mp hok) (Nat.not_le.mpr hd)
  · simp [State.airtime]
  · simp

end Sys2Proof.Machine

/-!
Proofs about bursts on the air.
-/

namespace Sys2Proof.Machine

/-! ## Bursts on the air (R118 to R120) -/

variable {s : State}

/-- The radio beside the wires of coexistence. -/
def Radio.ether (r : Radio) : Radio := { r with granted := false, ahead := none, coexAir := 0, coexOff := none }

@[simp] theorem State.coexAfter_ether (off : Ticks) (s : State) : (s.coexAfter off).radio.ether = s.radio.ether := by
  unfold State.coexAfter
  dsimp only
  (repeat' split) <;> rfl

@[simp] theorem State.coexEnd_ether (tx : Tx) (off : Ticks) (s : State) : (s.coexEnd tx off).radio.ether = s.radio.ether := by
  unfold State.coexEnd
  split
  · exact State.coexAfter_ether ..
  · rfl

/-- The radio when a burst's last chip has gone: off the air, with the drive off (R118). -/
theorem State.endTx_radio (tx : Tx) (s : State) : (s.endTx tx).radio.tx = none ∧ (s.endTx tx).radio.paOn = false := by
  have hcoex (u : State) (t : Ticks) : (u.coexEnd tx t).radio.tx = u.radio.tx ∧ (u.coexEnd tx t).radio.paOn = u.radio.paOn :=
    ⟨(congrArg Radio.tx (u.coexEnd_ether tx t) :), (congrArg Radio.paOn (u.coexEnd_ether tx t) :)⟩
  have hoff (u : State) : (u.paOff tx.band (us 5)).radio.paOn = false := by
    unfold State.paOff
    dsimp only
    split <;> simp
  unfold State.endTx
  dsimp only
  split <;> simp [State.trans, hcoex, hoff]

/-- The wake branches stay blanked for 250 µs after a frame below 1 GHz (R120). -/
theorem State.endTx_wake (tx : Tx) (s : State) : (s.endTx tx).wake.masks = s.wake.masks ∧
    (tx.band = .sub → (s.endTx tx).wake.blankUntil = some (s.now + us 5 + us 250)) := by
  have hw : (s.endTx tx).wake = ((s.storeDrive tx).paOff tx.band (us 5)).wake := by
    unfold State.endTx
    dsimp only
    split <;> simp
  rw [hw]
  unfold State.paOff
  dsimp only
  split <;> simp_all

theorem exec_burstStart {b : Burst} (hx : s.txBarred = false) (hf : s.txFree = true) (hp : s.anyPayload = false)
    (ha : s.jomen.onAir = none) (hq : s.jomen.queue.find? s.burstAllowed = some b) :
    let v := s.onJomen (fun j => { j with queue := j.queue.erase b, onAir := some b })
    exec .burstStart s = .next (v.transmit (v.burstTx b)) := by
  refine congrArg Host.Outcome.next ?_
  rw [if_neg (by simp [hx, hf, hp, ha]), hq]

theorem exec_burstEnd {b : Burst} {tx : Tx} (ha : s.jomen.onAir = some b) (hx : s.radio.tx = some tx) (hk : tx.kind = .burst)
    (ht : s.radio.paFrom + us 4 + b.length ≤ s.now) (hc : b.purpose = .command) :
    exec .burstEnd s =
      .next (((s.endTx tx).onJomen (fun j => { j with onAir := none })).queue (.burst b.code b.reason .sent)) := by
  refine congrArg Host.Outcome.next ?_
  simp [ha, hx, hk, ht, hc]

/-- Settles O38, from what the end of a frame leaves (`State.endTx_radio`, `State.endTx_wake`). -/
theorem burstStartsAndEnds : Obligations.BurstStartsAndEnds := by
  refine ⟨fun b s hx hf hp ha hq => exec_burstStart hx hf hp ha hq, fun b tx s ha hx hk ht hc => ?_⟩
  obtain ⟨htx, hpa⟩ := s.endTx_radio tx
  obtain ⟨hm, hb⟩ := s.endTx_wake tx
  exact ⟨_, exec_burstEnd ha hx hk ht hc, by simp, by simpa using htx, by simpa using hpa, by simpa using hm, by simpa using hb⟩

end Sys2Proof.Machine

/-!
Proofs about code words: records, folds, chips and the slicer's floor.
-/

namespace Sys2Proof.Machine

/-! ## Code words (R131, R132, R142 to R166) -/

section

variable {br : Side} {readings : List (List Int)} {rssi : Int} {a : Align} {w e : Nat} {d : Decoded} {s : State}

/-- The state that a code word of a branch is judged in (R101, R142). -/
def State.wordIn (br : Side) (s : State) : State :=
  (s.onWake (Wake.onBr br (fun b => { b with align := none, hold := none }))).count .matcher ("matcher.sync." ++ sideText br)

/-- The detector that a branch's word counts as (R135). -/
def Branch.wordDet (b : Branch) : WakeDet := if b.det = .direct && b.tap then WakeDet.tap else b.det

theorem State.wordIn_wake (br : Side) (s : State) : (s.wordIn br).wake.queue = s.wake.queue ∧ (s.wordIn br).wake.seen = s.wake.seen ∧
    (s.wordIn br).wake.masks = s.wake.masks ∧ (s.wordIn br).wake.foldWins = s.wake.foldWins ∧ (s.wordIn br).wake.seq = s.wake.seq ∧
    (s.wordIn br).wake.armed = s.wake.armed := by
  cases br <;> simp [State.wordIn, Wake.onBr]

theorem State.keeps_wordIn (br : Side) (s : State) : s.keeps [.wake, .tally] (s.wordIn br) :=
  State.keeps_trans (State.keeps_mono (State.keeps_onWake _ s) (by decide)) (State.keeps_mono (State.keeps_count ..) (by decide))

theorem State.count_blanked (b : Block) (name : String) (s : State) : (s.count b name).blanked = s.blanked := by
  unfold State.count State.countN
  split <;> rfl

theorem State.count_wclk (b : Block) (name : String) (s : State) : (s.count b name).wclk = s.wclk := by
  simp [State.wclk]

/-- A word that agrees with no open record is judged for itself (R142, R147). -/
theorem exec_codeWordComplete (ha : s.wake.armed = true) (hal : (s.wake.br br).align = some a) (hr : s.receives br = true)
    (he : a.edge readings.length = s.wclk) (hb : s.blanked = false)
    (hw : codeWordOf ((s.wake.br br).chips readings) (syncWord (s.pnat Obj.sync)) (s.pnat Obj.syncErrors) = some (w, e))
    (hd : bchDecode w (s.pnat Obj.correct) = some d)
    (hq : s.wake.queue.any (WakeRec.agrees br s.wclk w (s.pnat Obj.correct)) = false) :
    ∃ x, exec (.codeWordComplete br readings rssi) s = .next ((s.wordIn br).judgeWord br (s.wake.br br).wordDet d e x) := by
  refine ⟨clampWake (s.wake.br br).wordDet rssi, congrArg Host.Outcome.next ?_⟩
  have hblank : (s.wordIn br).blanked = false := by
    rw [State.wordIn, State.count_blanked]
    cases br <;> exact hb
  have hqueue : (s.wordIn br).wake.queue.any (WakeRec.agrees br s.wclk w (s.pnat Obj.correct)) = false := by
    rw [(s.wordIn_wake br).1]; exact hq
  simp only [hal, ha, hr, he, hw, beq_self_eq_true, Bool.and_self, if_true]
  unfold State.matchWord
  dsimp only
  rw [if_neg (by simpa [State.wordIn] using hblank), if_neg (by simpa [State.wordIn] using hqueue), hd]
  rfl

/-! ### Records and folds (R146, R152, R165, R166) -/

/-- What a word of a code and reason sets in the seen bitmap (R166). -/
def Wake.seenWith (w : Wake) (code reason : Nat) : Mem :=
  Mem.write w.seen code (Mem.read w.seen code ||| BitVec.ofNat 8 (2 ^ reason))

theorem State.wakeEvent_wake (s : State) : s.wakeEvent.wake = s.wake := by simp

theorem State.keeps_wakeEvent (s : State) : s.keeps [.pm] s.wakeEvent := by
  refine ⟨by simp, by simp, by simp, fun g hg => ?_⟩
  cases g <;> simp [State.same] at hg ⊢

/-- A record is pushed behind the queue, unless the last entry is of branch B and of the same edge (R152). -/
theorem pushRec_of_ne {r : WakeRec} {q : List WakeRec} (h : ∀ x ∈ q, x.t1 ≠ r.t1) : pushRec r q = q ++ [r] := by
  unfold pushRec
  split
  · next x hx =>
    have := h x (List.mem_of_getLast? hx)
    simp [this]
  · rfl

/-- The record of a word (R146, R158). -/
def State.wordRec (sd : Side) (det : WakeDet) (d : Decoded) (syncErr : Nat) (rssi : Int) (s : State) : WakeRec :=
  let t1 := s.wclk
  let window := s.pnat Obj.discWindow
  { seq := s.wake.seq, code := d.code, reason := d.reason, aNamed := sd == .a, bNamed := sd == .b, first := sd,
    agreed := false, isOpen := true, det := det, errors := d.errors, syncErr := syncErr, skew := 0, repeats := 0,
    rssiA := if sd = .a then rssi else -128, rssiB := if sd = .b then rssi else -128,
    syncIdx := s.pnat Obj.sync, stamp := s.wordStamp det, t1 := t1, window := window, lastMatch := t1,
    closeAt := max (t1 + 3) (t1 + window + 1), frameLen := frameCycles det, word := BitVec.ofNat 31 d.word }

theorem State.record_wake (sd : Side) (det : WakeDet) (d : Decoded) (syncErr : Nat) (rssi : Int) (s : State) :
    (s.record sd det d syncErr rssi).wake = { s.wake with
      seen := s.wake.seenWith d.code d.reason, queue := pushRec (s.wordRec sd det d syncErr rssi) s.wake.queue,
      seq := s.wake.seq + 1,
      low := s.wake.armed && (!(pushRec (s.wordRec sd det d syncErr rssi) s.wake.queue).isEmpty || s.wake.foldFlag) } := by
  unfold State.record
  dsimp only
  rw [State.wakeEvent_wake, State.driveWake_wake]
  rfl

/-- A word that completes at an edge of its own opens a record behind the queue (R146, R158, R166). -/
theorem State.record_new (sd : Side) (det : WakeDet) (d : Decoded) (syncErr : Nat) (rssi : Int) {s : State}
    (h : ∀ r ∈ s.wake.queue, r.t1 ≠ s.wclk) : let t := s.record sd det d syncErr rssi
    t.wake.queue = s.wake.queue ++ [s.wordRec sd det d syncErr rssi] ∧ t.wake.seq = s.wake.seq + 1 ∧
      t.wake.seen = s.wake.seenWith d.code d.reason ∧ t.wake.low = s.wake.armed ∧ t.wake.masks = s.wake.masks := by
  dsimp only
  rw [State.record_wake, pushRec_of_ne h]
  exact ⟨rfl, rfl, rfl, by simp, rfl⟩

theorem State.keeps_record (sd : Side) (det : WakeDet) (d : Decoded) (syncErr : Nat) (rssi : Int) (s : State) :
    s.keeps [.line, .wake, .params, .mon, .pm, .tally] (s.record sd det d syncErr rssi) :=
  State.keeps_step (State.keeps_step (State.keeps_step (State.keeps_step (State.keeps_refl _ s) (State.keeps_onWake ..))
    (State.keeps_onWake ..)) (State.keeps_driveWake _)) (State.keeps_wakeEvent _)

theorem State.armSweep_wake (reason : Nat) (s : State) : ∃ sw, (s.armSweep reason).wake = { s.wake with sweeps := sw } := by
  unfold State.armSweep
  dsimp only
  split
  · exact ⟨_, rfl⟩
  · exact ⟨_, rfl⟩

/-- The window that a fold opens (R165). -/
def State.foldWin (sd : Side) (det : WakeDet) (code reason : Nat) (s : State) : FoldWin :=
  { code := code, reason := reason, first := sd, t1 := s.wclk, window := s.pnat Obj.discWindow, frameLen := frameCycles det }

theorem State.keeps_armSweep (reason : Nat) (s : State) : s.keeps [.wake, .params] (s.armSweep reason) := by
  have hf : s.keeps [.wake, .params] ((s.fire .fold).fire .sweepArm) :=
    State.keeps_step (State.keeps_mono (State.keeps_fire ..) (by decide)) (State.keeps_fire ..)
  unfold State.armSweep
  dsimp only
  split
  · exact State.keeps_step hf (State.keeps_onWake ..)
  · exact hf

/-- A fold before its sweep and WAKE: the seen bit, the flag, the window, the counter and the event (R165, R168). -/
def State.folding (sd : Side) (det : WakeDet) (code reason : Nat) (s : State) : State :=
  let t1 := s.wclk
  let first := !s.wake.folded
  let w := s.foldWin sd det code reason
  let s := s.setSeen code reason
  let s := s.onWake (fun k =>
    { k with foldFlag := true, folded := true,
             foldWins := k.foldWins.filter (fun f => decide (t1 ≤ f.t1 + f.window) || decide (2 * (t1 - f.t1) < f.frameLen)) ++ [w] })
  let s := s.count .matcher ("matcher.fold." ++ dec reason)
  if first then s.queue (.fold reason) else s

theorem State.fold_eq (sd : Side) (det : WakeDet) (code reason : Nat) (s : State) :
    s.fold sd det code reason = ((s.folding sd det code reason).armSweep reason).driveWake.wakeEvent := rfl

theorem State.folding_wake (sd : Side) (det : WakeDet) (code reason : Nat) (s : State) :
    ∃ l, (s.folding sd det code reason).wake = { s.wake with
      seen := s.wake.seenWith code reason, foldFlag := true, folded := true, foldWins := l ++ [s.foldWin sd det code reason] } := by
  refine ⟨s.wake.foldWins.filter (fun f => decide (s.wclk ≤ f.t1 + f.window) || decide (2 * (s.wclk - f.t1) < f.frameLen)), ?_⟩
  unfold State.folding
  dsimp only
  rw [apply_ite State.wake, (State.queue_frame ..).2.2.2.1, ite_self]
  simp [State.setSeen, Wake.seenWith]

theorem State.keeps_folding (sd : Side) (det : WakeDet) (code reason : Nat) (s : State) :
    s.keeps [.line, .wake, .params, .mon, .pm, .tally] (s.folding sd det code reason) := by
  have hc : ∀ f : Wake → Wake, s.keeps [.line, .wake, .params, .mon, .pm, .tally]
      (((s.setSeen code reason).onWake f).count .matcher ("matcher.fold." ++ dec reason)) := fun f =>
    State.keeps_step (State.keeps_step (State.keeps_step (State.keeps_refl _ s) (State.keeps_onWake ..)) (State.keeps_onWake ..))
      (State.keeps_count ..)
  unfold State.folding
  dsimp only
  split
  · exact State.keeps_step (hc _) (State.keeps_queue ..)
  · exact hc _

/-- What a fold leaves in the wake receiver (R165, R166, R168). -/
theorem State.fold_wake (sd : Side) (det : WakeDet) (code reason : Nat) (s : State) : let t := s.fold sd det code reason
    t.wake.queue = s.wake.queue ∧ t.wake.foldFlag = true ∧ t.wake.seq = s.wake.seq ∧
      t.wake.seen = s.wake.seenWith code reason ∧ t.wake.low = s.wake.armed ∧ t.wake.masks = s.wake.masks ∧
      s.foldWin sd det code reason ∈ t.wake.foldWins := by
  obtain ⟨l, hl⟩ := s.folding_wake sd det code reason
  obtain ⟨sw, hsw⟩ := (s.folding sd det code reason).armSweep_wake reason
  dsimp only
  rw [State.fold_eq, State.wakeEvent_wake, State.driveWake_wake, hsw, hl]
  exact ⟨rfl, rfl, rfl, rfl, by simp, rfl, by simp⟩

theorem State.keeps_fold (sd : Side) (det : WakeDet) (code reason : Nat) (s : State) :
    s.keeps [.line, .wake, .params, .mon, .pm, .tally] (s.fold sd det code reason) :=
  State.keeps_step (State.keeps_step (State.keeps_step (s.keeps_folding sd det code reason) (State.keeps_armSweep ..))
    (State.keeps_driveWake _)) (State.keeps_wakeEvent _)

/-! ### Judging a word (R146 to R152, R165) -/

theorem State.judgeWord_code0 {sd : Side} {det : WakeDet} {d : Decoded} {e : Nat} {rssi : Int} (h : d.code = 0) (s : State) :
    s.judgeWord sd det d e rssi = s.count .matcher "matcher.code0" := by
  simp [State.judgeWord, h]

theorem State.judgeWord_unarmed {sd : Side} {det : WakeDet} {d : Decoded} {e : Nat} {rssi : Int} {s : State} (h : d.code ≠ 0)
    (hm : (Mem.read s.wake.masks d.code).getLsbD d.reason = false) :
    s.judgeWord sd det d e rssi = s.count .matcher "matcher.unarmed" := by
  simp [State.judgeWord, h, hm]

/-- An armed word away from every match in progress (R146, R165). -/
theorem State.judgeWord_new {sd : Side} {det : WakeDet} {d : Decoded} {e : Nat} {rssi : Int} {s : State} (h : d.code ≠ 0)
    (hm : (Mem.read s.wake.masks d.code).getLsbD d.reason = true)
    (hq : ∀ r ∈ s.wake.queue, ¬(r.code = d.code ∧ r.reason = d.reason))
    (hf : ∀ f ∈ s.wake.foldWins, ¬(f.code = d.code ∧ f.reason = d.reason)) :
    s.judgeWord sd det d e rssi =
      if s.wake.queue.length < 16 then s.record sd det d e rssi
      else match s.lastOfB sd with
        | some x =>
          ((s.onWake (fun w => { w with queue := w.queue.dropLast, seq := w.seq - 1 })).record sd det d e rssi).fold
            .b x.det x.code x.reason
        | none => s.fold sd det d.code d.reason := by
  have hq' : s.wake.queue.filter (fun r => r.code == d.code && r.reason == d.reason) = [] :=
    List.filter_eq_nil_iff.mpr fun r hr => by simpa using hq r hr
  have hf' : s.wake.foldWins.filter (fun f => f.code == d.code && f.reason == d.reason) = [] :=
    List.filter_eq_nil_iff.mpr fun f hm => by simpa using hf f hm
  unfold State.judgeWord
  dsimp only
  rw [if_neg h, if_neg (by simp [hm]), hq', hf']
  rfl

/-- Branch B's word took no entry at this edge (R152). -/
theorem State.lastOfB_none {sd : Side} {s : State} (h : ∀ r ∈ s.wake.queue, r.t1 ≠ s.wclk) : s.lastOfB sd = none := by
  unfold State.lastOfB
  split
  · next x hx =>
    have := h x (List.mem_of_getLast? hx)
    simp [this]
  · rfl

theorem State.lastOfB_some {s : State} {q : List WakeRec} {x : WakeRec} (hq : s.wake.queue = q ++ [x]) (hf : x.first = .b)
    (ho : x.isOpen = true) (ht : x.t1 = s.wclk) : s.lastOfB .a = some x := by
  simp [State.lastOfB, hq, hf, ho, ht]

theorem State.wordIn_wclk (br : Side) (s : State) : (s.wordIn br).wclk = s.wclk := by
  simp [State.wordIn, State.wclk]

/-- Branch B's record gives its entry up to a word of branch A (R152, R165). -/
def State.withoutLast (s : State) : State := s.onWake (fun w => { w with queue := w.queue.dropLast, seq := w.seq - 1 })

end

section

variable {br : Side} {readings : List (List Int)} {rssi : Int} {a : Align} {w e : Nat} {d : Decoded} {s : State}

/-- What a word does in the state it is judged in is kept beside the same groups as in the state it came in. -/
theorem State.keeps_judged {but : List Group} {t : State} (hsub : [Group.wake, .tally] ⊆ but) (h : (s.wordIn br).keeps but t) :
    s.keeps but t :=
  State.keeps_trans (State.keeps_mono (s.keeps_wordIn br) hsub) h

theorem codeWord_noted (hex : ∃ x, exec (.codeWordComplete br readings rssi) s =
      .next ((s.wordIn br).judgeWord br (s.wake.br br).wordDet d e x))
    {name : String} (hj : ∀ x, (s.wordIn br).judgeWord br (s.wake.br br).wordDet d e x = (s.wordIn br).count .matcher name) :
    ∃ t, exec (.codeWordComplete br readings rssi) s = .next t ∧ t.wake.queue = s.wake.queue ∧
      t.wake.seen = s.wake.seen ∧ s.keeps [.wake, .tally] t := by
  obtain ⟨x, hx⟩ := hex
  obtain ⟨hq, hs, -⟩ := s.wordIn_wake br
  refine ⟨_, hx, ?_⟩
  rw [hj]
  exact ⟨by simpa using hq, by simpa using hs, State.keeps_judged (by decide) (State.keeps_mono (State.keeps_count ..) (by decide))⟩

end

/-! ### Chips and floors (R131, R132, R135) -/

theorem sliceChip_iff (d : WakeDet) (th : Int) (l : List Int) : let n := if d = .envelope ∨ d = .superregen then 32 else 8
    l.length = n → (sliceChip d th l = true ↔
      n / 4 < ((l.drop (n / 4)).take (n / 2)).countP (fun x => decide (th < x * dB))) := by
  intro n hl
  have hm : middleHalf d l = (l.drop (n / 4)).take (n / 2) ∧ ((l.drop (n / 4)).take (n / 2)).length = 2 * (n / 4) := by
    cases d <;> simp_all [middleHalf, n]
  rw [sliceChip, decide_eq_true_iff, hm.1, hm.2, List.countP_eq_length_filter]
  omega

theorem Branch.threshold_cases (b : Branch) : (b.align = none → b.threshold = b.floor + 9 * dB) ∧
    (∀ a hi lo, b.align = some a → a.threshold = hi + lo → 2 * b.threshold = (hi + lo) * dB) := by
  refine ⟨fun h => by simp [Branch.threshold, h], fun a hi lo h ht => ?_⟩
  have hd : dB / 2 = 34359738368 := by decide
  have hd' : dB = 68719476736 := by decide
  rw [Branch.threshold, h]
  dsimp only
  rw [ht, hd, hd']
  omega

/-- What a WCLK cycle does to a branch (R131, R135). -/
theorem State.trackBranch_cases (sd : Side) (s : State) :
    let b := s.wake.br sd
    (b.align ≠ none → s.receives sd = false → (s.trackBranch sd).wake.br sd = { b with align := none }) ∧
    (b.align ≠ none → s.receives sd = true → (s.trackBranch sd).wake = s.wake) ∧
    (b.align = none → s.reads sd = false → (s.trackBranch sd).wake = s.wake) ∧
    (b.align = none → s.reads sd = true → ∃ level : Int,
      (s.trackBranch sd).wake.br sd = { b with floor := b.floor + (level * dB - b.floor) / 2 ^ 18 }) ∧
    (s.trackBranch sd).wake.br (Side.other sd) = s.wake.br (Side.other sd) ∧ s.keeps [.wake] (s.trackBranch sd) := by
  have hother (f : Branch → Branch) (u : State) : (u.onWake (Wake.onBr sd f)).wake.br (Side.other sd) = u.wake.br (Side.other sd) := by
    cases sd <;> rfl
  have hself (f : Branch → Branch) (u : State) : (u.onWake (Wake.onBr sd f)).wake.br sd = f (u.wake.br sd) := by
    cases sd <;> rfl
  intro b
  unfold State.trackBranch
  refine ⟨fun ha hr => ?_, fun ha hr => ?_, fun ha hr => ?_, fun ha hr => ⟨Config.freeLevel s.fresh, ?_⟩, ?_, ?_⟩
  · rw [if_pos (by simp [hr, Option.isSome_iff_ne_none.mpr ha, b]), hself]
  · rw [if_neg (by simp [hr]), if_neg (by simp [b] at ha; simp [ha])]
  · rw [if_neg (by simp [show (s.wake.br sd).align = none from ha]), if_neg (by simp [hr])]
  · rw [if_neg (by simp [show (s.wake.br sd).align = none from ha]), if_pos (by simp [hr, show (s.wake.br sd).align = none from ha])]
    dsimp only
    rw [hself]
    simp [trackFloor, b]
  · split
    · exact hother _ s
    · split
      · exact hother _ s.draw.2
      · rfl
  · split
    · exact State.keeps_onWake _ s
    · split
      · exact State.keeps_onWake _ s.draw.2
      · exact State.keeps_refl _ s

/-- Settles O39: a word is judged in `State.wordIn` and records or folds there (`State.judgeWord_new`, `State.record_wake`,
`State.fold_wake`); chips and floors are said once (`sliceChip_iff`, `Branch.threshold_cases`, `State.trackBranch_cases`). -/
theorem codeWordWakes : Obligations.CodeWordWakes := by
  refine ⟨fun br readings rssi a w e d s ha hal hr he hb hw hd hq => ?_, sliceChip_iff, Branch.threshold_cases,
    State.trackBranch_cases⟩
  have hex := exec_codeWordComplete (rssi := rssi) ha hal hr he hb hw hd hq
  obtain ⟨kq, ks, km, kf, kn, ka⟩ := s.wordIn_wake br
  have kt := s.wordIn_wclk br
  refine ⟨fun h0 => codeWord_noted hex fun x => State.judgeWord_code0 h0 _,
    fun h0 hm => codeWord_noted hex fun x => State.judgeWord_unarmed h0 (by rw [km]; exact hm), fun h0 hm hnq hnf => ?_⟩
  obtain ⟨x, hx⟩ := hex
  have hseen : (s.wordIn br).wake.seenWith d.code d.reason =
      Mem.write s.wake.seen d.code (Mem.read s.wake.seen d.code ||| BitVec.ofNat 8 (2 ^ d.reason)) := by
    rw [Wake.seenWith, ks]
  rw [State.judgeWord_new h0 (by rw [km]; exact hm) (by rw [kq]; exact hnq) (by rw [kf]; exact hnf)] at hx
  refine ⟨fun hlen hne => ?_, fun hlen hne => ?_, fun q y hqy hlen hbr hy1 hy2 hy3 hne => ?_⟩
  · rw [if_pos (by rw [kq]; exact hlen)] at hx
    obtain ⟨rq, rn, rs, rl, rm⟩ := State.record_new br (s.wake.br br).wordDet d e x (s := s.wordIn br)
      (by rw [kq, kt]; exact hne)
    exact ⟨_, _, hx, rq.trans (by rw [kq]), kn, rfl, rfl, rfl, rfl, rfl, kt, rn.trans (by rw [kn]), rs.trans hseen,
      rl.trans (ka.trans ha), rm.trans km, State.keeps_judged (by decide) (State.keeps_mono (State.keeps_record ..) (by decide))⟩
  · rw [if_neg (by rw [kq]; exact Nat.not_lt.mpr hlen), State.lastOfB_none (by rw [kq, kt]; exact hne)] at hx
    obtain ⟨fq, ff, fn, fs, fl, fm, -⟩ := State.fold_wake br (s.wake.br br).wordDet d.code d.reason (s.wordIn br)
    exact ⟨_, hx, fq.trans kq, ff, fn.trans kn, fs.trans hseen, fl.trans (ka.trans ha), fm.trans km,
      State.keeps_judged (by decide) (State.keeps_mono (State.keeps_fold ..) (by decide))⟩
  · subst hbr
    rw [if_neg (by rw [kq]; exact Nat.not_lt.mpr hlen), State.lastOfB_some (by rw [kq]; exact hqy) hy1 hy2 (by rw [kt]; exact hy3)] at hx
    have hv : (s.wordIn .a).withoutLast.wake.queue = q := by
      rw [State.withoutLast, State.onWake_wake]
      simp [kq, hqy]
    have hvt : (s.wordIn .a).withoutLast.wclk = s.wclk := kt
    obtain ⟨rq, rn, -, -, -⟩ := State.record_new .a (s.wake.br .a).wordDet d e x (s := (s.wordIn .a).withoutLast)
      (by rw [hv, hvt]; exact hne)
    obtain ⟨fq, ff, fn, -, -, -, fw⟩ := State.fold_wake .b y.det y.code y.reason
      ((s.wordIn .a).withoutLast.record .a (s.wake.br .a).wordDet d e x)
    refine ⟨_, _, hx, fq.trans (rq.trans (by rw [hv])), rfl, rfl, rfl, hvt, ff, ?_, ⟨_, fw, rfl, rfl, rfl⟩, ?_⟩
    · have hseq : (s.wordIn .a).withoutLast.wake.seq = (s.wordIn .a).wake.seq - 1 := rfl
      exact fn.trans (rn.trans (by rw [hseq, kn, BitVec.sub_add_cancel]))
    · exact State.keeps_judged (by decide) (State.keeps_step (State.keeps_step
        (State.keeps_step (State.keeps_refl _ _) (State.keeps_onWake ..)) (State.keeps_record ..)) (State.keeps_fold ..))

end Sys2Proof.Machine

/-!
Proofs about the wake branches: settling, blanking, sniffs, alignment and configuration.
-/

namespace Sys2Proof.Machine

/-! ## The branches (R120, R134, R135, R140, R155) -/

@[simp] theorem Wake.br_onBr (sd : Side) (f : Branch → Branch) (w : Wake) : (Wake.onBr sd f w).br sd = f (w.br sd) := by
  cases sd <;> rfl

@[simp] theorem Wake.br_onBr_other (sd : Side) (f : Branch → Branch) (w : Wake) :
    (Wake.onBr sd f w).br (Side.other sd) = w.br (Side.other sd) := by
  cases sd <;> rfl

@[simp] theorem Wake.onBr_queue (sd : Side) (f : Branch → Branch) (w : Wake) : (Wake.onBr sd f w).queue = w.queue := by
  cases sd <;> rfl

section

variable {sd : Side} {s : State}

theorem State.keeps_onBr (f : Branch → Branch) (s : State) : s.keeps [.wake] (s.onWake (Wake.onBr sd f)) := State.keeps_onWake ..

/-- A change that every branch makes for itself, one after the other. -/
def State.eachBranch (f : Side → Branch → Branch) (s : State) : State :=
  s.each [Side.a, Side.b] (fun sd s => s.onWake (Wake.onBr sd (f sd)))

theorem State.each_pair (x y : Side) (F : Side → State → State) (s : State) : s.each [x, y] F = F y (F x s) := rfl

theorem State.eachBranch_wake (f : Side → Branch → Branch) (s : State) :
    (s.eachBranch f).wake.br sd = f sd (s.wake.br sd) ∧ (s.eachBranch f).wake.queue = s.wake.queue ∧
      s.keeps [.wake] (s.eachBranch f) := by
  refine ⟨?_, rfl, State.keeps_trans (State.keeps_onBr ..) (State.keeps_onBr ..)⟩
  cases sd <;> rfl

/-- A change of a branch that depends on the branch alone. -/
theorem State.onBr_ite (p : Branch → Bool) (f : Branch → Branch) (s : State) :
    (if p (s.wake.br sd) then s.onWake (Wake.onBr sd f) else s) =
      s.onWake (Wake.onBr sd (fun b => if p b then f b else b)) := by
  split
  · next h => cases sd <;> (unfold Wake.br at h; simp [State.onWake, Wake.onBr, h])
  · next h => cases sd <;> (unfold Wake.br at h; simp [State.onWake, Wake.onBr, h])

theorem State.onWake_blankUntil (t : Option Ticks) (s : State) :
    (s.onWake (fun w => { w with blankUntil := t })).wake.br sd = s.wake.br sd := by
  cases sd <;> rfl

theorem exec_syncSearchTimeout {a : Align} (ha : (s.wake.br sd).align = some a) (ht : a.at_ + 40 * a.period ≤ s.now) :
    exec (.syncSearchTimeout sd) s = .next (s.onWake (Wake.onBr sd (fun b => { b with align := none }))) := by
  refine congrArg Host.Outcome.next ?_
  simp only [ha]
  exact if_pos ht

theorem exec_branchSettleComplete {t : Ticks} (hst : (s.wake.br sd).st = .settling) (hse : (s.wake.br sd).settleAt = some t)
    (ht : t ≤ s.now) : exec (.branchSettleComplete sd) s = .next (s.draw.2.onWake (Wake.onBr sd (fun b =>
      { b with st := if s.blanked then .blanked else .listen, listenFrom := s.wclk,
               floor := if b.det == .direct then b.floor else Config.freeLevel s.fresh * dB }))) := by
  refine congrArg Host.Outcome.next ?_
  simp only [hse]
  rw [if_pos (by simp [hst, ht])]
  rfl

/-- A branch is blanked, or listens again (R120, R155). -/
def Branch.blank (b : Branch) : Branch :=
  if b.st == .listen then { b with st := .blanked, align := none, hold := none } else b

def Branch.unblank (t : Nat) (b : Branch) : Branch := if b.st == .blanked then { b with st := .listen, listenFrom := t } else b

theorem exec_blankingStart (hb : s.blanked = true) : exec .blankingStart s = .next (s.eachBranch (fun _ => Branch.blank)) := by
  refine congrArg Host.Outcome.next ((if_pos hb).trans ?_)
  exact congrArg (fun f => s.each [Side.a, Side.b] f) (funext fun sd => funext fun u =>
    u.onBr_ite (fun b => b.st == .listen) (fun b => { b with st := .blanked, align := none, hold := none }))

theorem exec_blankingEnd (hb : s.blanked = false) : exec .blankingEnd s =
    .next ((s.eachBranch (fun _ => Branch.unblank s.wclk)).onWake (fun w => { w with blankUntil := none })) := by
  refine congrArg Host.Outcome.next ((if_neg (by simp [hb])).trans ?_)
  have heach : (fun (sd : Side) (u : State) => if (u.wake.br sd).st == .blanked then
        u.onWake (Wake.onBr sd (fun b => { b with st := .listen, listenFrom := u.wclk })) else u) =
      fun sd u => u.onWake (Wake.onBr sd (Branch.unblank u.wclk)) :=
    funext fun sd => funext fun u => u.onBr_ite (fun b => b.st == .blanked) (fun b => { b with st := .listen, listenFrom := u.wclk })
  have h := congrArg (fun f => s.each [Side.a, Side.b] f) heach
  exact congrArg (State.onWake _) h

theorem exec_directSuspend (hd : (s.wake.br sd).det = .direct) (hst : (s.wake.br sd).st = .listen) (hc : s.chainFree sd = false)
    (ht : s.tapTerms sd = false) : exec (.directSuspend sd) s = .next (s.onWake (Wake.onBr sd (Branch.stop .suspended))) :=
  congrArg Host.Outcome.next (if_pos (by simp [hd, hst, hc, ht]))

theorem exec_directSuspend_terms (ht : s.tapTerms sd = true) : exec (.directSuspend sd) s = .next s :=
  congrArg Host.Outcome.next (if_neg (by simp [ht]))

theorem exec_directResume (hst : (s.wake.br sd).st = .suspended) (hc : s.chainFree sd = true ∨ s.tapOk sd = true) :
    exec (.directResume sd) s = .next (s.onWake (Wake.onBr sd (fun b =>
      { b with st := .listen, listenFrom := s.wclk, nextSniff := s.wclk }))) :=
  congrArg Host.Outcome.next (if_pos (by simpa [hst] using hc))

theorem exec_sniffHoldTimeout {t : Nat} (hh : (s.wake.br sd).hold = some t) (ht : t + 1024 ≤ s.wclk) :
    exec (.sniffHoldTimeout sd) s = .next (s.onWake (Wake.onBr sd (fun b => { b with hold := none, align := none }))) := by
  refine congrArg Host.Outcome.next ?_
  simp only [hh]
  exact if_pos ht

theorem exec_discrepancyWindowClose {r : WakeRec}
    (h : s.wake.queue.filter (fun r => r.isOpen && decide (r.closeAt ≤ s.wclk)) = [r]) :
    exec .discrepancyWindowClose s = .next (s.closeRecord r) := by
  refine congrArg Host.Outcome.next ?_
  rw [h]
  rfl

/-! ### Sniffs (R131, R134) -/

/-- The state of a sniff, before its reading (R134, R195). -/
def State.sniffing (sd : Side) (s : State) : State := (s.fire .sniff).sniffDc sd

theorem State.sniffing_facts (sd : Side) (s : State) : (s.sniffing sd).wake = s.wake ∧ (s.sniffing sd).wclk = s.wclk ∧
    (s.sniffing sd).sniffPeriod = 504 * (s.fire .sniff).pnat Obj.sniff + 104 ∧
    ((s.sniffing sd).rx.chain sd).dc = Config.dcWake ((s.rx.chain sd).dcTable .sub) sd ∧
    s.keeps [.rx, .params] (s.sniffing sd) := by
  have hrx (u : State) (f : Chain → Chain) : u.keeps [.rx, .params] (u.onChain sd f) :=
    State.keeps_mono (State.keeps_onRx _ u) (by decide)
  refine ⟨rfl, rfl, rfl, ?_, State.keeps_trans (State.keeps_mono (State.keeps_fire .sniff s) (by decide)) (hrx (s.fire .sniff).draw.2 _)⟩
  cases sd <;> rfl

/-- A sniff of a branch that decides (R131, R134). -/
def State.sniffed (sd : Side) (level : Int) (s : State) : State :=
  let hit := decide ((s.wake.br sd).threshold < level * dB)
  let u := (s.sniffing sd).onWake (Wake.onBr sd (fun b =>
    { b with floor := trackFloor (s.sniffing sd).sniffPeriod level b.floor, nextSniff := s.wclk + (s.sniffing sd).sniffPeriod,
             hold := if hit then some s.wclk else none }))
  if hit then u.count .wur ("wur.hold." ++ sideText sd) else u

theorem State.sniffed_facts (level : Int) :
    (s.sniffed sd level).wake.br sd = { s.wake.br sd with
      floor := (s.wake.br sd).floor +
        (level * dB - (s.wake.br sd).floor) * ((504 * (s.fire .sniff).pnat Obj.sniff + 104 : Nat) : Int) / 2 ^ 18,
      nextSniff := s.wclk + (504 * (s.fire .sniff).pnat Obj.sniff + 104),
      hold := if (s.wake.br sd).threshold < level * dB then some s.wclk else none } ∧
    ((s.sniffed sd level).rx.chain sd).dc = Config.dcWake ((s.rx.chain sd).dcTable .sub) sd ∧
    s.keeps [.wake, .rx, .params, .tally] (s.sniffed sd level) := by
  obtain ⟨hw, -, hp, hdc, hk⟩ := s.sniffing_facts sd
  have hk' (f : Branch → Branch) : s.keeps [.wake, .rx, .params, .tally] ((s.sniffing sd).onWake (Wake.onBr sd f)) :=
    State.keeps_trans (State.keeps_mono hk (by decide)) (State.keeps_mono (State.keeps_onBr ..) (by decide))
  simp only [State.sniffed, hp]
  by_cases hh : (s.wake.br sd).threshold < level * dB
  · rw [if_pos (decide_eq_true hh), if_pos hh]
    refine ⟨?_, ?_, State.keeps_trans (hk' _) (State.keeps_mono (State.keeps_count ..) (by decide))⟩
    · simp [hw, hh, trackFloor]
    · simpa using hdc
  · rw [if_neg (by simp [hh]), if_neg hh]
    refine ⟨?_, hdc, hk' _⟩
    simp [hw, hh, trackFloor]

theorem exec_directSniff {level : Int} (hd : (s.wake.br sd).det = .direct) (hh : (s.wake.br sd).hold = none)
    (hc : s.chainFree sd = true) (hn : (s.wake.br sd).nextSniff ≤ s.wclk) (hdec : (s.wake.br sd).decides = true) :
    exec (.directSniff sd level) s = .next (s.sniffed sd level) := by
  have hfirst : ((s.wake.br sd).st == .settling) = false := by
    cases hst : (s.wake.br sd).st <;> simp_all [Branch.decides]
  refine congrArg Host.Outcome.next ?_
  dsimp only
  rw [if_pos (by simp [hd, hh, hc, hn, hdec]), if_neg (by simp [hfirst])]
  rfl

/-- The first sniff of a settling branch (R131, R155). -/
theorem exec_directSniff_first {level : Int} (hd : (s.wake.br sd).det = .direct) (hh : (s.wake.br sd).hold = none)
    (hc : s.chainFree sd = true) (hn : (s.wake.br sd).nextSniff ≤ s.wclk) (hst : (s.wake.br sd).st = .settling)
    (hse : (s.wake.br sd).settleAt = none) :
    exec (.directSniff sd level) s = .next ((s.sniffing sd).onWake (Wake.onBr sd (fun b =>
      { b with settleAt := some (s.now + 16 * wclkTicks), floor := level * dB, nextSniff := s.wclk + (s.sniffing sd).sniffPeriod }))) := by
  refine congrArg Host.Outcome.next ?_
  dsimp only
  rw [if_pos (by simp [hd, hh, hc, hn, hst, hse]), if_pos (by simp [hst, hse])]
  rfl

theorem exec_branchAlignment {chips : List (Ticks × List Int)} {hi lo : Int} (ha : s.wake.armed = true) (hr : s.reads sd = true)
    (hal : (s.wake.br sd).align = none) (hl : chips.length = 8)
    (he : edgesOk (chipTicks (s.wake.br sd).det) (chips.map Prod.fst) = true) :
    let edges := chips.map Prod.fst
    let p := (edges.getLastD 0 - edges.headD 0) / 7
    exec (.branchAlignment sd chips hi lo) s = .next (
      if (chips.map Prod.snd).map (sliceChip (s.wake.br sd).det ((s.wake.br sd).floor + 9 * dB)) =
          [true, false, true, false, true, false, true, false] then
        s.onWake (Wake.onBr sd (fun b => { b with
          tap := s.tapOk sd, align := some { at_ := edges.getLastD 0 + p, period := p, threshold := hi + lo } }))
      else s) := by
  intro edges p
  have hth : (s.wake.br sd).threshold = (s.wake.br sd).floor + 9 * dB := by simp [Branch.threshold, hal]
  refine congrArg Host.Outcome.next ?_
  simp only [Branch.chips, hth, ha, hr, hal, he, List.length_map, hl, Option.isNone_none, Bool.and_self, Bool.true_and,
    beq_self_eq_true, beq_iff_eq]
  rfl

/-! ### A change of configuration (R131, R140) -/

/-- What a branch makes of the detector and the branches in force, of which it is used or not (R131, R140). -/
def Branch.configure (d : WakeDet) (used : Bool) (now : Ticks) (wclk : Nat) (b : Branch) : Branch :=
  if b.st == .retired then b
  else if !used then (if b.st == .off then b else b.stop .off)
  else if b.st == .off || b.det != d then
    { b with st := .settling, det := d, align := none, hold := none, tap := false, settleAt := settleEnd now d, nextSniff := wclk }
  else b

/-- The detector in force is taken over, and a change of it ends the count of discrepancies (R131, R157). -/
def State.detTaken (s : State) : State :=
  if s.wake.det != s.detector then
    s.onWake (fun w => { w with det := s.detector, a := { w.a with disc := 0 }, b := { w.b with disc := 0 } })
  else s

theorem State.onBr_configure {d : WakeDet} {used : Bool} {now : Ticks} {wclk : Nat} {s : State} (hd : s.detector = d)
    (hu : s.branchUsed sd = used) (hn : s.now = now) (hw : s.wclk = wclk) :
    (if (s.wake.br sd).st == .retired then s
     else if !s.branchUsed sd then (if (s.wake.br sd).st == .off then s else s.onWake (Wake.onBr sd (Branch.stop .off)))
     else if (s.wake.br sd).st == .off || (s.wake.br sd).det != s.detector then s.settle sd
     else s) = s.onWake (Wake.onBr sd (Branch.configure d used now wclk)) := by
  subst hd hu hn hw
  have hid {f : Branch → Branch} (h : f (s.wake.br sd) = s.wake.br sd) : s = s.onWake (Wake.onBr sd f) := by
    cases sd <;> (unfold Wake.br at h; simp [State.onWake, Wake.onBr, h])
  have hto {f g : Branch → Branch} (h : f (s.wake.br sd) = g (s.wake.br sd)) :
      s.onWake (Wake.onBr sd f) = s.onWake (Wake.onBr sd g) := by
    cases sd <;> (unfold Wake.br at h; simp [State.onWake, Wake.onBr, h])
  split
  · next hret => exact hid (if_pos hret)
  · next hret =>
    split
    · next hun =>
      split
      · next hoff => exact hid ((if_neg hret).trans ((if_pos hun).trans (if_pos hoff)))
      · next hoff => exact hto ((if_neg hret).trans ((if_pos hun).trans (if_neg hoff))).symm
    · next hun =>
      split
      · next hch => exact hto ((if_neg hret).trans ((if_neg hun).trans (if_pos hch))).symm
      · next hch => exact hid ((if_neg hret).trans ((if_neg hun).trans (if_neg hch)))

theorem exec_branchConfigChange (ha : s.wake.armed = true) : exec .branchConfigChange s =
    .next (s.detTaken.eachBranch (fun sd => Branch.configure s.detector (s.branchUsed sd) s.now s.wclk)) := by
  have hdet : s.detTaken.detector = s.detector ∧ s.detTaken.branchUsed = s.branchUsed ∧ s.detTaken.now = s.now := by
    unfold State.detTaken
    split <;> exact ⟨rfl, rfl, rfl⟩
  obtain ⟨hd, hu, hn⟩ := hdet
  have hw (w : Wake → Wake) : (s.detTaken.onWake w).wclk = s.wclk := congrArg (· / wclkTicks) hn
  have ha' := State.onBr_configure (sd := .a) hd (congrFun hu .a) hn (hw id)
  have hb' := State.onBr_configure (sd := .b)
    (s := s.detTaken.onWake (Wake.onBr .a (Branch.configure s.detector (s.branchUsed .a) s.now s.wclk)))
    hd (congrFun hu .b) hn (hw _)
  refine congrArg Host.Outcome.next ((if_pos ha).trans ?_)
  rw [State.eachBranch, State.each_pair, State.each_pair, ← hb', ← ha']
  rfl

theorem exec_sweepStart {cls : Nat} (hc : s.ccOn = true) (hd : dueSweep s.time.slotAt s.wake.sweeps = some cls) :
    exec .sweepStart s = .next (s.sweepDue cls) := by
  refine congrArg Host.Outcome.next ((if_pos hc).trans ?_)
  simp only [hd]

/-- The sweep that starts with no round open nor waiting (R140). -/
theorem State.sweepDue_starts {cls : Nat} (hr : s.work.round = none) (hw : s.work.rounds = []) :
    (s.sweepDue cls).wake.sweeping = some (cls, false) ∧ (s.sweepDue cls).wake.sweeps = assocDel cls s.wake.sweeps ∧
      (s.sweepDue cls).wake.queue = s.wake.queue := by
  have hfree : ((s.onWake (fun w => { w with sweeps := assocDel cls w.sweeps })).work.round.isNone &&
      (s.onWake (fun w => { w with sweeps := assocDel cls w.sweeps })).work.rounds.isEmpty) = true := by simp [hr, hw]
  simp only [State.sweepDue, State.requestRound, if_pos hfree, State.startRound]
  refine ⟨?_, ?_, ?_⟩ <;> simp [State.takeRoundId]

theorem State.detTaken_facts (s : State) : s.detTaken.wake.det = s.detector ∧
    (s.wake.det ≠ s.detector → (s.detTaken.wake.br sd).disc = 0) ∧ (s.detTaken.wake.br sd).st = (s.wake.br sd).st ∧
    (s.detTaken.wake.br sd).det = (s.wake.br sd).det ∧ s.keeps [.wake] s.detTaken := by
  unfold State.detTaken
  by_cases hd : s.wake.det = s.detector
  · rw [if_neg (by simp [hd])]
    exact ⟨hd, fun h => absurd hd h, rfl, rfl, State.keeps_refl ..⟩
  · rw [if_pos (by simp [hd])]
    refine ⟨rfl, fun _ => ?_, ?_, ?_, State.keeps_onWake ..⟩ <;> cases sd <;> rfl

theorem Branch.configure_disc (d : WakeDet) (used : Bool) (now : Ticks) (wclk : Nat) (b : Branch) :
    (b.configure d used now wclk).disc = b.disc := by
  unfold Branch.configure Branch.stop
  split
  · rfl
  · split <;> split <;> rfl

theorem Branch.configure_off {d : WakeDet} {now : Ticks} {wclk : Nat} {b : Branch} (hr : b.st ≠ .retired) :
    (b.configure d false now wclk).st = .off := by
  rw [Branch.configure, if_neg (by simp [hr]), if_pos (by decide)]
  split
  · next h => exact beq_iff_eq.mp h
  · rfl

theorem Branch.configure_settles {d : WakeDet} {now : Ticks} {wclk : Nat} {b : Branch} (hr : b.st ≠ .retired)
    (hc : b.st = .off ∨ b.det ≠ d) : (b.configure d true now wclk).st = .settling ∧ (b.configure d true now wclk).det = d ∧
      (b.configure d true now wclk).settleAt = settleEnd now d := by
  rw [Branch.configure, if_neg (by simp [hr]), if_neg (by simp), if_pos (by simpa using hc)]
  exact ⟨rfl, rfl, rfl⟩

/-- Settles O40, event by event: each changes its branch and leaves the other (`exec_syncSearchTimeout` and those after
it). -/
theorem branchEvents : Obligations.BranchEvents := by
  intro sd s b
  refine ⟨fun a ha ht => ⟨_, exec_syncSearchTimeout ha ht, Wake.br_onBr .., Wake.br_onBr_other .., Wake.onBr_queue ..,
      State.keeps_onBr ..⟩,
    fun t0 hst hse ht => ⟨_, _, exec_branchSettleComplete hst hse ht, fun hd => if_pos (by simpa using hd), Wake.br_onBr ..,
      Wake.br_onBr_other .., State.keeps_onBr _ s.draw.2⟩,
    fun hb => ?_, fun hb => ?_,
    fun hd hst hc ht => ⟨_, exec_directSuspend hd hst hc ht, Wake.br_onBr .., State.keeps_onBr ..⟩,
    fun _ _ ht => exec_directSuspend_terms ht,
    fun hst hc => ⟨_, exec_directResume hst hc, Wake.br_onBr .., State.keeps_onBr ..⟩,
    fun level hd hh hc hn => ⟨fun hdec => ⟨_, exec_directSniff hd hh hc hn hdec, ?_⟩,
      fun hst hse => ⟨_, exec_directSniff_first hd hh hc hn hst hse, ?_⟩⟩,
    fun t0 hh ht => ⟨_, exec_sniffHoldTimeout hh ht, Wake.br_onBr .., State.keeps_onBr ..⟩,
    fun chips hi lo ha hr hal hl he => ⟨_, exec_branchAlignment ha hr hal hl he, ?_⟩,
    fun ha => ⟨_, exec_branchConfigChange ha, ?_⟩,
    fun r hr => exec_discrepancyWindowClose hr,
    fun cls hc hd => ⟨exec_sweepStart hc hd, State.sweepDue_starts⟩⟩
  · obtain ⟨hbr, hq, hk⟩ := s.eachBranch_wake (sd := sd) (fun _ => Branch.blank)
    exact ⟨_, exec_blankingStart hb, by simpa [Branch.blank] using hbr, hq, hk⟩
  · obtain ⟨hbr, -, hk⟩ := s.eachBranch_wake (sd := sd) (fun _ => Branch.unblank s.wclk)
    refine ⟨_, exec_blankingEnd hb, ?_, rfl, State.keeps_trans hk (State.keeps_onWake ..)⟩
    have hto : (Branch.unblank s.wclk b) = if b.st = .blanked then { b with st := .listen, listenFrom := s.wclk } else b := by
      simp [Branch.unblank]
    exact (State.onWake_blankUntil ..).trans (hbr.trans hto)
  · exact State.sniffed_facts level
  · obtain ⟨hw, -, hp, -, hk⟩ := s.sniffing_facts sd
    refine ⟨?_, State.keeps_trans (State.keeps_mono hk (by decide)) (State.keeps_mono (State.keeps_onBr ..) (by decide))⟩
    rw [hp]
    exact (Wake.br_onBr ..).trans (by rw [hw])
  · split
    · next hok => exact ⟨fun _ => Wake.br_onBr .., fun h => absurd hok h, State.keeps_onBr ..⟩
    · next hok => exact ⟨fun h => absurd h hok, fun _ => rfl, State.keeps_refl ..⟩
  · obtain ⟨hdet, hdisc, hst, hbd, hk⟩ := s.detTaken_facts (sd := sd)
    obtain ⟨hbr, -, hk'⟩ := s.detTaken.eachBranch_wake (sd := sd)
      (fun sd => Branch.configure s.detector (s.branchUsed sd) s.now s.wclk)
    refine ⟨?_, fun hd => ?_, fun hr hu => ?_, fun hr hu hc => ?_, State.keeps_trans hk hk'⟩
    · exact hdet
    · rw [hbr, Branch.configure_disc]
      exact hdisc hd
    · rw [hbr, hu]
      exact Branch.configure_off (hst ▸ hr)
    · rw [hbr, hu]
      exact Branch.configure_settles (hst ▸ hr) (by rw [hst, hbd]; exact hc)

end

end Sys2Proof.Machine

/-!
Proofs about what announcements leave alone, and about the events of the main radio.
-/

namespace Sys2Proof.Machine

/-! ## What announcements leave alone

An event line, a wake event, a count and what they bring about change LINE, the monitors, PMU, WAKE, counters and the
settings of VAUX in force. -/

/-- A reading of the state that these changes leave as it is. -/
structure State.Muted {α : Type} (g : State → α) : Prop where
  onLine : ∀ f s, g (State.onLine f s) = g s := by exact fun _ _ => rfl
  onMon : ∀ f s, g (State.onMon f s) = g s := by exact fun _ _ => rfl
  onPm : ∀ f s, g (State.onPm f s) = g s := by exact fun _ _ => rfl
  onWake : ∀ f s, g (State.onWake f s) = g s := by exact fun _ _ => rfl
  fire : ∀ tr s, g (State.fire tr s) = g s := by exact fun _ _ => rfl
  countN : ∀ b name n s, g (State.countN b name n s) = g s

namespace State.Muted

variable {α : Type} {g : State → α} (hg : State.Muted g) (s : State)

include hg

theorem count (b : Block) (name : String) : g (s.count b name) = g s := hg.countN ..

theorem wakeEvent : g s.wakeEvent = g s := by
  unfold State.wakeEvent
  split
  · rfl
  split
  · exact hg.onPm ..
  split
  · exact hg.onPm ..
  split
  · exact hg.onPm ..
  · rfl
  · exact hg.onPm ..

theorem pgAsk (n : Fin 4) : g (s.pgAsk n).2 = g s := by
  unfold State.pgAsk
  split
  · exact (hg.wakeEvent _).trans (hg.count ..)
  · dsimp only
    exact hg.onMon _ s

theorem pushEv (e : Ev) : g (s.pushEv e) = g s := hg.onLine ..

theorem hostDeaf : g s.hostDeaf = g s := by
  unfold State.hostDeaf
  split
  · exact hg.onLine ..
  · rfl

theorem vauxTripped (code : Nat) : g (s.vauxTripped code) = g s := by
  have hoff (f : Mons → Mons) : g (((s.count .pg "vaux.trip").pushEv (.vauxTrip code)).onMon f).hostDeaf = g s := by
    rw [hg.hostDeaf, hg.onMon, hg.pushEv, hg.count]
  unfold State.vauxTripped
  dsimp only
  rw [apply_ite g, hg.pushEv, hg.count, hg.onMon, hg.onMon, hoff, ite_self]

theorem vauxAttempt : g s.vauxAttempt = g s := by
  have hp (n : Fin 4) (f : Mons → Mons) : g (((s.fire .vauxOn).onMon f).pgAsk n).2 = g s := by rw [hg.pgAsk, hg.onMon, hg.fire]
  unfold State.vauxAttempt
  dsimp only
  split
  · rw [hg.onMon, hp]
  · rw [hg.vauxTripped, hp]

theorem vauxPolicy : g s.vauxPolicy = g s := by
  unfold State.vauxPolicy
  split
  · rw [hg.vauxAttempt, hg.onMon]
  · rfl

theorem queue (e : Ev) : g (s.queue e) = g s := by rw [State.queue, hg.vauxPolicy, hg.pushEv]

theorem wmAct (n : Fin 8) : g (s.wmAct n) = g s := by
  rw [State.wmAct, hg.wakeEvent, hg.queue, hg.count]
  exact hg.onMon ..

theorem wmClear (n : Fin 8) : g (s.wmClear n) = g s := by
  unfold State.wmClear
  dsimp only
  rw [hg.queue]
  split
  · exact (hg.onMon ..).trans (hg.onMon ..)
  · exact hg.onMon ..

theorem relatch (n : Fin 8) : g (s.relatch n) = g s := by
  unfold State.relatch
  dsimp only
  split
  · exact (hg.wmAct _ n).trans (hg.onMon ..)
  · split
    · exact (hg.wmClear _ n).trans (hg.onMon ..)
    · exact hg.onMon ..

theorem wmPaOff : g s.wmPaOff = g s := by
  refine State.each_keeps g _ _ s fun n s => ?_
  dsimp only
  split
  · exact (hg.relatch _ n).trans (hg.onMon ..)
  · rfl

end State.Muted

/-! ## The bytes of the ports (R512) -/

theorem portValue_bumpPort (p : Port) (n : Nat) (l : List (Port × Nat)) : portValue p (bumpPort p n l) = portValue p l + n := by
  induction l with
  | nil => simp [bumpPort, portValue]
  | cons x l ih =>
    obtain ⟨q, m⟩ := x
    by_cases hq : q = p
    · simp [bumpPort, portValue, hq]
    · simpa [bumpPort, portValue, hq] using ih

theorem State.countN_bwBytes (b : Block) (name : String) (n : Nat) (s : State) : (s.countN b name n).tally.bwBytes = s.tally.bwBytes := by
  unfold State.countN
  split <;> rfl

theorem State.muted_bwBytes : State.Muted (fun s => s.tally.bwBytes) := { countN := State.countN_bwBytes }

section

variable {s : State}

theorem State.keeps_onRadio (f : Radio → Radio) (s : State) : s.keeps [.radio] (s.onRadio f) := by
  refine ⟨rfl, rfl, rfl, fun g hg => ?_⟩
  cases g with
  | radio => simp at hg
  | _ => rfl

theorem State.keeps_onTime (f : Time → Time) (s : State) : s.keeps [.time] (s.onTime f) := by
  refine ⟨rfl, rfl, rfl, fun g hg => ?_⟩
  cases g with
  | time => simp at hg
  | _ => rfl

theorem State.keeps_onMon (f : Mons → Mons) (s : State) : s.keeps [.mon] (s.onMon f) := by
  refine ⟨rfl, rfl, rfl, fun g hg => ?_⟩
  cases g with
  | mon => simp at hg
  | _ => rfl

theorem State.keeps_onSched (f : Sched → Sched) (s : State) : s.keeps [.sched] (s.onSched f) := by
  refine ⟨rfl, rfl, rfl, fun g hg => ?_⟩
  cases g with
  | sched => simp at hg
  | _ => rfl

theorem State.endTx_bwBytes (tx : Tx) (s : State) :
    portValue .airTx (s.endTx tx).tally.bwBytes = portValue .airTx s.tally.bwBytes + tx.octets := by
  have hoff (u : State) : (u.paOff tx.band (us 5)).tally.bwBytes = u.tally.bwBytes := by
    have hwm := State.muted_bwBytes.wmPaOff (u.onRadio (fun r => { r with paOn := false }))
    unfold State.paOff
    dsimp only at hwm ⊢
    split <;> simpa using hwm
  unfold State.endTx
  dsimp only
  split <;> simp [State.trans, State.bytes, hoff, portValue_bumpPort]

theorem State.endTx_trans (tx : Tx) (s : State) :
    (s.endTx tx).radio.trans.map Trans.dest = some (if tx.kind = .call then .rx else .synth) := by
  unfold State.endTx
  dsimp only
  split <;> rfl

theorem State.frameSent_beside (k : TxKind) (s : State) : (s.frameSent k).radio = s.radio ∧ (s.frameSent k).tally = s.tally := by
  simp

/-! ## The radio's events (R177, R188, R196, R197, R202, R242, R253) -/

theorem exec_txEndOfFrame {tx : Tx} (hx : s.radio.tx = some tx) (hk : tx.kind ≠ .burst)
    (ht : s.radio.paFrom + us 4 + tx.frameTicks ≤ s.now) :
    exec .txEndOfFrame s = .next ((s.endTx tx).frameSent tx.kind) := by
  refine congrArg Host.Outcome.next ?_
  simp [hx, hk, ht]

theorem exec_radioTransitionDone_standby {temp : Int} {x : Trans} (hx : s.radio.trans = some x) (ht : x.at_ ≤ s.now)
    (hn : x.tune = none) (hd : x.dest = .standby) : exec (.radioTransitionDone temp) s =
      .next ((s.onRadio (fun r => { r with trans := none })).reach .standby) := by
  refine congrArg Host.Outcome.next ?_
  simp [hx, Nat.not_lt.mpr ht, hn, hd]

theorem exec_radioTransitionDone_tune {temp : Int} {x : Trans} {b : Band} {khz : Nat} (hx : s.radio.trans = some x)
    (ht : x.at_ ≤ s.now) (hb : x.tune = some (b, khz)) :
    let u := (s.onRadio (fun r => { r with trans := none })).tuned b khz temp
    exec (.radioTransitionDone temp) s =
      .next ((if s.radio.st = .standby ∧ x.dest = .synth then u.readTemp temp else u).reach x.dest) := by
  intro u
  refine congrArg Host.Outcome.next ?_
  simp only [hx, if_neg (Nat.not_lt.mpr ht), hb, Bool.and_eq_true, beq_iff_eq]
  rfl

theorem exec_radioTransitionDone_early {temp : Int} {x : Trans} (hx : s.radio.trans = some x) (ht : s.now < x.at_) :
    exec (.radioTransitionDone temp) s = .next s := by
  refine congrArg Host.Outcome.next ?_
  simp only [hx]
  exact if_pos ht

theorem State.readTemp_facts (temp : Int) (s : State) :
    (s.readTemp temp).radio.temp = temp ∧ (s.readTemp temp).radio.synthCorr = Config.xoModel temp ∧
    (s.radio.st = .sleep → (s.readTemp temp).radio.subCal = s.radio.subCal ∧ (s.readTemp temp).radio.g24Cal = s.radio.g24Cal) ∧
    (s.readTemp temp).time.rate = s.time.rate + (Config.xoModel temp - Config.xoModel s.time.xoTemp) ∧
    (s.readTemp temp).time.xoTemp = temp ∧ s.keeps [.radio, .time, .params] (s.readTemp temp) := by
  refine ⟨?_, ?_, fun hs => ?_, rfl, rfl, ?_⟩
  · unfold State.readTemp State.onRadio
    dsimp only [State.onTime]
    split <;> rfl
  · unfold State.readTemp State.onRadio
    dsimp only [State.onTime]
    split <;> rfl
  · have hs' : (s.fire .temperature).radio.st = .sleep := hs
    simp [State.readTemp, State.onRadio, State.onTime, hs]
  · exact State.keeps_step (State.keeps_step (State.keeps_step (State.keeps_step (State.keeps_refl _ s) (State.keeps_fire ..))
      (State.keeps_onRadio ..)) (State.keeps_onRadio ..)) (State.keeps_onTime ..)

/-- A change of a drive by at most 1 dB, held within its limits (R202). -/
theorem clampInt_mem {lo hi : Int} (h : lo ≤ hi) (x : Int) : lo ≤ clampInt lo hi x ∧ clampInt lo hi x ≤ hi :=
  ⟨le_max_left .., max_le h (min_le_left ..)⟩

theorem clampInt_moves {lo hi d x : Int} (hl : lo ≤ d) (hh : d ≤ hi) : (clampInt lo hi (d + clampInt (-4) 4 x) - d).natAbs ≤ 4 := by
  unfold clampInt
  omega

/-- The power loop asks for a drive beyond its limits (R202). -/
def State.loopHeld (forward : Int) (s : State) : Bool :=
  let want := s.radio.drive + clampInt (-4) 4 (s.radio.target - forward)
  decide (want < s.radio.drive0 - 12) || decide (s.radio.drive0 + 6 < want)

/-- The drive after a correction of the power loop (R202). -/
def State.looped (forward : Int) (s : State) : State :=
  s.onRadio (fun r => { r with
    drive := clampInt (s.radio.drive0 - 12) (s.radio.drive0 + 6)
      (s.radio.drive + clampInt (-4) 4 (s.radio.target - forward)),
    limited := r.limited || s.loopHeld forward, loopNext := r.loopNext + us 64, loopChip := some s.chipNow.1 })

theorem exec_paLoopCorrection {forward : Int} {tx : Tx} (hx : s.radio.tx = some tx) (hl : s.loopDue tx = true) :
    exec (.paLoopCorrection forward) s = .next (
      if s.loopHeld forward && !s.radio.limited then (s.looped forward).count .rfe "radio.pa.limit" else s.looped forward) := by
  refine congrArg Host.Outcome.next ?_
  simp only [hx, if_pos hl]
  rfl

theorem State.looped_counted (forward : Int) (c : Prop) [Decidable c] (s : State) :
    (if c then (s.looped forward).count .rfe "radio.pa.limit" else s.looped forward).radio = (s.looped forward).radio ∧
      s.keeps [.radio, .tally] (if c then (s.looped forward).count .rfe "radio.pa.limit" else s.looped forward) := by
  split
  · exact ⟨by simp, State.keeps_step (State.keeps_mono (State.keeps_onRadio _ s) (by decide)) (State.keeps_count ..)⟩
  · exact ⟨rfl, State.keeps_mono (State.keeps_onRadio _ s) (by decide)⟩

theorem exec_aerialRestEnd (sd : Side) (s : State) : ∃ t, exec (.aerialRestEnd sd) s = .next t ∧
    (match sd with
     | .a => (∀ t0, s.radio.exclA = some t0 → t0 ≤ s.now → t.radio.exclA = none) ∧ t.radio.exclB = s.radio.exclB
     | .b => (∀ t0, s.radio.exclB = some t0 → t0 ≤ s.now → t.radio.exclB = none) ∧ t.radio.exclA = s.radio.exclA) ∧
    s.keeps [.radio] t := by
  refine ⟨_, rfl, ?_, State.keeps_onRadio ..⟩
  cases sd
  · exact ⟨fun t0 h0 ht => by simp [State.onRadio, h0, ht], rfl⟩
  · exact ⟨fun t0 h0 ht => by simp [State.onRadio, h0, ht], rfl⟩

/-- Settles O41, event by event. -/
theorem radioEvents : Obligations.RadioEvents := by
  intro s
  refine ⟨fun temp x hx ht hn hd => exec_radioTransitionDone_standby hx ht hn hd,
    fun temp x b khz hx ht hb => exec_radioTransitionDone_tune hx ht hb,
    fun temp x hx ht => exec_radioTransitionDone_early hx ht,
    fun tx hx hk ht => ⟨_, exec_txEndOfFrame hx hk ht, ?_⟩,
    fun temp hr hp => ⟨_, congrArg Host.Outcome.next (if_pos (by simpa [hr] using hp)), ?_⟩,
    fun hi ho => ⟨_, congrArg Host.Outcome.next (if_pos (by simp [hi, ho])), rfl, State.keeps_onRadio ..⟩,
    fun forward tx hx hl => ?_, fun sd => ?_⟩
  · obtain ⟨hr, ht⟩ := (s.endTx tx).frameSent_beside tx.kind
    obtain ⟨h1, h2⟩ := s.endTx_radio tx
    rw [hr, ht]
    exact ⟨h1, h2, s.endTx_trans tx, s.endTx_bwBytes tx⟩
  · obtain ⟨h1, h2, h3, h4, h5, h6⟩ := s.readTemp_facts temp
    exact ⟨h1, h2, h3, h4, h5, h6⟩
  · obtain ⟨hr, hk⟩ := s.looped_counted forward ((s.loopHeld forward && !s.radio.limited) = true)
    have hin := clampInt_mem (show s.radio.drive0 - 12 ≤ s.radio.drive0 + 6 by omega)
      (s.radio.drive + clampInt (-4) 4 (s.radio.target - forward))
    refine ⟨_, exec_paLoopCorrection hx hl, ?_, ?_, ?_, fun hl hh => ?_, hk⟩
    · rw [hr]; exact hin.1
    · rw [hr]; exact hin.2
    · rw [hr]; rfl
    · rw [hr]; exact clampInt_moves hl hh
  · obtain ⟨t, he, hx, hk⟩ := exec_aerialRestEnd sd s
    cases sd
    · exact ⟨t, he, hx.1, hx.2, hk⟩
    · exact ⟨t, he, hx.1, hx.2, hk⟩

end

end Sys2Proof.Machine

/-!
Proofs about what a cut transmission leaves of the radio, and about calibration.
-/

namespace Sys2Proof.Machine

/-! ## What a cut transmission leaves of the radio

The flights, bursts and lanes that a cut transmission concerns leave the radio as it is, but for the transition that brings
it back to reception. -/

section

variable {s : State}

/-- The radio beside its transitions (R177, R238). -/
def Radio.still (r : Radio) : Radio := { r with trans := none, deafFrom := none }

@[simp] theorem State.moveRadio_still (s : State) : s.moveRadio.radio.still = s.radio.still := by
  have htrans (d : RadioSt) (x : Ticks) (t : Option (Band × Nat)) (u : State) : (u.trans d x t).radio.still = u.radio.still := rfl
  have hdeaf (u : State) : u.deaf.radio.still = u.radio.still := rfl
  unfold State.moveRadio
  dsimp only
  split
  · rfl
  split
  all_goals (repeat' split) <;> simp [htrans, hdeaf]

@[simp] theorem State.listenOn_still (n : Fin 16) (hd : Holder) (ch program : Nat) (s : State) :
    (s.listenOn n hd ch program).radio.still = s.radio.still := by
  unfold State.listenOn
  rw [State.moveRadio_still]
  (repeat' split) <;> simp

@[simp] theorem State.listenStart_still (hd : Holder) (d : Ticks) (s : State) : (s.listenStart hd d).radio.still = s.radio.still := by
  unfold State.listenStart
  split <;> simp

@[simp] theorem State.burstWork_still (p : BurstFor) (s : State) : (s.burstWork p).radio.still = s.radio.still := by
  unfold State.burstWork
  dsimp only
  split
  case h_6 => split <;> simp
  all_goals simp

@[simp] theorem State.burstCut_still (b : Burst) (s : State) : (s.burstCut b).radio.still = s.radio.still := by
  unfold State.burstCut
  (repeat' split) <;> simp

@[simp] theorem State.txLost_still (tx : Tx) (s : State) : (s.txLost tx).radio.still = s.radio.still := by
  unfold State.txLost
  (repeat' split) <;> simp

@[simp] theorem State.onCal_st (b : Band) (f : BandCal → BandCal) (s : State) : (s.onCal b f).radio.st = s.radio.st := by
  cases b <;> rfl

theorem State.cal'_onCal (b : Band) (f : BandCal → BandCal) (s : State) : (s.onCal b f).radio.cal' b = f (s.radio.cal' b) := by
  cases b <;> rfl

theorem State.cal'_onCal_other {b b' : Band} (h : b' ≠ b) (f : BandCal → BandCal) (s : State) :
    (s.onCal b' f).radio.cal' b = s.radio.cal' b := by
  cases b <;> cases b' <;> simp_all [State.onCal, State.onRadio, Radio.cal']

theorem State.keeps_onCal (b : Band) (f : BandCal → BandCal) (s : State) : s.keeps [.radio] (s.onCal b f) := State.keeps_onRadio ..

theorem State.txLost_air (tx : Tx) (s : State) : (s.txLost tx).radio.tx = s.radio.tx ∧ (s.txLost tx).radio.next = s.radio.next ∧
    (s.txLost tx).radio.cal = s.radio.cal ∧ (s.txLost tx).radio.coexWait = s.radio.coexWait ∧
    (s.txLost tx).radio.yielded = s.radio.yielded :=
  have h := s.txLost_still tx
  ⟨(congrArg Radio.tx h :), (congrArg Radio.next h :), (congrArg Radio.cal h :), (congrArg Radio.coexWait h :),
    (congrArg Radio.yielded h :)⟩

theorem State.coexEnd_air (tx : Tx) (off : Ticks) (s : State) : (s.coexEnd tx off).radio.tx = s.radio.tx ∧
    (s.coexEnd tx off).radio.next = s.radio.next ∧ (s.coexEnd tx off).radio.cal = s.radio.cal ∧
    (s.coexEnd tx off).radio.coexWait = s.radio.coexWait ∧ (s.coexEnd tx off).radio.yielded = s.radio.yielded :=
  have h := s.coexEnd_ether tx off
  ⟨(congrArg Radio.tx h :), (congrArg Radio.next h :), (congrArg Radio.cal h :), (congrArg Radio.coexWait h :),
    (congrArg Radio.yielded h :)⟩

/-! ## A calibration starts (R180, R189, R190) -/

@[simp] theorem Radio.yieldWait_tx (r : Radio) : r.yieldWait.tx = r.tx ∧ r.yieldWait.next = r.next ∧ r.yieldWait.cal = r.cal ∧
    r.yieldWait.coexWait = none := by
  unfold Radio.yieldWait
  split
  · split <;> exact ⟨rfl, rfl, rfl, rfl⟩
  · next h => exact ⟨rfl, rfl, rfl, h⟩

@[simp] theorem State.cutTx_tx (s : State) : s.cutTx.radio.tx = none := by
  unfold State.cutTx
  split
  · next h => exact h
  · next tx _ =>
    dsimp only
    rw [(State.txLost_air ..).1, (State.coexEnd_air ..).1]
    rfl

@[simp] theorem State.callBack_tx (s : State) : s.callBack.radio.tx = s.radio.tx ∧ s.callBack.radio.next = none := by
  unfold State.callBack
  split
  · next h => exact ⟨rfl, h⟩
  · next tx _ =>
    dsimp only
    have hd (c : Bool) (r : Radio) : (if c then r.coexDrop else r).tx = r.tx := by cases c <;> rfl
    split
    · obtain ⟨hx, hn, -⟩ := State.txLost_air tx (s.onRadio (fun r => { (if tx.coex then r.coexDrop else r) with
        next := none, trans := match r.trans with | some t => if t.dest = .tx then none else some t | none => none }))
      exact ⟨hx.trans (hd ..), hn⟩
    · exact ⟨hd .., rfl⟩

/-- The radio made ready for a calibration: nothing is sent nor received (R180). -/
def State.calReady (s : State) : State :=
  ((s.cutTx.callBack.dropPayloads.chainsOff.deaf).onRadio Radio.yieldWait).onRadio (fun r =>
    if r.ahead.isSome then r.coexDrop else r)

theorem State.calReady_facts (s : State) : s.calReady.radio.tx = none ∧ s.calReady.radio.next = none ∧ s.calReady.time = s.time ∧
    s.calReady.now = s.now := by
  obtain ⟨hx, hn⟩ := s.cutTx.callBack_tx
  have hready (u : State) (hx : u.radio.tx = none) (hn : u.radio.next = none) :
      let v := (u.onRadio Radio.yieldWait).onRadio (fun r => if r.ahead.isSome then r.coexDrop else r)
      v.radio.tx = none ∧ v.radio.next = none := by
    obtain ⟨hx', hn', -⟩ := Radio.yieldWait_tx u.radio
    have hdrop (r : Radio) : (if r.ahead.isSome then r.coexDrop else r).tx = r.tx ∧
        (if r.ahead.isSome then r.coexDrop else r).next = r.next := by
      split <;> exact ⟨rfl, rfl⟩
    exact ⟨(hdrop _).1.trans (hx'.trans hx), (hdrop _).2.trans (hn'.trans hn)⟩
  obtain ⟨h1, h2⟩ := hready s.cutTx.callBack.dropPayloads.chainsOff.deaf (by simp [State.deaf, State.onRadio])
    (by simp [State.deaf, State.onRadio])
  exact ⟨h1, h2, by simp [State.calReady], by simp [State.calReady]⟩

theorem State.startCal_eq (why : CalWhy) (kind : CalKind) (band : BandSel) (groups : List (Band × Nat)) (s : State) :
    s.startCal why kind band groups = s.calReady.onRadio (fun r => { r with
      st := .cal, trans := none
      cal := some { why := why, kind := kind, band := band, groups := groups,
                    endAt := s.calReady.now + s.calReady.calTime why kind band groups.length } }) := rfl

/-- The radio when a calibration has started (R180). -/
theorem State.startCal_radio (why : CalWhy) (kind : CalKind) (band : BandSel) (groups : List (Band × Nat)) (s : State) :
    let t := s.startCal why kind band groups
    t.radio.tx = none ∧ t.radio.next = none ∧ t.radio.st = .cal ∧ t.time = s.time ∧
      ∃ c, t.radio.cal = some c ∧ c.why = why ∧ c.groups = groups ∧ (why = .gap → c.endAt = s.now + us 262 * groups.length) := by
  obtain ⟨hx, hn, ht, hnow⟩ := s.calReady_facts
  dsimp only
  rw [State.startCal_eq]
  generalize s.calReady = u at *
  exact ⟨hx, hn, rfl, ht, _, rfl, rfl, rfl, fun hw => by simp [hw, hnow, State.calTime]⟩

/-- The slot that a calibration takes as a whole (R190). -/
theorem State.takenSlot_of {c : CalRun} (hc : s.radio.cal = some c) (hw : c.why ≠ .gap) :
    s.takenSlot.radio.taken = some s.time.slot ∧ s.takenSlot.sched.active = [] := by
  rw [State.takenSlot, if_pos (by simp [State.calTakesSlot, hc, hw])]
  simp [State.onRadio, State.onSched]

theorem State.trans_cal' (dest : RadioSt) (d : Ticks) (tune : Option (Band × Nat)) (b : Band) (s : State) :
    (s.trans dest d tune).radio.cal' b = s.radio.cal' b := by
  cases b <;> rfl

theorem exec_doRadioCal {h : Hdr} {k : Option CalKind} {b : Option BandSel} (hj : s.judgesAtOnce h)
    (ha : (s.heard h).allowed .operator = true) : ∃ aud, exec (.doRadioCal h k b) s =
      .next (State.finish ((s.heard h).lineOrigin h) h .do_ (good ((s.acting h).onRadio (fun r =>
        { r with calAsked := r.calAsked ++ [(.command h, k.getD .all, b.getD .both)] })) [] (some 515) (some aud))) := by
  refine ⟨{ action := 4, obj := 515, old := .num 0, new := .hash (Config.freeHash (s.heard h).fresh) },
    congrArg Host.Outcome.next ((State.change_judged _ .do_ true _ hj (fun _ => rfl)).trans ?_)⟩
  rw [runDoRadioCal, actionRun_heard, needs_allowed ((State.acting_allowed h s .operator).trans ha)]

theorem exec_gapCalibration {b : Band} {gap : Ticks} {g : Nat} {l : List Nat} (hf : s.calFree = true)
    (hd : (s.radio.cal' b).due ≠ none) (hg : us 400 ≤ gap) (hs : s.staleInUse b = g :: l) :
    exec (.gapCalibration b gap) s = .next (s.startCal .gap .osc (selOf b) [(b, g)]) := by
  refine congrArg Host.Outcome.next ((if_pos ?_).trans ?_)
  · simp [hf, hg, Option.isSome_iff_ne_none, hd]
  · simp only [hs]

theorem exec_calibrationDeadline (hb : s.atBoundary = true) (hc : s.radio.cal = none)
    (hl : s.overdueGroups.take s.groupsThatFit ≠ []) : exec .calibrationDeadline s =
      .next (s.startCal .slot .osc .both (s.overdueGroups.take s.groupsThatFit)).takenSlot := by
  refine congrArg Host.Outcome.next (if_pos ?_)
  simp [hb, hc, hl]

theorem exec_calibrationComplete {c : CalRun} {temp : Int} {out : List Side} (hc : s.radio.cal = some c) (ht : c.endAt ≤ s.now) :
    exec (.calibrationComplete temp out) s = .next ((s.endCal c temp out).trans .synth (us 60) none) := by
  refine congrArg Host.Outcome.next ?_
  simp only [hc]
  exact if_pos ht

theorem State.reply_nothing {h : Hdr} (h0 : h.addr ≠ some 0) (s : State) : (s.reply h []).line.tx = [] := by
  simp [State.reply, h0, State.onLine]

/-! ## A calibration ends (R188, R189, R192) -/

/-- The groups that a calibration freshens, and no other (R188). -/
theorem State.each_fresh (b : Band) (l : List (Band × Nat)) (s : State) :
    let t := s.each l (fun g s => s.onCal g.1 (BandCal.fresh g.2))
    s.keeps [.radio] t ∧ (∀ g ∈ (t.radio.cal' b).stale, g ∈ (s.radio.cal' b).stale) ∧ ∀ g, (b, g) ∈ l → g ∉ (t.radio.cal' b).stale := by
  refine ⟨State.keeps_each (fun _ _ => State.keeps_onCal ..) l s, ?_⟩
  induction l generalizing s with
  | nil => exact ⟨fun g hg => hg, fun g hg => absurd hg List.not_mem_nil⟩
  | cons x l ih =>
    obtain ⟨hsub, hout⟩ := ih (s.onCal x.1 (BandCal.fresh x.2))
    have hx : ∀ g ∈ ((s.onCal x.1 (BandCal.fresh x.2)).radio.cal' b).stale, g ∈ (s.radio.cal' b).stale ∧ ¬ (b, g) = x := by
      intro g hg
      by_cases hb : x.1 = b
      · subst hb
        rw [State.cal'_onCal, BandCal.fresh, List.mem_filter] at hg
        exact ⟨hg.1, fun h => of_decide_eq_true hg.2 (congrArg Prod.snd h)⟩
      · rw [State.cal'_onCal_other hb] at hg
        exact ⟨hg, fun h => hb (congrArg Prod.fst h).symm⟩
    refine ⟨fun g hg => (hx g (hsub g hg)).1, fun g hg => ?_⟩
    rcases List.mem_cons.mp hg with rfl | hl
    · exact fun hs => (hx g (hsub g hs)).2 rfl
    · exact hout g hl

/-- What a calibration by command makes of the bands it names (R192). -/
theorem State.each_settle (b : Band) (temp : Int) (l : List Band) (s : State) :
    let t := s.each l (fun b s => s.onCal b (fun k => { k with due := none, tcal := temp }))
    s.keeps [.radio] t ∧ (t.radio.cal' b).stale = (s.radio.cal' b).stale ∧
      (b ∈ l → (t.radio.cal' b).due = none ∧ (t.radio.cal' b).tcal = temp) := by
  refine ⟨State.keeps_each (fun _ _ => State.keeps_onCal ..) l s, ?_⟩
  have hone (x : Band) (u : State) : (x = b → (u.onCal x (fun k => { k with due := none, tcal := temp })).radio.cal' b =
        { u.radio.cal' b with due := none, tcal := temp }) ∧
      (x ≠ b → (u.onCal x (fun k => { k with due := none, tcal := temp })).radio.cal' b = u.radio.cal' b) :=
    ⟨fun h => h ▸ State.cal'_onCal .., fun h => State.cal'_onCal_other h ..⟩
  have hkept (l : List Band) (u : State) (hu : (u.radio.cal' b).due = none ∧ (u.radio.cal' b).tcal = temp) :
      let t := u.each l (fun b s => s.onCal b (fun k => { k with due := none, tcal := temp }))
      (t.radio.cal' b).due = none ∧ (t.radio.cal' b).tcal = temp := by
    induction l generalizing u with
    | nil => exact hu
    | cons x l ih =>
      refine ih _ ?_
      by_cases hx : x = b
      · rw [(hone x u).1 hx]
        exact ⟨rfl, rfl⟩
      · rw [(hone x u).2 hx]
        exact hu
  induction l generalizing s with
  | nil => exact ⟨rfl, fun h => absurd h List.not_mem_nil⟩
  | cons x l ih =>
    obtain ⟨hst, hin⟩ := ih (s.onCal x (fun k => { k with due := none, tcal := temp }))
    by_cases hx : x = b
    · refine ⟨hst.trans (by rw [(hone x s).1 hx]), fun _ => hkept l _ ?_⟩
      rw [(hone x s).1 hx]
      exact ⟨rfl, rfl⟩
    · exact ⟨hst.trans (by rw [(hone x s).2 hx]), fun h => hin ((List.mem_cons.mp h).resolve_left (Ne.symm hx))⟩

theorem State.calSettled_facts (b : Band) (temp : Int) (s : State) :
    (∀ b', ((s.calSettled b temp).radio.cal' b').stale = (s.radio.cal' b').stale) ∧ s.keeps [.radio] (s.calSettled b temp) := by
  unfold State.calSettled
  split
  · refine ⟨fun b' => ?_, State.keeps_onCal ..⟩
    by_cases hb : b = b'
    · subst hb
      rw [State.cal'_onCal]
    · rw [State.cal'_onCal_other hb]
  · exact ⟨fun _ => rfl, State.keeps_refl ..⟩

theorem State.endCal_gap {c : CalRun} (hw : c.why = .gap) (temp : Int) (out : List Side) (s : State) : s.endCal c temp out =
    ((((s.each c.groups (fun g s => s.onCal g.1 (BandCal.fresh g.2))).calSettled .sub temp).calSettled .g24 temp).onRadio
      (fun r => { r with cal := none })).countN .rfe "radio.cal.gap" c.groups.length := by
  have heach (f : Side → State → State) (u : State) : u.each (u.calSides .gap c.kind) f = u := rfl
  simp only [State.endCal, hw, heach, ite_self]

theorem State.endCal_gap_facts {c : CalRun} (hw : c.why = .gap) (temp : Int) (out : List Side) (s : State) :
    (s.endCal c temp out).radio.cal = none ∧ (∀ b g, (b, g) ∈ c.groups → g ∉ ((s.endCal c temp out).radio.cal' b).stale) ∧
      s.keeps [.radio, .tally] (s.endCal c temp out) := by
  obtain ⟨hk, -⟩ := State.each_fresh .sub c.groups s
  have hst := fun b => (State.each_fresh b c.groups s).2.2
  rw [State.endCal_gap hw]
  generalize s.each c.groups (fun g s => s.onCal g.1 (BandCal.fresh g.2)) = u at *
  obtain ⟨h1, hk1⟩ := u.calSettled_facts .sub temp
  obtain ⟨h2, hk2⟩ := (u.calSettled .sub temp).calSettled_facts .g24 temp
  have hclear (v : State) (b : Band) : ((v.onRadio (fun r => { r with cal := none })).radio.cal' b) = v.radio.cal' b := by
    cases b <;> rfl
  have hcount (v : State) : (v.countN .rfe "radio.cal.gap" c.groups.length).radio = v.radio := by simp
  refine ⟨by simp [State.onRadio], fun b g hg => ?_, ?_⟩
  · rw [hcount, hclear, h2, h1]
    exact hst b g hg
  · exact State.keeps_step (State.keeps_step (State.keeps_step (State.keeps_step (State.keeps_mono hk (by decide)) hk1) hk2)
      (State.keeps_onRadio ..)) (State.keeps_countN ..)

theorem State.endCal_osc {c : CalRun} {h : Hdr} (hw : c.why = .command h) (hk : c.kind = .osc) (temp : Int) (out : List Side)
    (s : State) : s.endCal c temp out =
    (((s.each c.groups (fun g s => s.onCal g.1 (BandCal.fresh g.2))).each (c.groups.map Prod.fst).eraseDups
      (fun b s => s.onCal b (fun k => { k with due := none, tcal := temp }))).onRadio (fun r => { r with cal := none })).reply h
        [.bare] := by
  have heach (f : Side → State → State) (u : State) : u.each (u.calSides (.command h) .osc) f = u := rfl
  simp only [State.endCal, hw, hk, heach]
  rfl

theorem State.endCal_osc_facts {c : CalRun} {h : Hdr} (hw : c.why = .command h) (hk : c.kind = .osc) (temp : Int) (out : List Side)
    (s : State) : (s.endCal c temp out).radio.cal = none ∧
      (∀ b g, (b, g) ∈ c.groups → g ∉ ((s.endCal c temp out).radio.cal' b).stale ∧
        ((s.endCal c temp out).radio.cal' b).due = none ∧ ((s.endCal c temp out).radio.cal' b).tcal = temp) ∧
      (s.endCal c temp out).rx = s.rx := by
  have hst := fun b => (State.each_fresh b c.groups s).2.2
  obtain ⟨⟨-, -, -, hsame⟩, -⟩ := State.each_fresh .sub c.groups s
  have hrx := hsame .rx (by decide)
  rw [State.endCal_osc hw hk]
  generalize s.each c.groups (fun g s => s.onCal g.1 (BandCal.fresh g.2)) = u at *
  have h2 := fun b => State.each_settle b temp (c.groups.map Prod.fst).eraseDups u
  generalize u.each (c.groups.map Prod.fst).eraseDups (fun b s => s.onCal b (fun k => { k with due := none, tcal := temp })) = v at *
  have hclear (b : Band) : ((v.onRadio (fun r => { r with cal := none })).radio.cal' b) = v.radio.cal' b := by
    cases b <;> rfl
  obtain ⟨⟨-, -, -, hsame'⟩, -⟩ := h2 .sub
  have hrx' : v.rx = u.rx := hsame' .rx (by decide)
  have hreply (w : State) : (w.reply h [.bare]).radio = w.radio ∧ (w.reply h [.bare]).rx = w.rx := by simp
  rw [(hreply _).1, (hreply _).2]
  refine ⟨rfl, fun b g hg => ?_, hrx'.trans hrx⟩
  obtain ⟨-, hs, hin⟩ := h2 b
  rw [hclear]
  exact ⟨hs ▸ hst b g hg, hin (by simpa using ⟨g, hg⟩)⟩

/-- Settles O42: how a calibration starts (`State.startCal_radio`) and ends (`State.endCal_gap_facts`,
`State.endCal_osc_facts`). -/
theorem calibrations : Obligations.Calibrations := by
  refine ⟨fun h k b s hj ha => ?_, fun b gap g l s hf hd hg hs => ?_, fun s hb hc hl => ?_, fun c temp out s hc ht => ⟨fun hw => ?_,
    fun h hw hk => ?_⟩⟩
  · obtain ⟨aud, he⟩ := exec_doRadioCal (k := k) (b := b) hj ha
    refine ⟨_, he, fun h0 => State.reply_nothing h0 _, ?_, ?_⟩
    · simp [State.onRadio, State.acting]
    · exact State.keeps_step (State.keeps_step (State.keeps_mono (State.keeps_onRadio _ (s.acting h)) (by decide))
        (State.keeps_audit ..)) (State.keeps_reply ..)
  · obtain ⟨-, -, hst, -, c, hc, hw, hg', hend⟩ := s.startCal_radio .gap .osc (selOf b) [(b, g)]
    exact ⟨_, c, exec_gapCalibration hf hd hg hs, hst, hc, hw, hg', hend rfl⟩
  · obtain ⟨hx, hn, hst, ht, c, hcal, hw, -⟩ := s.startCal_radio .slot .osc .both (s.overdueGroups.take s.groupsThatFit)
    refine ⟨exec_calibrationDeadline hb hc hl, hx, hn, hst, ?_, ?_⟩
    · rw [(State.takenSlot_of hcal (by simp [hw])).1, ht]
    · exact (State.takenSlot_of hcal (by simp [hw])).2
  · obtain ⟨hcal, hg, hk⟩ := s.endCal_gap_facts hw temp out
    refine ⟨_, exec_calibrationComplete hc ht, hcal, ?_, ?_, State.keeps_step hk (State.keeps_onRadio ..)⟩
    · exact fun b g h => by rw [State.trans_cal']; exact hg b g h
    · obtain ⟨-, hn, -⟩ := hk
      rw [← hn]
      rfl
  · obtain ⟨hcal, hg, hrx⟩ := s.endCal_osc_facts hw hk temp out
    refine ⟨_, exec_calibrationComplete hc ht, hcal, ?_, hrx⟩
    exact fun b g h => by rw [State.trans_cal']; exact hg b g h

end

end Sys2Proof.Machine

/-!
Proofs about coexistence and the turns of transmissions.
-/

namespace Sys2Proof.Machine

/-! ## COEX_REQ and COEX_GNT (R206 to R211) -/

section

variable {s : State}

theorem exec_coexRequest_wait {w : Tx}
    (hf : let u := s.fire .coexRequest
      u.claims.find? (fun c => c.air == s.now + us (u.pnat Obj.coexLead) && u.coexOn c.band) = none)
    (hw : s.radio.coexWait = some w) (hr : s.radio.coexReq = false) :
    let u := s.fire .coexRequest
    exec .coexRequest s = .next (u.coexRise (u.txHigh w) (s.now + us (u.pnat Obj.coexLead)) none) := by
  intro u
  have hf' : u.claims.find? (fun c => c.air == u.now + us (u.pnat Obj.coexLead) && u.coexOn c.band) = none := hf
  have hw' : u.radio.coexWait = some w := hw
  refine congrArg Host.Outcome.next ?_
  dsimp only
  rw [hf', hw']
  exact if_neg (by simp [hr])

theorem exec_coexRequest_claim {c : Claim}
    (hf : let u := s.fire .coexRequest
      u.claims.find? (fun c => c.air == s.now + us (u.pnat Obj.coexLead) && u.coexOn c.band) = some c)
    (hm : (s.fire .coexRequest).mayClaim c = true) :
    exec .coexRequest s = .next ((s.fire .coexRequest).claimRequest c) := by
  let u := s.fire .coexRequest
  have hf' : u.claims.find? (fun c => c.air == u.now + us (u.pnat Obj.coexLead) && u.coexOn c.band) = some c := hf
  refine congrArg Host.Outcome.next ?_
  dsimp only
  rw [hf']
  exact if_pos hm

theorem State.claimRequest_facts (c : Claim) (s : State) :
    (s.claimRequest c).radio.ahead = some c ∧ (s.claimRequest c).radio.coexAir = c.air ∧
      (s.coexOwned = false → (s.claimRequest c).radio.coexReq = true ∧ (s.claimRequest c).radio.coexHi = (c.high || s.claimFree c)) := by
  unfold State.claimRequest
  by_cases ho : s.coexOwned = true
  · rw [if_pos ho]
    exact ⟨rfl, rfl, fun h => by rw [ho] at h; cases h⟩
  · rw [if_neg ho]
    exact ⟨rfl, rfl, fun _ => ⟨rfl, rfl⟩⟩

/-- The pattern of a request at low priority: low from 10 to 20 µs (R206). -/
theorem State.coexPin_iff (hr : s.radio.coexReq = true) : (s.radio.coexHi = true → s.coexPin = true) ∧
    (s.radio.coexHi = false → (s.coexPin = false ↔ s.radio.coexAt + us 10 ≤ s.now ∧ s.now < s.radio.coexAt + us 20)) := by
  constructor
  · intro h
    simp [State.coexPin, hr, h]
  · intro h
    simp [State.coexPin, hr, h]

theorem exec_coexGrantSample_waiting {w : Tx} (ha : s.radio.ahead = none) (hw : s.radio.coexWait = some w) (hd : s.sampleDue = true)
    (hf : s.coexFree w = false) (gnt : Bool) : exec (.coexGrantSample gnt) s =
      .next (if gnt then s.coexHigh.coexGo true w else s.onRadio (fun r => { r with coexLow := true })) := by
  refine congrArg Host.Outcome.next ?_
  rw [if_neg (by simp [hd]), ha, hw]
  exact if_neg (by simp [hf])

theorem exec_coexGrantRise_waiting {w : Tx} (ha : s.radio.ahead = none) (hw : s.radio.coexWait = some w) (hd : s.sampleDue = true)
    (hf : s.coexFree w = false) : exec .coexGrantRise s = .next (s.coexHigh.coexGo true w) := by
  refine congrArg Host.Outcome.next ?_
  dsimp only
  rw [ha, hw]
  exact if_pos (by simp [hd, hf])

theorem exec_coexGrantSample_claim {c : Claim} (ha : s.radio.ahead = some c) (hd : s.sampleDue = true) (hf : s.claimFree c = false)
    (hl : c.lost = false) (hg : (s.radio.granted && s.coexOwned) = false) (hair : s.now < c.air) (gnt : Bool) :
    exec (.coexGrantSample gnt) s = .next (if gnt then s.coexHigh.onRadio (fun r => { r with granted := true })
      else s.onRadio (fun r => { r with coexLow := true })) := by
  refine congrArg Host.Outcome.next ?_
  rw [if_neg (by simp [hd]), ha]
  exact if_neg (by simp [hf, hl, hg, hair])

theorem State.coexHigh_radio (s : State) : s.coexHigh.radio = { s.radio with starved := 0, coexLow := false, coexFault := false } ∧
    s.coexHigh.now = s.now := by
  unfold State.coexHigh
  dsimp only
  split
  · simp [State.onRadio]
  · exact ⟨rfl, rfl⟩

/-- A transmission that waited goes ahead with its grant (R209, R210). -/
theorem State.coexGo_goes {granted : Bool} {w : Tx} (hp : s.anyPayload = false) (hb : s.txBarred = false) (hc : s.calSlot = false)
    (hx : s.radio.tx = none) (hn : s.radio.next = none) (hcal : s.radio.cal = none) :
    (s.coexGo granted w).radio.coexWait = none ∧ (s.coexGo granted w).radio.granted = granted ∧
      (s.coexGo granted w).radio.next = some { w with air := max s.radio.coexAir (s.now + us 30) } := by
  have hstill (u : State) (tx : Tx) := (u.onRadio (fun r => { r with next := some tx })).moveRadio_still
  rw [State.coexGo, if_neg (by simp [hp, hb, hc, hx, hn, hcal])]
  exact ⟨(congrArg Radio.coexWait (hstill ..) :), (congrArg Radio.granted (hstill ..) :), (congrArg Radio.next (hstill ..) :)⟩

/-! ### A grant that is lost (R210, R211) -/

theorem exec_coexGrantLoss_idle (hg : s.radio.granted = false) :
    exec .coexGrantLoss s = .next (s.onRadio (fun r => { r with coexLow := true })) :=
  congrArg Host.Outcome.next (if_neg (by simp [hg]))

/-- The count of a lost grant (R210). -/
def State.grantLost (s : State) : State := (s.onRadio (fun r => { r with coexLow := true })).count .rfe "coex.loss"

theorem State.grantLost_facts (s : State) : s.grantLost.radio = { s.radio with coexLow := true } ∧ s.grantLost.now = s.now ∧
    s.keeps [.radio, .tally] s.grantLost := by
  refine ⟨by simp [State.grantLost, State.onRadio], by simp [State.grantLost], ?_⟩
  exact State.keeps_step (State.keeps_mono (State.keeps_onRadio _ s) (by decide)) (State.keeps_count ..)

theorem exec_coexGrantLoss_claim {c : Claim} (hg : s.radio.granted = true) (hx : s.radio.tx = none) (hn : s.radio.next = none)
    (ha : s.radio.ahead = some c) : exec .coexGrantLoss s =
      .next (s.grantLost.onRadio (fun r => { r with granted := false, ahead := some { c with lost := true } })) := by
  have hr := s.grantLost_facts.1
  have hx' : s.grantLost.radio.tx = none := by rw [hr]; exact hx
  have hn' : s.grantLost.radio.next = none := by rw [hr]; exact hn
  have ha' : s.grantLost.radio.ahead = some c := by rw [hr]; exact ha
  refine congrArg Host.Outcome.next ((if_pos hg).trans ?_)
  unfold State.grantLost at *
  simp only [hx', hn', ha']

/-- A transmission on its way is called back (R210). -/
def State.grantCall (s : State) : State :=
  s.onRadio (fun r =>
    { r with granted := false, next := none, coexOff := some (s.now + us 5),
             trans := match r.trans with | some t => if t.dest = .tx then none else some t | none => none })

theorem exec_coexGrantLoss_beacon {tx : Tx} (hg : s.radio.granted = true) (hx : s.radio.tx = none) (hn : s.radio.next = some tx)
    (hk : tx.kind = .beacon) (hy : s.radio.yielded = none) :
    exec .coexGrantLoss s = .next s.grantLost.grantCall.moveRadio := by
  have hr := s.grantLost_facts.1
  have hx' : s.grantLost.radio.tx = none := by rw [hr]; exact hx
  have hn' : s.grantLost.radio.next = some tx := by rw [hr]; exact hn
  have hy' : s.grantLost.grantCall.moveRadio.radio.yielded = none :=
    (congrArg Radio.yielded s.grantLost.grantCall.moveRadio_still :).trans ((congrArg Radio.yielded hr :).trans hy)
  have hback : ((s.grantLost.grantCall.txLost tx).moveRadio).resume = s.grantLost.grantCall.moveRadio := by
    have hlost : s.grantLost.grantCall.txLost tx = s.grantLost.grantCall := by simp [State.txLost, hk]
    rw [hlost, State.resume, hy']
  refine congrArg Host.Outcome.next ((if_pos hg).trans ?_)
  unfold State.grantLost at hx' hn' hback ⊢
  simp only [hx', hn']
  exact hback

theorem exec_coexGrantLoss_frame (s : State) : ∃ t, exec .coexGrantLoss s = .next t ∧ t.time = s.time ∧ t.image = s.image := by
  refine ⟨_, rfl, ?_⟩
  dsimp only
  (repeat' split) <;> simp

theorem exec_coexStarvation (hf : s.radio.coexFault = false) (hs : secs ((s.fire .coexTimer).pnat Obj.coexStarve) ≤ s.radio.starved)
    (hw : s.radio.coexWait = none) : exec .coexStarvation s =
      .next ((((s.fire .coexTimer).onRadio (fun r => { r with coexFault := true })).queue .coexStarve).count .rfe "coex.starve") := by
  have hov (u : State) (h : u.radio.coexWait = none) : u.coexOverride = u := by simp [State.coexOverride, h]
  refine congrArg Host.Outcome.next ((if_pos ?_).trans (hov _ ?_))
  · have hs' : secs ((s.fire .coexTimer).pnat Obj.coexStarve) ≤ (s.fire .coexTimer).radio.starved := hs
    have hf' : (s.fire .coexTimer).radio.coexFault = false := hf
    simp only [hf', Bool.not_false, Bool.true_and, decide_eq_true_eq]
    exact hs'
  · simp [State.onRadio, hw]

/-! ### A scheduled transmission takes the radio (R180, R208, R209) -/

theorem State.takeAir_off_busy {b : Band} {path : Ticks} (ho : (s.fire .transmission).coexOn b = false)
    (hh : (s.fire .transmission).airHeld = true) : s.takeAir b path = (.busy, s.fire .transmission) := by
  simp [State.takeAir, ho, hh]

/-- The claim that is used up, whether its transmission goes or is skipped (R207, R208). -/
def State.claimOver (path : Ticks) (s : State) : State :=
  if s.radio.ahead.isSome then
    s.onRadio (fun r => { r with ahead := none, coexOff :=
      if (s.radio.tx.toList ++ s.radio.next.toList).any Tx.coex then r.coexOff else some (r.coexOff.getD (s.now + path)) })
  else s

theorem State.claimOver_tally (path : Ticks) (s : State) : (s.claimOver path).tally = s.tally := by
  unfold State.claimOver
  split <;> rfl

theorem State.count_tally {t : State} {b : Block} {name : String} (h : t.tally = s.tally) :
    (t.count b name).tally = (s.count b name).tally := by
  unfold State.count State.countN
  rw [h]
  split <;> simp [State.onTally, h]

theorem State.takeAir_denied_held {b : Band} {path : Ticks} (ho : (s.fire .transmission).coexOn b = true)
    (hb : (s.fire .transmission).txBarred = false) (hh : (s.fire .transmission).airHeld = true) :
    s.takeAir b path = (.denied, ((s.fire .transmission).claimOver path).count .rfe "coex.deny") := by
  simp [State.takeAir, State.claimOver, ho, hb, hh]

theorem State.takeAir_denied_unclaimed {b : Band} {path : Ticks} (ho : (s.fire .transmission).coexOn b = true)
    (hh : (s.fire .transmission).airHeld = false) (ha : s.radio.ahead = none) :
    s.takeAir b path = (.denied, (s.fire .transmission).count .rfe "coex.deny") := by
  have ht : (s.fire .transmission).coexTurn b path = .denied := by simp [State.coexTurn, ho, ha]
  simp [State.takeAir, ho, hh, ht, ha]

/-- A claim that the override frees is counted (R211). -/
def State.overrideCounted (b : Band) (s : State) : State :=
  match s.radio.ahead with
  | some c => if s.coexOn b && s.claimFree c then s.count .rfe "coex.override" else s
  | none => s

theorem State.overrideCounted_off {b : Band} (ho : s.coexOn b = false) : s.overrideCounted b = s := by
  unfold State.overrideCounted
  split
  · exact if_neg (by simp [ho])
  · rfl

/-- The request on the wires stands for the transmission that takes the radio (R208). -/
def Radio.requestKept (r₀ r : Radio) : Radio :=
  { r with coexReq := r₀.coexReq, coexAt := r₀.coexAt, coexHi := r₀.coexHi, granted := r₀.granted, coexOff := none }

theorem State.takeAir_go {b : Band} {path : Ticks} (hh : (s.fire .transmission).airHeld = false)
    (ht : (s.fire .transmission).coexTurn b path = .go) :
    let u := (s.fire .transmission).overrideCounted b
    s.takeAir b path = (.go, if (s.fire .transmission).coexOn b then u.clearAir.onRadio u.radio.requestKept else u.clearAir) := by
  simp only [State.takeAir, hh, ht, Bool.false_and, Bool.false_or, bne_self_eq_false, Bool.false_eq_true, if_false]
  rfl

theorem State.takeAir_off_go {b : Band} {path : Ticks} (ho : (s.fire .transmission).coexOn b = false)
    (hh : (s.fire .transmission).airHeld = false) : s.takeAir b path = (.go, (s.fire .transmission).clearAir) := by
  have ht : (s.fire .transmission).coexTurn b path = .go := by simp [State.coexTurn, ho]
  rw [State.takeAir_go hh ht, State.overrideCounted_off ho, if_neg (by simp [ho])]

theorem State.overrideCounted_radio (b : Band) (s : State) : (s.overrideCounted b).radio = s.radio := by
  unfold State.overrideCounted
  split
  · split <;> simp
  · rfl

/-- A claim that has its grant takes the radio (R208, R210). -/
theorem State.takeAir_granted {b : Band} {path : Ticks} {c : Claim} (ho : (s.fire .transmission).coexOn b = true)
    (hh : (s.fire .transmission).airHeld = false) (ha : s.radio.ahead = some c) (hb : c.band = b) (hair : c.air ≤ s.now + path)
    (hl : c.lost = false) (hg : s.radio.granted = true) :
    (s.takeAir b path).1 = .go ∧ (s.takeAir b path).2.radio.granted = true := by
  have ht : (s.fire .transmission).coexTurn b path = .go := by
    simp [State.coexTurn, ho, ha, hb, hl, hg, Nat.not_lt.mpr hair]
  rw [State.takeAir_go hh ht, if_pos ho]
  have hr := (s.fire .transmission).overrideCounted_radio b
  generalize (s.fire .transmission).overrideCounted b = u at *
  have hg' : u.radio.granted = true := by rw [hr]; exact hg
  have hkept (v : State) : (v.onRadio u.radio.requestKept).radio.granted = u.radio.granted := rfl
  exact ⟨rfl, (hkept _).trans hg'⟩

/-- What a scheduled transmission makes of the radio (R208, R209). -/
theorem State.clearAir_radio (s : State) : s.clearAir.radio.tx = none ∧ s.clearAir.radio.next = none ∧ s.clearAir.radio.cal = none ∧
    s.clearAir.radio.coexWait = none ∧
    (∀ w, s.radio.tx = none → s.radio.next = none → s.radio.coexWait = some w → s.clearAir.radio.yielded = some w) := by
  have hlose (u : State) : (u.losePayloads .rfe "radio.rx.cut").radio = u.radio := by simp
  obtain ⟨hx, hn⟩ := s.cutTx.callBack_tx
  have hx' := hx.trans s.cutTx_tx
  have hy (w : Tx) (r : Radio) (h : r.coexWait = some w) : r.yieldWait.yielded = some w := by
    unfold Radio.yieldWait
    rw [h]
    dsimp only
    split <;> rfl
  have hfree (h1 : s.radio.tx = none) (h2 : s.radio.next = none) : s.cutTx.callBack = s := by
    simp [State.cutTx, State.callBack, h1, h2]
  rw [State.clearAir, hlose]
  generalize s.cutTx.callBack = u at *
  obtain ⟨h1, h2, h3, h4⟩ := Radio.yieldWait_tx u.radio
  exact ⟨h1.trans hx', h2.trans hn, rfl, h4, fun w h h' hw => hy w _ (hfree h h' ▸ hw)⟩

/-! ### A frame goes on the air (R196, R203, R204, R242 to R247) -/

/-- An aerial that is not out of use is taken before one that is (R203, R204). -/
theorem State.aerial_free (k : TxKind) (sd : Side) (h : s.aerialFree sd ≠ .never) : s.aerialFree (s.aerial k) ≠ .never := by
  have hsd : sd = s.namedAerial k ∨ sd = Side.other (s.namedAerial k) := by cases sd <;> cases s.namedAerial k <;> simp [Side.other]
  unfold State.aerial
  dsimp only
  split
  · next hx => rw [hx]; exact AerialFree.noConfusion
  · next hy _ => rw [hy]; exact AerialFree.noConfusion
  · next hx hy => split <;> simp [hx, hy]
  · next hx _ => rw [hx]; exact AerialFree.noConfusion
  · next hx _ =>
    rcases hsd with rfl | rfl
    · exact absurd hx h
    · exact h

theorem State.pgAsk_ok {g : Fin 4} (h : s.pgInput g = false) :
    s.pgAsk g = (true, s.onMon (fun m => { m with tripped := m.tripped.set g false })) := if_neg (by simp [h])

/-- The frame as it goes on the air: on an aerial and with a head of its own (R242 to R247). -/
def State.onAir (tx : Tx) (s : State) : Tx := { tx with aerial := s.aerial tx.kind, head := s.airHead tx }

/-- The state in which a frame that PG1 lets go starts (R196, R395). -/
def State.txReady (s : State) : State :=
  ((s.fire .transmission).fire .frame).onMon (fun m => { m with tripped := m.tripped.set (1 : Fin 4) false })

theorem State.startTx_goes {tx : Tx} (hk : tx.kind ≠ .burst) (hp : ((s.fire .transmission).fire .frame).pgInput 1 = false) :
    (s.startTx tx).radio.tx = some (s.txReady.onAir tx) ∧ (s.startTx tx).radio.paOn = true ∧
      (s.startTx tx).radio.paFrom = s.now - us 4 ∧ (s.startTx tx).radio.st = .tx ∧ (s.startTx tx).radio.next = none := by
  have hstamp (u : State) (x : Tx) : (u.txStamped x).now = u.now := by simp
  have hcount (u : State) (b : Block) (name : String) : (u.count b name).now = u.now := by simp
  unfold State.startTx
  dsimp only
  rw [State.pgAsk_ok hp, if_neg hk]
  dsimp only
  rw [if_pos (show (true && true) = true from rfl)]
  refine ⟨rfl, rfl, ?_, rfl, rfl⟩
  exact congrArg (· - us 4) ((State.onWake_frame ..).2.1.trans ((hcount ..).trans (hstamp ..)))

theorem State.beginTx_barred {tx : Tx} (hb : s.txBarred = true) (hn : s.radio.next = some tx) :
    s.beginTx.radio.tx = s.radio.tx ∧ s.beginTx.radio.paOn = s.radio.paOn ∧
      (tx.scheduled = false → s.beginTx.radio.yielded = some tx ∧ s.beginTx.radio.next = none) := by
  have hend (u : State) : (u.coexEnd tx s.now).radio.ether = u.radio.ether := State.coexEnd_ether ..
  have hlost (u : State) : (u.txLost tx).radio.still = u.radio.still := State.txLost_still ..
  rw [State.beginTx, hn]
  dsimp only
  rw [if_pos hb]
  by_cases hs : tx.scheduled = true
  · rw [if_pos hs]
    refine ⟨(congrArg Radio.tx (hlost _) :).trans (congrArg Radio.tx (hend _) :),
      (congrArg Radio.paOn (hlost _) :).trans (congrArg Radio.paOn (hend _) :), fun h => absurd hs (by simp [h])⟩
  · rw [if_neg hs]
    exact ⟨(congrArg Radio.tx (hend _) :), (congrArg Radio.paOn (hend _) :), fun _ => ⟨rfl, (congrArg Radio.next (hend _) :)⟩⟩

/-- A frame that starts is on an aerial that can be used, with the head that the PHY's settings give (R203, R242 to R247). -/
theorem State.startTx_frame_on_air {tx : Tx} (hk : tx.kind ≠ .burst)
    (hp : ((s.fire .transmission).fire .frame).pgInput 1 = false) :
    let u := (s.fire .transmission).fire .frame
    ∃ h, (s.startTx tx).radio.tx = some h ∧ h = { tx with aerial := h.aerial, head := h.head } ∧
      (∀ sd : Side, u.aerialFree sd ≠ .never → u.aerialFree h.aerial ≠ .never) ∧
      h.head.map AirHead.sfd = some (if u.pnat Obj.phySfd = 1 then 0x7A0E else 0x904E) ∧
      h.head.map AirHead.preamble = some (if tx.kind = .call then 4 else u.pnat Obj.phyPreamble) ∧
      h.head.map AirHead.phr =
        some { modeSwitch := false, fcs16 := false, whiten := u.pint Obj.phyWhiten == 1, length := tx.octets } ∧
      (s.startTx tx).radio.paOn = true ∧ (s.startTx tx).radio.paFrom = s.now - us 4 ∧ (s.startTx tx).radio.st = .tx ∧
      (s.startTx tx).radio.next = none := by
  intro u
  obtain ⟨hx, hpa⟩ := State.startTx_goes hk hp
  have hhead : s.txReady.airHead tx = some
      { preamble := if tx.kind == .call then 4 else s.txReady.pnat Obj.phyPreamble, sfd := s.txReady.sfdWord
        phr := { modeSwitch := false, fcs16 := false, whiten := s.txReady.pint Obj.phyWhiten == 1, length := tx.octets } } :=
    if_neg (by simp [hk])
  refine ⟨_, hx, rfl, fun sd hsd => State.aerial_free tx.kind sd hsd, ?_, ?_, ?_, hpa⟩
  · rw [State.onAir, hhead]
    rfl
  · rw [State.onAir, hhead]
    simp only [Option.map_some, beq_iff_eq]
    rfl
  · rw [State.onAir, hhead]
    rfl

theorem State.coexHigh_coexGo {w : Tx} :
    let u := s.coexHigh
    u.anyPayload = false → u.txBarred = false → u.calSlot = false → s.radio.tx = none → s.radio.next = none →
      s.radio.cal = none → (u.coexGo true w).radio.coexWait = none ∧ (u.coexGo true w).radio.granted = true ∧
        (u.coexGo true w).radio.next = some { w with air := max s.radio.coexAir (s.now + us 30) } := by
  intro u hp hb hc hx hn hcal
  obtain ⟨hr, hnow⟩ := s.coexHigh_radio
  have h := State.coexGo_goes (s := u) (granted := true) (w := w) hp hb hc (by rw [hr]; exact hx) (by rw [hr]; exact hn)
    (by rw [hr]; exact hcal)
  rw [hnow, (congrArg Radio.coexAir hr :)] at h
  exact h

/-- What the loss of a grant makes of the radio (R210, R211). -/
theorem State.grantLoss : ∃ t, exec .coexGrantLoss s = .next t ∧ t.time = s.time ∧ t.image = s.image ∧
    (s.radio.granted = false → t.radio = { s.radio with coexLow := true } ∧ s.keeps [.radio] t) ∧
    (s.radio.granted = true → s.radio.tx = none →
      (∀ tx, s.radio.next = some tx → tx.kind = .beacon → s.radio.yielded = none →
        t.radio.next = none ∧ t.radio.granted = false ∧ t.radio.coexOff = some (s.now + us 5)) ∧
      (∀ c, s.radio.next = none → s.radio.ahead = some c →
        t.radio = { s.radio with coexLow := true, granted := false, ahead := some { c with lost := true } } ∧
        s.keeps [.radio, .tally] t)) := by
  obtain ⟨t, he, ht, hi⟩ := exec_coexGrantLoss_frame s
  refine ⟨t, he, ht, hi, fun hg => ?_, fun hg hx => ⟨fun tx hn hk hy => ?_, fun c hn ha => ?_⟩⟩
  · obtain rfl : _ = t := Host.Outcome.next.inj ((exec_coexGrantLoss_idle hg).symm.trans he)
    exact ⟨rfl, State.keeps_onRadio ..⟩
  · obtain rfl : _ = t := Host.Outcome.next.inj ((exec_coexGrantLoss_beacon hg hx hn hk hy).symm.trans he)
    have hs := s.grantLost.grantCall.moveRadio_still
    have hnow := s.grantLost_facts.2.1
    refine ⟨(congrArg Radio.next hs :), (congrArg Radio.granted hs :), (congrArg Radio.coexOff hs :).trans ?_⟩
    rw [← hnow]
    rfl
  · obtain rfl : _ = t := Host.Outcome.next.inj ((exec_coexGrantLoss_claim hg hx hn ha).symm.trans he)
    obtain ⟨hr, -, hk⟩ := s.grantLost_facts
    refine ⟨?_, State.keeps_step hk (State.keeps_onRadio ..)⟩
    rw [State.onRadio, hr]

/-- Settles O43: the request (`exec_coexRequest_wait`, `exec_coexRequest_claim`), the grant's sample and its loss, the turn
of a scheduled transmission (`State.takeAir_go`, `State.clearAir_radio`) and the frame on the air (`State.startTx_goes`). -/
theorem coexistence : Obligations.Coexistence := by
  refine ⟨fun s => ⟨?_, ?_, State.coexPin_iff, ?_, ?_, State.grantLoss, ?_⟩, ?_, State.clearAir_radio,
    fun tx s => ⟨State.startTx_frame_on_air, State.beginTx_barred⟩⟩
  · intro w u air hf hw hr
    exact ⟨_, exec_coexRequest_wait hf hw hr, rfl,
      State.keeps_step (State.keeps_mono (State.keeps_fire .coexRequest s) (by decide)) (State.keeps_onRadio ..)⟩
  · intro c u air hf hm
    exact ⟨exec_coexRequest_claim hf hm, u.claimRequest_facts c⟩
  · intro w ha hw hd hf
    exact ⟨exec_coexGrantSample_waiting ha hw hd hf true, exec_coexGrantRise_waiting ha hw hd hf,
      ⟨_, exec_coexGrantSample_waiting ha hw hd hf false, rfl, State.keeps_onRadio ..⟩, State.coexHigh_coexGo⟩
  · intro c ha hd hf hl hg hair
    exact ⟨exec_coexGrantSample_claim ha hd hf hl hg hair true,
      _, exec_coexGrantSample_claim ha hd hf hl hg hair false, rfl, State.keeps_onRadio ..⟩
  · intro hf hs hw
    refine ⟨_, exec_coexStarvation hf hs hw, by simp [State.onRadio], ?_⟩
    exact State.keeps_step (State.keeps_step (State.keeps_step (State.keeps_mono (State.keeps_fire .coexTimer s) (by decide))
      (State.keeps_onRadio ..)) (State.keeps_queue ..)) (State.keeps_count ..)
  · intro b path s u
    refine ⟨State.takeAir_off_busy, State.takeAir_off_go, fun ho hb hh => ?_, fun ho hh ha => ?_,
      fun c ho hh ha hb hair hl hg => State.takeAir_granted ho hh ha hb hair hl hg⟩
    · rw [State.takeAir_denied_held ho hb hh]
      exact ⟨rfl, State.count_tally (State.claimOver_tally ..)⟩
    · rw [State.takeAir_denied_unclaimed ho hh ha]
      exact ⟨rfl, by simp [u]⟩

end

end Sys2Proof.Machine

/-!
Proofs about reception: gain, DC offset, and lanes.
-/

namespace Sys2Proof.Machine

/-! ## Lanes and chains (R218 to R239) -/

section

variable {sd : Side} {s : State}

/-- A lane beside its invalid spans (R238, R239). -/
def Lane.core (l : Lane) : Lane := { l with badA := [], badB := [], invalid := false, counted := 0 }

/-- The receiver beside its lanes (R218). -/
def Rx.beside (r : Rx) : Rx := { r with lanes := Vector.replicate 16 .reset }

theorem State.onLane_self (n : Fin 16) (f : Lane → Lane) (s : State) : (s.onLane n f).rx.lanes[n] = f s.rx.lanes[n] := by
  simp [State.onLane]

theorem State.onLane_other {n m : Fin 16} (h : m ≠ n) (f : Lane → Lane) (s : State) :
    (s.onLane n f).rx.lanes[m] = s.rx.lanes[m] := by
  have hne : n.val ≠ m.val := fun h' => h (Fin.ext h'.symm)
  simp [State.onLane, hne]

theorem State.onLane_core {f : Lane → Lane} (hf : ∀ l, (f l).core = l.core) (n m : Fin 16) (s : State) :
    (s.onLane n f).rx.lanes[m].core = s.rx.lanes[m].core := by
  by_cases h : m = n
  · subst h
    rw [State.onLane_self, hf]
  · rw [State.onLane_other h]

@[simp] theorem State.onLane_beside (n : Fin 16) (f : Lane → Lane) (s : State) : (s.onLane n f).rx.beside = s.rx.beside := rfl

theorem State.spoilSpan_rx (n : Fin 16) (a b : Bool) (t0 t1 : Ticks) (s : State) :
    (s.spoilSpan n a b t0 t1).rx.beside = s.rx.beside ∧ ∀ m : Fin 16, (s.spoilSpan n a b t0 t1).rx.lanes[m].core = s.rx.lanes[m].core := by
  have hcount : (s.countInvalid n t0 t1).rx.beside = s.rx.beside ∧
      ∀ m : Fin 16, (s.countInvalid n t0 t1).rx.lanes[m].core = s.rx.lanes[m].core := by
    unfold State.countInvalid
    dsimp only
    split
    · simp only [State.countN_rx]
      exact ⟨rfl, fun m => State.onLane_core (by exact fun _ => rfl) n m s⟩
    · exact ⟨rfl, fun _ => rfl⟩
  unfold State.spoilSpan
  dsimp only
  split
  · exact ⟨rfl, fun _ => rfl⟩
  · exact ⟨hcount.1, fun m => (State.onLane_core (by exact fun _ => rfl) n m _).trans (hcount.2 m)⟩

theorem State.spoilAll_rx (a b : Bool) (t : Ticks) (k : Nat) (s : State) :
    (s.spoilAll a b t k).rx.beside = s.rx.beside ∧ ∀ m : Fin 16, (s.spoilAll a b t k).rx.lanes[m].core = s.rx.lanes[m].core := by
  unfold State.spoilAll
  exact ⟨State.each_keeps (fun s => s.rx.beside) _ _ s fun _ u => (State.spoilSpan_rx _ _ _ _ _ u).1,
   fun m => State.each_keeps (fun s => s.rx.lanes[m].core) _ _ s fun _ u => (State.spoilSpan_rx _ _ _ _ _ u).2 m⟩

theorem Rx.chain_of_beside {r r' : Rx} (h : r'.beside = r.beside) (sd : Side) : r'.chain sd = r.chain sd := by
  cases sd
  · exact (congrArg Rx.a h :)
  · exact (congrArg Rx.b h :)

@[simp] theorem State.chain_onChain (sd : Side) (f : Chain → Chain) (s : State) :
    (s.onChain sd f).rx.chain sd = f (s.rx.chain sd) := by
  cases sd <;> rfl

@[simp] theorem State.chain_onChain_other (sd : Side) (f : Chain → Chain) (s : State) :
    (s.onChain sd f).rx.chain (Side.other sd) = s.rx.chain (Side.other sd) := by
  cases sd <;> rfl

@[simp] theorem State.lanes_onChain (sd : Side) (f : Chain → Chain) (s : State) : (s.onChain sd f).rx.lanes = s.rx.lanes := by
  cases sd <;> rfl

theorem State.keeps_onChain (sd : Side) (f : Chain → Chain) (s : State) : s.keeps [.rx] (s.onChain sd f) := State.keeps_onRx ..

theorem State.keeps_spoilAll (a b : Bool) (t : Ticks) (k : Nat) (s : State) : s.keeps [.rx, .tally] (s.spoilAll a b t k) := by
  refine ⟨by simp, by simp, by simp, fun g hg => ?_⟩
  cases g <;> simp [State.same] at hg ⊢

@[simp] theorem State.count_rx (b : Block) (name : String) (s : State) : (s.count b name).rx = s.rx := by simp

/-! ### Gain (R232 to R235) -/

theorem dcLeft_small (k : Nat) : 200 * (dcLeft k).natAbs ≤ 2 ^ 40 := by
  unfold dcLeft
  omega

theorem Chain.hold_facts (b : Band) (n : Nat) (c : Chain) : (c.hold b n).step = n ∧ (c.hold b n).quiet = c.quiet ∧
    (∀ b', (c.hold b n).dcTable b' = c.dcTable b') := by
  cases b
  · exact ⟨rfl, rfl, fun b' => by cases b' <;> rfl⟩
  · exact ⟨rfl, rfl, fun b' => by cases b' <;> rfl⟩

theorem State.applyDc_facts (sd : Side) (s : State) : (s.applyDc sd).rx.chain sd = { s.rx.chain sd with
      dc := Config.dcOffset ((s.rx.chain sd).dcTable s.radio.band) sd s.radio.band (s.rx.chain sd).step
      residue := dcLeft s.fresh } ∧
    (s.applyDc sd).rx.chain (Side.other sd) = s.rx.chain (Side.other sd) ∧ (s.applyDc sd).rx.lanes = s.rx.lanes := by
  cases sd <;> exact ⟨rfl, rfl, rfl⟩

/-- A chain takes a gain step and applies the DC offset stored for it (R194, R233). -/
theorem State.setStep_facts (sd : Side) (n : Nat) (s : State) :
    ((s.setStep sd n).rx.chain sd).step = n ∧ ((s.setStep sd n).rx.chain sd).want = none ∧
      ((s.setStep sd n).rx.chain sd).dc = Config.dcOffset ((s.rx.chain sd).dcTable s.radio.band) sd s.radio.band n ∧
      200 * ((s.setStep sd n).rx.chain sd).residue.natAbs ≤ 2 ^ 40 ∧
      (s.setStep sd n).rx.chain (Side.other sd) = s.rx.chain (Side.other sd) ∧ (s.setStep sd n).rx.lanes = s.rx.lanes ∧
      ((s.setStep sd n).rx.chain sd).quiet = (s.rx.chain sd).quiet ∧ s.keeps [.rx] (s.setStep sd n) := by
  let f : Chain → Chain := fun c => { (Chain.hold s.radio.band n c) with want := none }
  obtain ⟨hc, ho, hl⟩ := (s.onChain sd f).applyDc_facts sd
  obtain ⟨hstep, hquiet, htable⟩ := (s.rx.chain sd).hold_facts s.radio.band n
  have htable' : (f (s.rx.chain sd)).dcTable s.radio.band = (s.rx.chain sd).dcTable s.radio.band := by
    have hwant (b : Band) (c : Chain) : ({ c with want := none } : Chain).dcTable b = c.dcTable b := by cases b <;> rfl
    exact (hwant ..).trans (htable _)
  have hdc : ((s.onChain sd f).applyDc sd).rx.chain sd = { f (s.rx.chain sd) with
      dc := Config.dcOffset ((s.rx.chain sd).dcTable s.radio.band) sd s.radio.band n, residue := dcLeft s.fresh } := by
    rw [hc, State.chain_onChain, ← htable', ← hstep]
    rfl
  have hset : s.setStep sd n = (s.onChain sd f).applyDc sd := rfl
  rw [hset, hdc]
  refine ⟨hstep, rfl, rfl, dcLeft_small _, ho.trans (State.chain_onChain_other ..), hl.trans (State.lanes_onChain ..), hquiet, ?_⟩
  refine ⟨by simp, by simp, by simp, fun g hg => ?_⟩
  cases g <;> simp [State.same] at hg ⊢

theorem exec_agcWindowEnd {peak : Int} (ho : (s.rx.chain sd).on = true) (hr : s.radio.st = .rx) :
    let quiet := if peak < -96 then min 40 ((s.rx.chain sd).quiet + 1) else 0
    let want := wantStep (s.rx.chain sd).step quiet peak
    let u := s.onChain sd (fun c => { c with quiet := quiet })
    exec (.agcWindowEnd sd peak) s = .next (
      if want = (s.rx.chain sd).step then u.onChain sd (fun c => { c with want := none })
      else if s.chainPayload sd then
        (u.onChain sd (fun c => { c with want := some want })).count .rfe ("rx.agc.defer." ++ agcText sd)
      else (u.setStep sd want).spoilAll (sd == .a) (sd == .b) u.now 6) := by
  intro quiet want u
  have hp : u.chainPayload sd = s.chainPayload sd := by
    cases sd <;> rfl
  refine congrArg Host.Outcome.next ((if_neg (by simp [ho, hr])).trans ?_)
  rw [← hp]

/-- The gain of a chain after a window (R233, R234). -/
theorem State.agcWindow_facts {peak : Int} (ho : (s.rx.chain sd).on = true) (hr : s.radio.st = .rx) :
    ∃ t, exec (.agcWindowEnd sd peak) s = .next t ∧
      let quiet := if peak < -96 then min 40 ((s.rx.chain sd).quiet + 1) else 0
      let want := wantStep (s.rx.chain sd).step quiet peak
      (t.rx.chain sd).quiet = quiet ∧
      (t.rx.chain sd).step = (if s.chainPayload sd then (s.rx.chain sd).step else want) ∧
      (want ≠ (s.rx.chain sd).step → s.chainPayload sd = true → (t.rx.chain sd).want = some want) ∧
      (want ≠ (s.rx.chain sd).step → s.chainPayload sd = false → (t.rx.chain sd).dc =
        Config.dcOffset ((s.rx.chain sd).dcTable s.radio.band) sd s.radio.band (t.rx.chain sd).step) ∧
      s.keeps [.rx, .tally] t := by
  refine ⟨_, exec_agcWindowEnd ho hr, ?_⟩
  intro quiet want
  let u := s.onChain sd (fun c => { c with quiet := quiet })
  have hu : u.rx.chain sd = { s.rx.chain sd with quiet := quiet } := State.chain_onChain ..
  have hku : s.keeps [.rx, .tally] u := State.keeps_mono (State.keeps_onChain ..) (by decide)
  by_cases hw : want = (s.rx.chain sd).step
  · have hc := u.chain_onChain sd (fun c => { c with want := none })
    rw [if_pos hw, hc, hu]
    refine ⟨rfl, ?_, fun h => absurd hw h, fun h => absurd hw h, State.keeps_trans hku (State.keeps_mono (State.keeps_onChain ..) (by decide))⟩
    split
    · rfl
    · exact hw.symm
  · rw [if_neg hw]
    by_cases hp : s.chainPayload sd = true
    · have hc := u.chain_onChain sd (fun c => { c with want := some want })
      rw [if_pos hp, if_pos hp]
      refine ⟨?_, ?_, fun _ _ => ?_, fun _ h => absurd hp (by simp [h]),
        State.keeps_step (State.keeps_trans hku (State.keeps_mono (State.keeps_onChain ..) (by decide))) (State.keeps_count ..)⟩
      all_goals rw [State.count_rx, hc, hu]
    · obtain ⟨hstep, -, hdc, -, -, -, hquiet, hk⟩ := u.setStep_facts sd want
      have hc := Rx.chain_of_beside ((u.setStep sd want).spoilAll_rx (sd == .a) (sd == .b) u.now 6).1 sd
      rw [if_neg hp, if_neg hp, hc]
      refine ⟨hquiet.trans (by rw [hu]), hstep, fun _ h => absurd h hp, fun _ _ => ?_,
        State.keeps_trans (State.keeps_trans hku (State.keeps_mono hk (by decide))) (State.keeps_spoilAll ..)⟩
      rw [hdc, hstep, hu]
      rfl

/-! ### The steps of a chain whose samples clip (R235) -/

/-- The mark of a lane whose chain was forced to a lower gain (R235, R238). -/
def State.markForced (sd : Side) (n : Fin 16) (s : State) : State :=
  let s := s.spoilForced sd n
  if s.receiving s.rx.lanes[n] && s.rx.lanes[n].chain == sd then s.onLane n (fun l => { l with gain := true }) else s

theorem exec_forcedAgcStep (ho : (s.rx.chain sd).on = true) (hr : s.radio.st = .rx) : exec (.forcedAgcStep sd) s =
    .next (((s.setStep sd ((s.rx.chain sd).step - 4)).count .rfe ("rx.agc.forced." ++ agcText sd)).each (List.finRange 16)
      (State.markForced sd)) :=
  congrArg Host.Outcome.next (if_neg (by simp [ho, hr]))

/-- A lane receives a payload on a chain: the same of every state whose lane has the same core and gain flag. -/
def State.hearsOn (sd : Side) (n : Fin 16) (s : State) : Prop := s.receiving s.rx.lanes[n] = true ∧ s.rx.lanes[n].chain = sd

theorem State.markForced_facts (sd : Side) (m : Fin 16) (s : State) : (s.markForced sd m).rx.beside = s.rx.beside ∧
    s.keeps [.rx, .tally] (s.markForced sd m) ∧ ∀ n : Fin 16, (s.hearsOn sd n → (s.markForced sd m).hearsOn sd n) ∧
      (s.rx.lanes[n].gain = true → (s.markForced sd m).rx.lanes[n].gain = true) ∧
      (m = n → s.hearsOn sd n → (s.markForced sd m).rx.lanes[n].gain = true) := by
  have hsp : (s.spoilForced sd m).rx.beside = s.rx.beside ∧
      ∀ n : Fin 16, (s.spoilForced sd m).rx.lanes[n].core = s.rx.lanes[n].core := s.spoilSpan_rx ..
  have hnow : (s.spoilForced sd m).now = s.now := by simp
  have hk : s.keeps [.rx, .tally] (s.spoilForced sd m) := by
    refine ⟨by simp, by simp, by simp, fun g hg => ?_⟩
    cases g <;> simp [State.same] at hg ⊢
  have hears (n : Fin 16) : (s.spoilForced sd m).hearsOn sd n ↔ s.hearsOn sd n := by
    have hp : (s.spoilForced sd m).rx.lanes[n].payload = s.rx.lanes[n].payload := (congrArg Lane.payload (hsp.2 n) :)
    have he : (s.spoilForced sd m).rx.lanes[n].payloadEnd = s.rx.lanes[n].payloadEnd := (congrArg Lane.payloadEnd (hsp.2 n) :)
    have hc : (s.spoilForced sd m).rx.lanes[n].chain = s.rx.lanes[n].chain := (congrArg Lane.chain (hsp.2 n) :)
    rw [State.hearsOn, State.hearsOn, State.receiving, State.receiving, hp, he, hc, hnow]
  have hgain (n : Fin 16) : (s.spoilForced sd m).rx.lanes[n].gain = s.rx.lanes[n].gain := (congrArg Lane.gain (hsp.2 n) :)
  unfold State.markForced
  dsimp only
  split
  · next hm =>
    refine ⟨hsp.1, State.keeps_step hk (State.keeps_onRx ..), fun n => ?_⟩
    have hmark : ((s.spoilForced sd m).onLane m (fun l => { l with gain := true })).hearsOn sd n ↔
        (s.spoilForced sd m).hearsOn sd n := by
      by_cases hn : n = m
      · subst hn
        rw [State.hearsOn, State.onLane_self]
        rfl
      · rw [State.hearsOn, State.onLane_other hn]
        rfl
    refine ⟨fun h => hmark.mpr ((hears n).mpr h), ?_⟩
    by_cases hn : n = m
    · subst hn
      rw [State.onLane_self]
      exact ⟨fun _ => rfl, fun _ _ => rfl⟩
    · rw [State.onLane_other hn]
      exact ⟨fun h => (hgain n).trans h, fun h => absurd h.symm hn⟩
  · next hm =>
    refine ⟨hsp.1, hk, fun n => ⟨(hears n).mpr, (hgain n).trans, fun h hh => absurd ((hears n).mpr hh) ?_⟩⟩
    subst h
    exact fun h => hm (by simpa [State.hearsOn] using h)

/-- Every lane that receives a payload on the chain bears the gain flag (R235). -/
theorem State.each_markForced (sd : Side) (l : List (Fin 16)) (s : State) :
    (s.each l (State.markForced sd)).rx.beside = s.rx.beside ∧ s.keeps [.rx, .tally] (s.each l (State.markForced sd)) ∧
      ∀ n ∈ l, s.hearsOn sd n → (s.each l (State.markForced sd)).rx.lanes[n].gain = true := by
  refine ⟨State.each_keeps (fun s => s.rx.beside) l _ s fun m u => (u.markForced_facts sd m).1,
    State.keeps_each (fun m u => (u.markForced_facts sd m).2.1) l s, ?_⟩
  have hstays (n : Fin 16) (l : List (Fin 16)) (u : State) (h : u.rx.lanes[n].gain = true) :
      (u.each l (State.markForced sd)).rx.lanes[n].gain = true := by
    induction l generalizing u with
    | nil => exact h
    | cons m l ih => exact ih _ (((u.markForced_facts sd m).2.2 n).2.1 h)
  induction l generalizing s with
  | nil => exact fun n h => absurd h List.not_mem_nil
  | cons m l ih =>
    intro n hn hh
    obtain ⟨hkeep, -, hmark⟩ := (s.markForced_facts sd m).2.2 n
    rcases List.mem_cons.mp hn with rfl | hn
    · exact hstays n l _ (hmark rfl hh)
    · exact ih (s.markForced sd m) n hn (hkeep hh)

theorem State.forced_facts (ho : (s.rx.chain sd).on = true) (hr : s.radio.st = .rx) :
    ∃ t, exec (.forcedAgcStep sd) s = .next t ∧ (t.rx.chain sd).step = (s.rx.chain sd).step - 4 ∧
      (∀ n : Fin 16, s.receiving s.rx.lanes[n] = true → s.rx.lanes[n].chain = sd → t.rx.lanes[n].gain = true) ∧
      (t.rx.chain sd).dc =
        Config.dcOffset ((s.rx.chain sd).dcTable s.radio.band) sd s.radio.band ((s.rx.chain sd).step - 4) ∧
      s.keeps [.rx, .tally] t := by
  obtain ⟨hstep, -, hdc, -, -, hl, -, hk⟩ := s.setStep_facts sd ((s.rx.chain sd).step - 4)
  let u := (s.setStep sd ((s.rx.chain sd).step - 4)).count .rfe ("rx.agc.forced." ++ agcText sd)
  have hurx : u.rx = (s.setStep sd ((s.rx.chain sd).step - 4)).rx := State.count_rx ..
  have hul : u.rx.lanes = s.rx.lanes := (congrArg Rx.lanes hurx).trans hl
  have hunow : u.now = s.now := by simp [u]
  obtain ⟨hb, hke, hmark⟩ := State.each_markForced sd (List.finRange 16) u
  have hc := Rx.chain_of_beside hb sd
  have hall := fun n => hmark n (List.mem_finRange n)
  refine ⟨_, exec_forcedAgcStep ho hr, ?_⟩
  generalize u.each (List.finRange 16) (State.markForced sd) = v at *
  refine ⟨?_, fun n hn hch => hall n ?_, ?_,
    State.keeps_trans (State.keeps_step (State.keeps_mono hk (by decide)) (State.keeps_count ..)) hke⟩
  · rw [hc, hurx, hstep]
  · rw [State.hearsOn, State.receiving, hul, hunow]
    exact ⟨hn, hch⟩
  · rw [hc, hurx, hdc]

/-! ### A preamble and a start of frame (R228, R229, R234, R240, R243) -/

theorem State.judgeChans_rx (l : List ResId) (f : Judge → Judge) (s : State) :
    (s.judgeChans l f).rx.lanes = s.rx.lanes ∧ s.keeps [.rx] (s.judgeChans l f) :=
  ⟨State.each_keeps (fun s => s.rx.lanes) l _ s fun _ _ => rfl, State.keeps_each (fun _ _ => State.keeps_onRx ..) l s⟩

theorem State.judgeLane_rx (n : Fin 16) (f : Judge → Judge) (s : State) :
    (s.judgeLane n f).rx.lanes = s.rx.lanes ∧ s.keeps [.rx] (s.judgeLane n f) := by
  unfold State.judgeLane
  dsimp only
  split
  · exact State.judgeChans_rx ..
  · exact ⟨rfl, State.keeps_refl ..⟩

/-- The chain chosen at a preamble, from what each chain delivered (R228, R229). -/
def State.choice (n : Fin 16) (qa qb : Int) (s : State) : Side × Bool :=
  chooseChain s.rx.a.on s.rx.b.on qa qb (s.validSymbols n .a) (s.validSymbols n .b)
    ((s.laneNames n).map (fun e => if e.bestB then Side.b else Side.a))

/-- The counter of a choice (R229). -/
def choiceCounter : Side → String
  | .a => "rx.choice.a"
  | .b => "rx.choice.b"

/-- A lane as a preamble leaves it (R228, R229, R240). -/
def State.laneChosen (n : Fin 16) (qa qb rssiA rssiB : Int) (s : State) (l : Lane) : Lane :=
  { l with pre := true, payload := false, badPhr := false, chain := (s.choice n qa qb).1, held := (s.choice n qa qb).2
           gain := false, invalid := false
           qa := if s.rx.a.on && 0 < s.validSymbols n .a then some qa else none
           qb := if s.rx.b.on && 0 < s.validSymbols n .b then some qb else none
           rssi := if s.validSymbols n (s.choice n qa qb).1 = 0 then -128
             else clampRssi (match (s.choice n qa qb).1 with | .a => rssiA | .b => rssiB) }

theorem exec_preambleDeclared {n : Fin 16} {first : Side} {qa qb rssiA rssiB : Int} (hr : s.radio.st = .rx)
    (ho : (s.rx.chain first).on = true) (hb : s.rx.lanes[n].bound = true) (hh : s.rx.lanes[n].holder ≠ .capture)
    (hp : s.receiving s.rx.lanes[n] = false) :
    let u := ((s.onLane n (s.laneChosen n qa qb rssiA rssiB)).count .lanes (choiceCounter (s.choice n qa qb).1)).judgeLane n (fun j => { j with pre := j.pre + 1 })
    exec (.preambleDeclared n first qa qb rssiA rssiB) s =
      .next (if (s.choice n qa qb).2 then u.count .lanes "rx.choice.held" else u) := by
  refine congrArg Host.Outcome.next ((if_neg ?_).trans ?_)
  · simpa [hr, ho] using ⟨⟨hb, hh⟩, hp⟩
  · unfold State.laneChosen
    have hc : chooseChain s.rx.a.on s.rx.b.on qa qb (s.validSymbols n .a) (s.validSymbols n .b)
        ((s.laneNames n).map (fun e => if e.bestB then Side.b else Side.a)) = s.choice n qa qb := rfl
    dsimp only
    rw [hc]
    generalize s.choice n qa qb = c
    obtain ⟨sd, held⟩ := c
    cases sd <;> rfl

/-- A preamble leaves the other lanes, and chooses a chain for its own (R229, R240). -/
theorem State.preamble_facts {n : Fin 16} {first : Side} {qa qb rssiA rssiB : Int} (hr : s.radio.st = .rx)
    (ho : (s.rx.chain first).on = true) (hb : s.rx.lanes[n].bound = true) (hh : s.rx.lanes[n].holder ≠ .capture)
    (hp : s.receiving s.rx.lanes[n] = false) :
    ∃ t, exec (.preambleDeclared n first qa qb rssiA rssiB) s = .next t ∧
      t.rx.lanes[n] = s.laneChosen n qa qb rssiA rssiB s.rx.lanes[n] ∧ (∀ m, m ≠ n → t.rx.lanes[m] = s.rx.lanes[m]) ∧
      s.keeps [.rx, .tally] t := by
  refine ⟨_, exec_preambleDeclared hr ho hb hh hp, ?_⟩
  have hheld (c : Prop) [Decidable c] (u : State) : (if c then u.count .lanes "rx.choice.held" else u).rx = u.rx ∧
      u.keeps [.tally] (if c then u.count .lanes "rx.choice.held" else u) := by
    split
    · exact ⟨State.count_rx .., State.keeps_count ..⟩
    · exact ⟨rfl, State.keeps_refl ..⟩
  let v := (s.onLane n (s.laneChosen n qa qb rssiA rssiB)).count .lanes (choiceCounter (s.choice n qa qb).1)
  have hv : v.rx = (s.onLane n (s.laneChosen n qa qb rssiA rssiB)).rx := State.count_rx ..
  have hkv : s.keeps [.rx, .tally] v := State.keeps_step (State.keeps_mono (State.keeps_onRx _ s) (by decide)) (State.keeps_count ..)
  obtain ⟨hl, hkj⟩ := v.judgeLane_rx n (fun j => { j with pre := j.pre + 1 })
  obtain ⟨hrx, hk⟩ := hheld ((s.choice n qa qb).2 = true) (v.judgeLane n (fun j => { j with pre := j.pre + 1 }))
  refine ⟨?_, fun m hm => ?_, State.keeps_step (State.keeps_step hkv hkj) hk⟩
  · rw [hrx, hl, hv, State.onLane_self]
  · rw [hrx, hl, hv, State.onLane_other hm]

theorem exec_sfdFound_other {n : Fin 16} {sfd : Nat} {phr : PhrBits} {len : Nat} (hw : sfd ≠ s.sfdWord) :
    exec (.sfdFound n sfd phr len) s = .next s :=
  congrArg Host.Outcome.next (if_neg (by simp [hw]))

/-- A lane that begins its payload (R234, R241, R243). -/
def State.laneBegun (n : Fin 16) (phr : PhrBits) (len : Nat) (s : State) (l : Lane) : Lane :=
  { l with payload := true, badPhr := phrBad phr.modeSwitch phr.fcs16 len, whiten := phr.whiten
           payloadEnd := s.now + airTicks l.rate (2 + (if phrBad phr.modeSwitch phr.fcs16 len then 0 else len))
           sfdAt := s.now - s.rxDelay n s.rx.lanes[n].chain
           sfdStep := (s.rx.chain l.chain).step
           invalid := !(s.rx.chain l.chain).on || l.hasBad l.chain (s.now - airTicks l.rate 2) s.now }

theorem exec_sfdFound {n : Fin 16} {phr : PhrBits} {len : Nat} (hpre : s.rx.lanes[n].pre = true)
    (hpay : s.rx.lanes[n].payload = false) (hh : Lane.hears (s.now - s.rxDelay n s.rx.lanes[n].chain) s.rx.lanes[n] = true) :
    exec (.sfdFound n s.sfdWord phr len) s = .next (s.onLane n (s.laneBegun n phr len)) := by
  refine congrArg Host.Outcome.next (if_pos ?_)
  rw [hpre, hpay, hh]
  simp

theorem phrBad_iff (phr : PhrBits) (len : Nat) : phrBad phr.modeSwitch phr.fcs16 len = true ↔
    phr.modeSwitch = true ∨ phr.fcs16 = true ∨ len < 5 ∨ 127 < len := by
  simp [phrBad, or_assoc]

/-! ### Lanes end, are retuned and fail (R224, R225, R243, R488) -/

theorem State.laneTick_badPhr {n : Fin 16} (hp : s.rx.lanes[n].payload = true) (hb : s.rx.lanes[n].badPhr = true)
    (he : s.rx.lanes[n].payloadEnd ≤ s.now) (hr : s.rx.lanes[n].retune = none) :
    s.laneTick n = (s.onLane n Lane.idle).count .lanes "phy.phr.bad" := by
  have hr' : ((s.onLane n Lane.idle).count .lanes "phy.phr.bad").rx.lanes[n].retune = none := by
    rw [State.count_rx, State.onLane_self]
    exact hr
  unfold State.laneTick
  dsimp only
  rw [hp, hb, decide_eq_true he]
  simp only [Bool.and_self, if_true]
  rw [hr']

theorem exec_laneRetune {n : Fin 16} {ch rate : Nat} (hb : s.rx.lanes[n].bound = true) (hh : s.rx.lanes[n].holder ≠ .capture)
    (hr : s.rx.lanes[n].retune = none) : exec (.laneRetune n ch rate) s = .next (
      if planHas s.part.variant rate ch && s.covers s.rx.band s.rx.centre rate ch && (s.chanHolder n rate ch).isNone then
        s.bind n s.rx.lanes[n].holder ch rate s.rx.lanes[n].program
      else s) := by
  refine congrArg Host.Outcome.next ((if_neg ?_).trans ?_)
  · rw [hb]
    simpa using hh
  · rw [hr]

/-- A lane that receives nothing is on its new channel at once (R224). -/
theorem State.bind_tuned {n : Fin 16} {hd : Holder} {ch rate program : Nat} (hr : s.receiving s.rx.lanes[n] = false) :
    (s.bind n hd ch rate program).rx.lanes[n].chan = ch ∧ (s.bind n hd ch rate program).rx.lanes[n].rate = rate := by
  have hself (u : State) (f : Lane → Lane) (hf : ∀ l, (f l).chan = ch ∧ (f l).rate = rate) :
      (u.onLane n f).rx.lanes[n].chan = ch ∧ (u.onLane n f).rx.lanes[n].rate = rate := by
    rw [State.onLane_self]
    exact hf _
  have hcount : ∀ u : State, u = (if s.rx.lanes[n].bound then s else s.onLane n (fun l => { l with counted := max l.counted s.now })) →
      u.rx.lanes[n].chan = s.rx.lanes[n].chan ∧ u.rx.lanes[n].rate = s.rx.lanes[n].rate ∧
        u.receiving s.rx.lanes[n] = false := by
    rintro u rfl
    split
    · exact ⟨rfl, rfl, hr⟩
    · rw [State.onLane_self]
      exact ⟨rfl, rfl, hr⟩
  unfold State.bind
  dsimp only
  generalize hu : (if s.rx.lanes[n].bound then s else s.onLane n (fun l => { l with counted := max l.counted s.now })) = u
  obtain ⟨hch, hrt, hrec⟩ := hcount u hu.symm
  split
  · next h =>
    simp only [Bool.and_eq_true, decide_eq_true_eq] at h
    rw [State.onLane_self]
    exact ⟨hch.trans h.1, hrt.trans h.2⟩
  · rw [hrec, if_neg Bool.false_ne_true]
    have hspoil (v : State) (t : Ticks) := (v.spoilSpan_rx n true true (v.radio.deafFrom.getD v.now) t).2 n
    refine ⟨(congrArg Lane.chan (hspoil ..) :).trans ?_, (congrArg Lane.rate (hspoil ..) :).trans ?_⟩
    · rw [Lane.core, State.onLane_self]
    · rw [Lane.core, State.onLane_self]

theorem State.moveRadio_faults (s : State) : s.moveRadio.faults = s.faults := by simp

theorem State.restFor_rests (id : ResId) (period : Ticks) (s : State) : ((s.restFor id period).res id).resting = true ∧
    ((s.restFor id period).res id).rests = (s.res id).rests + 1 ∧ (s.restFor id period).rx = s.rx := by
  have hsaid (u : State) : (u.restSaid id period).faults = u.faults ∧ (u.restSaid id period).rx = u.rx := by simp
  unfold State.restFor
  rw [State.res_congr (hsaid _).1, (hsaid _).2, State.res_onRes (by exact fun _ => rfl)]
  exact ⟨rfl, rfl, rfl⟩

/-- A lane whose engine fails rests, and is free (R488). -/
theorem exec_laneEngineFault {n : Fin 16} (hret : (s.res { kind := .lane, num := n.val }).retired = false)
    (hrest : (s.res { kind := .lane, num := n.val }).resting = false) (hf : ∀ f ∈ s.work.table, f.lane ≠ some n)
    (hh : s.rx.lanes[n].holder ≠ .capture) (hw : s.faultsInWindow { kind := .lane, num := n.val } < 4) :
    ∃ p, exec (.laneEngineFault n) s =
      .next ((((s.onLane n Lane.idle).release n).restFor { kind := .lane, num := n.val } p).moveRadio) := by
  have hnone : s.work.table.filter (fun f => f.lane == some n && f.st == .air) = [] :=
    List.filter_eq_nil_iff.mpr fun f hm h => hf f hm (by simpa using (Bool.and_eq_true_iff.mp h).1)
  have hh' : (s.rx.lanes[n].holder == Holder.capture) = false := by simpa using hh
  let u := (s.onLane n Lane.idle).release n
  have hres : u.res { kind := .lane, num := n.val } = s.res { kind := .lane, num := n.val } := rfl
  have hw' : u.faultsInWindow { kind := .lane, num := n.val } = s.faultsInWindow { kind := .lane, num := n.val } := rfl
  have htr : u.transient { kind := .lane, num := n.val } = u.restFor { kind := .lane, num := n.val }
      (u.restPeriod .lane ((u.res { kind := .lane, num := n.val }).rests + 1)) :=
    if_neg (by simp [hres, hret, hrest])
  refine ⟨_, congrArg Host.Outcome.next ((if_neg (by simp [hret, hrest])).trans (congrArg State.moveRadio (Eq.trans ?_ htr)))⟩
  have hnil (f : Flight → State → State) : s.each [] f = s := rfl
  rw [hnone, hnil, hh', if_neg Bool.false_ne_true]
  exact if_neg (Nat.not_le.mpr (hw' ▸ hw))

/-- Settles O44: the gain and the DC offset of a chain (`State.agcWindow_facts`, `State.forced_facts`, `State.setStep_facts`),
the preamble and the start of a frame on a lane (`State.preamble_facts`, `exec_sfdFound`), and its end, retune and fault. -/
theorem gainAndLanes : Obligations.GainAndLanes := by
  refine ⟨fun sd n s => ⟨?_, ?_, ?_, ?_, State.laneTick_badPhr, ?_, ?_⟩, fun sd s => ⟨?_, ?_, ?_, ?_, ?_⟩⟩
  · intro peak ho hr
    obtain ⟨t, he, hq, hs, hw, -, hk⟩ := State.agcWindow_facts (peak := peak) ho hr
    exact ⟨t, he, hq, hs, hw, hk⟩
  · intro ho hr
    obtain ⟨t, he, hs, hg, -, hk⟩ := State.forced_facts ho hr
    exact ⟨t, he, hs, hg n, hk⟩
  · intro first qa qb rssiA rssiB hr ho hb hh hp
    obtain ⟨t, he, hl, hm, hk⟩ := State.preamble_facts (qa := qa) (qb := qb) (rssiA := rssiA) (rssiB := rssiB) hr ho hb hh hp
    refine ⟨t, _, he, ?_, rfl, ?_, ?_, hm, hk⟩
    all_goals rw [hl]; rfl
  · intro sfd phr len hpre hpay
    refine ⟨exec_sfdFound_other, fun hw hh => ?_⟩
    subst hw
    refine ⟨_, exec_sfdFound hpre hpay hh, fun m hm => State.onLane_other hm .., ?_⟩
    rw [State.onLane_self]
    refine ⟨rfl, rfl, rfl, rfl, State.keeps_onRx .., fun h1 h2 h3 h4 => ?_, fun h => ?_⟩
    · have hbad : phrBad phr.modeSwitch phr.fcs16 len = false := by
        rw [Bool.eq_false_iff, ne_eq, phrBad_iff]
        simp [h1, h2, Nat.not_lt.mpr h3, Nat.not_lt.mpr h4]
      rw [State.laneBegun, hbad]
      exact ⟨rfl, rfl⟩
    · rw [State.laneBegun, (phrBad_iff phr len).mpr h]
      exact ⟨rfl, rfl⟩
  · intro ch rate hb hh hr ok
    refine ⟨fun hok => ⟨?_, State.bind_tuned⟩, fun hok => ?_⟩
    · exact (exec_laneRetune hb hh hr).trans (congrArg Host.Outcome.next (if_pos hok))
    · exact (exec_laneRetune hb hh hr).trans (congrArg Host.Outcome.next (if_neg (Bool.eq_false_iff.mp hok)))
  · intro hret hrest hf hh hw
    obtain ⟨p, he⟩ := exec_laneEngineFault hret hrest hf hh hw
    obtain ⟨h1, h2, h3⟩ := ((s.onLane n Lane.idle).release n).restFor_rests { kind := .lane, num := n.val } p
    refine ⟨_, he, ?_, ?_, ?_⟩
    · rw [State.res_congr (State.moveRadio_faults ..)]
      exact h1
    · rw [State.res_congr (State.moveRadio_faults ..)]
      exact h2
    · rw [State.moveRadio_holder, h3, State.release, State.onLane_holder_self]
  · intro n
    obtain ⟨h1, h2, h3, h4, h5, h6, -, hk⟩ := s.setStep_facts sd n
    exact ⟨h1, h2, h3, h4, h5, h6, hk⟩
  · intro peak ho hr hp hpk
    obtain ⟨t, he, -, -, -, hdc, -⟩ := State.agcWindow_facts (peak := peak) ho hr
    rw [if_neg (by omega)] at hdc
    exact ⟨t, he, fun hw => hdc hw hp⟩
  · intro ho hr
    obtain ⟨t, he, -, -, hdc, -⟩ := State.forced_facts ho hr
    exact ⟨t, he, hdc⟩
  · intro ho hr hp
    rw [State.dcLoop, if_pos (by simp [ho, hr, hp])]
    exact ⟨by rw [State.chain_onChain], State.keeps_onChain ..⟩
  · intro hp
    exact if_neg (by simp [hp])

end

end Sys2Proof.Machine

/-!
Proofs about time of day, the time mode and the sleep clock.
-/

namespace Sys2Proof.Machine

/-! ## Time of day and the time mode (R254, R258, R263 to R265, R531) -/

section

variable {h : Hdr} {s : State}

theorem exec_doTimeNow (hj : s.judges h) (ha : (s.heard h).allowed .operator = true) :
    let u := s.heard h
    exec (.doTimeNow h) s = .next (u.reply h
      [.timeNow u.stamp u.slotNow u.slotOffset u.time.counterMode (if u.net.started then some u.net.st else none)]) := by
  refine congrArg Host.Outcome.next ((State.report_judged 519 .operator _ hj).trans ?_)
  rw [needs_allowed ha, State.finish_good]

/-- The record of a set of time (R531). -/
def State.timeSetAud (sec ns : Int) (s : State) : Aud :=
  if s.time.counterMode then ⟨8, 864, .num 1, .num 0⟩ else ⟨8, 865, .num 0, .num (sec * 1000000000 + ns - s.readingNs)⟩

theorem runDoTimeSet_allowed {sec ns : Int} {u : State} (ha : u.allowed .custodian = true) (h1 : inRange 0 (2 ^ 48 - 1) sec = true)
    (h2 : inRange 0 999999999 ns = true) : runDoTimeSet h sec ns u =
      if u.net.st == .member || u.net.st == .holdover then bad u .state 0 (some 865) (some (u.timeSetAud sec ns))
      else good (u.onTime (fun t => { t with ask := some (.set sec.toNat ns.toNat) })) [.timeSet sec.toNat ns.toNat] (some 865)
        (some (u.timeSetAud sec ns)) := by
  rw [runDoTimeSet, needs_allowed ha, if_neg (by rw [h1, h2]; decide)]
  rfl

theorem exec_doTimeSet {sec ns : Int} (hj : s.judgesAtOnce h) (ha : (s.heard h).allowed .custodian = true)
    (h1 : inRange 0 (2 ^ 48 - 1) sec = true) (h2 : inRange 0 999999999 ns = true) :
    exec (.doTimeSet h sec ns) s = .next (State.finish ((s.heard h).lineOrigin h) h .do_ (
      let u := s.heard h
      if u.net.st == .member || u.net.st == .holdover then bad u .state 0 (some 865) (some (u.timeSetAud sec ns))
      else good (u.onTime (fun t => { t with ask := some (.set sec.toNat ns.toNat) })) [.timeSet sec.toNat ns.toNat] (some 865)
        (some (u.timeSetAud sec ns)))) := by
  refine congrArg Host.Outcome.next ((State.change_judged _ .do_ true _ hj (fun _ => rfl)).trans ?_)
  rw [runDoTimeSet_allowed ha h1 h2]

theorem exec_doTimeCounter (hj : s.judgesAtOnce h) (ha : (s.heard h).allowed .custodian = true) :
    let u := s.heard h
    exec (.doTimeCounter h) s = .next (s.didAs h ⟨8, 864, .num (if u.time.counterMode then 1 else 0), .num 1⟩ [.word "counter"]
      (u.onTime (fun t => { t with ask := some .counter }))) := by
  refine congrArg Host.Outcome.next ((State.change_judged _ .do_ true _ hj (fun _ => rfl)).trans ?_)
  rw [runDoTimeCounter, needs_allowed ha]
  rfl

/-! ### The boundary makes it true (R254, R258) -/

theorem State.reading_congr {t : State} (ht : t.time = s.time) : t.readingQ = s.readingQ := by
  rw [State.readingQ, State.readingQ, ht]

/-- Local time is folded out of counter mode (R258). -/
theorem State.foldNow_time (rule : Option SelfRule) (q : Nat) (s : State) :
    (s.foldNow rule (some q)).time = { s.time with counterMode := false, q := q, fold := none } := by
  unfold State.foldNow
  dsimp only
  split <;> simp [State.onTime]

/-- Local time steps in time mode (R265). -/
theorem State.stepNow_time {ns : Int} (o : Option Origin) (hc : s.time.counterMode = false) :
    (s.stepNow ns o).time = { s.time with q := ((s.time.q : Int) + ns * 2 ^ 39).toNat, step := none } := by
  unfold State.stepNow
  dsimp only
  split <;> simp [State.onTime, State.onWork, State.onRoster, State.onNet, hc]

/-- A step by the difference to a time sets that time (R254). -/
theorem stepped_ns (q T : Nat) : ((q : Int) + ((T : Int) - (q / 2 ^ 39 : Nat)) * 2 ^ 39).toNat / 2 ^ 39 = T := by
  omega

theorem State.toCounter_time (s : State) : s.toCounter.time = { s.time with
    counterMode := true, offset := (s.time.q : Int) - (s.time.cq / 4 : Nat) * 1000 * (2 ^ 32 + s.time.rate) } := by
  simp [State.toCounter, State.onTime]

/-- Local time in counter mode reads on where time mode left it (R258). -/
theorem State.toCounter_reading (hc : s.time.counterMode = false) : s.toCounter.readingQ = s.readingQ := by
  rw [State.readingQ, State.readingQ, State.toCounter_time, if_pos rfl, hc, if_neg Bool.false_ne_true]
  dsimp only
  rw [Int.sub_add_cancel, Int.toNat_natCast]

/-- The request is taken up at the boundary (R254). -/
def State.askTaken (s : State) : State := s.onTime (fun t => { t with ask := none })

theorem State.applyTime_fold {sec ns : Nat} (ha : s.time.ask = some (.set sec ns)) (hc : s.time.counterMode = true)
    (hs : s.time.step = none) :
    s.applyTime = (true, s.askTaken.foldNow none (some ((sec * 1000000000 + ns) * 2 ^ 39))) := by
  have ht := s.askTaken.foldNow_time none ((sec * 1000000000 + ns) * 2 ^ 39)
  have hfold : (s.askTaken.foldNow none (some ((sec * 1000000000 + ns) * 2 ^ 39))).time.fold = none := by rw [ht]
  have hstep : (s.askTaken.foldNow none (some ((sec * 1000000000 + ns) * 2 ^ 39))).time.step = none := by rw [ht]; exact hs
  have hc' : s.askTaken.time.counterMode = true := hc
  unfold State.askTaken at hfold hstep hc' ⊢
  simp only [State.applyTime, ha, hc', if_true, hfold, hstep]

theorem State.applyTime_step {sec ns : Nat} (ha : s.time.ask = some (.set sec ns)) (hc : s.time.counterMode = false)
    (hf : s.time.fold = none) :
    s.applyTime = (true, s.askTaken.stepNow (((sec * 1000000000 + ns : Nat) : Int) - s.readingNs) none) := by
  have ht := State.stepNow_time (s := s.askTaken) (ns := ((sec * 1000000000 + ns : Nat) : Int) - s.askTaken.readingNs) none hc
  have hfold : (s.askTaken.stepNow (((sec * 1000000000 + ns : Nat) : Int) - s.askTaken.readingNs) none).time.fold = none := by
    rw [ht]; exact hf
  have hstep : (s.askTaken.stepNow (((sec * 1000000000 + ns : Nat) : Int) - s.askTaken.readingNs) none).time.step = none := by rw [ht]
  have hc' : s.askTaken.time.counterMode = false := hc
  have hns : s.readingNs = s.askTaken.readingNs := rfl
  rw [hns]
  unfold State.askTaken at hfold hstep hc' ⊢
  simp only [State.applyTime, ha, hc', Bool.false_eq_true, if_false, hfold, hstep]

theorem State.applyTime_counter (ha : s.time.ask = some .counter) (hf : s.time.fold = none) (hs : s.time.step = none) :
    s.applyTime = (false, if s.time.counterMode then s.askTaken else s.askTaken.toCounter) := by
  have ht := s.askTaken.toCounter_time
  have hfold : (if s.time.counterMode then s.askTaken else s.askTaken.toCounter).time.fold = none := by
    split
    · exact hf
    · rw [ht]; exact hf
  have hstep : (if s.time.counterMode then s.askTaken else s.askTaken.toCounter).time.step = none := by
    split
    · exact hs
    · rw [ht]; exact hs
  have hc : s.askTaken.time.counterMode = s.time.counterMode := rfl
  unfold State.askTaken at hfold hstep hc ⊢
  simp only [State.applyTime, ha, hc, hfold, hstep]

/-- The boundary makes a set of time true (R254, R258). -/
theorem State.applyTime_set {sec ns : Nat} (hf : s.time.fold = none) (hs : s.time.step = none)
    (ha : s.time.ask = some (.set sec ns)) : s.applyTime.2.time.counterMode = false ∧
      s.applyTime.2.readingNs = sec * 1000000000 + ns ∧ s.applyTime.2.time.ask = none := by
  by_cases hc : s.time.counterMode = true
  · have ht := s.askTaken.foldNow_time none ((sec * 1000000000 + ns) * 2 ^ 39)
    rw [State.applyTime_fold ha hc hs]
    dsimp only
    rw [State.readingNs, State.readingQ, ht]
    exact ⟨rfl, Nat.mul_div_cancel _ (by decide), rfl⟩
  · have hc' := Bool.eq_false_iff.mpr hc
    have ht := State.stepNow_time (s := s.askTaken) (ns := ((sec * 1000000000 + ns : Nat) : Int) - s.readingNs) none hc'
    have hq : s.readingNs = s.time.q / 2 ^ 39 := by rw [State.readingNs, State.readingQ, if_neg hc]
    rw [State.applyTime_step ha hc' hf]
    dsimp only
    rw [hq] at ht ⊢
    rw [State.readingNs, State.readingQ, ht]
    have hoff : ¬s.askTaken.time.counterMode = true := hc
    refine ⟨hc', ?_, rfl⟩
    rw [if_neg hoff]
    exact stepped_ns ..

theorem State.applyTime_counter_mode (hf : s.time.fold = none) (hs : s.time.step = none) (ha : s.time.ask = some .counter) :
    s.applyTime.2.time.counterMode = true ∧ s.applyTime.2.readingQ = s.readingQ ∧ s.applyTime.2.time.ask = none := by
  rw [State.applyTime_counter ha hf hs]
  dsimp only
  by_cases hc : s.time.counterMode = true
  · rw [if_pos hc]
    exact ⟨hc, rfl, rfl⟩
  · rw [if_neg hc]
    have hr := s.askTaken.toCounter_reading (Bool.eq_false_iff.mpr hc)
    rw [hr, s.askTaken.toCounter_time]
    exact ⟨rfl, rfl, rfl⟩

/-- Settles O46: the time of day asked for (`exec_doTimeSet`), what the boundary makes of it (`State.applyTime_set`,
`State.applyTime_counter_mode`), and the sleep clock. -/
theorem timeAndClocks : Obligations.TimeAndClocks := by
  refine ⟨?_, ?_, ?_, fun s x => ⟨?_, ?_, ?_⟩⟩
  · intro h s hj u ha
    exact exec_doTimeNow hj ha
  · intro h s hj u
    refine ⟨?_, fun ha => exec_doTimeCounter hj ha⟩
    intro sec ns ha h1 h2 h3 h4
    have hr1 : inRange 0 (2 ^ 48 - 1) sec = true := inRange_iff.mpr ⟨h1, by omega⟩
    have hr2 : inRange 0 999999999 ns = true := inRange_iff.mpr ⟨h3, by omega⟩
    have he := exec_doTimeSet (sec := sec) (ns := ns) hj ha hr1 hr2
    refine ⟨fun hm hh => ?_, fun hst => ?_⟩
    · rw [if_neg (by simpa using ⟨hm, hh⟩)] at he
      exact he
    · rw [if_pos (by simpa using hst)] at he
      obtain ⟨htx, -, -, hk⟩ := State.finish_bad_keeps (h := h) (u.lineOrigin h) .do_ u .state 0 (some 865) (some (u.timeSetAud sec ns)) rfl
      exact ⟨_, he, htx, hk⟩
  · intro s hf hs t
    exact ⟨fun sec ns ha => State.applyTime_set hf hs ha, State.applyTime_counter_mode hf hs⟩
  · intro hx
    exact congrArg Host.Outcome.next (if_pos hx)
  · intro hr hp hx
    refine ⟨_, congrArg Host.Outcome.next (if_pos (by simpa [hr, hx] using hp)), rfl, rfl, ?_⟩
    exact State.keeps_step (State.keeps_mono (State.keeps_onTime _ s) (by decide)) (State.keeps_onRadio ..)
  · intro hr hc ht
    refine ⟨_, congrArg Host.Outcome.next (if_pos (by simp [hr, hc, ht])), rfl, rfl, ?_⟩
    exact State.keeps_step (State.keeps_mono (State.keeps_onTime _ s) (by decide)) (State.keeps_onPm ..)

end

end Sys2Proof.Machine

/-!
Proofs about the schedule: its commands, its list and the slot boundary.
-/

namespace Sys2Proof.Machine

/-! ## The schedule is changed and listed (R271, R276) -/

section

variable {h : Hdr} {s : State}

theorem exec_doSchedFrame {f n : Int} (hj : s.judgesAtOnce h) (ha : (s.heard h).allowed .operator = true) (hf : inRange 0 7 f = true)
    (hn : inRange 0 65535 n = true) : ∃ aud, exec (.doSchedFrame h f n) s =
      .next (State.finish ((s.heard h).lineOrigin h) h .do_ (
        if (s.acting h).schedNext.cells.any (fun x => x.2.frame == f.toNat && decide (n ≤ x.2.slot)) then
          bad (s.acting h) .state 0 (some 520) (some aud)
        else good ((s.acting h).schedAsk (.frame f.toNat n.toNat)) [.bare] (some 520) (some aud))) ∧
      ∀ w, (w.audit ((s.heard h).lineOrigin h) aud.action aud.obj 0 aud.old aud.new).reply h [.bare] = State.did h 520 [.bare] s w := by
  refine ⟨{ action := 4, obj := 520, old := .num 0, new := .hash (Config.freeHash (s.heard h).fresh) },
    congrArg Host.Outcome.next ((State.change_judged _ .do_ true _ hj (fun _ => rfl)).trans ?_), fun _ => rfl⟩
  rw [runDoSchedFrame, actionRun_heard, needs_allowed ((State.acting_allowed h s .operator).trans ha), hf, hn]
  rfl

/-- A cell that the part takes is the one that was asked for (R271). -/
theorem State.cellOf_args {args : CellArgs} {c : Cell} (hc : s.cellOf args = some c) : c.args = args := by
  have hnat {lo hi i : Int} (h0 : 0 ≤ lo) (h : inRange lo hi i = true) : (i.toNat : Int) = i :=
    Int.toNat_of_nonneg (h0.trans (inRange_iff.mp h).1)
  unfold State.cellOf at hc
  dsimp only at hc
  rw [Option.ite_none_right_eq_some] at hc
  obtain ⟨hok, hc⟩ := hc
  simp only [Bool.and_eq_true] at hok
  obtain ⟨⟨⟨⟨⟨⟨⟨⟨⟨⟨hframe, hslot⟩, hoff⟩, hch⟩, hhop⟩, hrate⟩, -⟩, hlane⟩, harg⟩, hn⟩, hhandle⟩ := hok
  have harg' : (args.arg.toNat : Int) = args.arg := by
    refine Int.toNat_of_nonneg ?_
    cases hk : args.kind <;> simp only [hk, Bool.or_eq_true, beq_iff_eq, inRange_iff] at harg <;> omega
  have hn' : (args.n.toNat : Int) = args.n := by
    refine Int.toNat_of_nonneg ?_
    cases hk : args.kind <;> simp only [hk, Bool.or_eq_true, beq_iff_eq, inRange_iff, State.isGroup, Bool.and_eq_true,
      decide_eq_true_eq] at hn <;> omega
  have hhandle' : (args.handle.map HandleArg.get).map Handle.arg = args.handle := by
    cases hx : args.handle with
    | none => rfl
    | some x =>
      simp only [hx, HandleArg.fits, Bool.and_eq_true] at hhandle
      simp [HandleArg.get, Handle.arg, hnat (le_refl 0) hhandle.1, hnat (le_refl 0) hhandle.2]
  obtain rfl := Option.some.inj hc
  simp [Cell.args, hnat (le_refl 0) hframe, hnat (le_refl 0) hslot, hnat (le_refl 0) hoff, hnat (le_refl 0) hch,
    hnat (le_refl 0) hhop, hnat (le_refl 0) hrate, hnat (le_refl 0) hlane, harg', hn', hhandle']

theorem exec_doSchedCell {i : Int} {args : CellArgs} {c : Cell} (hj : s.judgesAtOnce h) (ha : (s.heard h).allowed .operator = true)
    (hi : inRange 0 511 i = true) (hc : (s.acting h).cellOf args = some c) :
    exec (.doSchedCell h i args) s = .next (s.did h 521 [.bare] ((s.acting h).schedAsk (.cell i.toNat c))) := by
  refine congrArg Host.Outcome.next ((State.change_judged _ .do_ true _ hj (fun _ => rfl)).trans ?_)
  rw [runDoSchedCell, actionRun_heard, needs_allowed ((State.acting_allowed h s .operator).trans ha), hi, hc]
  rfl

theorem exec_doSchedDrop {i : Int} (hj : s.judgesAtOnce h) (ha : (s.heard h).allowed .operator = true)
    (hi : inRange 0 511 i = true) :
    exec (.doSchedDrop h i) s = .next (s.did h 522 [.bare] ((s.acting h).schedAsk (.drop i.toNat))) := by
  refine congrArg Host.Outcome.next ((State.change_judged _ .do_ true _ hj (fun _ => rfl)).trans ?_)
  rw [runDoSchedDrop, actionRun_heard, needs_allowed ((State.acting_allowed h s .operator).trans ha), hi]
  rfl

/-- The cells of a slotframe, or all, in order of their indices (R272). -/
def State.cellsListed (p : Cell → Bool) (s : State) : List (Nat × Cell) :=
  (s.sched.cells.filter (fun x => p x.2)).foldl (fun l x => insertBy (fun y => y.1) x l) []

theorem insertBy_sorted {α : Type} (key : α → Nat) (x : α) {l : List α} (hl : l.Pairwise (fun x y => key x ≤ key y)) :
    (insertBy key x l).Pairwise (fun x y => key x ≤ key y) := by
  induction l with
  | nil => simp [insertBy]
  | cons y l ih =>
    obtain ⟨hy, hl⟩ := List.pairwise_cons.mp hl
    unfold insertBy
    split
    · next hlt =>
      refine List.pairwise_cons.mpr ⟨fun z hz => ?_, List.pairwise_cons.mpr ⟨hy, hl⟩⟩
      rcases List.mem_cons.mp hz with rfl | hz
      · exact hlt.le
      · exact hlt.le.trans (hy z hz)
    · next hle =>
      refine List.pairwise_cons.mpr ⟨fun z hz => ?_, ih hl⟩
      rcases (mem_insertBy key x z l).mp hz with rfl | hz
      · exact Nat.not_lt.mp hle
      · exact hy z hz

theorem foldl_insertBy_sorted {α : Type} (key : α → Nat) (l : List α) {acc : List α} (ha : acc.Pairwise (fun x y => key x ≤ key y)) :
    (l.foldl (fun l x => insertBy key x l) acc).Pairwise (fun x y => key x ≤ key y) := by
  induction l generalizing acc with
  | nil => exact ha
  | cons x l ih => exact ih (insertBy_sorted key x ha)

theorem exec_doSchedList {f : Option Int} (hj : s.judges h) (ha : (s.heard h).allowed .operator = true)
    (hf : ∀ k, f = some k → inRange 0 7 k = true) :
    exec (.doSchedList h f) s = .next ((s.heard h).reply h
      (((s.heard h).cellsListed (fun c => f.all (fun k => c.frame == k.toNat))).map (fun x => OutLine.cell x.1 x.2.args) ++ [.dot])) := by
  refine congrArg Host.Outcome.next ((State.report_judged 523 .operator _ hj).trans ?_)
  rw [needs_allowed ha]
  cases f with
  | none => rfl
  | some k =>
    dsimp only
    rw [if_pos (hf k rfl)]
    rfl

theorem State.mem_cellsListed {p : Cell → Bool} {x : Nat × Cell} : x ∈ s.cellsListed p ↔ x ∈ s.sched.cells ∧ p x.2 = true := by
  simp [State.cellsListed, mem_foldl_insertBy]

/-! ## The slot boundary (R254, R271, R276) -/

/-- The slot begins (R254, R273). -/
def State.slotBegun (s : State) : State :=
  let w := (s.fire .nextSlot).applyTime
  let u := w.2.onTime (fun t => { t with slot := w.2.slotNow, slotAt := w.2.now - w.2.slotOffset * cclkTicks })
  u.onSched (fun k => { k with bitmapOk := true, run := [], notBefore := if w.1 then u.now + us 20 else 0 })

/-- What the schedule lays down, and the cells of the slot that have started (R271, R273, R276). -/
def Sched.plan (k : Sched) : Vector Nat 8 × List (Nat × Cell) × List (Ticks × SchedChange) × List (Nat × Nat) :=
  (k.frames, k.cells, k.changes, k.run)

/-- The cells of the slot are chosen (R274). -/
def State.slotPlaced (s : State) : State :=
  let s := s.freeCells.slotChains
  let (l, s) := s.placeCells s.time.slot
  let (l, s) := s.resolve l
  let (l, s) := s.guards l
  let (l, s) := s.slotSpan l
  s.onSched (fun k => { k with active := l.map (fun p => (p.i, p.ch)) })

theorem State.slotPlaced_facts (s : State) : s.slotPlaced.time = s.time ∧ s.slotPlaced.image = s.image ∧
    s.slotPlaced.sched.plan = s.sched.plan := by
  have hv : s.freeCells.slotChains.time = s.time ∧ s.freeCells.slotChains.image = s.image ∧ s.freeCells.slotChains.sched = s.sched := by
    simp
  obtain ⟨h1, h2, h3⟩ := hv
  unfold State.slotPlaced
  rw [← h1, ← h2, ← h3]
  generalize s.freeCells.slotChains = v
  have ha : (v.placeCells v.time.slot).2.time = v.time ∧ (v.placeCells v.time.slot).2.image = v.image ∧
      (v.placeCells v.time.slot).2.sched = v.sched := by simp
  dsimp only
  generalize v.placeCells v.time.slot = a at *
  obtain ⟨l, a⟩ := a
  obtain ⟨h1, h2, h3⟩ := ha
  rw [← h1, ← h2, ← h3]
  have hb : (a.resolve l).2.time = a.time ∧ (a.resolve l).2.image = a.image ∧ (a.resolve l).2.sched = a.sched := by simp
  dsimp only at hb ⊢
  generalize a.resolve l = b at *
  obtain ⟨l, b⟩ := b
  obtain ⟨h1, h2, h3⟩ := hb
  rw [← h1, ← h2, ← h3]
  have hc : (b.guards l).2.time = b.time ∧ (b.guards l).2.image = b.image ∧ (b.guards l).2.sched = b.sched := by simp
  dsimp only at hc ⊢
  generalize b.guards l = c at *
  obtain ⟨l, c⟩ := c
  obtain ⟨h1, h2, h3⟩ := hc
  rw [← h1, ← h2, ← h3]
  have hd : (c.slotSpan l).2.time = c.time ∧ (c.slotSpan l).2.image = c.image ∧ (c.slotSpan l).2.sched = c.sched := by simp
  dsimp only at hd ⊢
  generalize c.slotSpan l = d at *
  obtain ⟨l, d⟩ := d
  obtain ⟨h1, h2, h3⟩ := hd
  rw [← h1, ← h2, ← h3]
  exact ⟨rfl, rfl, rfl⟩

/-- What else a boundary begins (R189, R248, R284, R310). -/
def State.slotActs (s : State) : State :=
  s.startAskedCal.takenSlot.startListening.roundSlot.captureDue.listenWaits.slotFilters.moveRadio

theorem exec_slotBoundary (hc : s.ccOn = true) (hs : s.slotNow ≠ s.time.slot) (hn : s.net.started = true) :
    exec .slotBoundary s = .next
      s.slotBegun.join.ensureWait.applyChanges.applyTables.deadlines.leaveRetired.roundResume.slotPlaced.slotActs := by
  refine congrArg Host.Outcome.next ((if_neg (by simp [hc, hs, hn])).trans ?_)
  unfold State.slotBegun State.slotPlaced State.slotActs
  dsimp only

theorem State.takenSlot_sched (s : State) : s.takenSlot.sched.frames = s.sched.frames ∧ s.takenSlot.sched.cells = s.sched.cells ∧
    s.takenSlot.sched.changes = s.sched.changes ∧ (s.sched.run = [] → s.takenSlot.sched.run = []) := by
  unfold State.takenSlot
  split
  · simp [State.onSched]
  · exact ⟨rfl, rfl, rfl, id⟩

theorem State.slotActs_facts (s : State) : s.slotActs.time = s.time ∧ s.slotActs.image = s.image ∧
    s.slotActs.sched.frames = s.sched.frames ∧ s.slotActs.sched.cells = s.sched.cells ∧
    s.slotActs.sched.changes = s.sched.changes ∧ (s.sched.run = [] → s.slotActs.sched.run = []) := by
  have hs : s.slotActs.sched = s.startAskedCal.takenSlot.sched := by simp [State.slotActs]
  have hc : s.startAskedCal.sched = s.sched := by simp
  rw [hs, ← hc]
  exact ⟨by simp [State.slotActs], by simp [State.slotActs], s.startAskedCal.takenSlot_sched⟩

/-- The hop tables and the set of retired channels change, the schedule does not (R280, R282). -/
theorem State.applyTables_sched (s : State) : s.applyTables.sched.plan = s.sched.plan := by
  unfold State.applyTables
  dsimp only
  split
  · split <;> rfl
  · rfl

theorem SchedChange.apply_congr (c : SchedChange) {k k' : Sched} (hf : k.frames = k'.frames) (hc : k.cells = k'.cells) :
    (c.apply k).frames = (c.apply k').frames ∧ (c.apply k).cells = (c.apply k').cells ∧
      (c.apply k).changes = k.changes ∧ (c.apply k).run = k.run := by
  cases c <;> simp [SchedChange.apply, hf, hc]

theorem State.applyChanges_sched (s : State) :
    s.applyChanges.sched.changes = s.sched.changes.filter (fun x => !decide (x.1 + ms 1 ≤ s.time.slotAt)) ∧
      s.applyChanges.sched.run = s.sched.run ∧ ∀ k : Sched, k.frames = s.sched.frames → k.cells = s.sched.cells →
      s.applyChanges.sched.frames = ((s.sched.changes.filter (fun x => decide (x.1 + ms 1 ≤ s.time.slotAt))).foldl
        (fun k x => x.2.apply k) k).frames ∧
      s.applyChanges.sched.cells = ((s.sched.changes.filter (fun x => decide (x.1 + ms 1 ≤ s.time.slotAt))).foldl
        (fun k x => x.2.apply k) k).cells := by
  have heach (l : List (Ticks × SchedChange)) (u : State) (k : Sched) (hf : u.sched.frames = k.frames)
      (hc : u.sched.cells = k.cells) :
      (u.each l (fun x s => s.onSched x.2.apply)).sched.changes = u.sched.changes ∧
      (u.each l (fun x s => s.onSched x.2.apply)).sched.run = u.sched.run ∧
      (u.each l (fun x s => s.onSched x.2.apply)).sched.frames = (l.foldl (fun k x => x.2.apply k) k).frames ∧
      (u.each l (fun x s => s.onSched x.2.apply)).sched.cells = (l.foldl (fun k x => x.2.apply k) k).cells := by
    induction l generalizing u k with
    | nil => exact ⟨rfl, rfl, hf, hc⟩
    | cons x l ih =>
      obtain ⟨h1, h2, h3, h4⟩ := x.2.apply_congr hf hc
      obtain ⟨g1, g2, g3, g4⟩ := ih (u.onSched x.2.apply) (x.2.apply k) h1 h2
      exact ⟨g1.trans h3, g2.trans h4, g3, g4⟩
  let u := s.onSched (fun k => { k with changes := k.changes.filter (fun x => !decide (x.1 + ms 1 ≤ s.time.slotAt)) })
  refine ⟨(heach _ u u.sched rfl rfl).1, (heach _ u u.sched rfl rfl).2.1, fun k hf hc => (heach _ u k hf.symm hc.symm).2.2⟩

theorem State.slotBegun_facts (s : State) :
    let w := (s.fire .nextSlot).applyTime.2
    s.slotBegun.time = { w.time with slot := w.slotNow, slotAt := w.now - w.slotOffset * cclkTicks } ∧
      s.slotBegun.image = s.image ∧ s.slotBegun.sched.run = [] ∧ s.slotBegun.sched.changes = s.sched.changes ∧
      s.slotBegun.sched.frames = s.sched.frames ∧ s.slotBegun.sched.cells = s.sched.cells := by
  have hw : (s.fire .nextSlot).applyTime.2.sched = s.sched ∧ (s.fire .nextSlot).applyTime.2.image = s.image := by simp
  unfold State.slotBegun
  generalize (s.fire .nextSlot).applyTime = w at *
  obtain ⟨hs, hi⟩ := hw
  simp [State.onSched, State.onTime, hs, hi]

/-- The boundary brings into force the changes that have waited 1 ms (R276), and no cell of its slot has started. -/
theorem State.boundary_facts (hc : s.ccOn = true) (hs : s.slotNow ≠ s.time.slot) (hn : s.net.started = true) :
    let w := (s.fire .nextSlot).applyTime.2
    ∃ t, exec .slotBoundary s = .next t ∧
      t.time = { w.time with slot := w.slotNow, slotAt := w.now - w.slotOffset * cclkTicks } ∧ t.sched.run = [] ∧
      t.sched.changes = s.sched.changes.filter (fun x => !decide (x.1 + ms 1 ≤ t.time.slotAt)) ∧
      (let k := (s.sched.changes.filter (fun x => decide (x.1 + ms 1 ≤ t.time.slotAt))).foldl
          (fun k x => x.2.apply k) s.sched
       t.sched.frames = k.frames ∧ t.sched.cells = k.cells) ∧ t.image = s.image := by
  intro w
  refine ⟨_, exec_slotBoundary hc hs hn, ?_⟩
  obtain ⟨hb1, hb2, hb3, hb4, hb5, hb6⟩ := s.slotBegun_facts
  have hj : s.slotBegun.join.ensureWait.sched = s.slotBegun.sched ∧ s.slotBegun.join.ensureWait.time = s.slotBegun.time ∧
      s.slotBegun.join.ensureWait.image = s.slotBegun.image := by simp
  have hlate (u : State) : u.deadlines.leaveRetired.roundResume.sched = u.sched ∧ u.deadlines.leaveRetired.roundResume.time = u.time ∧
      u.deadlines.leaveRetired.roundResume.image = u.image := by simp
  have hearly (u : State) : u.applyChanges.applyTables.time = u.time ∧ u.applyChanges.applyTables.image = u.image := by simp
  generalize s.slotBegun.join.ensureWait = u at *
  obtain ⟨hjs, hjt, hji⟩ := hj
  obtain ⟨hc1, hc2, hc3⟩ := u.applyChanges_sched
  have hplan := u.applyChanges.applyTables_sched
  obtain ⟨het, hei⟩ := hearly u
  generalize u.applyChanges.applyTables = v at *
  obtain ⟨hls, hlt, hli⟩ := hlate v
  generalize v.deadlines.leaveRetired.roundResume = x at *
  obtain ⟨hpt, hpi, hps⟩ := x.slotPlaced_facts
  generalize x.slotPlaced = y at *
  obtain ⟨hat, hai, haf, hac, hach, har⟩ := y.slotActs_facts
  generalize y.slotActs = t at *
  rw [hls, hplan] at hps
  have htime : t.time = u.time := hat.trans (hpt.trans (hlt.trans het))
  simp only [Sched.plan, Prod.mk.injEq] at hps
  obtain ⟨hpf, hpc, hpch, hpr⟩ := hps
  obtain ⟨hkf, hkc⟩ := hc3 s.sched (by rw [hjs, hb5]) (by rw [hjs, hb6])
  rw [hjs, hb4] at hc1 hkf hkc
  refine ⟨htime.trans (hjt.trans hb1), har (hpr.trans (hc2.trans (by rw [hjs, hb3]))), ?_, ?_, ?_⟩
  · rw [htime]
    exact hach.trans (hpch.trans hc1)
  · rw [htime]
    exact ⟨haf.trans (hpf.trans hkf), hac.trans (hpc.trans hkc)⟩
  · exact hai.trans (hpi.trans (hli.trans (hei.trans (hji.trans hb2))))

end

end Sys2Proof.Machine

/-!
Proofs about cells that start.
-/

namespace Sys2Proof.Machine

-- The proofs of this part are elaborated one after another: side by side they need more memory than the check leaves.
set_option Elab.async false

/-! ## Cells start (R119, R224, R225, R273, R298, R299) -/

section

variable {s : State}

theorem State.moveRadio_idle (m : Fin 16) (s : State) : s.moveRadio.rx.lanes[m].idle = s.rx.lanes[m].idle := by
  have hlose (u : State) : (u.losePayloads .chz "chz.span.cut").rx.lanes[m].idle = u.rx.lanes[m].idle := by
    unfold State.losePayloads
    refine State.each_keeps (fun u => u.rx.lanes[m].idle) _ _ u fun n u => ?_
    have hidle : ((u.onLane n Lane.idle).count .chz "chz.span.cut").rx.lanes[m].idle = u.rx.lanes[m].idle := by
      rw [State.count_rx]
      by_cases h : m = n
      · subst h
        rw [State.onLane_self]
        rfl
      · rw [State.onLane_other h]
    split
    · exact hidle
    · rfl
  rcases s.moveRadio_rx with h | h
  · rw [h]
  · rw [h, hlose]

/-- A lane that no called flight holds is given up by no more than a change of the lane (R299). -/
theorem State.displace_free {n : Fin 16} (hh : ∀ id, s.rx.lanes[n].holder ≠ .called id) :
    s.displace n = s ∨ s.displace n = s.release n := by
  unfold State.displace
  split
  · next h => exact absurd h (hh _)
  · exact .inr rfl
  · exact .inr rfl
  · exact .inr rfl
  · exact .inl rfl

theorem State.release_facts (n : Fin 16) (s : State) : (∀ m, m ≠ n → (s.release n).rx.lanes[m] = s.rx.lanes[m]) ∧
    (s.release n).rx.lanes[n].chan = s.rx.lanes[n].chan ∧ (s.release n).rx.lanes[n].rate = s.rx.lanes[n].rate ∧
    (s.release n).receiving (s.release n).rx.lanes[n] = s.receiving s.rx.lanes[n] ∧ s.keeps [.rx] (s.release n) := by
  refine ⟨fun m hm => State.onLane_other hm .., ?_⟩
  rw [State.release, State.onLane_self]
  exact ⟨rfl, rfl, rfl, State.keeps_onRx ..⟩

theorem State.chanHolder_congr {t : State} {n : Fin 16} (h : ∀ m, m ≠ n → t.rx.lanes[m] = s.rx.lanes[m]) (rate ch : Nat) :
    t.chanHolder n rate ch = s.chanHolder n rate ch := by
  unfold State.chanHolder
  congr 1
  funext m
  by_cases hm : m = n
  · simp [hm]
  · rw [h m hm]

/-- What a lane is after it is bound (R224, R225). -/
theorem State.bind_facts (n : Fin 16) (hd : Holder) (ch rate program : Nat) (s : State) :
    (s.bind n hd ch rate program).rx.lanes[n].holder = hd ∧ (s.bind n hd ch rate program).rx.lanes[n].program = program ∧
    (s.receiving s.rx.lanes[n] = true → (s.rx.lanes[n].chan ≠ ch ∨ s.rx.lanes[n].rate ≠ rate) →
      (s.bind n hd ch rate program).rx.lanes[n].retune = some (ch, rate)) ∧
    s.keeps [.rx, .tally] (s.bind n hd ch rate program) := by
  have hk : s.keeps [.rx, .tally] (s.bind n hd ch rate program) := by
    refine ⟨by simp, by simp, by simp, fun g hg => ?_⟩
    cases g <;> simp [State.same] at hg ⊢
  have hready : ∀ u : State, u = (if s.rx.lanes[n].bound then s else s.onLane n (fun l => { l with counted := max l.counted s.now })) →
      u.receiving s.rx.lanes[n] = s.receiving s.rx.lanes[n] := by
    rintro u rfl
    split <;> rfl
  refine ⟨State.bind_holder .., ?_, ?_, hk⟩
  all_goals
    unfold State.bind
    dsimp only
    generalize hu : (if s.rx.lanes[n].bound then s else s.onLane n (fun l => { l with counted := max l.counted s.now })) = u
  · split
    · rw [State.onLane_self]
    · split
      · rw [State.onLane_self]
      · have hspoil (v : State) (t : Ticks) := (v.spoilSpan_rx n true true (v.radio.deafFrom.getD v.now) t).2 n
        refine (congrArg Lane.program (hspoil ..) :).trans ?_
        rw [Lane.core, State.onLane_self]
  · intro hr hne
    rw [if_neg (by simpa using fun h h' => hne.elim (· h) (· h')), if_pos (by rw [hready u hu.symm]; exact hr), State.onLane_self]

/-- A cell that binds its lane (R224, R225, R273). -/
theorem State.bindCell_eq {i : Nat} {c : Cell} {ch program : Nat}
    (hc : (s.displace (Fin.ofNat 16 c.lane)).chanHolder (Fin.ofNat 16 c.lane) (s.cellRate c.rate) ch = none) :
    let n : Fin 16 := Fin.ofNat 16 c.lane
    let v := (s.displace n).bind n (.cell i) ch (s.cellRate c.rate) program
    s.bindCell i c ch program =
      ((((v.onLane n (fun l => { l with late := l.retune.isSome, window := (s.displace n).cellWindow c })).judgeChans
        (channelIds (s.cellRate c.rate) ch) (fun j => { j with cells := j.cells + 1 })).onSched
          (fun k => { k with run := k.run ++ [(i, ch)] })).moveRadio) := by
  unfold State.bindCell
  dsimp only
  rw [hc]

/-- A cell's lane, once the cell has started (R224, R225, R273, R298). -/
theorem State.bindCell_facts {i : Nat} {c : Cell} {ch program : Nat}
    (hh : ∀ id, s.rx.lanes[(Fin.ofNat 16 c.lane : Fin 16)].holder ≠ .called id)
    (hc : s.chanHolder (Fin.ofNat 16 c.lane) (s.cellRate c.rate) ch = none) :
    let n : Fin 16 := Fin.ofNat 16 c.lane
    let t := s.bindCell i c ch program
    t.rx.lanes[n].holder = .cell i ∧ t.rx.lanes[n].program = program ∧
      (s.receiving s.rx.lanes[n] = false → t.rx.lanes[n].chan = ch ∧ t.rx.lanes[n].rate = s.cellRate c.rate) ∧
      (s.receiving s.rx.lanes[n] = true → (s.rx.lanes[n].chan ≠ ch ∨ s.rx.lanes[n].rate ≠ s.cellRate c.rate) →
        t.rx.lanes[n].retune = some (ch, s.cellRate c.rate) ∧ t.rx.lanes[n].late = true) ∧
      t.sched.active = s.sched.active ∧ t.sched.run = s.sched.run ++ [(i, ch)] ∧ t.work = s.work ∧
      s.keeps [.sched, .rx, .radio, .tally] t := by
  intro n t
  obtain ⟨hother, hchan, hrate, hrec, hk⟩ : (∀ m, m ≠ n → (s.displace n).rx.lanes[m] = s.rx.lanes[m]) ∧
      (s.displace n).rx.lanes[n].chan = s.rx.lanes[n].chan ∧ (s.displace n).rx.lanes[n].rate = s.rx.lanes[n].rate ∧
      (s.displace n).receiving (s.displace n).rx.lanes[n] = s.receiving s.rx.lanes[n] ∧ s.keeps [.rx] (s.displace n) := by
    rcases State.displace_free hh with h | h
    · rw [h]
      exact ⟨fun _ _ => rfl, rfl, rfl, rfl, State.keeps_refl ..⟩
    · rw [h]
      exact s.release_facts n
  have hnone : (s.displace n).chanHolder n (s.cellRate c.rate) ch = none := (State.chanHolder_congr hother ..).trans hc
  obtain ⟨hbh, hbp, hbr, hbk⟩ := (s.displace n).bind_facts n (.cell i) ch (s.cellRate c.rate) program
  have hbt := fun h => State.bind_tuned (s := s.displace n) (n := n) (hd := .cell i) (ch := ch) (rate := s.cellRate c.rate)
    (program := program) h
  have ht : t = _ := State.bindCell_eq hnone
  have hw : (s.displace n).work = s.work ∧ (s.displace n).sched = s.sched := by
    obtain ⟨-, -, -, hsame⟩ := hk
    exact ⟨hsame .work (by decide), hsame .sched (by decide)⟩
  rw [hrec] at hbr hbt
  rw [hchan, hrate] at hbr
  have hkv := State.keeps_trans (State.keeps_mono (more := [.rx, .tally]) hk (by decide)) hbk
  clear_value t
  subst ht
  generalize (s.displace n).cellWindow c = win
  generalize (s.displace n).bind n (.cell i) ch (s.cellRate c.rate) program = v at *
  let x := v.onLane n (fun l => { l with late := l.retune.isSome, window := win })
  obtain ⟨hjl, hjk⟩ := x.judgeChans_rx (channelIds (s.cellRate c.rate) ch) (fun j => { j with cells := j.cells + 1 })
  let y := x.judgeChans (channelIds (s.cellRate c.rate) ch) (fun j => { j with cells := j.cells + 1 })
  have hv : v.sched = s.sched ∧ v.work = s.work := by
    obtain ⟨-, -, -, hsame⟩ := hkv
    exact ⟨hsame .sched (by decide), hsame .work (by decide)⟩
  have hy : y.sched = v.sched ∧ y.work = v.work := by simp [y, x]
  have hxl : x.rx.lanes[n] = { v.rx.lanes[n] with late := v.rx.lanes[n].retune.isSome, window := win } := State.onLane_self ..
  have hlane : (y.onSched (fun k => { k with run := k.run ++ [(i, ch)] })).moveRadio.rx.lanes[n].idle =
      ({ v.rx.lanes[n] with late := v.rx.lanes[n].retune.isSome, window := win } : Lane).idle := by
    rw [State.moveRadio_idle, ← hxl]
    exact congrArg (fun l : Vector Lane 16 => l[n].idle) hjl
  have hmove : (y.onSched (fun k => { k with run := k.run ++ [(i, ch)] })).moveRadio.sched =
      (y.onSched (fun k => { k with run := k.run ++ [(i, ch)] })).sched ∧
      (y.onSched (fun k => { k with run := k.run ++ [(i, ch)] })).moveRadio.work = y.work := by simp
  refine ⟨(congrArg Lane.holder hlane :).trans hbh, (congrArg Lane.program hlane :).trans hbp, fun h => ?_, fun h hne => ?_, ?_, ?_,
    ?_, ?_⟩
  · exact ⟨(congrArg Lane.chan hlane :).trans (hbt h).1, (congrArg Lane.rate hlane :).trans (hbt h).2⟩
  · refine ⟨(congrArg Lane.retune hlane :).trans (hbr h hne), (congrArg Lane.late hlane :).trans ?_⟩
    rw [hbr h hne]
    rfl
  · rw [hmove.1]
    exact (congrArg Sched.active (hy.1.trans hv.1) :)
  · rw [hmove.1]
    exact (congrArg (fun k : Sched => k.run ++ [(i, ch)]) (hy.1.trans hv.1) :)
  · exact hmove.2.trans (hy.2.trans hv.2)
  · exact State.keeps_step (State.keeps_step (State.keeps_step (State.keeps_step (State.keeps_mono hkv (by decide))
      (State.keeps_onRx ..)) hjk) (State.keeps_onSched ..)) (State.keeps_moveRadio ..)

/-! ### Which action a cell starts (R119, R273, R298, R299, R310, R351) -/

section

variable {i : Nat} {code : BitVec 10} {c : Cell} {ch : Nat}

/-- The cell is no more among those that are to start. -/
def State.cellTaken (i : Nat) (s : State) : State := s.onSched (fun k => { k with active := assocDel i k.active })

theorem exec_cellStart (hd : s.dueCell i = some (c, ch)) : exec (.cellStart i code) s = .next (
    let w := s.cellTaken i
    if s.inBurst then w.count .sched "sched.burst.skip"
    else if c.kind == .conv then w.conv (Fin.ofNat 8 c.arg) code.toNat
    else if s.cellStale c then w.count .cc "roster.stale"
    else if s.roundRuns then w.count .sched "round.skip"
    else if c.kind == .round then w.roundCell c
    else w.laneCell i c ch) := by
  refine congrArg Host.Outcome.next ?_
  rw [hd]
  rfl

/-- A cell that names a lane starts on it (R273). -/
theorem exec_cellStart_lane (hd : s.dueCell i = some (c, ch)) (hb : s.inBurst = false) (hs : s.cellStale c = false)
    (hr : s.roundRuns = false) (hconv : c.kind ≠ .conv) (hround : c.kind ≠ .round) :
    exec (.cellStart i code) s = .next ((s.cellTaken i).laneCell i c ch) := by
  rw [exec_cellStart hd]
  simp [hb, hs, hr, hconv, hround]

/-- The lane of a cell can be taken: it is in service, and no cell of higher rank holds it or its channel (R224, R299). -/
def State.laneFree (c : Cell) (ch : Nat) (s : State) : Bool :=
  s.cellLane (Fin.ofNat 16 c.lane) && !(c.onChannel && s.chanBusy c ch)

theorem State.laneFree_taken (c : Cell) (ch i : Nat) (s : State) :
    (!(s.cellTaken i).cellLane (Fin.ofNat 16 c.lane) || (c.onChannel && (s.cellTaken i).chanBusy c ch)) = !s.laneFree c ch := by
  have hnot (a b : Bool) : (!a || b) = !(a && !b) := by cases a <;> cases b <;> rfl
  exact hnot ..

theorem State.laneCell_skips (hf : s.laneFree c ch = false) :
    (s.cellTaken i).laneCell i c ch = (s.cellTaken i).count .lanes "lane.skip" :=
  if_pos ((s.laneFree_taken c ch i).trans (by rw [hf]; rfl))

theorem State.laneCell_lane (hf : s.laneFree c ch = true) (hk : c.kind = .lane) (h1 : c.arg ≠ 1) (h4 : c.arg ≠ 4) :
    (s.cellTaken i).laneCell i c ch = (s.cellTaken i).bindCell i c ch c.arg := by
  refine (if_neg (by rw [s.laneFree_taken, hf]; decide)).trans ?_
  simp only [hk, if_neg h1, if_neg h4]

theorem State.laneCell_tx (hf : s.laneFree c ch = true) (hk : c.kind = .tx) :
    (s.cellTaken i).laneCell i c ch = ((s.cellTaken i).skipCell c).bindCell i c ch 3 := by
  refine (if_neg (by rw [s.laneFree_taken, hf]; decide)).trans ?_
  simp only [hk]

/-- The capture of a cell, before its first sample (R248). -/
def State.cellCapture (c : Cell) (s : State) : Capture :=
  { lane := Fin.ofNat 16 c.lane, src := if c.arg = 64 then .chain .a else if c.arg = 65 then .chain .b else .chan c.arg,
    rate := if c.rate = 0 then none else some (s.cellRate c.rate), slot := none, count := c.n, words := [],
    stepA := 0, stepB := 0, startT := s.stamp, started := false, startAt := s.now, inSpan := false, traceA := [],
    traceB := [], ended := none }

theorem State.laneCell_capt (hf : s.laneFree c ch = true) (hk : c.kind = .capt) :
    (s.cellTaken i).laneCell i c ch = (s.cellTaken i).dropCapture.runCapture ((s.cellTaken i).dropCapture.cellCapture c) := by
  refine (if_neg (by rw [s.laneFree_taken, hf]; decide)).trans ?_
  simp only [hk]
  rfl

/-- A flight that backed off and names no cell further on is ready when its cell starts (R273, R325). -/
theorem State.skipCell_ready {f : Flight} (hk : c.kind = .tx) (hm : f ∈ s.work.table) (hst : f.st = .backoff) (hcl : f.called = false)
    (hp : f.kind ≠ .push) (hs : f.skips = 0) (hh : c.handle = some f.handle ∨ c.handle = none) :
    { f with st := .ready } ∈ (s.skipCell c).work.table := by
  refine List.mem_map.mpr ⟨f, hm, ?_⟩
  have hcond : (f.st == .backoff && !f.called && (f.kind == .push) == (c.kind == .lane)
      && (c.handle == some f.handle || c.handle.isNone)) = true := by
    simp [hst, hcl, hp, hk, hh]
  exact (if_pos hcond).trans (if_pos hs)

/-- Settles O47: the schedule's commands and list, the boundary (`State.boundary_facts`) and the cells that start
(`exec_cellStart`, `State.bindCell_facts`). -/
theorem scheduleAndCells : Obligations.ScheduleAndCells := by
  refine ⟨⟨fun h s hj ha => ?_, fun h s hj ha => ?_, fun s hc hs hn => ?_⟩, fun i code c ch s hd => ?_⟩
  · intro a
    have hin {lo hi i : Int} (h1 : lo ≤ i) (h2 : i ≤ hi) : inRange lo hi i = true := inRange_iff.mpr ⟨h1, h2⟩
    refine ⟨fun f n hf1 hf2 hn1 hn2 hfit => ?_, fun f n hf1 hf2 hn1 hn2 hout => ?_, fun i args c hi1 hi2 hc => ?_, fun i hi1 hi2 => ?_⟩
    · obtain ⟨aud, he, hdid⟩ := exec_doSchedFrame hj ha (hin hf1 hf2) (hin hn1 hn2)
      rw [he, if_neg, State.finish_good_some, hdid]
      simpa using fun i x hx hfr => hfit (i, x) hx hfr
    · obtain ⟨aud, he, -⟩ := exec_doSchedFrame hj ha (hin hf1 hf2) (hin hn1 hn2)
      rw [if_pos] at he
      · obtain ⟨htx, -, -, hk⟩ := State.finish_bad_keeps (h := h) ((s.heard h).lineOrigin h) .do_ a .state 0 (some 520) (some aud) rfl
        exact ⟨_, he, htx, hk⟩
      · obtain ⟨x, hx, hfr, hle⟩ := hout
        simpa using ⟨x.1, x.2, hx, hfr, hle⟩
    · exact ⟨State.cellOf_args hc, exec_doSchedCell hj ha (hin hi1 hi2) hc⟩
    · exact exec_doSchedDrop hj ha (hin hi1 hi2)
  · intro u f hf
    refine ⟨_, exec_doSchedList hj ha fun k hk => inRange_iff.mpr (hf k hk), fun x => ?_, ?_⟩
    · rw [State.mem_cellsListed]
      cases f with
      | none => simp [u]
      | some k =>
        obtain ⟨h0, -⟩ := hf k rfl
        have hiff : x.2.frame = k.toNat ↔ (x.2.frame : Int) = k := by omega
        simp [u, hiff]
    · exact foldl_insertBy_sorted _ _ List.Pairwise.nil
  · exact State.boundary_facts hc hs hn
  · intro w
    have he := exec_cellStart (code := code) hd
    refine ⟨fun hb => ?_, fun hb hk => ?_, fun hb hk hs => ?_, fun hb hk hs hr => ?_, fun hb hs hr => ⟨fun hk => ?_, ?_⟩⟩
    · rw [he]
      exact congrArg Host.Outcome.next (if_pos hb)
    · rw [he]
      exact congrArg Host.Outcome.next (by simp [hb, hk]; rfl)
    · rw [he]
      exact congrArg Host.Outcome.next (by simp [hb, hk, hs]; rfl)
    · rw [he]
      exact congrArg Host.Outcome.next (by simp [hb, hk, hs, hr]; rfl)
    · rw [he]
      exact congrArg Host.Outcome.next (by simp [hb, hk, hs, hr]; rfl)
    · intro n free
      refine ⟨fun hf hk => ?_, fun hf hh hch => ⟨fun hk h1 h4 => ?_, fun hk => ?_⟩, fun hf hk => ?_⟩
      · rw [exec_cellStart_lane hd hb hs hr (by rcases hk with hk | hk | hk <;> simp [hk]) (by rcases hk with hk | hk | hk <;> simp [hk]),
          State.laneCell_skips hf]
        rfl
      · obtain ⟨h1', h2', h3', h4', h5', h6', -, hk'⟩ := State.bindCell_facts (s := s.cellTaken i) (i := i) (program := c.arg) hh hch
        refine ⟨_, exec_cellStart_lane hd hb hs hr (by simp [hk]) (by simp [hk]), ?_⟩
        rw [State.laneCell_lane hf hk h1 h4]
        exact ⟨h1', h2', h3', h4', h5', h6', State.keeps_trans (State.keeps_mono (State.keeps_onSched _ s) (by decide)) hk'⟩
      · obtain ⟨h1', h2', -, -, -, h6', hw', hk'⟩ :=
          State.bindCell_facts (s := (s.cellTaken i).skipCell c) (i := i) (program := 3) hh hch
        refine ⟨_, exec_cellStart_lane hd hb hs hr (by simp [hk]) (by simp [hk]), ?_⟩
        rw [State.laneCell_tx hf hk]
        refine ⟨h1', h2', h6', fun f hm hst hcl hp hsk hha => ?_, State.keeps_trans (State.keeps_mono (State.keeps_trans
          (State.keeps_mono (more := [.sched, .work]) (State.keeps_onSched _ s) (by decide))
          (State.keeps_mono (State.keeps_onWork ..) (by decide))) (by decide)) (State.keeps_mono hk' (by decide))⟩
        rw [hw']
        exact State.skipCell_ready (s := s.cellTaken i) hk hm hst hcl hp hsk hha
      · obtain ⟨d, hd1, hd2, -, hd3, -, hd4, -, hd5⟩ :=
          (s.cellTaken i).dropCapture.runCapture_spec ((s.cellTaken i).dropCapture.cellCapture c)
        refine ⟨_, d, exec_cellStart_lane hd hb hs hr (by simp [hk]) (by simp [hk]), ?_⟩
        rw [State.laneCell_capt hf hk]
        exact ⟨hd1, hd2, hd4, hd3, hd5, State.keeps_trans (State.keeps_mono (State.keeps_onSched _ s) (by decide))
          (State.keeps_mono (State.keeps_trans (State.keeps_mono (more := [.rx, .radio, .tally]) (State.keeps_dropCapture ..) (by decide))
            (State.keeps_runCapture ..)) (by decide))⟩

end

end

end Sys2Proof.Machine

/-!
Proofs about inventory rounds.
-/

namespace Sys2Proof.Machine

/-! ## Rounds are asked for and stopped (R307, R308, R316) -/

section

variable {h : Hdr} {s : State}

theorem exec_doRoundStart {code : Int} {r : Option Int} (hj : s.judgesAtOnce h) (ha : (s.heard h).allowed .operator = true)
    (hc : (s.acting h).isGroup code = true ∨ code = 8191) (hr : inRange 0 7 (argOr 1 r) = true)
    (hk : (s.acting h).roster.netKey ≠ none) : ∃ aud, exec (.doRoundStart h code r) s =
      .next (State.finish ((s.heard h).lineOrigin h) h .do_ (
        match (s.acting h).requestRound code.toNat (argOr 1 r).toNat false 0 true with
        | (some id, w) => good w [.roundId id] (some 524) (some aud)
        | (none, w) => bad w .busy 0 (some 524) (some aud))) ∧
      ∀ w out, (w.audit ((s.heard h).lineOrigin h) aud.action aud.obj 0 aud.old aud.new).reply h out = State.did h 524 out s w := by
  refine ⟨{ action := 4, obj := 524, old := .num 0, new := .hash (Config.freeHash (s.heard h).fresh) },
    congrArg Host.Outcome.next ((State.change_judged _ .do_ true _ hj (fun _ => rfl)).trans ?_), fun _ _ => rfl⟩
  have hcode : ((s.acting h).isGroup code || code == 8191) = true := by simpa using hc
  have hkey : (s.acting h).roster.netKey.isNone = false := by simpa [Option.isSome_iff_ne_none] using hk
  rw [runDoRoundStart, actionRun_heard, needs_allowed ((State.acting_allowed h s .operator).trans ha)]
  dsimp only
  rw [hcode, hr, hkey]
  rfl

theorem State.requestRound_starts {code reason chOff : Nat} {sweep byDo : Bool} (hr : s.work.round = none)
    (hw : s.work.rounds = []) : s.requestRound code reason sweep chOff byDo = (some s.work.nextRound,
      s.takeRoundId.2.startRound ⟨s.work.nextRound, code, reason, sweep, chOff, byDo⟩) :=
  if_pos (by rw [hr, hw]; rfl)

theorem State.requestRound_waits {code reason chOff : Nat} {sweep byDo : Bool}
    (hr : s.work.round ≠ none ∨ s.work.rounds ≠ []) (hw : s.work.rounds.length < 8) :
    s.requestRound code reason sweep chOff byDo = (some s.work.nextRound, s.takeRoundId.2.onWork (fun w =>
      { w with rounds := waitRound ⟨s.work.nextRound, code, reason, sweep, chOff, byDo⟩ w.rounds })) := by
  refine (if_neg ?_).trans (if_pos hw)
  rcases hr with hr | hr <;> simp [hr]

theorem State.requestRound_full {code reason chOff : Nat} {sweep byDo : Bool} (hw : 8 ≤ s.work.rounds.length) :
    s.requestRound code reason sweep chOff byDo = (none, s) := by
  refine (if_neg ?_).trans (if_neg (Nat.not_lt.mpr hw))
  have hne : s.work.rounds ≠ [] := fun h => by simp [h] at hw
  simp [hne]

/-- A round that is no sweep waits behind all that wait (R308). -/
theorem waitRound_last {q : RoundReq} (hq : q.sweep = false) (l : List RoundReq) : waitRound q l = l ++ [q] := by
  induction l with
  | nil => rfl
  | cons x xs ih =>
    refine (if_neg (by simp [hq])).trans ?_
    rw [ih]
    rfl

theorem State.startRound_work (q : RoundReq) (s : State) : ∃ o : Round, o.req = q ∧
    (s.startRound q).work = { s.work with round := some o } := by
  refine ⟨Round.fresh q (s.fire .nextRound).time.slot ((s.fire .nextRound).pnat Obj.qStart), rfl, ?_⟩
  unfold State.startRound
  dsimp only
  split <;> simp [State.onWork]

theorem State.keeps_startRound (q : RoundReq) (hq : q.sweep = false) (s : State) :
    s.keeps [.work, .jomen, .params] (s.startRound q) := by
  unfold State.startRound
  dsimp only
  rw [if_neg (by simp [hq])]
  exact State.keeps_step (State.keeps_step (State.keeps_mono (State.keeps_fire ..) (by decide)) (State.keeps_onWork ..))
    (State.keeps_onJomen ..)

theorem exec_doRoundStop {r : Round} (hj : s.judgesAtOnce h) (ha : (s.heard h).allowed .operator = true)
    (hr : (s.acting h).work.round = some r) : exec (.doRoundStop h) s =
      .next (s.did h 525 [.roundId r.req.id] ((s.acting h).onRound (fun r => { r with stop := true }))) := by
  refine congrArg Host.Outcome.next ((State.change_judged _ .do_ true _ hj (fun _ => rfl)).trans ?_)
  rw [runDoRoundStop, actionRun_heard, needs_allowed ((State.acting_allowed h s .operator).trans ha), hr]
  rfl

end

/-! ## A round opens (R308) -/

section

variable {s : State}

/-- No flight holds a lane to answer its call. -/
def State.uncalled (s : State) : Prop := ∀ (n : Fin 16) (id : Nat), s.rx.lanes[n].holder ≠ .called id

/-- What is done with lanes that no called flight holds stays at the lanes. -/
def State.freed (s t : State) : Prop := t.uncalled ∧ s.keeps [.rx] t

theorem State.uncalled_release (hu : s.uncalled) (n : Fin 16) : (s.release n).uncalled := by
  intro m id
  by_cases hm : m = n
  · subst hm
    rw [State.release, State.onLane_self]
    exact Holder.noConfusion
  · rw [State.release, State.onLane_other hm]
    exact hu m id

theorem State.freed_release (hu : s.uncalled) (n : Fin 16) : s.freed (s.release n) :=
  ⟨State.uncalled_release hu n, (s.release_facts n).2.2.2.2⟩

theorem State.freed_displace (hu : s.uncalled) (n : Fin 16) : s.freed (s.displace n) := by
  rcases State.displace_free (hu n) with h | h <;> rw [h]
  · exact ⟨hu, s.keeps_refl _⟩
  · exact State.freed_release hu n

theorem State.freed_displaceOn (hu : s.uncalled) (c : Nat) : s.freed (s.displaceOn c) := by
  unfold State.displaceOn
  split
  · exact State.freed_displace hu _
  · exact ⟨hu, s.keeps_refl _⟩

theorem State.freed_each {α : Type} {f : α → State → State} (hf : ∀ x (s : State), s.uncalled → s.freed (f x s)) (l : List α)
    (hu : s.uncalled) : s.freed (s.each l f) := by
  induction l generalizing s with
  | nil => exact ⟨hu, s.keeps_refl _⟩
  | cons x xs ih =>
    obtain ⟨hu', hk⟩ := hf x s hu
    obtain ⟨hu'', hk'⟩ := ih hu'
    exact ⟨hu'', State.keeps_trans hk hk'⟩

theorem State.freed_releaseAll (hu : s.uncalled) (p : Holder → Bool) : s.freed (s.releaseAll p) := by
  refine State.freed_each (fun n s hu => ?_) _ hu
  split
  · exact State.freed_release hu n
  · exact ⟨hu, s.keeps_refl _⟩

theorem keeps_bindRound (ns : List (Fin 16)) (cs : List Nat) (s : State) : s.keeps [.rx, .tally] (bindRound ns cs s) := by
  induction ns generalizing cs s with
  | nil => exact s.keeps_refl _
  | cons n ns ih =>
    cases cs with
    | nil => exact s.keeps_refl _
    | cons c cs => exact State.keeps_trans (s.bind_facts n .round c 200 2).2.2.2 (ih cs _)

/-- An open round takes its channels for the slot (R309, R311). -/
theorem State.roundSlot_facts {r : Round} (hr : s.work.round = some r) (ho : r.opened = true) (hp : r.pausing = false)
    (hu : s.uncalled) : s.keeps [.work, .rx, .radio, .tally] s.roundSlot ∧
    ∃ l, s.roundSlot.work.round = some { r with chans := l, inSlot := 0 } := by
  unfold State.roundSlot
  rw [hr]
  dsimp only
  rw [if_pos (by rw [ho, hp]; rfl)]
  obtain ⟨hu1, hk1⟩ := State.freed_releaseAll hu (fun h => match h with | .round => true | .cell _ => true | .start => true | _ => false)
  generalize s.releaseAll _ = a at *
  generalize a.roundChans r = l
  have hu2 : (a.onWork (fun w => { w with round := some { r with chans := l, inSlot := 0 } })).uncalled := hu1
  have hb : ∀ b : State, b.uncalled → b.keeps [.rx, .radio, .tally] (bindRound
      ((b.each (b.roundLanes.take l.length) (fun n s => s.displace n)).each l State.displaceOn).roundLanes l
      ((b.each (b.roundLanes.take l.length) (fun n s => s.displace n)).each l State.displaceOn)).moveRadio := by
    intro b hb
    obtain ⟨hu3, hk3⟩ := State.freed_each (fun n s hu => State.freed_displace hu n) (b.roundLanes.take l.length) hb
    obtain ⟨-, hk4⟩ := State.freed_each (fun n s hu => State.freed_displaceOn hu n) l hu3
    exact State.keeps_step (State.keeps_step (State.keeps_step (State.keeps_mono hk3 (by decide)) hk4) (keeps_bindRound ..))
      (State.keeps_moveRadio ..)
  obtain ⟨h1, h2, h3, hsame⟩ := hb _ hu2
  refine ⟨State.keeps_step (State.keeps_step (State.keeps_mono hk1 (by decide)) (State.keeps_onWork ..)) ⟨h1, h2, h3, hsame⟩, l, ?_⟩
  exact (congrArg Work.round (hsame .work (by decide)) :)

theorem State.slotSpan_kept (l : List Placed) (s : State) : s.keeps [.rx, .tally] (s.slotSpan l).2 ∧
    (s.slotSpan l).2.rx.lanes = s.rx.lanes := by
  refine ⟨⟨by simp, by simp, by simp, fun g hg => ?_⟩, ?_⟩
  · cases g <;> simp [State.same] at hg ⊢
  · simp [State.slotSpan, State.countN_frame]
    rfl

theorem exec_roundOpen {r : Round} (hr : s.work.round = some r) (ho : r.opened = false) (hp : r.pausing = false)
    (hb : s.atBoundary = true) (hs : s.time.slot ≠ r.openSlot) (hj : s.roundBurst r = false) (hu : s.uncalled) :
    ∃ t o, exec .roundOpen s = .next t ∧ t.work.round = some o ∧ o.req = r.req ∧ o.opened = true ∧
      o.openSlot = s.time.slot ∧ o.inSlot = 0 ∧ s.keeps [.work, .rx, .radio, .tally] t := by
  let a := s.onRound (fun r => { r with opened := true, openSlot := s.time.slot })
  have ha : a.work.round = some { r with opened := true, openSlot := s.time.slot } := by simp [a, State.onRound, State.onWork, hr]
  have hak : s.keeps [.work] a := State.keeps_onWork ..
  have hau : a.uncalled := hu
  have he : exec .roundOpen s = .next (a.slotSpan []).2.roundSlot := by
    refine congrArg Host.Outcome.next ?_
    rw [hr]
    exact if_neg (by simp [ho, hb, hs, hj])
  obtain ⟨hsk, hsl⟩ := a.slotSpan_kept []
  have hw : (a.slotSpan []).2.work = a.work := by simp
  have hsu : (a.slotSpan []).2.uncalled := fun n id => by rw [hsl]; exact hau n id
  obtain ⟨hk, l, hl⟩ := State.roundSlot_facts (r := { r with opened := true, openSlot := s.time.slot }) (by rw [hw, ha]) rfl hp hsu
  exact ⟨_, _, he, hl, rfl, rfl, rfl, rfl, State.keeps_step (State.keeps_step (State.keeps_mono hak (by decide)) hsk) hk⟩

end

/-! ## Sub-slots follow each other (R310 to R313) -/

section

variable {s : State}

theorem State.keeps_losePayloads (b : Block) (name : String) (s : State) : s.keeps [.rx, .tally] (s.losePayloads b name) := by
  refine State.keeps_each (fun n s => ?_) _ s
  split
  · exact State.keeps_step (State.keeps_mono (State.keeps_onRx ..) (by decide)) (State.keeps_count ..)
  · exact s.keeps_refl _

/-- With nothing on the air or on its way to it, a transmission that takes the radio cuts no other (R208). -/
theorem State.keeps_clearAir (hx : s.radio.tx = none) (hn : s.radio.next = none) : s.keeps [.radio, .rx, .tally] s.clearAir := by
  have hfree : s.cutTx.callBack = s := by simp [State.cutTx, State.callBack, hx, hn]
  unfold State.clearAir
  rw [hfree]
  exact State.keeps_step (State.keeps_step (State.keeps_mono (State.keeps_onRadio ..) (by decide)) (State.keeps_onRadio ..))
    (State.keeps_losePayloads ..)

theorem State.keeps_claimOver (path : Ticks) (s : State) : s.keeps [.radio] (s.claimOver path) := by
  unfold State.claimOver
  split
  · exact State.keeps_onRadio ..
  · exact s.keeps_refl _

theorem State.keeps_overrideCounted (b : Band) (s : State) : s.keeps [.tally] (s.overrideCounted b) := by
  unfold State.overrideCounted
  split
  · split
    · exact State.keeps_count ..
    · exact s.keeps_refl _
  · exact s.keeps_refl _

theorem State.keeps_takeAir (hx : s.radio.tx = none) (hn : s.radio.next = none) (b : Band) (path : Ticks) :
    s.keeps [.radio, .rx, .params, .tally] (s.takeAir b path).2 := by
  have hf : s.keeps [.radio, .rx, .params, .tally] (s.fire .transmission) :=
    State.keeps_mono (State.keeps_fire ..) (by decide)
  have hover := (s.fire .transmission).keeps_claimOver path
  by_cases hgo : (s.fire .transmission).airHeld = false ∧ (s.fire .transmission).coexTurn b path = .go
  · rw [State.takeAir_go hgo.1 hgo.2]
    have hr := (s.fire .transmission).overrideCounted_radio b
    have hx' : (s.fire .transmission).radio.tx = none := by simpa using hx
    have hn' : (s.fire .transmission).radio.next = none := by simpa using hn
    have hk := State.keeps_step hf ((s.fire .transmission).keeps_overrideCounted b)
    generalize (s.fire .transmission).overrideCounted b = u at *
    have hclear := State.keeps_step hk (State.keeps_clearAir (by rw [hr, hx']) (by rw [hr, hn']))
    dsimp only
    split
    · exact State.keeps_step hclear (State.keeps_onRadio ..)
    · exact hclear
  · unfold State.takeAir
    dsimp only
    split
    · exact hf
    rw [if_pos (by simpa [Classical.or_iff_not_imp_left] using hgo)]
    split
    · exact State.keeps_step hf hover
    · exact State.keeps_step (State.keeps_step hf hover) (State.keeps_count ..)

/-- A transmission that has the time to tune is on its way (R196). -/
theorem State.keeps_launch {path : Ticks} (hp : path ≠ 0) (tx : Tx) (s : State) : s.keeps [.radio] (s.launch path tx) := by
  unfold State.launch
  dsimp only
  rw [if_neg hp]
  exact State.keeps_step (State.keeps_step (State.keeps_onRadio ..) (State.keeps_onRadio ..)) (State.keeps_onRadio ..)

/-- A round at the start of its next sub-slot (R310, R313, R317). -/
def State.nextSub (r : Round) (s : State) : Round :=
  { r with
    q := r.q1, q1 := qOf r.qf, sub := r.sub + 1, inSlot := r.inSlot + 1, subAt := s.now,
    qCall := (s.callBody { r with q := r.q1, q1 := qOf r.qf } (s.roundDone r)).q, stop := s.roundDone r,
    window := !s.roundDone r && !r.chans.isEmpty, closing := if s.roundDone r then r.closing + 1 else r.closing,
    prev := [], prev2 := r.prev, acked := r.acked.filter (fun x => ((r.prev ++ r.prev2).filterMap id).contains x.1) }

theorem exec_subSlotStart {r : Round} (hr : s.work.round = some r) (hd : s.subDue r = true) (hx : s.radio.tx = none)
    (hn : s.radio.next = none) : ∃ t, exec .subSlotStart s = .next t ∧ t.work.round = some (s.nextSub r) ∧
      s.keeps [.work, .radio, .rx, .params, .tally] t := by
  let a := s.onRound (fun _ => s.nextSub r)
  have ha : a.work.round = some (s.nextSub r) := by simp [a, State.onRound, State.onWork, hr]
  have hak : s.keeps [.work, .radio, .rx, .params, .tally] a := State.keeps_mono (State.keeps_onWork ..) (by decide)
  have hax : a.radio.tx = none := hx
  have han : a.radio.next = none := hn
  have hstep : ∀ t, a.keeps [.radio, .rx, .params, .tally] t → t.work.round = some (s.nextSub r) ∧
      s.keeps [.work, .radio, .rx, .params, .tally] t := fun t hk =>
    ⟨(congrArg Work.round (hk.2.2.2 .work (by decide)) :).trans ha, State.keeps_step hak hk⟩
  have htake := State.keeps_takeAir hax han .sub (us 28)
  refine ⟨_, rfl, hstep _ ?_⟩
  rw [hr]
  dsimp only
  rw [if_neg (by simp [hd])]
  change a.keeps _ (if r.chans.isEmpty = true then a else _)
  split
  · exact a.keeps_refl _
  · split
    · next h =>
      have hs : (a.takeAir .sub (us 28)).2 = _ := congrArg Prod.snd h
      rw [hs] at htake
      exact State.keeps_step htake (State.keeps_launch (by decide) ..)
    · next h =>
      have hs : (a.takeAir .sub (us 28)).2 = _ := congrArg Prod.snd h
      rw [hs] at htake
      exact htake

end

/-! ## The reply window ends (R313, R315) -/

section

variable {s : State}

theorem cellsOf_cons (p : CellSeen → Bool) (c : CellSeen) (cs : List CellSeen) :
    cellsOf p (c :: cs) = (if p c then 1 else 0) + cellsOf p cs := by
  by_cases h : p c <;> simp [cellsOf, h, Nat.add_comm]

/-- A round that has counted `e` empty and `c` collided cells more (R315). -/
def Round.counted (e c : Nat) (r : Round) : Round := { r with empties := r.empties + e, collided := r.collided + c }

theorem State.classify_silent {c : CellSeen} (hc : c = .empty ∨ c = .collided) (id sub k : Nat) (s : State) :
    (s.classify id sub k c).1 = none ∧
      (s.classify id sub k c).2.work.round =
        s.work.round.map (Round.counted (if c == .empty then 1 else 0) (if c == .collided then 1 else 0)) ∧
      s.keeps [.work, .tally] (s.classify id sub k c).2 := by
  have hk (f : Round → Round) (name : String) : s.keeps [.work, .tally] ((s.onRound f).count .lanes name) :=
    State.keeps_step (State.keeps_mono (State.keeps_onWork ..) (by decide)) (State.keeps_count ..)
  rcases hc with rfl | rfl
  · exact ⟨rfl, by simp [State.classify, State.onRound, State.onWork]; rfl, hk ..⟩
  · exact ⟨rfl, by simp [State.classify, State.onRound, State.onWork]; rfl, hk ..⟩

/-- Empty and collided cells are counted, and no reply of theirs is to be acknowledged (R313, R315). -/
theorem State.classifyAll_silent {cells : List CellSeen} (hc : ∀ c ∈ cells, c = .empty ∨ c = .collided) (id sub k : Nat) (s : State) :
    (s.classifyAll id sub k cells).1 = List.replicate cells.length none ∧
      (s.classifyAll id sub k cells).2.work.round =
        s.work.round.map (Round.counted (cellsOf (· == .empty) cells) (cellsOf (· == .collided) cells)) ∧
      s.keeps [.work, .tally] (s.classifyAll id sub k cells).2 := by
  induction cells generalizing s k with
  | nil => exact ⟨rfl, by cases hr : s.work.round <;> simp [State.classifyAll, hr, Round.counted, cellsOf], s.keeps_refl _⟩
  | cons c cs ih =>
    obtain ⟨h1, h2, h3⟩ := State.classify_silent (hc c List.mem_cons_self) id sub k s
    obtain ⟨h1', h2', h3'⟩ := ih (fun x hx => hc x (List.mem_cons_of_mem _ hx)) (k + 1) (s.classify id sub k c).2
    refine ⟨congrArg₂ List.cons h1 h1', ?_, State.keeps_trans h3 h3'⟩
    refine h2'.trans ?_
    rw [h2, Option.map_map, cellsOf_cons, cellsOf_cons]
    congr 1
    funext r
    simp only [Function.comp_apply, Round.counted, Nat.add_assoc]

/-- Lanes that hear nothing more, with no frame to check (R315). -/
theorem State.drain_silent (hb : s.rx.buf = []) (l : List (Fin 16)) :
    let v := s.each l (fun n s => s.onLane n Lane.idle)
    (v.drainBuf v.rx.buf.length).work = s.work ∧ s.keeps [.rx] (v.drainBuf v.rx.buf.length) := by
  have hk : s.keeps [.rx] (s.each l (fun n s => s.onLane n Lane.idle)) := State.keeps_each (fun _ _ => State.keeps_onRx ..) l s
  have hv : (s.each l (fun n s => s.onLane n Lane.idle)).rx.buf = [] :=
    (State.each_keeps (fun v => v.rx.buf) l (fun n s => s.onLane n Lane.idle) s (fun _ _ => rfl)).trans hb
  intro v
  rw [show v.rx.buf = [] from hv]
  exact ⟨hk.2.2.2 .work (by decide), hk⟩

/-- A round once its reply window of `w` cells has ended with nothing decoded (R313, R315). -/
def Round.windowOver (w e c : Nat) (r : Round) : Round :=
  { r.counted e c with
    window := false, prev := List.replicate w none, qf := qfNext r.qf c e,
    quiet := if e == w && r.qCall == 4 then r.quiet + 1 else 0 }

theorem exec_replyWindowEnd {r : Round} {cells : List CellSeen} (hr : s.work.round = some r) (hw : r.window = true)
    (ht : r.subAt + us 2470 ≤ s.now) (hl : cells.length = r.chans.length) (hc : ∀ c ∈ cells, c = .empty ∨ c = .collided)
    (hb : s.rx.buf = []) : ∃ t, exec (.replyWindowEnd cells) s = .next t ∧ t.work.round =
      some (r.windowOver r.chans.length (cellsOf (· == .empty) cells) (cellsOf (· == .collided) cells)) ∧
      s.keeps [.work, .rx, .tally] t := by
  have hcells : (cells ++ List.replicate (r.chans.length - cells.length) CellSeen.empty).take r.chans.length = cells := by
    rw [hl, Nat.sub_self]
    simp [← hl]
  obtain ⟨h1, h2, h3⟩ := s.classifyAll_silent hc r.req.id r.sub 0
  rw [hl] at h1
  refine ⟨_, rfl, ?_⟩
  rw [hr]
  dsimp only
  rw [if_neg (by simp [hw, Nat.not_lt.mpr ht]), hcells, h1]
  have hbuf : (s.classifyAll r.req.id r.sub 0 cells).2.rx.buf = [] := by
    rw [show (s.classifyAll r.req.id r.sub 0 cells).2.rx = s.rx from h3.2.2.2 .rx (by decide), hb]
  generalize (s.classifyAll r.req.id r.sub 0 cells).2 = u at *
  generalize cellsOf (· == .empty) cells = e at *
  generalize cellsOf (· == .collided) cells = c at *
  have hround (f : Round → Round) : (u.onRound f).work.round = some (f (r.counted e c)) := by
    rw [State.onRound, State.onWork, h2, hr]
    rfl
  have hkeep (f : Round → Round) : s.keeps [.work, .rx, .tally] (u.onRound f) :=
    State.keeps_step (State.keeps_mono h3 (by decide)) (State.keeps_onWork ..)
  obtain ⟨hdw, hdk⟩ := State.drain_silent (s := u.onRound _) hbuf _
  exact ⟨(congrArg Work.round hdw :).trans (hround _), State.keeps_step (hkeep _) hdk⟩

end

/-! ## A round pauses and ends (R286, R316, R317) -/

section

variable {s : State}

theorem exec_roundEnd {r : Round} (hr : s.work.round = some r) (hc : 2 ≤ r.closing) (ht : r.subAt + us 2500 ≤ s.now) :
    exec .roundEnd s = .next s.endRound := by
  refine congrArg Host.Outcome.next ?_
  rw [hr]
  exact if_pos (by simp [hc, ht])

theorem State.nextRound_work (s : State) : (s.work.rounds = [] → s.nextRound = s) ∧
    (∀ q qs, s.work.rounds = q :: qs → ∃ o : Round, o.req = q ∧ s.nextRound.work = { s.work with rounds := qs, round := some o }) := by
  refine ⟨fun h => ?_, fun q qs h => ?_⟩
  · rw [State.nextRound, h]
  · rw [State.nextRound, h]
    exact (s.onWork (fun w => { w with rounds := qs })).startRound_work q

/-- What follows the end of a round (R317). -/
theorem State.endRound_facts {r : Round} (hr : s.work.round = some r) : s.endRound.time = s.time ∧ s.endRound.sched = s.sched ∧
    (s.work.rounds = [] → s.endRound.work.round = none) ∧
    (∀ q qs, s.work.rounds = q :: qs → s.endRound.work.rounds = qs ∧ s.endRound.work.round.map Round.req = some q) := by
  refine ⟨by simp, by simp, ?_⟩
  obtain ⟨a, ha, hw⟩ : ∃ a : State, a.work = { s.work with round := none } ∧ s.endRound.work = a.nextRound.work := by
    unfold State.endRound
    rw [hr]
    dsimp only
    have hrest (v : State) : (v.moveRadio.rosterCheck).work = v.work := by simp
    split
    · exact ⟨_, by simp [State.onWork], hrest _⟩
    · exact ⟨_, by simp [State.onWork], hrest _⟩
  obtain ⟨hnone, hsome⟩ := a.nextRound_work
  rw [hw]
  rw [ha] at hnone hsome
  refine ⟨fun h => ?_, fun q qs h => ?_⟩
  · rw [hnone h, ha]
  · obtain ⟨o, ho, hn⟩ := hsome q qs h
    rw [hn]
    exact ⟨rfl, congrArg some ho⟩

/-- The lane is free, or its holder is none of `p`. -/
def State.freeOf (p : Holder → Bool) (m : Fin 16) (s : State) : Prop :=
  s.rx.lanes[m].bound = true → p s.rx.lanes[m].holder = false

theorem State.freeOf_release {p : Holder → Bool} {m : Fin 16} (h : s.freeOf p m) (n : Fin 16) : (s.release n).freeOf p m := by
  by_cases hm : m = n
  · subst hm
    rw [State.freeOf, State.release, State.onLane_self]
    exact fun h => nomatch h
  · rw [State.freeOf, State.release, State.onLane_other hm]
    exact h

theorem State.freeOf_release_self (p : Holder → Bool) (n : Fin 16) (s : State) : (s.release n).freeOf p n := by
  rw [State.freeOf, State.release, State.onLane_self]
  exact fun h => nomatch h

/-- The lane is given up if its holder is one of `p`. -/
def State.releaseIf (p : Holder → Bool) (n : Fin 16) (s : State) : State :=
  if s.rx.lanes[n].bound && p s.rx.lanes[n].holder then s.release n else s

theorem State.freeOf_releaseIf {p : Holder → Bool} {m : Fin 16} (n : Fin 16) (h : s.freeOf p m ∨ m = n) :
    (s.releaseIf p n).freeOf p m := by
  unfold State.releaseIf
  split
  · rcases h with h | rfl
    · exact State.freeOf_release h n
    · exact State.freeOf_release_self p m s
  · next hno =>
    rcases h with h | rfl
    · exact h
    · exact by simpa [State.freeOf] using hno

theorem State.freeOf_each {p : Holder → Bool} {m : Fin 16} (l : List (Fin 16)) (h : s.freeOf p m ∨ m ∈ l) :
    (s.each l (State.releaseIf p)).freeOf p m := by
  induction l generalizing s with
  | nil => exact h.resolve_right List.not_mem_nil
  | cons n ns ih =>
    refine ih ?_
    rcases h with h | h
    · exact .inl (State.freeOf_releaseIf n (.inl h))
    · rcases List.mem_cons.mp h with h | h
      · exact .inl (State.freeOf_releaseIf n (.inr h))
      · exact .inr h

/-- No lane stays with a holder whose lanes are given up. -/
theorem State.releaseAll_freeOf (p : Holder → Bool) (m : Fin 16) (s : State) : (s.releaseAll p).freeOf p m :=
  State.freeOf_each _ (.inr (List.mem_finRange m))

theorem State.keeps_releaseAll (p : Holder → Bool) (s : State) : s.keeps [.rx] (s.releaseAll p) := by
  refine State.keeps_each (f := State.releaseIf p) (fun n s => ?_) _ s
  unfold State.releaseIf
  split
  · exact State.keeps_onRx ..
  · exact s.keeps_refl _

theorem exec_roundPause {r : Round} (hr : s.work.round = some r) (hruns : s.roundRuns = true)
    (hb : ∃ b ∈ s.jomen.due ++ s.jomen.queue, ∃ k, b.purpose = .lastChance k) (hw : r.window = false)
    (ht : r.subAt + us 2500 ≤ s.now) (hc : r.closing < 2) : ∃ t, exec .roundPause s = .next t ∧
      t.work.round = some { r with paused := r.paused + (s.subSlots - r.inSlot), pausing := true } ∧
      (∀ n : Fin 16, t.rx.lanes[n].bound = true → t.rx.lanes[n].holder ≠ .round) ∧
      s.keeps [.work, .rx, .radio, .tally] t := by
  refine ⟨_, rfl, ?_⟩
  rw [hr]
  dsimp only
  rw [if_pos]
  · refine ⟨?_, fun n => ?_, ?_⟩
    · simp [State.onRound, State.onWork, State.roundLose, hr]
    · rw [Lane.bound, State.moveRadio_holder]
      intro h h'
      have hfree := State.releaseAll_freeOf _ n _ h
      rw [h'] at hfree
      cases hfree
    · exact State.keeps_step (State.keeps_step (State.keeps_step (State.keeps_step (State.keeps_mono (State.keeps_onWork ..) (by decide))
        (State.keeps_countN ..)) (State.keeps_onWork ..)) (State.keeps_releaseAll ..)) (State.keeps_moveRadio ..)
  · obtain ⟨b, hm, k, hk⟩ := hb
    simp only [Bool.and_eq_true, List.any_eq_true, decide_eq_true_eq]
    exact ⟨⟨⟨⟨hruns, b, hm, by rw [hk]⟩, by rw [hw]; rfl⟩, ht⟩, hc⟩

/-- Settles O48: how a round is asked for (`State.requestRound_starts`, `State.requestRound_waits`,
`State.requestRound_full`), opens, calls its sub-slots, counts their replies, pauses and ends. -/
theorem roundsRun : Obligations.RoundsRun := by
  refine ⟨fun h s hj ha => ⟨fun code r hc h0 h7 hk => ?_, fun r hr => exec_doRoundStop hj ha hr⟩, fun s r hr => ?_⟩
  · obtain ⟨aud, he, hdid⟩ := exec_doRoundStart hj ha hc (inRange_iff.mpr ⟨h0, h7⟩) hk
    refine ⟨fun hnone hnil => ?_, fun hbusy hlt => ?_, fun hfull => ?_⟩
    · rw [he, State.requestRound_starts hnone hnil]
      dsimp only
      rw [State.finish_good_some, hdid]
      obtain ⟨o, ho, hw⟩ := (s.acting h).takeRoundId.2.startRound_work
        ⟨(s.acting h).work.nextRound, code.toNat, (argOr 1 r).toNat, false, 0, true⟩
      have hkeep := State.keeps_startRound ⟨(s.acting h).work.nextRound, code.toNat, (argOr 1 r).toNat, false, 0, true⟩ rfl
        (s.acting h).takeRoundId.2
      refine ⟨_, rfl, fun h0 => State.did_tx _ _ _ h0 (List.cons_ne_nil _ _), ?_, ?_, ?_, State.keeps_step (State.keeps_step
        (State.keeps_mono (State.keeps_onWork ..) (by decide)) hkeep) (State.keeps_did ..)⟩
      all_goals rw [(State.did_frame ..).2.2.2.2.2.2.2.1, hw]
      · exact congrArg some ho
      · exact hnil
      · rfl
    · rw [he, State.requestRound_waits hbusy hlt]
      dsimp only
      rw [State.finish_good_some, hdid]
      refine congrArg (fun w => Host.Outcome.next (s.did h 524 _ w)) ?_
      exact congrArg (fun l => (s.acting h).onWork (fun w => { w with nextRound := (w.nextRound + 1) % 256, rounds := l }))
        (waitRound_last rfl _)
    · rw [he, State.requestRound_full hfull]
      obtain ⟨htx, -, -, hk⟩ := State.finish_bad_keeps (h := h) ((s.heard h).lineOrigin h) .do_ (s.acting h) .busy 0 (some 524)
        (some aud) rfl
      exact ⟨_, rfl, htx, hk⟩
  · refine ⟨fun ho hp hb hs hj hu => exec_roundOpen hr ho hp hb hs hj hu, fun hd hx hn => ?_, fun cells hw ht hl hc hb => ?_,
      fun hc ht => ⟨_, exec_roundEnd hr hc ht, State.endRound_facts hr⟩, fun hruns hb hw ht hc => ?_⟩
    · obtain ⟨t, he, hw, hk⟩ := exec_subSlotStart hr hd hx hn
      refine ⟨t, _, he, hw, rfl, rfl, rfl, rfl, rfl, rfl, rfl, ?_, ?_, rfl, rfl, hk⟩
      · simp [State.nextSub]
      · cases hdone : s.roundDone r <;> simp [State.nextSub, hdone]
    · obtain ⟨t, he, ho, hk⟩ := exec_replyWindowEnd hr hw ht hl hc hb
      refine ⟨t, _, he, ho, rfl, rfl, rfl, rfl, rfl, ?_, hk⟩
      simp [Round.windowOver, Round.counted]
    · obtain ⟨t, he, ho, hfree, hk⟩ := exec_roundPause hr hruns hb hw ht hc
      exact ⟨t, _, he, ho, rfl, rfl, hfree, hk⟩

end

end Sys2Proof.Machine

/-!
Proofs about the roster and the keys.
-/

namespace Sys2Proof.Machine

/-! ## The roster is shown and changed (R114, R351 to R354, R357) -/

section

variable {h : Hdr} {s : State}

theorem State.byHandle_entry {k : Handle} {e : Entry} (he : s.byHandle k = some e) : s.entry k.index = some e := by
  unfold State.byHandle at he
  split at he
  · next x hx =>
    rw [hx]
    exact (Option.ite_none_right_eq_some.mp he).2
  · cases he

theorem State.endpointOf_ok {k : HandleArg} {e : Entry} (hf : k.fits = true) (hi : 16 ≤ k.index) (he : s.byHandle k.get = some e) :
    s.endpointOf k = .ok (k.get, e) := by
  have hno : (!k.fits || decide (k.index ≤ 15)) = false := by
    rw [hf, decide_eq_false (by omega)]
    rfl
  unfold State.endpointOf
  rw [hno, he]
  rfl

theorem exec_doRosterShow_handle {k : HandleArg} (hj : s.judges h) (hf : k.fits = true) :
    (∀ e, (s.heard h).byHandle k.get = some e →
      exec (.doRosterShow h (.handle k)) s = .next ((s.heard h).reply h [(s.heard h).entryLine k.get.index e])) ∧
    ((s.heard h).byHandle k.get = none →
      exec (.doRosterShow h (.handle k)) s = .next ((s.heard h).refuse h .do_ .handle 0 (some 528))) := by
  have hfit : ¬ (!k.fits) = true := by simp [hf]
  refine ⟨fun e he => ?_, fun he => ?_⟩
  all_goals
    refine congrArg Host.Outcome.next ((State.report_judged 528 .observer _ hj).trans ?_)
    rw [needs_allowed (State.allowed_observer _)]
    dsimp only
    rw [if_neg hfit, he]
  · rfl
  · simp [State.finish, State.recordLine, bad]

theorem exec_doRosterShow_eui {id : Eui} {i : Nat} {e : Entry} (hj : s.judges h) (hi : (s.heard h).indexOf id = some i)
    (he : (s.heard h).entry i = some e) :
    exec (.doRosterShow h (.eui id)) s = .next ((s.heard h).reply h [(s.heard h).entryLine i e]) := by
  refine congrArg Host.Outcome.next ((State.report_judged 528 .observer _ hj).trans ?_)
  have hcrc : (s.heard h).spillCrc id = s.heard h := by rw [State.spillCrc, hi]
  rw [needs_allowed (State.allowed_observer _)]
  dsimp only
  rw [hcrc, hi, Option.bind_some, he]
  rfl

theorem exec_doRosterPin {k : HandleArg} {e : Entry} {b : Int} (hj : s.judgesAtOnce h) (ha : (s.heard h).allowed .operator = true)
    (hk : (s.acting h).endpointOf k = .ok (k.get, e)) (hb : inRange 0 1 b = true) : exec (.doRosterPin h k b) s =
      .next (s.did h 529 [.bare] (((s.acting h).onEntry k.get.index (fun e => { e with pinned := b == 1 })).rosterCheck)) := by
  refine congrArg Host.Outcome.next ((State.change_judged _ .do_ true _ hj (fun _ => rfl)).trans ?_)
  rw [runDoRosterPin, actionRun_heard, needs_allowed ((State.acting_allowed h s .operator).trans ha), hk]
  dsimp only
  rw [hb]
  rfl

theorem exec_doRosterDrop {k : HandleArg} {e : Entry} (hj : s.judgesAtOnce h) (ha : (s.heard h).allowed .operator = true)
    (hk : (s.acting h).endpointOf k = .ok (k.get, e)) : ∃ aud, exec (.doRosterDrop h k) s =
      .next (State.finish ((s.heard h).lineOrigin h) h .do_ (
        if (s.acting h).hasFlight k.get.index || (s.acting h).alarmHeld k.get.index e then
          bad (s.acting h) .state 0 (some 530) (some aud)
        else good ((s.acting h).evict k.get.index).rosterCheck [.bare] (some 530) (some aud))) ∧
      ∀ w out, (w.audit ((s.heard h).lineOrigin h) aud.action aud.obj 0 aud.old aud.new).reply h out = State.did h 530 out s w := by
  refine ⟨{ action := 4, obj := 530, old := .num 0, new := .hash (Config.freeHash (s.heard h).fresh) },
    congrArg Host.Outcome.next ((State.change_judged _ .do_ true _ hj (fun _ => rfl)).trans ?_), fun _ _ => rfl⟩
  rw [runDoRosterDrop, actionRun_heard, needs_allowed ((State.acting_allowed h s .operator).trans ha), hk]

theorem State.freeCode_facts (c : Nat) (s : State) :
    (s.freeCode c).jomen.freed = (if c = 0 then s.jomen.freed else s.jomen.freed ++ [c]) ∧
    (s.freeCode c).jomen.pool = s.jomen.pool ∧
    (s.freeCode c).wake.maskWrites = (if c = 0 then s.wake.maskWrites else s.wake.maskWrites ++ [(c, 0)]) ∧
    s.keeps [.jomen, .wake] (s.freeCode c) := by
  unfold State.freeCode State.writeMask
  by_cases hc : c = 0
  · rw [if_pos hc, if_pos hc, if_pos hc]
    exact ⟨rfl, rfl, rfl, s.keeps_refl _⟩
  · rw [if_neg hc, if_neg hc, if_neg hc, if_neg hc]
    exact ⟨rfl, rfl, rfl, State.keeps_step (State.keeps_mono (State.keeps_onJomen ..) (by decide)) (State.keeps_onWake ..)⟩

theorem State.rosterCheck_entries (s : State) : s.rosterCheck.roster.entries = s.roster.entries := by
  unfold State.rosterCheck
  split
  · simp [State.onRoster]
  · rfl

/-- What an endpoint leaves that is dropped (R114, R351). -/
theorem State.evict_facts {i : Nat} {e : Entry} (he : s.entry i = some e) :
    (s.evict i).roster.entries = assocSet i
      { e with active := false, code := 0, keySlot := 0, rxSaved := e.rxCtr, txSaved := e.txCtr } s.roster.entries ∧
    (s.evict i).jomen.freed = (if e.code = 0 then s.jomen.freed else s.jomen.freed ++ [e.code]) ∧
    (s.evict i).jomen.pool = s.jomen.pool ∧
    (s.evict i).wake.maskWrites = (if e.code = 0 then s.wake.maskWrites else s.wake.maskWrites ++ [(e.code, 0)]) ∧
    s.keeps [.roster, .jomen, .wake] (s.evict i) := by
  obtain ⟨hfreed, hpool, hmask, hk⟩ := s.freeCode_facts e.code
  unfold State.evict
  rw [he]
  refine ⟨congrArg (assocSet i _) ?_, hfreed, hpool, hmask, State.keeps_step (State.keeps_mono hk (by decide)) (State.keeps_onRoster ..)⟩
  exact (congrArg Roster.entries (hk.2.2.2 .roster (by decide)) :)

theorem exec_doRosterGroups {k : HandleArg} {e : Entry} {gs : List Int} {x : Entered} {w : State} (hj : s.judgesAtOnce h)
    (ha : (s.heard h).allowed .operator = true) (hk : (s.acting h).endpointOf k = .ok (k.get, e))
    (hb : (s.acting h).badGroup gs = none) (hs : (s.acting h).sendFault k.get 3 = none) (hx : x ≠ .busy)
    (hw : ((s.acting h).fire .send).newFlight (Flight.make k.get .data 3 false
      (((s.acting h).fire .send).slotNow + ((s.acting h).fire .send).pnat Obj.flightDeadline) 0
      (admitPayload e.code (gs.map Int.toNat)) (some (gs.map Int.toNat)) none) = (x, w)) :
    exec (.doRosterGroups h k gs) s = .next (s.did h 531 (enteredLine x) w) := by
  refine congrArg Host.Outcome.next ((State.change_judged _ .do_ true _ hj (fun _ => rfl)).trans ?_)
  rw [runDoRosterGroups, actionRun_heard, needs_allowed ((State.acting_allowed h s .operator).trans ha), hk]
  dsimp only
  rw [hb, hs]
  dsimp only
  rw [hw]
  cases x with
  | busy => exact absurd rfl hx
  | table id => rfl
  | waiting id pos => rfl

theorem exec_doRosterPeer {i : Int} {eui : Eui} (hj : s.judgesAtOnce h) (ha : (s.heard h).allowed .custodian = true)
    (hi : inRange 0 15 i = true) (hf : (s.acting h).hasFlight i.toNat = false)
    (ho : ∀ j, (s.acting h).peerIndex eui = some j → (s.acting h).hasFlight j = false) : exec (.doRosterPeer h i eui) s =
      let w := (s.acting h).admitPeer i.toNat eui ((s.acting h).peerIndex eui)
      .next (s.did h 532 [.handle (w.handleAt i.toNat)] w) := by
  refine congrArg Host.Outcome.next ((State.change_judged _ .do_ true _ hj (fun _ => rfl)).trans ?_)
  rw [runDoRosterPeer, actionRun_heard, needs_allowed ((State.acting_allowed h s .custodian).trans ha), hi]
  dsimp only
  rw [hf]
  cases hp : (s.acting h).peerIndex eui with
  | none => rfl
  | some j =>
    simp only [ho j hp]
    rfl

/-- What a peer's new entry starts from: the entry it held before, or a fresh one (R352). -/
def State.peerBase (id : Eui) (old : Option Nat) (s : State) : Entry :=
  match old.bind s.entry with
  | some e => Entry.movedPeer e
  | none => Entry.fresh id 0

theorem State.peerBase_id {id : Eui} {old : Option Nat} (ho : ∀ j, old = some j → ∃ o, s.entry j = some o ∧ o.id = id) :
    (s.peerBase id old).id = id ∧ (s.peerBase id old).active = true := by
  unfold State.peerBase
  cases old with
  | none => exact ⟨rfl, rfl⟩
  | some j =>
    obtain ⟨o, he, hid⟩ := ho j rfl
    rw [Option.bind_some, he]
    exact ⟨hid, rfl⟩

/-- A peer's entry starts over with the next epoch, and its code is armed (R114, R352). -/
theorem State.admitPeer_facts {i : Nat} {id : Eui} {old : Option Nat}
    (ho : ∀ j, old = some j → ∃ o, s.entry j = some o ∧ o.id = id) :
    (∃ e, (s.admitPeer i id old).entry i = some e ∧ e.id = id ∧ e.active = true ∧
      e.epoch = (((s.entry i).map Entry.epoch).getD 0 + 1) % 8) ∧
    (0 < i → ((i, 0xFF#8) : Nat × Byte) ∈ (s.admitPeer i id old).wake.maskWrites) := by
  obtain ⟨hid, hact⟩ := State.peerBase_id ho
  have hmask (u : State) (h0 : 0 < i) : ((i, 0xFF#8) : Nat × Byte) ∈ (u.writeMask i 0xFF).wake.maskWrites := by
    rw [State.writeMask, if_neg (Nat.ne_of_gt h0)]
    exact List.mem_append_right _ (List.mem_singleton.mpr rfl)
  have hwr (u : State) : (u.writeMask i 0xFF).entry i = u.entry i := by
    simp [State.entry]
  refine ⟨⟨{ s.peerBase id old with epoch := (((s.entry i).map Entry.epoch).getD 0 + 1) % 8, keySlot := i }, ?_, hid, hact, rfl⟩,
    hmask _⟩
  unfold State.admitPeer
  dsimp only
  rw [hwr]
  refine (assoc_assocSet i i _ _).trans ?_
  rw [if_pos rfl]
  rfl

theorem exec_doRosterForget {eui : Eui} {x : Spill} (hj : s.judgesAtOnce h) (ha : (s.heard h).allowed .custodian = true)
    (hi : (s.acting h).indexOf eui = none) (hx : (s.acting h).spillOf eui = some x) : exec (.doRosterForget h eui) s =
      .next (s.did h 533 [.bare] (((s.acting h).holdGroups x.entry.groups false).onRoster (fun r =>
        { r with spill := assocDel eui r.spill, staged := r.staged.filter (fun e => e ≠ eui) }))) := by
  refine congrArg Host.Outcome.next ((State.change_judged _ .do_ true _ hj (fun _ => rfl)).trans ?_)
  have hcrc : (s.acting h).spillCrc eui = s.acting h := by
    unfold State.spillOf at hx
    split at hx
    · next y hy =>
      obtain ⟨hok, -⟩ := Option.ite_none_right_eq_some.mp hx
      unfold State.spillCrc
      rw [hi, hy]
      exact if_pos hok
    · cases hx
  rw [runDoRosterForget, actionRun_heard, needs_allowed ((State.acting_allowed h s .custodian).trans ha)]
  dsimp only
  rw [if_neg (by rw [hi]; decide), hcrc, hx]
  rfl

/-! ## Keys are replaced (R346, R453, R465) -/

theorem exec_doKeeperLibkey {k : BitVec 512} (hj : s.judgesAtOnce h) (ha : (s.heard h).allowed .custodian = true) :
    exec (.doKeeperLibkey h k) s = .next (s.didAs h ⟨4, 535, libKeyVal (s.heard h).roster.libKey, libKeyVal (some k)⟩ [.bare]
      ((s.heard h).onRoster (fun r => { r with libKey := some k }))) := by
  refine congrArg Host.Outcome.next ((State.change_judged _ .do_ true _ hj (fun _ => rfl)).trans ?_)
  rw [runDoKeeperLibkey, needs_allowed ha]
  rfl

theorem exec_doKeeperNetkey {w : BitVec 192} (hj : s.judgesAtOnce h) (ha : (s.heard h).allowed .custodian = true) :
    (∀ k, Config.unwrap (s.heard h).roster.cuKey w = some k → exec (.doKeeperNetkey h w) s =
      .next (s.didAs h ⟨4, 534, keyVal (s.heard h).roster.netKey, keyVal (some k)⟩ [.bare]
        ((s.heard h).onRoster (fun r => { r with netKey := some k })))) ∧
    (Config.unwrap (s.heard h).roster.cuKey w = none → ∃ t, exec (.doKeeperNetkey h w) s = .next t ∧
      (h.addr ≠ some 0 → t.line.tx = [.err .range]) ∧ (s.heard h).keeps [.line, .store, .params, .tally] t) := by
  have he : exec (.doKeeperNetkey h w) s =
      .next (State.finish ((s.heard h).lineOrigin h) h .do_ (runDoKeeperNetkey h w (s.heard h))) :=
    congrArg Host.Outcome.next (State.change_judged _ .do_ true _ hj (fun _ => rfl))
  refine ⟨fun k hk => ?_, fun hk => ?_⟩
  · rw [he, runDoKeeperNetkey, needs_allowed ha, hk]
    rfl
  · rw [he, runDoKeeperNetkey, needs_allowed ha, hk]
    obtain ⟨htx, -, -, hkeep⟩ := State.finish_bad_keeps (h := h) ((s.heard h).lineOrigin h) .do_ (s.heard h) .range 3 (some 534)
      (some ⟨4, 534, keyVal (s.heard h).roster.netKey, keyVal none⟩) rfl
    exact ⟨_, rfl, htx, hkeep⟩

/-- Settles O49: the roster's commands (`State.evict_facts`, `State.admitPeer_facts`) and the keys. -/
theorem rosterAndKeys : Obligations.RosterAndKeys := by
  refine ⟨fun h s hj => ⟨fun k e hf => ?_, fun id i e hi he => exec_doRosterShow_eui hj hi he⟩, fun h s hj => ⟨fun ha k e hf h16 he => ?_,
    fun ha i eui h0 h15 hfl ho => ?_, fun ha eui x hi hx => exec_doRosterForget hj ha hi hx⟩, fun h s hj ha => ⟨fun w => ?_,
    fun k => exec_doKeeperLibkey hj ha⟩⟩
  · obtain ⟨hsome, hnone⟩ := exec_doRosterShow_handle hj hf
    exact ⟨hsome e, hnone⟩
  · have hk := State.endpointOf_ok hf h16 he
    obtain ⟨aud, hdrop, hdid⟩ := exec_doRosterDrop hj ha hk
    refine ⟨fun b hb => exec_doRosterPin hj ha hk (inRange_iff.mpr (by omega)), fun hfl hal => ?_, fun hno => ?_,
      fun gs x w hb hs hx hw => exec_doRosterGroups hj ha hk hb hs hx hw⟩
    · rw [hdrop, hfl, hal]
      obtain ⟨hent, hfreed, hpool, hmask, hkeep⟩ := State.evict_facts (State.byHandle_entry he)
      have hchk := State.keeps_rosterCheck ((s.acting h).evict k.get.index)
      rw [Bool.false_or, if_neg Bool.false_ne_true, State.finish_good_some, hdid]
      refine ⟨_, rfl, fun h0 => State.did_tx _ _ _ h0 (List.cons_ne_nil _ _), ?_, ?_, ?_, ?_, State.keeps_step (State.keeps_step
        (State.keeps_mono hkeep (by decide)) hchk) (State.keeps_did ..)⟩
      all_goals simp only [State.did_frame]
      · rw [State.rosterCheck_entries, hent]
      · simpa using hfreed
      · simpa using hpool
      · simpa using hmask
    · rw [hdrop, if_pos (by simpa using hno)]
      obtain ⟨htx, -, -, hkeep⟩ := State.finish_bad_keeps (h := h) ((s.heard h).lineOrigin h) .do_ (s.acting h) .state 0 (some 530)
        (some aud) rfl
      exact ⟨_, rfl, htx, hkeep⟩
  · obtain ⟨hent, hmask⟩ := State.admitPeer_facts (i := i.toNat) (fun j hj => (ho j hj).2)
    exact ⟨exec_doRosterPeer hj ha (inRange_iff.mpr ⟨h0, h15⟩) hfl (fun j hj => (ho j hj).1), hent, fun h0 => hmask (by omega)⟩
  · obtain ⟨hsome, hnone⟩ := exec_doKeeperNetkey (w := w) hj ha
    cases hk : Config.unwrap (s.heard h).roster.cuKey w with
    | some k => exact ⟨_, hsome k hk, rfl⟩
    | none => exact hnone hk

end

end Sys2Proof.Machine

/-!
Proofs about window monitors.
-/

namespace Sys2Proof.Machine

/-! ## What announcements leave of the monitors -/

section

variable {s : State}

@[simp] theorem State.pgAsk_mons (g : Fin 4) (s : State) : (s.pgAsk g).2.mon.mons = s.mon.mons := by
  unfold State.pgAsk
  split <;> simp [State.onMon]

@[simp] theorem State.vauxTripped_mons (code : Nat) (s : State) : (s.vauxTripped code).mon.mons = s.mon.mons := by
  unfold State.vauxTripped
  dsimp only
  rw [apply_ite (fun s : State => s.mon.mons)]
  simp [State.onMon]

@[simp] theorem State.vauxAttempt_mons (s : State) : s.vauxAttempt.mon.mons = s.mon.mons := by
  unfold State.vauxAttempt
  dsimp only
  split <;> simp [State.onMon]

@[simp] theorem State.vauxPolicy_mons (s : State) : s.vauxPolicy.mon.mons = s.mon.mons := by
  unfold State.vauxPolicy
  split <;> simp [State.onMon]

@[simp] theorem State.queue_mons (e : Ev) (s : State) : (s.queue e).mon.mons = s.mon.mons := by
  simp [State.queue]

theorem State.onWm_self (n : Fin 8) (f : Mon → Mon) (s : State) : (s.onWm n f).mon.mons[n] = f s.mon.mons[n] := by
  simp [State.onWm, State.onMon]

theorem State.onWm_other {n m : Fin 8} (h : m ≠ n) (f : Mon → Mon) (s : State) : (s.onWm n f).mon.mons[m] = s.mon.mons[m] := by
  have hne : n.val ≠ m.val := fun h' => h (Fin.ext h'.symm)
  simp [State.onWm, State.onMon, hne]

theorem State.onWm_onWm (n : Fin 8) (f g : Mon → Mon) (s : State) : (s.onWm n f).onWm n g = s.onWm n (g ∘ f) := by
  simp [State.onWm, State.onMon]

/-! ## What the latches of a monitor leave (R380, R383, R389) -/

/-- A monitor but for its latches (R380). -/
def Mon.unlatched (m : Mon) : Mon := { m with event := false, trip := false }

theorem State.onWm_unlatched {n : Fin 8} {f : Mon → Mon} (hf : ∀ m, (f m).unlatched = m.unlatched) (m : Fin 8) (s : State) :
    (s.onWm n f).mon.mons[m].unlatched = s.mon.mons[m].unlatched := by
  by_cases h : m = n
  · subst h
    rw [State.onWm_self, hf]
  · rw [State.onWm_other h]

theorem State.wmAct_mons (n : Fin 8) (s : State) : (s.wmAct n).mon.mons = (s.onWm n (fun m => { m with event := true })).mon.mons := by
  simp [State.wmAct]

theorem State.wmClear_mons (n : Fin 8) (s : State) :
    (s.wmClear n).mon.mons = (s.onWm n (fun m => { m with event := false })).mon.mons := by
  unfold State.wmClear
  dsimp only
  rw [State.queue_mons]
  split <;> rfl

theorem State.relatch_unlatched (n m : Fin 8) (s : State) : (s.relatch n).mon.mons[m].unlatched = s.mon.mons[m].unlatched := by
  have hlatch {f : Mon → Mon} (hf : ∀ m, (f m).unlatched = m.unlatched) (u : State) := State.onWm_unlatched (n := n) hf m u
  have hread {t u : State} (h : t.mon.mons = u.mon.mons) : t.mon.mons[m].unlatched = u.mon.mons[m].unlatched :=
    congrArg (fun v : Vector Mon 8 => v[m].unlatched) h
  unfold State.relatch
  dsimp only
  split
  · exact (hread (State.wmAct_mons ..)).trans ((hlatch (by exact fun _ => rfl) _).trans (hlatch (by exact fun _ => rfl) _))
  · split
    · exact (hread (State.wmClear_mons ..)).trans ((hlatch (by exact fun _ => rfl) _).trans (hlatch (by exact fun _ => rfl) _))
    · exact hlatch (by exact fun _ => rfl) _

/-- What every trip of a generator does (R396, R398). -/
def State.pgTripped (g : Fin 4) (s : State) : State :=
  ((s.onMon (fun m => { m with tripped := m.tripped.set g true })).count .pg (pgCounter g)).wakeEvent

theorem State.pgTripped_facts (g : Fin 4) (s : State) : (s.pgTripped g).mon = { s.mon with tripped := s.mon.tripped.set g true } ∧
    (s.pgTripped g).radio = s.radio ∧ s.keeps [.mon, .pm, .tally] (s.pgTripped g) := by
  refine ⟨by simp [State.pgTripped, State.onMon], by simp [State.pgTripped, State.onMon], ?_⟩
  exact State.keeps_step (State.keeps_step (State.keeps_mono (State.keeps_onMon ..) (by decide)) (State.keeps_count ..))
    (State.keeps_wakeEvent ..)

theorem State.pgFall_idle {g : Fin 4} (h : s.pgInput g = false ∨ s.mon.tripped[g] = true) : s.pgFall g = s :=
  if_pos (by rcases h with h | h <;> simp [h])

theorem State.pgFall_burst (hi : s.pgInput 0 = true) (ht : s.mon.tripped[(0 : Fin 4)] = false) :
    s.pgFall 0 = if (s.radio.tx.map Tx.kind) = some TxKind.burst then (s.pgTripped 0).stopTx else s.pgTripped 0 := by
  have hr : (s.pgTripped 0).radio = s.radio := (s.pgTripped_facts 0).2.1
  refine (if_neg (by rw [hi, ht]; decide)).trans ?_
  change (match (s.pgTripped 0).radio.tx with
    | some tx => if tx.kind = TxKind.burst then (s.pgTripped 0).stopTx else s.pgTripped 0
    | none => s.pgTripped 0) = _
  rw [hr]
  cases s.radio.tx with
  | none => rfl
  | some tx => simp

theorem State.pgFall_pa (hi : s.pgInput 1 = true) (ht : s.mon.tripped[(1 : Fin 4)] = false) :
    s.pgFall 1 = (s.pgTripped 1).tripPa := if_neg (by rw [hi, ht]; decide)

theorem State.pgFall_vaux (hi : s.pgInput 2 = true) (ht : s.mon.tripped[(2 : Fin 4)] = false) :
    s.pgFall 2 = if s.mon.vaux = .off then s.pgTripped 2
      else ((s.pgTripped 2).onMon (fun m => { m with vaux := .off, tripOwed := true })).hostDeaf := by
  refine (if_neg (by rw [hi, ht]; decide)).trans ?_
  have hv : (s.pgTripped 2).mon.vaux = s.mon.vaux := by rw [(s.pgTripped_facts 2).1]
  change (if ((s.pgTripped 2).mon.vaux == .off) = true then _ else _) = _
  rw [hv]
  simp only [beq_iff_eq]
  rfl

theorem State.pgFall_sense (hi : s.pgInput 3 = true) (ht : s.mon.tripped[(3 : Fin 4)] = false) :
    s.pgFall 3 = (s.pgTripped 3).onMon (fun m => { m with pg3At := (s.pgTripped 3).now }) := if_neg (by rw [hi, ht]; decide)

/-- A generator that trips with nothing on the air leaves the monitors (R396, R399). -/
theorem State.pgFall_quiet (g : Fin 4) (hx : s.radio.tx = none) :
    (s.pgFall g).mon.mons = s.mon.mons ∧ (s.pgFall g).radio = s.radio := by
  by_cases hno : s.pgInput g = false ∨ s.mon.tripped[g] = true
  · rw [State.pgFall_idle hno]
    exact ⟨rfl, rfl⟩
  obtain ⟨hi, ht⟩ : s.pgInput g = true ∧ s.mon.tripped[g] = false := by simpa using hno
  obtain ⟨hm, hr, -⟩ := s.pgTripped_facts g
  have hm' : (s.pgTripped g).mon.mons = s.mon.mons := by rw [hm]
  have hcases : g = 0 ∨ g = 1 ∨ g = 2 ∨ g = 3 := by omega
  rcases hcases with rfl | rfl | rfl | rfl
  · rw [State.pgFall_burst hi ht, hx]
    exact ⟨hm', hr⟩
  · have hx' : (s.pgTripped 1).radio.tx = none := by rw [hr, hx]
    have hpa : (s.pgTripped 1).tripPa = s.pgTripped 1 := by rw [State.tripPa, hx']
    rw [State.pgFall_pa hi ht, hpa]
    exact ⟨hm', hr⟩
  · rw [State.pgFall_vaux hi ht]
    split
    · exact ⟨hm', hr⟩
    · exact ⟨by simpa [State.onMon] using hm', by simpa [State.onMon] using hr⟩
  · rw [State.pgFall_sense hi ht]
    exact ⟨hm', hr⟩

theorem State.pgFallAll_quiet (hx : s.radio.tx = none) : s.pgFallAll.mon.mons = s.mon.mons := by
  have hstep (l : List (Fin 4)) (s : State) (hx : s.radio.tx = none) : (s.each l State.pgFall).mon.mons = s.mon.mons := by
    induction l generalizing s with
    | nil => rfl
    | cons g gs ih =>
      obtain ⟨hm, hr⟩ := State.pgFall_quiet g hx
      exact (ih (s.pgFall g) (by rw [hr, hx])).trans hm
  exact hstep _ s hx

end

/-! ## A sample of a monitor (R373 to R379, R394, R395) -/

section

variable {s : State} {n : Fin 8}

/-- Setting a monitor up leaves when its period last began (R375). -/
theorem State.wmSettle_tick (n : Fin 8) (t : Option Ticks) (s : State) :
    (s.onWm n (fun m => { m with tickAt := t })).wmSettle n = (s.wmSettle n).onWm n (fun m => { m with tickAt := t }) := by
  simp only [State.wmSettle, State.wmChanged]
  rw [State.onWm_onWm]
  exact State.onWm_onWm n (fun m : Mon => { m with tickAt := t }) _ (s.fire (.monitor n.val))

/-- The monitor, ready to convert at the tick of its period (R375, R376). -/
def State.wmReady (n : Fin 8) (s : State) : State :=
  ((s.wmSettle n).onWm n (fun m => { m with tickAt := some (s.now - s.exciteTime n) })).fire .sense

/-- The monitor after the conversion and the decision of a sample, before its latches (R377 to R379, R394). -/
def State.wmTaken (n : Fin 8) (code : Nat) (s : State) : State :=
  let y := (s.wmConvert n code true).onWm n (fun m => { m with sampleAt := some s.now })
  if y.mon.mons[n].flag then y else y.wmFeed n (y.wmDecide n code)

theorem exec_monitorSample {code : BitVec 10} (hon : s.monOn = true) (hmode : s.wm Obj.wmMode n ≠ 0) (hdue : s.wmDue n = true)
    (hsam : (s.wmSettle n).wm Obj.wmMode n = 1) (hnear : near2us s.mon.mons[n].convAt s.now = false)
    (hin : (s.wmSettle n).inputOk ((s.wmSettle n).wm Obj.wmInput n) = true)
    (hsense : ((s.wmSettle n).fire .sense).wm Obj.wmInput n ≠ 2) :
    exec (.monitorSample n code) s = .next ((((s.wmReady n).wmTaken n code.toNat).relatch n).pgFallAll) := by
  refine congrArg Host.Outcome.next ?_
  rw [if_neg (by rw [hon, hdue, hnear]; simp [hmode])]
  dsimp only
  rw [State.wmSettle_tick]
  have hw (b : Nat) (f : Mon → Mon) : ((s.wmSettle n).onWm n f).wm b n = (s.wmSettle n).wm b n := rfl
  have hi (f : Mon → Mon) (i : Nat) : ((s.wmSettle n).onWm n f).inputOk i = (s.wmSettle n).inputOk i := rfl
  have hs (f : Mon → Mon) : ((s.wmSettle n).onWm n f).wmSampled n = true := by
    rw [State.wmSampled, hw, hsam]
    rfl
  have hex (f : Mon → Mon) : ((s.wmSettle n).onWm n f).exciteFor n = (true, ((s.wmSettle n).onWm n f).fire .sense) := by
    refine if_neg ?_
    simp only [Bool.and_eq_true, decide_eq_true_eq, not_and]
    exact fun h => absurd h hsense
  rw [hw, if_neg (by rw [hsam]; decide), hw, hi, hin, hs, hex]
  simp only [Bool.not_true, Bool.false_eq_true, if_false, Bool.true_or, if_true, Bool.true_and]
  have hr : ((s.wmSettle n).onWm n (fun m => { m with tickAt := some (s.now - s.exciteTime n) })).fire .sense = s.wmReady n := rfl
  rw [hr]
  generalize s.wmReady n = r
  rfl

theorem State.wmDecide_congr {t : State} {code : Nat} (hp : t.params = s.params) (hq : t.part = s.part) :
    t.wmDecide n code = s.wmDecide n code := by
  unfold State.wmDecide State.wm
  simp only [State.pnat_congr hp hq]

theorem State.wmTaken_facts (n : Fin 8) (code : Nat) (s : State) :
    let m := (s.wmTaken n code).mon.mons[n]
    let m₀ := s.mon.mons[n]
    m.code = code ∧ m.time = some s.stamp ∧ m.tickAt = m₀.tickAt ∧ m.discard = m₀.discard - 1 ∧
      m.flag = decide (0 < m₀.discard) ∧
      m.hist = (if m₀.discard = 0 then (s.wmDecide n code :: m₀.hist).take 7 else m₀.hist) ∧
      s.keeps [.mon, .tally] (s.wmTaken n code) := by
  let f (m : Mon) : Mon := { m with code := code, time := some s.stamp, discard := m.discard - 1, flag := decide (0 < s.mon.mons[n].discard) || !true }
  obtain ⟨v, hv, hvm, hvk⟩ : ∃ v, s.wmConvert n code true = v ∧ v.mon = (s.onWm n f).mon ∧ s.keeps [.mon, .tally] v := by
    refine ⟨_, rfl, ?_⟩
    unfold State.wmConvert
    dsimp only
    split
    · exact ⟨by simp [f], State.keeps_step (State.keeps_mono (State.keeps_onMon ..) (by decide)) (State.keeps_count ..)⟩
    · exact ⟨rfl, State.keeps_mono (State.keeps_onMon ..) (by decide)⟩
  have hread : v.mon.mons[n] = f s.mon.mons[n] := by rw [← State.onWm_self n f s, hvm]
  have hdec (t : Option Ticks) : (v.onWm n (fun m => { m with sampleAt := t })).wmDecide n code = s.wmDecide n code := by
    have hp : v.params = s.params := hvk.2.2.2 .params (by decide)
    exact State.wmDecide_congr hp hvk.2.2.1
  unfold State.wmTaken
  dsimp only
  rw [hv, hdec, State.onWm_self, hread]
  have hflag₀ : (f s.mon.mons[n]).flag = decide (0 < s.mon.mons[n].discard) := Bool.or_false _
  by_cases hd : s.mon.mons[n].discard = 0
  · have hflag : (f s.mon.mons[n]).flag = false := by rw [hflag₀, hd]; rfl
    rw [if_neg (by rw [hflag]; decide), if_pos hd, State.wmFeed, State.onWm_self, State.onWm_self, hread]
    exact ⟨rfl, rfl, rfl, rfl, hflag.trans (by rw [hd]; rfl), rfl,
      State.keeps_step (State.keeps_step hvk (State.keeps_onMon ..)) (State.keeps_onMon ..)⟩
  · have hflag : (f s.mon.mons[n]).flag = true := hflag₀.trans (decide_eq_true (Nat.pos_of_ne_zero hd))
    rw [if_pos hflag, if_neg hd, State.onWm_self, hread]
    exact ⟨rfl, rfl, rfl, rfl, hflag.trans (decide_eq_true (Nat.pos_of_ne_zero hd)).symm, rfl,
      State.keeps_step hvk (State.keeps_onMon ..)⟩

/-- What latches and generators leave of a monitor when nothing is on the air (R380, R396). -/
theorem State.latched_facts (n : Fin 8) (hx : s.radio.tx = none) :
    (s.relatch n).pgFallAll.mon.mons[n].unlatched = s.mon.mons[n].unlatched ∧ (s.relatch n).pgFallAll.time = s.time ∧
      (s.relatch n).pgFallAll.sched = s.sched ∧ (s.relatch n).pgFallAll.image = s.image := by
  have hx' : (s.relatch n).radio.tx = none := by rw [show (s.relatch n).radio = s.radio by simp, hx]
  exact ⟨(congrArg (fun l : Vector Mon 8 => l[n].unlatched) (State.pgFallAll_quiet hx') :).trans (s.relatch_unlatched n n),
    by simp, by simp, by simp⟩

theorem State.wmReady_facts (n : Fin 8) (s : State) :
    (s.wmReady n).mon.mons[n] = { ((s.wmSettle n).fire .sense).mon.mons[n] with tickAt := some (s.now - s.exciteTime n) } ∧
    (∀ code, (s.wmReady n).wmDecide n code = ((s.wmSettle n).fire .sense).wmDecide n code) ∧ (s.wmReady n).stamp = s.stamp ∧
    s.keeps [.mon, .params] (s.wmReady n) := by
  have hk : s.keeps [.mon, .params] (s.wmReady n) :=
    State.keeps_step (State.keeps_step (State.keeps_step (State.keeps_mono (State.keeps_fire ..) (by decide)) (State.keeps_onMon ..))
      (State.keeps_onMon ..)) (State.keeps_fire ..)
  refine ⟨State.onWm_self n (fun m => { m with tickAt := some (s.now - s.exciteTime n) }) (s.wmSettle n),
    fun code => State.wmDecide_congr rfl rfl, ?_, hk⟩
  unfold State.stamp
  rw [show (s.wmReady n).time = s.time from hk.2.2.2 .time (by decide)]

/-- What a sample leaves of its monitor, once latches and generators have followed (R377 to R383, R395, R396). -/
theorem State.sampled_facts {w r : State} {at_ : Option Ticks} (code : Nat) (hr : r.mon.mons[n] = { w.mon.mons[n] with tickAt := at_ })
    (hdec : r.wmDecide n code = w.wmDecide n code) (hstamp : r.stamp = s.stamp) (hk : s.keeps [.mon, .params] r)
    (hx : s.radio.tx = none) : ∃ t, t = ((r.wmTaken n code).relatch n).pgFallAll ∧
      t.mon.mons[n].code = code ∧ t.mon.mons[n].time = some s.stamp ∧ t.mon.mons[n].tickAt = at_ ∧
      t.mon.mons[n].discard = w.mon.mons[n].discard - 1 ∧ t.mon.mons[n].flag = decide (0 < w.mon.mons[n].discard) ∧
      t.mon.mons[n].hist = (if w.mon.mons[n].discard = 0 then (w.wmDecide n code :: w.mon.mons[n].hist).take 7
        else w.mon.mons[n].hist) ∧ t.time = s.time ∧ t.sched = s.sched ∧ t.image = s.image := by
  obtain ⟨h1, h2, h3, h4, h5, h6, hk'⟩ := r.wmTaken_facts n code
  obtain ⟨-, -, -, hsame⟩ := State.keeps_step (but := [.mon, .params, .tally]) (State.keeps_mono hk (by decide)) hk'
  generalize r.wmTaken n code = v at *
  have hvx : v.radio.tx = none := by rw [show v.radio = s.radio from hsame .radio (by decide), hx]
  obtain ⟨hm, htime, hsched, himage⟩ := State.latched_facts n hvx
  generalize (v.relatch n).pgFallAll = t at *
  rw [hr] at h3 h4 h5 h6
  rw [hdec] at h6
  rw [hstamp] at h2
  refine ⟨t, rfl, (congrArg Mon.code hm :).trans h1, (congrArg Mon.time hm :).trans h2,
    (congrArg Mon.tickAt hm :).trans h3, (congrArg Mon.discard hm :).trans h4, (congrArg Mon.flag hm :).trans h5,
    (congrArg Mon.hist hm :).trans h6, htime.trans (hsame .time (by decide)), hsched.trans (hsame .sched (by decide)),
    himage.trans (hsame .image (by decide))⟩

end

/-! ## Commands about monitors, and their latches (R380, R389, R394) -/

section

variable {h : Hdr} {s : State}

theorem wmNumber_of {n : Int} (h0 : 0 ≤ n) (h7 : n ≤ 7) : wmNumber n = some (Fin.ofNat 8 n.toNat) :=
  if_pos (inRange_iff.mpr ⟨h0, h7⟩)

theorem exec_doWmRead {n : Int} {k : Fin 8} (hj : s.judges h) (ha : (s.heard h).allowed .operator = true) (hn : wmNumber n = some k) :
    exec (.doWmRead h n) s = .next ((s.heard h).reply h [(s.heard h).wmLine k]) := by
  refine congrArg Host.Outcome.next ((State.report_judged 536 .operator _ hj).trans ?_)
  rw [needs_allowed ha, hn]
  rfl

theorem exec_doWmConv {n : Int} {k : Fin 8} {code : BitVec 10} (hj : s.judges h) (ha : (s.heard h).allowed .operator = true)
    (hn : wmNumber n = some k) : exec (.doWmConv h n code) s =
      .next (((s.heard h).conv k code.toNat).reply h [((s.heard h).conv k code.toNat).wmLine k]) := by
  refine congrArg Host.Outcome.next ((State.report_judged 537 .operator _ hj).trans ?_)
  rw [needs_allowed ha, hn]
  rfl

theorem exec_doWmClear {n : Int} {k : Fin 8} (hj : s.judgesAtOnce h) (ha : (s.heard h).allowed .operator = true)
    (hn : wmNumber n = some k) : exec (.doWmClear h n) s =
      let a := if (s.acting h).wm Obj.wmLatch k = 2 then (s.acting h).unlatch k else s.acting h
      .next (s.did h 538 [a.wmLine k] a) := by
  refine congrArg Host.Outcome.next ((State.change_judged _ .do_ true _ hj (fun _ => rfl)).trans ?_)
  rw [runDoWmClear, actionRun_heard, needs_allowed ((State.acting_allowed h s .operator).trans ha), hn]
  rfl

/-- What clearing the latches of a monitor does (R380, R383, R389). -/
theorem State.unlatch_facts (n : Fin 8) (s : State) :
    (s.filterOut n = false → (s.unlatch n).mon.mons[n].event = false) ∧
    (s.tripSource n = false → (s.unlatch n).mon.mons[n].trip = false) ∧
    (s.filterOut n = true → (s.unlatch n).mon.mons[n].event = s.mon.mons[n].event) ∧
    (∀ m, m ≠ n → (s.unlatch n).mon.mons[m] = s.mon.mons[m]) ∧ s.keeps [.mon, .line, .pm, .params, .tally] (s.unlatch n) := by
  have hk : s.keeps [.mon, .line, .pm, .params, .tally] (s.unlatch n) := by
    refine ⟨by simp, by simp, by simp, fun g hg => ?_⟩
    cases g <;> simp [State.same] at hg ⊢
  obtain ⟨u, hu, hun, huo, hut, huf⟩ : ∃ u, u = (if s.tripSource n then s else s.onWm n (fun m => { m with trip := false })) ∧
      u.mon.mons[n].event = s.mon.mons[n].event ∧ (∀ m, m ≠ n → u.mon.mons[m] = s.mon.mons[m]) ∧
      (s.tripSource n = false → u.mon.mons[n].trip = false) ∧ u.filterOut n = s.filterOut n := by
    refine ⟨_, rfl, ?_⟩
    split
    · next ht => exact ⟨rfl, fun _ _ => rfl, fun hf => by simp [hf] at ht, rfl⟩
    · refine ⟨by rw [State.onWm_self], fun m hm => State.onWm_other hm .., fun _ => by rw [State.onWm_self], ?_⟩
      unfold State.filterOut
      rw [State.onWm_self]
      rfl
  have he : s.unlatch n = if s.mon.mons[n].event && !s.filterOut n then u.wmClear n else u := by
    rw [hu, ← huf, hu]
    rfl
  have hread (m : Fin 8) : (u.wmClear n).mon.mons[m] = (u.onWm n (fun m => { m with event := false })).mon.mons[m] :=
    congrArg (fun l : Vector Mon 8 => l[m]) (State.wmClear_mons n u)
  refine ⟨fun hf => ?_, fun ht => ?_, fun hf => ?_, fun m hm => ?_, hk⟩
  · rw [he, hf]
    cases hev : s.mon.mons[n].event with
    | true => exact (congrArg Mon.event (hread n) :).trans (by rw [State.onWm_self])
    | false => exact hun.trans hev
  · rw [he]
    split
    · rw [hread, State.onWm_self]
      exact hut ht
    · exact hut ht
  · rw [he, hf]
    simpa using hun
  · rw [he]
    split
    · rw [hread, State.onWm_other hm]
      exact huo m hm
    · exact huo m hm

/-- Settles O50: a sample (`exec_monitorSample`, `State.sampled_facts`), the commands and the latches
(`State.unlatch_facts`). -/
theorem monitorsDecide : Obligations.MonitorsDecide := by
  refine ⟨fun n code s hon hmode hdue hsam hnear hx hin => ?_, fun n code s => ?_, fun h n s hj ha h0 h7 => ?_, fun n code s hd => ?_,
    fun h n s hj ha h0 h7 => ?_, fun n b s hon => ⟨fun hc hm => ?_, fun hl hg => ?_⟩⟩
  · intro w hsense
    obtain ⟨hr, hdec, hstamp, hk⟩ := s.wmReady_facts n
    obtain ⟨t, ht, hf⟩ := State.sampled_facts code.toNat hr (hdec _) hstamp hk hx
    exact ⟨t, (exec_monitorSample hon hmode hdue hsam hnear hin hsense).trans (congrArg Host.Outcome.next ht.symm), hf⟩
  · unfold State.wmDecide
    by_cases h0 : s.wm Obj.wmSense n = 0
    · simp [h0]
    · rw [beq_false_of_ne h0]
      simp [h0]
  · have hn := wmNumber_of h0 h7
    exact ⟨exec_doWmRead hj ha hn, fun code => exec_doWmConv hj ha hn⟩
  · exact congrArg Host.Outcome.next (if_pos (by simp [hd]))
  · have he := exec_doWmClear hj ha (wmNumber_of h0 h7)
    refine ⟨fun hl => ?_, fun hl => ?_⟩
    · rw [he, if_pos hl]
    · rw [he, if_neg hl]
  · exact congrArg Host.Outcome.next (if_pos (by simpa [hon, hc] using hm))
  · exact ⟨_, congrArg Host.Outcome.next (if_pos (by simp [hon, hl, hg])), s.unlatch_facts n⟩

end

end Sys2Proof.Machine

/-!
Proofs about pulse generators, VAUX and the early warning.
-/

namespace Sys2Proof.Machine

/-! ## Generators trip (R396 to R401) -/

section

variable {s : State}

/-- What a generator's input is does not rest on what else the monitors' state holds (R397). -/
theorem State.pgInput_onMon {f : Mons → Mons} (hm : ∀ m, (f m).mons = m.mons) (hc : ∀ m, (f m).coexLoss = m.coexLoss)
    (hv : ∀ m, (f m).vaux = m.vaux) (g : Fin 4) (s : State) : (s.onMon f).pgInput g = s.pgInput g := by
  have hin (i : Nat) : (s.onMon f).inputOk i = s.inputOk i := by
    unfold State.inputOk
    rw [show (s.onMon f).mon.vaux = s.mon.vaux from hv _]
    rfl
  have hwm (b : Nat) (n : Fin 8) : (s.onMon f).wm b n = s.wm b n := rfl
  have hcmp (n : Fin 8) : (s.onMon f).comparatorOn n = s.comparatorOn n := by
    unfold State.comparatorOn
    rw [hwm, hwm, hin]
    rfl
  have hmon (n : Fin 8) : (s.onMon f).mon.mons[n] = s.mon.mons[n] := congrArg (fun l : Vector Mon 8 => l[n]) (hm s.mon)
  have hfilter (n : Fin 8) : (s.onMon f).filterOut n = s.filterOut n := by
    unfold State.filterOut
    rw [hmon]
    rfl
  have htrip (n : Fin 8) : (s.onMon f).tripOut n = s.tripOut n := by
    unfold State.tripOut State.tripSource
    rw [hwm, hwm, hcmp, hfilter, hmon]
  unfold State.pgInput
  simp only [htrip, show (s.onMon f).mon.coexLoss = s.mon.coexLoss from hc _]
  rfl

/-- A trip of a generator leaves whether the one of the PA is by reflection (R399). -/
theorem State.pgTripped_reflected (g : Fin 4) (s : State) : (s.pgTripped g).reflected = s.reflected := by
  obtain ⟨hm, hr, hk⟩ := s.pgTripped_facts g
  have hp : (s.pgTripped g).params = s.params := hk.2.2.2 .params (by decide)
  have hnat (obj : Nat) : (s.pgTripped g).pnat obj = s.pnat obj := State.pnat_congr hp hk.2.2.1 obj
  have hwm (b : Nat) (n : Fin 8) : (s.pgTripped g).wm b n = s.wm b n := hnat _
  have hmon (n : Fin 8) : (s.pgTripped g).mon.mons[n] = s.mon.mons[n] := by rw [hm]
  have hfilter (n : Fin 8) : (s.pgTripped g).filterOut n = s.filterOut n := by
    unfold State.filterOut
    rw [hmon, State.pval_congr hp hk.2.2.1]
  have htrip (n : Fin 8) (h5 : s.wm Obj.wmInput n = 5) : (s.pgTripped g).tripOut n = s.tripOut n := by
    have hcmp : (s.pgTripped g).comparatorOn n = s.comparatorOn n := by
      have hin : (s.pgTripped g).inputOk 5 = s.inputOk 5 := congrArg Radio.paOn hr
      unfold State.comparatorOn
      rw [hwm, hwm, h5, hin, hr]
    unfold State.tripOut State.tripSource
    rw [hwm, hwm, hcmp, hfilter, hmon]
  unfold State.reflected
  congr 1
  funext n
  rw [hnat, hwm]
  by_cases h5 : s.wm Obj.wmInput n = 5
  · rw [htrip n h5]
  · rw [beq_false_of_ne h5, Bool.and_false, Bool.and_false]

theorem exec_pgTrip_quiet {g : Fin 4} (hi : s.pgInput g = true) (ht : s.mon.tripped[g] = false) (hx : s.radio.tx = none) (h2 : g ≠ 2) :
    ∃ t, exec (.pgTrip g) s = .next t ∧ t.mon.tripped[g] = true ∧ (g = 3 → t.mon.pg3At = s.now) ∧ s.keeps [.mon, .pm, .tally] t := by
  obtain ⟨hm, hr, hk⟩ := s.pgTripped_facts g
  have hset : (s.pgTripped g).mon.tripped[g] = true := by rw [hm]; simp
  have hcases : g = 0 ∨ g = 1 ∨ g = 3 := by omega
  rcases hcases with rfl | rfl | rfl
  · refine ⟨_, congrArg Host.Outcome.next (State.pgFall_burst hi ht), ?_⟩
    rw [hx]
    exact ⟨hset, fun h => absurd h (by decide), hk⟩
  · have hpa : (s.pgTripped 1).tripPa = s.pgTripped 1 := by rw [State.tripPa, hr, hx]
    refine ⟨_, congrArg Host.Outcome.next (State.pgFall_pa hi ht), ?_⟩
    rw [hpa]
    exact ⟨hset, fun h => absurd h (by decide), hk⟩
  · exact ⟨_, congrArg Host.Outcome.next (State.pgFall_sense hi ht), hset, fun _ => hk.2.1,
      State.keeps_step hk (State.keeps_onMon ..)⟩

theorem exec_pgTrip_stops {g : Fin 4} {tx : Tx} (hi : s.pgInput g = true) (ht : s.mon.tripped[g] = false) (hx : s.radio.tx = some tx)
    (hg : g = 0 ∧ tx.kind = .burst ∨ g = 1 ∧ s.reflected = false) : exec (.pgTrip g) s = .next (s.pgTripped g).stopTx := by
  rcases hg with ⟨rfl, hk⟩ | ⟨rfl, hrefl⟩
  · refine congrArg Host.Outcome.next ((State.pgFall_burst hi ht).trans ?_)
    rw [hx]
    exact if_pos (congrArg some hk)
  · refine congrArg Host.Outcome.next ((State.pgFall_pa hi ht).trans ?_)
    rw [State.tripPa, (s.pgTripped_facts 1).2.1, hx, State.pgTripped_reflected, hrefl]
    rfl

theorem State.keeps_hostDeaf (s : State) : s.keeps [.line] s.hostDeaf := by
  unfold State.hostDeaf
  split
  · exact State.keeps_onLine ..
  · exact s.keeps_refl _

theorem exec_pgTrip_vaux (hi : s.pgInput 2 = true) (ht : s.mon.tripped[(2 : Fin 4)] = false) : ∃ t, exec (.pgTrip 2) s = .next t ∧
    t.mon.tripped[(2 : Fin 4)] = true ∧ t.mon.vaux = .off ∧ (s.mon.vaux ≠ .off → t.mon.tripOwed = true) ∧
    s.keeps [.mon, .pm, .tally, .line] t := by
  obtain ⟨hm, -, hk⟩ := s.pgTripped_facts 2
  have hset : (s.pgTripped 2).mon.tripped[(2 : Fin 4)] = true := by rw [hm]; simp
  by_cases hv : s.mon.vaux = .off
  · refine ⟨_, congrArg Host.Outcome.next ((State.pgFall_vaux hi ht).trans (if_pos hv)), hset, by rw [hm]; exact hv, fun h => absurd hv h,
      State.keeps_mono hk (by decide)⟩
  · have hd (u : State) : u.hostDeaf.mon = u.mon := by simp
    refine ⟨_, congrArg Host.Outcome.next ((State.pgFall_vaux hi ht).trans (if_neg hv)), ?_, ?_, fun _ => ?_,
      State.keeps_step (State.keeps_step (State.keeps_mono hk (by decide)) (State.keeps_onMon ..)) (State.keeps_hostDeaf _)⟩
    all_goals rw [hd]
    · exact hset
    · rfl
    · rfl

/-! ## The early warning (R34, R400, R456) -/

theorem State.stopTx_none (hx : s.radio.tx = none) : s.stopTx = s := if_neg (by simp [hx])

theorem State.moveRadio_tx (s : State) : s.moveRadio.radio.tx = s.radio.tx := (congrArg Radio.tx s.moveRadio_still :)

theorem State.resume_tx (s : State) : s.resume.radio.tx = s.radio.tx := by
  have hgo (tx : Tx) (u : State) : (u.transmit tx).radio.tx = u.radio.tx := by
    unfold State.transmit
    dsimp only
    split
    · simp [State.onRadio]
    · rw [State.goTx, State.moveRadio_tx]
      simp [State.onRadio]
  unfold State.resume
  split
  · split
    · exact hgo ..
    · rfl
  · rfl

/-- Nothing is on the air once transmission is stopped (R34). -/
theorem State.stopTx_tx (s : State) : s.stopTx.radio.tx = none := by
  unfold State.stopTx
  split
  · rw [State.resume_tx, State.moveRadio_tx, State.cutTx_tx]
  · next h => simpa using h

theorem State.startFlush_facts (latest : Ticks) (hf : s.store.flush = none) :
    (s.startFlush latest).store.flush = some latest ∧ s.keeps [.store, .params] (s.startFlush latest) := by
  have he : s.startFlush latest = (s.each (s.wake.queue.filter (fun r => !r.isOpen)) (fun r s => s.ledgerAt r.stamp (.wake r))).onStore
      (fun c => { c with flush := some latest, flushOwed := none }) := if_neg (by simp [hf])
  rw [he]
  exact ⟨rfl, State.keeps_step (State.keeps_each (fun r s => State.keeps_ledgerAt ..) _ s) (State.keeps_onStore ..)⟩

theorem exec_earlyWarning (hon : s.monOn = true) (he : s.mon.mons[0].event = true) (hw : s.mon.warning = false) :
    let a := s.onMon (fun m => { m with warning := true })
    (s.ccOn = true → exec .earlyWarning s = .next (a.stopTx.startFlush (s.now + ms 5))) ∧
    (s.ccOn = false → s.pm.power = .larder →
      exec .earlyWarning s = .next (a.onStore (fun c => { c with flushOwed := some (s.now + ms 5) }))) := by
  have hgo : ¬ (!s.monOn || !s.mon.mons[0].event || s.mon.warning) = true := by rw [hon, he, hw]; decide
  refine ⟨fun hc => ?_, fun hc hp => ?_⟩
  · exact congrArg Host.Outcome.next ((if_neg hgo).trans (if_pos hc))
  · refine congrArg Host.Outcome.next ((if_neg hgo).trans ((if_neg ?_).trans (if_pos ?_)))
    · rw [show (s.onMon (fun m => { m with warning := true })).ccOn = s.ccOn from rfl, hc]
      decide
    · rw [show (s.onMon (fun m => { m with warning := true })).pm.power = s.pm.power from rfl, hp]
      rfl

end

/-! ## VAUX trips, ramps up and is switched (R396, R402, R403) -/

section

variable {h : Hdr} {s : State}

theorem exec_vauxTrip (ht : s.mon.tripOwed = true) (ho : s.mon.onOwed = none) :
    exec .vauxTrip s = .next (s.vauxTripped s.vauxCode) := by
  have hnone : (s.vauxTripped s.vauxCode).mon.onOwed = none := by
    unfold State.vauxTripped
    dsimp only
    rw [apply_ite (fun s : State => s.mon.onOwed)]
    simp [State.onMon, ho]
  refine congrArg Host.Outcome.next ((if_pos ht).trans ?_)
  rw [State.vauxAnswer, hnone]

/-- The trips of the run, with the present one (R403). -/
def State.runTripsNow (s : State) : Nat :=
  if s.mon.runTrips = 0 ∨ s.mon.runFrom + secs 60 < s.now then 1 else s.mon.runTrips + 1

theorem State.vauxTripped_facts (code : Nat) (s : State) :
    (s.vauxTripped code).mon.vaux = .off ∧ (s.vauxTripped code).mon.tripOwed = false ∧
    (s.vauxTripped code).mon.runTrips = s.runTripsNow ∧
    (s.runTripsNow < 3 → (s.vauxTripped code).mon.retryAt = some (s.now + secs 1) ∧
      (s.vauxTripped code).mon.lockout = s.mon.lockout) ∧
    (3 ≤ s.runTripsNow → (s.vauxTripped code).mon.lockout = true ∧ (s.vauxTripped code).mon.retryAt = none) := by
  obtain ⟨a, ha, hv, ho, hr, hl, han⟩ : ∃ a : State, s.vauxTripped code = (if 3 ≤ s.runTripsNow then
      ((a.onMon (fun m => { m with lockout := true, retryAt := none })).count .pg "vaux.lockout").pushEv .vauxOff
      else a.onMon (fun m => { m with retryAt := some (a.now + secs 1) })) ∧ a.mon.vaux = .off ∧ a.mon.tripOwed = false ∧
      a.mon.runTrips = s.runTripsNow ∧ a.mon.lockout = s.mon.lockout ∧ a.now = s.now := by
    have hn : ∀ u : State, u.mon = s.mon → u.now = s.now →
        (if (decide (u.mon.runTrips = 0) || decide (u.mon.runFrom + secs 60 < u.now)) = true then 1 else u.mon.runTrips + 1) =
          s.runTripsNow := by
      intro u hm hnow
      rw [hm, hnow]
      simp only [Bool.or_eq_true, decide_eq_true_eq]
      rfl
    have hu : ((s.count .pg "vaux.trip").pushEv (.vauxTrip code)).mon = s.mon ∧
        ((s.count .pg "vaux.trip").pushEv (.vauxTrip code)).now = s.now := by simp
    unfold State.vauxTripped
    dsimp only
    rw [hn _ hu.1 hu.2]
    refine ⟨_, rfl, ?_⟩
    simp [State.onMon]
  rw [ha]
  split
  · next h3 => simp [State.onMon, hv, ho, hr, Nat.not_lt.mpr h3]
  · next h3 => simp [State.onMon, hv, ho, hr, hl, han, h3]

theorem State.vauxAttempt_goes (hp : (s.fire .vauxOn).pgInput 2 = false) : ∃ at_, s.vauxAttempt =
    (((s.fire .vauxOn).onMon (fun m => { m with retryAt := none, tripped := m.tripped.set (2 : Fin 4) false, vaux := .ramp at_ }))) := by
  have hp' : ((s.fire .vauxOn).onMon (fun m => { m with retryAt := none })).pgInput 2 = false :=
    (State.pgInput_onMon (fun _ => rfl) (fun _ => rfl) (fun _ => rfl) ..).trans hp
  unfold State.vauxAttempt
  dsimp only
  rw [State.pgAsk_ok hp']
  exact ⟨_, rfl⟩

theorem exec_vauxRetry {t₀ : Ticks} (hr : s.mon.retryAt = some t₀) (ht : t₀ ≤ s.now) (hrun : s.running = true)
    (hp : s.pm.power ≠ .shelf) (hv : s.mon.vaux = .off) : exec .vauxRetry s = .next s.vauxAttempt := by
  refine congrArg Host.Outcome.next ?_
  rw [hr]
  exact if_pos (by simp [hrun, hp, hv, ht])

theorem exec_vauxRampEnd {t₀ : Ticks} (hv : s.mon.vaux = .ramp t₀) (ht : t₀ + us 100 ≤ s.now) :
    exec .vauxRampEnd s = .next ((s.onMon (fun m => { m with vaux := .on })).vauxAnswer none "on") := by
  refine congrArg Host.Outcome.next ?_
  rw [hv]
  exact if_pos ht

/-- A `DO vaux on` that waits is answered (R402). -/
theorem State.vauxAnswer_on {o : Origin} {b : Bool} (ho : s.mon.onOwed = some (h, o, b)) :
    s.vauxAnswer none "on" = ((s.onMon (fun m => { m with onOwed := none })).audit o 4 539 0 (.num (bit b)) (.num 1)).reply h
      [.word "on"] := by
  rw [State.vauxAnswer, ho]
  rfl

theorem exec_doVaux {on : Bool} (hj : s.judgesAtOnce h) :
    exec (.doVaux h on) s = .next (State.finish ((s.heard h).lineOrigin h) h .do_ (runDoVaux h on (s.heard h))) :=
  congrArg Host.Outcome.next (State.change_judged _ .do_ true _ hj (fun _ => rfl))

theorem vauxAud_eq (b on : Bool) : vauxAud b on = ⟨4, 539, .num (if b then 1 else 0), .num (if on then 1 else 0)⟩ := by
  cases b <;> cases on <;> rfl

theorem exec_doVaux_on (hj : s.judgesAtOnce h) (ha : (s.heard h).allowed .operator = true) (hv : (s.heard h).mon.vaux = .on)
    (ht : (s.heard h).mon.tripOwed = false) (hl : (s.heard h).mon.lockout = false) : exec (.doVaux h true) s =
      .next (s.didAs h (vauxAud (s.heard h).mon.wanted true) [.word "on"] ((s.heard h).onMon (fun m => { m with wanted := true }))) := by
  rw [exec_doVaux hj, runDoVaux, needs_allowed ha]
  generalize hu : s.heard h = u at *
  simp only [if_true, ht, hl, Bool.false_eq_true, if_false]
  rw [show (u.onMon (fun m => { m with wanted := true })).mon.vaux = .on from hv, State.didAs, hu]
  rfl

/-- VAUX is asked for and ramps up: nothing is answered yet (R402). -/
theorem exec_doVaux_ramps (hj : s.judgesAtOnce h) (ha : (s.heard h).allowed .operator = true) (hv : (s.heard h).mon.vaux = .off)
    (ht : (s.heard h).mon.tripOwed = false) (hg : ((s.heard h).fire .vauxOn).pgInput 2 = false) :
    ∃ t, exec (.doVaux h true) s = .next t ∧ (h.addr ≠ some 0 → t.line.tx = []) ∧ (∃ at_, t.mon.vaux = .ramp at_) ∧
      t.mon.wanted = true ∧ t.mon.lockout = false ∧ (∃ o b, t.mon.onOwed = some (h, o, b)) ∧
      (s.heard h).keeps [.mon, .line, .params] t := by
  have hc : (s.heard h).noCheck h = false := hj.1.2.2
  rw [exec_doVaux hj, runDoVaux, needs_allowed ha]
  generalize s.heard h = u at *
  simp only [if_true, ht, Bool.false_eq_true, if_false]
  obtain ⟨a, hacc, hal, hav, hap, hak, hac⟩ : ∃ a : State, a = (if u.mon.lockout then u.onMon (fun m => { m with lockout := false, runTrips := 0 }) else u) ∧
      a.mon.lockout = false ∧ a.mon.vaux = .off ∧ ((a.onMon (fun m => { m with wanted := true })).fire .vauxOn).pgInput 2 = false ∧
      u.keeps [.mon] a ∧ a.params = u.params := by
    have hpg {f : Mons → Mons} (hm : ∀ m, (f m).mons = m.mons) (hc : ∀ m, (f m).coexLoss = m.coexLoss)
        (hv : ∀ m, (f m).vaux = m.vaux) : ((u.onMon f).fire .vauxOn).pgInput 2 = false :=
      (State.pgInput_onMon (s := u.fire .vauxOn) hm hc hv ..).trans hg
    refine ⟨_, rfl, ?_⟩
    split
    · exact ⟨rfl, hv, hpg (f := fun m => { m with lockout := false, runTrips := 0, wanted := true }) (fun _ => rfl) (fun _ => rfl)
        (fun _ => rfl), State.keeps_onMon .., rfl⟩
    · next hl =>
      exact ⟨by simpa using hl, hv, hpg (f := fun m => { m with wanted := true }) (fun _ => rfl) (fun _ => rfl) (fun _ => rfl),
        u.keeps_refl _, rfl⟩
  rw [← hacc]
  clear hacc
  obtain ⟨at_, hat⟩ := State.vauxAttempt_goes hap
  rw [show (a.onMon (fun m => { m with wanted := true })).mon.vaux = .off from hav]
  dsimp only
  rw [hat]
  have hck : State.noCheck h (a.fire .vauxOn) = false := by
    rw [← hc, State.noCheck, State.noCheck, State.pnat_fire a (by decide), State.pnat_congr hac hak.2.2.1]
  obtain ⟨v, hve, hvv, hvw, hvl, hvc, hvk⟩ : ∃ v : State, v = ((a.onMon (fun m => { m with wanted := true })).fire .vauxOn).onMon (fun m =>
        { m with retryAt := none, tripped := m.tripped.set (2 : Fin 4) false, vaux := .ramp at_ }) ∧
      v.mon.vaux = .ramp at_ ∧ v.mon.wanted = true ∧ v.mon.lockout = false ∧ v.noCheck h = false ∧ u.keeps [.mon, .params] v := by
    refine ⟨_, rfl, rfl, rfl, hal, hck, State.keeps_step (State.keeps_step (State.keeps_step (State.keeps_mono hak (by decide))
      (State.keeps_onMon ..)) (State.keeps_fire ..)) (State.keeps_onMon ..)⟩
  rw [← hve]
  clear hve
  have hramp : ¬ (v.mon.vaux == .off) = true := by rw [hvv]; simp
  rw [if_neg hramp, State.lateAudit, hvc]
  refine ⟨_, rfl, fun h0 => State.reply_nothing h0 _, ?_⟩
  rw [if_neg Bool.false_ne_true, State.finish_good]
  refine ⟨⟨at_, ?_⟩, ?_, ?_, ⟨v.lineOrigin h, u.mon.wanted, ?_⟩, State.keeps_step (State.keeps_step (State.keeps_mono hvk (by decide))
    (State.keeps_onMon ..)) (State.keeps_reply ..)⟩ <;> simp [State.onMon, hvv, hvw, hvl]

theorem exec_doVaux_off (hj : s.judgesAtOnce h) (ha : (s.heard h).allowed .operator = true) (ho : (s.heard h).mon.onOwed = none) :
    exec (.doVaux h false) s = .next (s.didAs h (vauxAud (s.heard h).mon.wanted false) [.word "off"]
      ((s.heard h).onMon (fun m => { m with tripOwed := false })).vauxOff) := by
  rw [exec_doVaux hj, runDoVaux, needs_allowed ha]
  generalize hu : s.heard h = u at *
  simp only [Bool.false_eq_true, if_false]
  have hans : (u.onMon (fun m => { m with tripOwed := false })).vauxAnswer none "off" = u.onMon (fun m => { m with tripOwed := false }) := by
    rw [State.vauxAnswer]
    rw [show (u.onMon (fun m => { m with tripOwed := false })).mon.onOwed = none from ho]
  rw [hans, ho]
  rw [State.didAs, hu]
  rfl

/-- Settles O51: generators (`State.pgFall_burst` and its kin), the early warning, and VAUX
(`State.vauxTripped_facts`, `State.vauxAttempt_goes`, `State.vauxAnswer_on`). -/
theorem pulsesAndVaux : Obligations.PulsesAndVaux := by
  refine ⟨fun g s hi ht => ⟨fun hx h2 => exec_pgTrip_quiet hi ht hx h2, fun tx hx hg => exec_pgTrip_stops hi ht hx hg, ?_⟩,
    fun s hon he hw => ?_, fun s ht ho => ⟨exec_vauxTrip ht ho, s.vauxTripped_facts _⟩, fun t₀ s hr ht hrun hp hv hg => ?_,
    fun t₀ s hv ht => ⟨fun ho => ?_, fun h o b ho => ?_⟩, fun h s hj ha => ⟨fun hv ht hl => ?_, fun hv ht hg => ?_, fun ho => ?_⟩⟩
  · rintro rfl
    exact exec_pgTrip_vaux hi ht
  · obtain ⟨hcc, hlarder⟩ := exec_earlyWarning hon he hw
    obtain ⟨t, ht⟩ : ∃ t, exec .earlyWarning s = .next t := ⟨_, rfl⟩
    have hflush (u : State) (latest : Ticks) : (u.startFlush latest).radio = u.radio ∧ (u.startFlush latest).mon = u.mon := by simp
    refine ⟨t, ht, fun hc hx hf => ?_, fun hc => ?_, fun hc hp => ?_⟩
    · obtain rfl := Host.Outcome.next.inj (ht.symm.trans (hcc hc))
      rw [State.stopTx_none (s := s.onMon _) hx]
      obtain ⟨hf', hk⟩ := State.startFlush_facts (s := s.onMon (fun m => { m with warning := true })) (s.now + ms 5) hf
      exact ⟨(congrArg Mons.warning (hflush _ _).2 :), hf', State.keeps_step (State.keeps_mono (State.keeps_onMon ..) (by decide)) hk⟩
    · obtain rfl := Host.Outcome.next.inj (ht.symm.trans (hcc hc))
      rw [(hflush _ _).1, State.stopTx_tx]
    · obtain rfl := Host.Outcome.next.inj (ht.symm.trans (hlarder hc hp))
      exact ⟨rfl, rfl, State.keeps_step (State.keeps_mono (State.keeps_onMon ..) (by decide)) (State.keeps_onStore ..)⟩
  · obtain ⟨at_, hat⟩ := State.vauxAttempt_goes hg
    refine ⟨_, exec_vauxRetry hr ht hrun hp hv, ?_⟩
    rw [hat]
    exact ⟨rfl, ⟨at_, rfl⟩, by simp [State.onMon], State.keeps_step (State.keeps_mono (State.keeps_fire ..) (by decide)) (State.keeps_onMon ..)⟩
  · rw [exec_vauxRampEnd hv ht, State.vauxAnswer]
    rw [show (s.onMon (fun m => { m with vaux := .on })).mon.onOwed = none from ho]
  · have ho' : (s.onMon (fun m => { m with vaux := .on })).mon.onOwed = some (h, o, b) := ho
    rw [exec_vauxRampEnd hv ht, State.vauxAnswer_on ho']
    refine ⟨_, rfl, ?_, ?_, fun h0 => State.reply_tx _ h0 (List.cons_ne_nil _ _), State.keeps_step (State.keeps_step
      (State.keeps_step (State.keeps_mono (State.keeps_onMon ..) (by decide)) (State.keeps_onMon ..)) (State.keeps_audit ..))
      (State.keeps_reply ..)⟩ <;> simp [State.onMon]
  · exact (exec_doVaux_on hj ha hv ht hl).trans (by rw [vauxAud_eq])
  · exact exec_doVaux_ramps hj ha hv ht hg
  · refine ⟨_, exec_doVaux_off hj ha ho, fun h0 => State.reply_tx _ h0 (List.cons_ne_nil _ _), ?_, ?_, ?_, State.keeps_step
      (State.keeps_step (State.keeps_step (State.keeps_step (State.keeps_mono (State.keeps_onMon ..) (by decide))
        (State.keeps_onMon ..)) (State.keeps_hostDeaf _)) (State.keeps_audit ..)) (State.keeps_reply ..)⟩ <;>
      simp [State.didAs, State.vauxOff, State.onMon]

end

end Sys2Proof.Machine

/-!
Proofs about the fault model.
-/

namespace Sys2Proof.Machine

/-! ## Resources, as they read after a change (R486, R490, R491) -/

section

variable {h : Hdr} {s : State}

theorem State.res_onRes_other {id x : ResId} {f : Res → Res} (hf : ∀ r, (f r).id = r.id) (hx : x ≠ id) (s : State) :
    (s.onRes id f).res x = s.res x := by
  obtain ⟨r, hr⟩ : ∃ r, f (s.res id) = r := ⟨_, rfl⟩
  have hid : r.id = id := by rw [← hr, hf, State.res_id]
  have hfind : (putRes r s.faults).find? (fun y => y.id == x) = s.faults.find? (fun y => y.id == x) := by
    have hkeep : (s.faults.filter (fun y => y.id ≠ r.id)).find? (fun y => y.id == x) = s.faults.find? (fun y => y.id == x) := by
      rw [List.find?_filter]
      congr 1
      funext y
      by_cases hy : y.id = x
      · simp [hy, hid, hx]
      · simp [hy]
    unfold putRes
    dsimp only
    split
    · exact hkeep
    · rw [List.find?_append, hkeep]
      simp [hid, Ne.symm hx]
  have hfaults : (s.onRes id f).faults = putRes r s.faults := by rw [← hr]; rfl
  unfold State.res
  rw [hfaults, hfind]

theorem State.res_retire {id : ResId} (o : Origin) (cause : Nat) (hr : (s.res id).retired = false) :
    (s.retire o id cause).faults = (s.onRes id (Res.retiredBy cause)).faults := by
  unfold State.retire
  rw [if_neg (by simp [hr])]
  simp
  rfl

theorem State.retire_facts {id : ResId} (o : Origin) (cause : Nat) (hr : (s.res id).retired = false) :
    ((s.retire o id cause).res id).retired = true ∧ ((s.retire o id cause).res id).cause = cause ∧
    ((s.retire o id cause).res id).resting = false ∧ (∀ x, x ≠ id → (s.retire o id cause).res x = s.res x) := by
  have hself : (s.retire o id cause).res id = Res.retiredBy cause (s.res id) := by
    rw [State.res_congr (State.res_retire o cause hr), State.res_onRes (by exact fun _ => rfl)]
  refine ⟨by rw [hself]; rfl, by rw [hself]; rfl, by rw [hself]; rfl, fun x hx => ?_⟩
  rw [State.res_congr (State.res_retire o cause hr), State.res_onRes_other (by exact fun _ => rfl) hx]

theorem State.reinstate_res (o : Origin) (id : ResId) (s : State) : (s.reinstate o id).res id = Res.clean id := by
  have hf : (s.reinstate o id).faults = (s.onRes id (fun r => Res.clean r.id)).faults := by
    unfold State.reinstate
    simp [State.onRes, State.res_id]
  rw [State.res_congr hf, State.res_onRes (by exact fun _ => rfl), State.res_id]

theorem State.keeps_onFaults (f : List Res → List Res) (s : State) : s.keeps [.faults] (s.onFaults f) := by
  refine ⟨rfl, rfl, rfl, fun g hg => ?_⟩
  cases g with
  | faults => simp at hg
  | _ => rfl

/-! ## Commands of the fault model (R487, R494, R497) -/

/-- The kinds of resources that are listed: the one that is named, or all (R487). -/
def faultKinds : Option ResKind → List ResKind
  | some k => [k]
  | none => [.chan, .bb, .branch, .lane, .chain, .block, .peer]

theorem exec_doFaultList (hj : s.judges h) (k : Option ResKind) : exec (.doFaultList h k) s =
    .next ((s.heard h).reply h ((faultKinds k).flatMap (fun k => (s.heard h).kindLines k) ++ [.dot])) := by
  refine congrArg Host.Outcome.next ((State.report_judged 543 .observer _ hj).trans ?_)
  rw [needs_allowed (State.allowed_observer _)]
  cases k <;> rfl

theorem State.lateAudit_none {u : State} (hc : u.noCheck h = false) (a : Aud) : u.lateAudit h a = none := if_neg (by simp [hc])

theorem exec_doFaultRetire {r : ResArg} (hj : s.judgesAtOnce h) (ha : (s.heard h).allowed .custodian = true)
    (hf : (s.heard h).faultCheck r = none) (hr : ((s.heard h).res r.id).retired = false) : ∃ aud, exec (.doFaultRetire h r) s =
      .next (State.finish ((s.heard h).lineOrigin h) h .do_ (
        if (s.heard h).lastOne r.id then bad (s.heard h) .state 0 (some (880 + kindPos r.id.kind)) (some aud)
        else good ((s.heard h).retireAny ((s.heard h).lineOrigin h) r.id 10) [.word "RETIRE"] (some (880 + kindPos r.id.kind)) none)) := by
  refine ⟨{ action := 9, obj := 880 + kindPos r.id.kind, old := .num 10, new := .num r.value },
    congrArg Host.Outcome.next ((State.change_judged _ .do_ true _ hj (fun _ => rfl)).trans ?_)⟩
  rw [runDoFaultRetire, needs_allowed ha, hf, hr, State.lateAudit_none hj.1.2.2]
  rfl

theorem exec_doFaultReinstate {r : ResArg} {passed : Bool} (hj : s.judgesAtOnce h) (ha : (s.heard h).allowed .custodian = true)
    (hf : (s.heard h).faultCheck r = none) (hr : ((s.heard h).res r.id).retired = true)
    (ht : ResKind.tested r.id.kind = true → passed = true) : exec (.doFaultReinstate h r passed) s =
      .next (if r.id.kind = .chain then
        ((s.heard h).onRadio (fun k => { k with
          calAsked := k.calAsked ++ [(.reinstate h ((s.heard h).lineOrigin h) (sideOf r.id.num), .all, .both)] })).reply h []
        else ((s.heard h).reinstateAny ((s.heard h).lineOrigin h) r.id).reply h [.word "REINSTATE"]) := by
  refine congrArg Host.Outcome.next ((State.change_judged _ .do_ true _ hj (fun _ => rfl)).trans ?_)
  have htest : (ResKind.tested r.id.kind && !passed) = false := by
    cases hk : ResKind.tested r.id.kind with
    | false => rfl
    | true => rw [ht hk]; rfl
  rw [runDoFaultReinstate, needs_allowed ha]
  dsimp only
  rw [hf, hr, htest, State.lateAudit_none hj.1.2.2]
  by_cases hk : r.id.kind = .chain
  · rw [if_pos hk]
    rw [hk]
    rfl
  · rw [if_neg hk]
    have hk' : (r.id.kind == .chain) = false := by simpa using hk
    rw [hk']
    rfl

end

/-! ## Rests end, and channels are judged (R488, R489, R491 to R493) -/

section

variable {s : State}

theorem exec_restPeriodEnd {r : ResId} {t₀ : Ticks} (hu : (s.res r).until_ = some t₀) (hr : (s.res r).resting = true)
    (hn : (s.res r).retired = false) (ht : t₀ ≤ s.now) :
    ∃ t, exec (.restPeriodEnd r) s = .next t ∧ (t.res r).resting = false ∧ (t.res r).until_ = none ∧
      (t.res r).rests = (s.res r).rests ∧ t.radio.calAsked = (if r.kind = .chain then
        s.radio.calAsked ++ [(.rest (sideOf r.num), .all, .both)] else s.radio.calAsked) ∧ s.keeps [.faults, .radio] t := by
  have hres := State.res_onRes (id := r) (f := fun k => { k with resting := false, until_ := none }) (fun _ => rfl) s
  have hk : s.keeps [.faults, .radio] (s.onRes r (fun k => { k with resting := false, until_ := none })) :=
    State.keeps_mono (State.keeps_onFaults ..) (by decide)
  have he : exec (.restPeriodEnd r) s = .next (
      let u := s.onRes r (fun k => { k with resting := false, until_ := none })
      if r.kind == .chain then
        u.onRadio (fun q => { q with calAsked := q.calAsked ++ [(.rest (sideOf r.num), .all, .both)] })
      else u) := by
    refine congrArg Host.Outcome.next ?_
    dsimp only
    rw [hu]
    exact if_pos (by simp [hr, hn, ht])
  rw [he]
  refine ⟨_, rfl, ?_⟩
  dsimp only
  by_cases hc : r.kind = .chain
  · have hradio (u : State) (f : Radio → Radio) : (u.onRadio f).res r = u.res r := rfl
    rw [if_pos (by simp [hc]), if_pos hc, hradio, hres]
    exact ⟨rfl, rfl, rfl, rfl, State.keeps_step hk (State.keeps_onRadio ..)⟩
  · rw [if_neg (by simp [hc]), if_neg hc, hres]
    exact ⟨rfl, rfl, rfl, rfl, hk⟩

theorem exec_restWindowExpiry {r : ResId} (hw : 0 < restWindow r.kind) (hr : (s.res r).resting = false)
    (ht : (s.res r).lastFault + restWindow r.kind ≤ s.now) :
    ∃ t, exec (.restWindowExpiry r) s = .next t ∧ (t.res r).rests = 0 ∧ (t.res r).times = [] ∧
      (t.res r).retired = (s.res r).retired ∧ s.keeps [.faults, .radio] t := by
  obtain ⟨u, hu, huf, hun, huk⟩ : ∃ u, u = (if r.kind == .chain then s.onRadio (Radio.aerialWindow (sideOf r.num) s.now) else s) ∧
      u.faults = s.faults ∧ u.now = s.now ∧ s.keeps [.radio] u := by
    refine ⟨_, rfl, ?_⟩
    split
    · exact ⟨rfl, rfl, State.keeps_onRadio ..⟩
    · exact ⟨rfl, rfl, s.keeps_refl _⟩
  have he : exec (.restWindowExpiry r) s = .next (u.onRes r (fun k => { k with rests := 0, times := [] })) := by
    refine congrArg Host.Outcome.next ?_
    dsimp only
    rw [← hu, State.res_congr huf, hun]
    exact if_pos (by simp [hw, hr, ht])
  have hres := State.res_onRes (id := r) (f := fun k => { k with rests := 0, times := [] }) (fun _ => rfl) u
  rw [he]
  refine ⟨_, rfl, ?_⟩
  rw [hres, State.res_congr huf]
  exact ⟨rfl, rfl, rfl, State.keeps_step (State.keeps_mono huk (by decide)) (State.keeps_onFaults ..)⟩

/-- What one fault more makes of a resource (R488). -/
theorem State.strike_facts (id : ResId) (s : State) : ((s.strike id).res id).rests = (s.res id).rests + 1 ∧
    ((s.strike id).res id).retired = (s.res id).retired ∧ s.keeps [.faults, .tally] (s.strike id) := by
  obtain ⟨f, hf, hid, hrests, hret⟩ : ∃ f : Res → Res, s.strike id = (s.onRes id f).count .cc ("fault.rest." ++ kindText id.kind) ∧
      (∀ r, (f r).id = r.id) ∧ (∀ r, (f r).rests = r.rests + 1) ∧ (∀ r, (f r).retired = r.retired) :=
    ⟨_, rfl, fun _ => rfl, fun _ => rfl, fun _ => rfl⟩
  rw [hf, State.res_congr (s := s.onRes id f) (by simp), State.res_onRes hid]
  exact ⟨hrests _, hret _, State.keeps_step (State.keeps_mono (State.keeps_onFaults ..) (by decide)) (State.keeps_count ..)⟩

/-- What a judging window of a channel leads to (R489, R492). -/
def State.judged (r : ResId) (s : State) : State :=
  if s.faultsInWindow r < 4 then s.strike r
  else
    match s.net.st with
    | .root =>
      if s.chanFloor r then (s.strike r).count .cc "fault.chan.floor"
      else s.retireAny (.self (kindRule r.kind)) r 2
    | .member => (s.strike r).queue (.chanBad r.num)
    | .holdover => (s.strike r).queue (.chanBad r.num)
    | _ => s.strike r

theorem exec_channelJudgingWindow {r : ResId} (hc : s.ccOn = true) (hj : 256 ≤ (s.judgeOf r).cells) :
    exec (.channelJudgingWindow r (s.judgeOf r).pre ((s.judgeOf r).pre - (s.judgeOf r).passed)) s = .next (
      if !s.resFits r || (s.res r).retired || decide ((s.judgeOf r).pre < 32)
          || decide (2 * ((s.judgeOf r).pre - (s.judgeOf r).passed) < (s.judgeOf r).pre) then s.judgeEnd r
      else (s.judgeEnd r).judged r) :=
  congrArg Host.Outcome.next (if_neg (by simp [hc, Nat.not_lt.mpr hj]))

/-- What a judging window leads to that found its channel bad (R489, R491, R492). -/
theorem State.judged_facts {r : ResId} (hk : r.kind = .chan ∨ r.kind = .bb) (hr : (s.res r).retired = false) :
    (s.judged r).rx = s.rx ∧
    (s.faultsInWindow r < 4 → ((s.judged r).res r).rests = (s.res r).rests + 1 ∧ ((s.judged r).res r).retired = false ∧
      s.keeps [.faults, .tally] (s.judged r)) ∧
    (4 ≤ s.faultsInWindow r → s.net.st = .root → s.chanFloor r = false → ((s.judged r).res r).retired = true ∧
      ((s.judged r).res r).cause = 2 ∧ (r, true, effSlot s.slotNow) ∈ (s.judged r).sched.pending) ∧
    (4 ≤ s.faultsInWindow r → s.net.st = .root → s.chanFloor r = true → ((s.judged r).res r).retired = false ∧
      s.keeps [.faults, .tally] (s.judged r)) ∧
    (4 ≤ s.faultsInWindow r → (s.net.st = .member ∨ s.net.st = .holdover) → ((s.judged r).res r).retired = false ∧
      (s.judged r).sched = s.sched) := by
  obtain ⟨hrests, hret, hkeep⟩ := s.strike_facts r
  rw [hr] at hret
  have hrx : (s.strike r).rx = s.rx := hkeep.2.2.2 .rx (by decide)
  have hsched : (s.strike r).sched = s.sched := hkeep.2.2.2 .sched (by decide)
  have hq (e : Ev) : ((s.strike r).queue e).rx = (s.strike r).rx ∧ ((s.strike r).queue e).faults = (s.strike r).faults ∧
      ((s.strike r).queue e).sched = (s.strike r).sched := by simp
  have hcount : ((s.strike r).count .cc "fault.chan.floor").rx = (s.strike r).rx ∧
      ((s.strike r).count .cc "fault.chan.floor").faults = (s.strike r).faults := by simp
  have hany (o : Origin) : s.retireAny o r 2 = (s.retire o r 2).chanChange r true (effSlot s.slotNow) := by
    unfold State.retireAny
    rcases hk with hk | hk <;> rw [hk]
  by_cases hlt : s.faultsInWindow r < 4
  · have he : s.judged r = s.strike r := if_pos hlt
    rw [he]
    have hno := Nat.not_le.mpr hlt
    exact ⟨hrx, fun _ => ⟨hrests, hret, hkeep⟩, fun h => absurd h hno, fun h => absurd h hno, fun h => absurd h hno⟩
  · unfold State.judged
    rw [if_neg hlt]
    refine ⟨?_, fun h => absurd h hlt, fun _ hroot hfl => ?_, fun _ hroot hfl => ?_, fun _ hst => ?_⟩
    · split
      · split
        · exact hcount.1.trans hrx
        · rw [hany]
          simp [State.chanChange]
      · exact (hq _).1.trans hrx
      · exact (hq _).1.trans hrx
      · exact hrx
    · rw [hroot]
      dsimp only
      rw [if_neg (by simp [hfl]), hany]
      obtain ⟨h1, h2, -⟩ := State.retire_facts (.self (kindRule r.kind)) 2 hr
      have hchan (u : State) (eff : Nat) : (u.chanChange r true eff).res r = u.res r := rfl
      rw [hchan]
      exact ⟨h1, h2, List.mem_append_right _ (List.mem_singleton.mpr rfl)⟩
    · rw [hroot]
      dsimp only
      rw [if_pos hfl, State.res_congr hcount.2]
      exact ⟨hret, State.keeps_step hkeep (State.keeps_count ..)⟩
    · rcases hst with hst | hst <;> rw [hst] <;> dsimp only <;> rw [State.res_congr (hq _).2.1]
      · exact ⟨hret, (hq _).2.2.trans hsched⟩
      · exact ⟨hret, (hq _).2.2.trans hsched⟩

/-- The end of a window takes the counts away, and nothing that is judged by them (R489). -/
theorem State.judgeEnd_facts (r : ResId) (s : State) :
    (s.judgeEnd r).rx.judges = s.rx.judges.filter (fun x => x.id != r) ∧ (s.judgeEnd r).rx.lanes = s.rx.lanes ∧
    (s.judgeEnd r).faultsInWindow r = s.faultsInWindow r ∧ (s.judgeEnd r).chanFloor r = s.chanFloor r ∧
    (s.judgeEnd r).res r = s.res r ∧ (s.judgeEnd r).net = s.net ∧ (s.judgeEnd r).sched = s.sched ∧
    effSlot (s.judgeEnd r).slotNow = effSlot s.slotNow ∧ s.keeps [.rx] (s.judgeEnd r) :=
  ⟨rfl, rfl, rfl, rfl, rfl, rfl, rfl, rfl, State.keeps_onRx ..⟩

/-! ## Cells are counted for the channels they cover (R489) -/

theorem State.judgeOf_id (r : ResId) (s : State) : (s.judgeOf r).id = r := by
  unfold State.judgeOf
  cases hf : s.rx.judges.find? (fun j => j.id == r) with
  | none => rfl
  | some j => simpa using List.find?_some hf

/-- One channel's counts are taken on (R489). -/
def State.judgeOne (f : Judge → Judge) (r : ResId) (s : State) : State :=
  s.onRx (fun x => { x with judges := x.judges.filter (fun j => j.id != r) ++ [f (s.judgeOf r)] })

theorem State.judgeOf_judgeOne {f : Judge → Judge} (hf : ∀ j, (f j).id = j.id) (r x : ResId) (s : State) :
    (s.judgeOne f r).judgeOf x = if x = r then f (s.judgeOf r) else s.judgeOf x := by
  have hid : (f (s.judgeOf r)).id = r := by rw [hf, State.judgeOf_id]
  have hjs : (s.judgeOne f r).rx.judges = s.rx.judges.filter (fun j => j.id != r) ++ [f (s.judgeOf r)] := rfl
  by_cases hx : x = r
  · subst hx
    have hnone : (s.rx.judges.filter (fun j => j.id != x)).find? (fun j => j.id == x) = none := by
      rw [List.find?_eq_none]
      intro j hj
      simpa using (List.mem_filter.mp hj).2
    rw [if_pos rfl, State.judgeOf, hjs, List.find?_append, hnone]
    simp [hid]
  · have hsame : (s.rx.judges.filter (fun j => j.id != r)).find? (fun j => j.id == x) = s.rx.judges.find? (fun j => j.id == x) := by
      rw [List.find?_filter]
      congr 1
      funext j
      by_cases hj : j.id = x
      · simp [hj, hx]
      · simp [hj]
    have hlast : [f (s.judgeOf r)].find? (fun j => j.id == x) = none := by simp [hid, Ne.symm hx]
    rw [if_neg hx, State.judgeOf, hjs, List.find?_append, hsame, hlast, Option.or_none]
    rfl

theorem State.judgeOf_each {f : Judge → Judge} (hf : ∀ j, (f j).id = j.id) {l : List ResId} (hl : l.Nodup) (x : ResId) (s : State) :
    (s.each l (State.judgeOne f)).judgeOf x = if x ∈ l then f (s.judgeOf x) else s.judgeOf x := by
  induction l generalizing s with
  | nil => rfl
  | cons r rs ih =>
    obtain ⟨hr, hrs⟩ := List.nodup_cons.mp hl
    refine (ih hrs (s.judgeOne f r)).trans ?_
    rw [State.judgeOf_judgeOne hf]
    by_cases hx : x = r
    · subst hx
      simp [hr]
    · simp [hx]

theorem channelIds_nodup (rate ch : Nat) : (channelIds rate ch).Nodup := by
  unfold channelIds
  split
  · exact List.nodup_singleton _
  · split
    · simp
    · exact List.nodup_singleton _

theorem State.judgeLane_counts {n : Fin 16} {i : Nat} {f : Judge → Judge} {r : ResId} (hh : s.rx.lanes[n].holder = .cell i)
    (hr : r ∈ channelIds s.rx.lanes[n].rate s.rx.lanes[n].chan) (hf : ∀ j, (f j).id = j.id) :
    (s.judgeLane n f).judgeOf r = f (s.judgeOf r) := by
  have he : s.judgeLane n f = s.each (channelIds s.rx.lanes[n].rate s.rx.lanes[n].chan) (State.judgeOne f) := by
    unfold State.judgeLane
    dsimp only
    rw [hh]
    rfl
  rw [he, State.judgeOf_each hf (channelIds_nodup ..), if_pos hr]

/-! ## A peer that stays unreachable (R498) -/

theorem exec_peerRetireHourly_off (hc : s.ccOn = true) (hh : (s.fire .hourly).pnat Obj.retireAfter = 0) :
    exec .peerRetireHourly s = .next (s.fire .hourly) :=
  congrArg Host.Outcome.next ((if_neg (by simp [hc])).trans (if_pos hh))

theorem exec_peerRetireHourly_one {i : Nat} {e : Entry} {t₀ : Ticks} (hc : s.ccOn = true)
    (hh : (s.fire .hourly).pnat Obj.retireAfter ≠ 0) (he : s.roster.entries = [(i, e)]) (ha : e.active = true)
    (hu : e.unreach = true) (hat : e.unreachAt = some t₀) (ht : t₀ + secs (3600 * (s.fire .hourly).pnat Obj.retireAfter) ≤ s.now) :
    exec .peerRetireHourly s = .next ((s.fire .hourly).retirePeer (.self .faultPeer) i 9) := by
  refine congrArg Host.Outcome.next ((if_neg (by simp [hc])).trans ?_)
  have he' : (s.fire .hourly).roster.entries = [(i, e)] := by simpa using he
  have hnow : (s.fire .hourly).now = s.now := by simp
  rw [← hnow] at ht
  generalize s.fire .hourly = u at *
  dsimp only
  generalize secs (3600 * u.pnat Obj.retireAfter) = d at *
  rw [if_neg hh, he', List.filter_cons_of_pos (by simp [ha, hu, hat, ht]), List.filter_nil]
  rfl

theorem State.retirePeer_alone {o : Origin} {i cause : Nat} {e : Entry} (he : s.entry i = some e) (hr : e.retired = false)
    (ht : s.work.table = []) (hw : s.work.waiting = []) :
    (((s.retirePeer o i cause).entry i).map Entry.retired) = some true ∧ (s.retirePeer o i cause).work = s.work := by
  unfold State.retirePeer
  rw [he]
  dsimp only
  rw [if_neg (by simp [hr]), if_neg (by simp [ht])]
  obtain ⟨a, ha, hae, haw⟩ : ∃ a, a = s.onEntry i (fun x => { x with retired := true, maskSaved := (s.maskOf (codeOf i e)).toNat, retireOwed := none }) ∧
      (a.entry i).map Entry.retired = some true ∧ a.work = s.work := by
    refine ⟨_, rfl, ?_, by simp⟩
    rw [State.entry_onEntry, if_pos rfl, he]
    rfl
  rw [← ha]
  obtain ⟨b, hb, hbr, hbw⟩ : ∃ b, b = (a.writeMask (codeOf i e) 0).retire o
      { kind := .peer, num := handleBits (s.handleAt i) } cause ∧ b.roster = a.roster ∧ b.work = a.work := ⟨_, rfl, by simp, by simp⟩
  rw [← hb]
  have hflights : b.flightsOf i = [] := by
    rw [State.flightsOf, hbw, haw, ht, hw]
    rfl
  rw [hflights]
  refine ⟨?_, hbw.trans haw⟩
  change (b.entry i).map Entry.retired = some true
  rw [← hae, State.entry, State.entry, hbr]

/-- Settles O52: the commands, what retiring and reinstating leave of a resource (`State.retire_facts`,
`State.reinstate_res`), rests and judging windows (`State.judged_facts`), and the hourly look at peers. -/
theorem faultModel : Obligations.FaultModel := by
  refine ⟨fun h s hj k => ?_, fun h s hj => ⟨fun r ha hf hr hl => ?_, fun r ha hf hr hl => ?_, fun r passed ha hf hr ht => ?_⟩,
    fun o r cause s hr => State.retire_facts o cause hr, fun o r s => s.reinstate_res o r,
    fun r s => ⟨fun t₀ hu hr hn ht => exec_restPeriodEnd hu hr hn ht, fun hw hr ht => exec_restWindowExpiry hw hr ht, ?_⟩,
    fun n ch rate i f r s hh hrate hch hr hf => ?_, fun s hc => ?_⟩
  · exact (exec_doFaultList hj k).trans (by cases k <;> rfl)
  · obtain ⟨aud, he⟩ := exec_doFaultRetire hj ha hf hr
    rw [he, hl]
    rfl
  · obtain ⟨aud, he⟩ := exec_doFaultRetire hj ha hf hr
    rw [he, if_pos hl]
    obtain ⟨htx, -, -, hk⟩ := State.finish_bad_keeps (h := h) ((s.heard h).lineOrigin h) .do_ (s.heard h) .state 0
      (some (880 + kindPos r.id.kind)) (some aud) rfl
    exact ⟨_, rfl, htx, hk⟩
  · have hkind : r.id.kind = r.kind := by cases r <;> rfl
    have he := exec_doFaultReinstate (passed := passed) hj ha hf hr (by rw [hkind]; exact ht)
    rw [hkind] at he
    refine ⟨fun hk => ?_, fun hk => ?_⟩
    · rw [he, if_neg hk]
    · rw [he, if_pos hk]
      exact ⟨_, rfl, fun h0 => State.reply_nothing h0 _, by simp [State.onRadio], by simp [State.onRadio],
        State.keeps_step (State.keeps_mono (State.keeps_onRadio ..) (by decide)) (State.keeps_reply ..)⟩
  · intro j hc hcells hkind
    have he := exec_channelJudgingWindow (r := r) hc hcells
    obtain ⟨hjs, hlanes, hfiw, hfloor, hres, hnet, hsched, hslot, hk⟩ := s.judgeEnd_facts r
    rw [show s.judgeOf r = j from rfl] at he
    generalize s.judgeEnd r = u at *
    by_cases hstop : (!s.resFits r || (s.res r).retired || decide (j.pre < 32) || decide (2 * (j.pre - j.passed) < j.pre)) = true
    · rw [if_pos hstop] at he
      refine ⟨u, he, hjs, hlanes, fun _ => hk, fun hfit hret hpre hbad => ?_⟩
      simp [hfit, hret, Nat.not_lt.mpr hpre, Nat.not_lt.mpr hbad] at hstop
    · rw [if_neg hstop] at he
      obtain ⟨hret, hpre, hbad⟩ : (u.res r).retired = false ∧ ¬ j.pre < 32 ∧ ¬ 2 * (j.pre - j.passed) < j.pre := by
        rw [hres]
        simp only [Bool.or_eq_true, not_or, decide_eq_true_eq] at hstop
        exact ⟨by simpa using hstop.1.1.2, hstop.1.2, hstop.2⟩
      obtain ⟨hrx, hstrike, hroot, hfl, hmember⟩ := State.judged_facts hkind hret
      rw [hfiw, hnet, hfloor, hsched, hslot] at *
      refine ⟨_, he, (congrArg Rx.judges hrx :).trans hjs, (congrArg Rx.lanes hrx :).trans hlanes, fun h => ?_, fun _ _ _ _ =>
        ⟨fun h => ?_, hroot, fun h h' h'' => ?_, hmember⟩⟩
      · exact absurd h (not_or.mpr ⟨hpre, hbad⟩)
      · obtain ⟨h1, h2, h3⟩ := hstrike h
        exact ⟨h1.trans (by rw [hres]), h2, State.keeps_step (State.keeps_mono hk (by decide)) h3⟩
      · obtain ⟨h1, h2⟩ := hfl h h' h''
        exact ⟨h1, State.keeps_step (State.keeps_mono hk (by decide)) h2⟩
  · subst hrate hch
    exact State.judgeLane_counts hh hr hf
  · refine ⟨fun hh => exec_peerRetireHourly_off hc hh, fun i e t₀ hh hent hact hun hret hat ht htab hwait => ?_⟩
    refine ⟨_, exec_peerRetireHourly_one hc hh hent hact hun hat ht, ?_⟩
    have hi : (s.fire .hourly).entry i = some e := by simp [State.entry, hent, assoc]
    have hw : (s.fire .hourly).work = s.work := by simp
    obtain ⟨h1, h2⟩ := State.retirePeer_alone (o := .self .faultPeer) (cause := 9) hi hret (by rw [hw, htab]) (by rw [hw, hwait])
    exact ⟨h1, h2.trans hw, by simp⟩

end

end Sys2Proof.Machine

/-!
Proofs about what happens on the wire of LINE.
-/

namespace Sys2Proof.Machine

/-! ## What is being sent is abandoned, or collides (R43, R57, R67, R82, R85, R167) -/

section

variable {s : State}

/-- LINE without its event queue, its receiver and what is being sent. -/
def Line.free (l : Line) : Line := { l.stood with tx := [], sending := none, sendEnd := 0, pushHeld := false }

theorem Line.free_of_stood {l m : Line} (h : l.stood = m.stood) : l.free = m.free := by
  unfold Line.free
  rw [h]

/-- LINE once what was being sent is cut off (R43). -/
def Line.cutOff (now : Ticks) (l : Line) : Line := { l with sending := none, tx := [], sendEnd := min l.sendEnd now }

/-- Nothing is being sent, and LINE is as `l` otherwise. -/
def Line.idleAs (l m : Line) : Prop := m.free = l.free ∧ m.sending = none ∧ m.tx = []

theorem Line.idleAs_stood {l m n : Line} (h : l.idleAs m) (hs : n.stood = m.stood) : l.idleAs n := by
  obtain ⟨h1, h2, h3⟩ := h
  obtain ⟨htx, hsending, -⟩ := Line.sent_of_stood hs
  exact ⟨(Line.free_of_stood hs).trans h1, hsending.trans h2, htx.trans h3⟩

theorem State.abandon_idle (s : State) : s.line.idleAs s.abandon.line := by
  have hcut : s.line.idleAs (s.onLine (Line.cutOff s.now)).line := ⟨rfl, rfl, rfl⟩
  have hback (o : Option Sending) (u : State) : (u.seenBack o).line = u.line := by simp
  unfold State.abandon
  dsimp only
  split
  · exact Line.idleAs_stood hcut ((State.driveWake_stood _).trans (congrArg Line.stood (hback _ _)))
  · have hhold (l : Line) (e : EvLine) : l.idleAs (if l.events.length < 64 then { l.cutOff s.now with
        events := e :: l.events, pushHeld := true } else { l.cutOff s.now with lost := l.lost + 1, pushHeld := true }) := by
      split <;> exact ⟨rfl, rfl, rfl⟩
    exact hhold s.line _
  · exact ⟨rfl, rfl, rfl⟩
  · exact hcut

theorem State.abandon_rest (s : State) : s.abandon.radio = s.radio ∧ s.abandon.roster = s.roster ∧ s.abandon.now = s.now := by
  simp

/-- What a collision does first (R43). -/
def State.collided (s : State) : State := (s.abandon.count .line "line.collide").onLine (fun l => { l with deafUntilIdle := true })

theorem State.collided_line (s : State) : s.collided.line = { s.abandon.line with deafUntilIdle := true } := by
  simp [State.collided, State.onLine]

/-- LINE with a fault that stands (R490). -/
def Line.withFault (k : LineFaultKind) (l : Line) : Line := { l with faults := if l.faults.contains k then l.faults else l.faults ++ [k] }

theorem Line.mem_withFault (k : LineFaultKind) (l : Line) : k ∈ (l.withFault k).faults := by
  by_cases h : k ∈ l.faults
  · simp [Line.withFault, h]
  · simp [Line.withFault, h]

theorem State.lineFault_stood (k : LineFaultKind) (s : State) : (s.lineFault k).line.stood = (s.line.withFault k).stood := by
  unfold State.lineFault
  rw [State.queue_stood]
  simp [State.onLine, Line.withFault]

theorem State.lineFault_mem (k : LineFaultKind) (s : State) : k ∈ (s.lineFault k).line.faults := by
  have h : (s.lineFault k).line.faults = (s.line.withFault k).faults := (congrArg Line.faults (s.lineFault_stood k) :)
  rw [h]
  exact Line.mem_withFault ..

theorem exec_lineCollision {x : Sending} (hx : s.onWire = some x) : exec .lineCollision s = .next (s.collide x) := by
  refine congrArg Host.Outcome.next ?_
  rw [hx]

/-- Nothing is being sent, and nothing is received until LINE has idled (R43). -/
def Line.cut (l : Line) : Prop := l.sending = none ∧ l.tx = [] ∧ l.deafUntilIdle = true

theorem Line.cut_of_stood {l m : Line} (h : m.stood = l.stood) (hl : l.cut) : m.cut :=
  ⟨(congrArg Line.sending h :).trans hl.1, (congrArg Line.tx h :).trans hl.2.1, (congrArg Line.deafUntilIdle h :).trans hl.2.2⟩

theorem State.lineFault_cut {k : LineFaultKind} (hs : s.line.cut) : (s.lineFault k).line.cut :=
  Line.cut_of_stood (s.lineFault_stood k) hs

theorem State.collided_cut (s : State) : s.collided.line.cut := by
  obtain ⟨-, hsend, htx⟩ := s.abandon_idle
  rw [s.collided_line]
  exact ⟨hsend, htx, rfl⟩

theorem State.loseReply_mark (ha : s.line.address ≠ 0) : s.loseReply = (s.onLine (fun l => { l with chainMark := true })).lineFault .mark :=
  if_neg ha

theorem State.loseReply_cut (hs : s.line.cut) : s.loseReply.line.cut := by
  by_cases ha : s.line.address = 0
  · rw [show s.loseReply = s from if_pos ha]
    exact hs
  · rw [State.loseReply_mark ha]
    exact State.lineFault_cut (s := s.onLine _) hs

/-- The loser of an enumeration, once it has lost its address (R82, R83). -/
def State.enumLost (n : Nat) (s : State) : State :=
  (s.onLine (fun l => { l with address := 0, chainOut := false, chainMark := true })).audit (.line s.line.level 0 true) 5 771 0 (.num n) (.num 0)

theorem State.enumLost_line (n : Nat) (s : State) :
    (s.enumLost n).line = { s.line with address := 0, chainOut := false, chainMark := true } := by
  simp [State.enumLost, State.onLine]

theorem State.loseEnum_cut (n : Nat) (hs : s.line.cut) : (s.loseEnum n).line.cut := by
  refine State.lineFault_cut (s := s.enumLost n) ?_
  rw [State.enumLost_line]
  exact hs

theorem State.collide_cut (x : Sending) (s : State) : (s.collide x).line.cut := by
  have hc := s.collided_cut
  cases x with
  | reply => exact State.loseReply_cut hc
  | enumAnswer m n => exact State.loseEnum_cut n hc
  | seen bits f => exact State.loseReply_cut hc
  | push e => exact hc
  | lost n => exact hc
  | echo => exact hc
  | roll => exact hc

theorem State.collide_rest (x : Sending) (s : State) : (s.collide x).radio = s.radio ∧ (s.collide x).roster = s.roster := by
  simp

/-- The loser of an enumeration has no address, bears the chain mark, and drives CHAIN_OUT low (R82, R83). -/
theorem State.collide_enum (m : Bool) (n : Nat) (s : State) : (s.collide (.enumAnswer m n)).line.address = 0 ∧
    (s.collide (.enumAnswer m n)).line.chainMark = true ∧ (s.collide (.enumAnswer m n)).line.chainOut = false ∧
    .mark ∈ (s.collide (.enumAnswer m n)).line.faults := by
  have he : s.collide (.enumAnswer m n) = (s.collided.enumLost n).lineFault .mark := rfl
  have hst := (s.collided.enumLost n).lineFault_stood .mark
  have hmem := (s.collided.enumLost n).lineFault_mem .mark
  rw [State.enumLost_line] at hst
  rw [he]
  exact ⟨(congrArg Line.address hst :), (congrArg Line.chainMark hst :), (congrArg Line.chainOut hst :), hmem⟩

theorem State.collided_address (s : State) : s.collided.line.address = s.line.address := by
  obtain ⟨hfree, -⟩ := s.abandon_idle
  rw [s.collided_line]
  exact (congrArg Line.address hfree :)

/-- A unit whose reply collided bears the chain mark (R82). -/
theorem State.collide_reply (ha : s.line.address ≠ 0) : (s.collide .reply).line.chainMark = true ∧
    .mark ∈ (s.collide .reply).line.faults := by
  have he : s.collide .reply = (s.collided.onLine (fun l => { l with chainMark := true })).lineFault .mark :=
    State.loseReply_mark (s := s.collided) (by rw [State.collided_address]; exact ha)
  rw [he]
  exact ⟨(congrArg Line.chainMark (State.lineFault_stood .mark _) :), State.lineFault_mem ..⟩

theorem State.collide_push {e : EvLine} (hx : s.onWire = some (.push e)) (hl : s.line.events.length < 64) :
    (s.collide (.push e)).line.events = e :: s.line.events ∧ (s.collide (.push e)).line.pushHeld = true := by
  have he : s.collide (.push e) = s.collided := rfl
  have ha : s.abandon.line = { s.line.cutOff s.now with events := e :: s.line.events, pushHeld := true } := by
    unfold State.abandon
    rw [hx]
    exact if_pos hl
  rw [he, s.collided_line, ha]
  exact ⟨rfl, rfl⟩

theorem State.keeps_collided {x : Sending} (hx : s.onWire = some x) (hn : x = .reply ∨ x = .echo) : s.keeps [.line, .tally] s.collided := by
  have ha : s.abandon = s.onLine (Line.cutOff s.now) := by
    unfold State.abandon
    rw [hx]
    rcases hn with rfl | rfl <;> rfl
  unfold State.collided
  rw [ha]
  exact State.keeps_step (State.keeps_step (State.keeps_mono (State.keeps_onLine ..) (by decide)) (State.keeps_count ..))
    (State.keeps_onLine ..)

/-- A `WAKE SEEN` reply that collides gives its bits back (R167). -/
theorem State.collide_seen {bits : List Host.Cell} {f : Bool} (hx : s.onWire = some (.seen bits f)) :
    (s.collide (.seen bits f)).wake.seen = Mem.orAll s.wake.seen bits ∧
    (s.collide (.seen bits f)).wake.foldFlag = (s.wake.foldFlag || f) := by
  have hlose (u : State) : u.loseReply.wake = u.wake := by simp
  have hw : s.collided.wake = s.abandon.wake := by simp [State.collided]
  have he : s.collide (.seen bits f) = s.collided.loseReply := rfl
  have ha : s.abandon = ((s.onLine (Line.cutOff s.now)).seenBack (some (.seen bits f))).driveWake := by
    unfold State.abandon
    rw [hx]
    rfl
  rw [he, hlose, hw, ha, State.driveWake_wake]
  exact ⟨rfl, rfl⟩

end

/-! ## Times that end on LINE (R48, R55, R72, R74, R45 to R47) -/

section

variable {s : State}

theorem exec_partialLineTimeout (hp : s.line.partialLine ≠ []) (ht : s.line.partialAt + s.partialTime ≤ s.now) :
    exec .partialLineTimeout s = .next (s.onLine (fun l => { l with partialLine := [] })) :=
  congrArg Host.Outcome.next (if_pos (by simp [hp, ht]))

/-- The rate that is in force again when its trial has run out (R48). -/
def State.rateBack (r : Nat) (s : State) : State :=
  let u := (s.journal s.auditSeq (.param Obj.lineRate (s.prow Obj.lineRate))).writeParam Obj.lineRate (.int r) 2 s.stamp
  ((u.fire .lineRate).onLine (fun l => { l with rate := r, trial := none })).audit (.self .lineRateRevert) 1 Obj.lineRate 0
    (avalOf (s.pval Obj.lineRate)) (.num r)

theorem State.rateBack_facts (r : Nat) (s : State) : (s.rateBack r).line = { s.line with rate := r, trial := none } ∧
    (s.rateBack r).radio = s.radio ∧ (s.rateBack r).wake = s.wake ∧ (s.rateBack r).roster = s.roster ∧ (s.rateBack r).time = s.time := by
  simp [State.rateBack, State.onLine]

theorem exec_lineRateTrialExpiry {r : Nat} {t₀ : Ticks} (hr : s.line.trial = some (r, t₀)) (ht : t₀ ≤ s.now) :
    ∃ t, exec .lineRateTrialExpiry s = .next t ∧ t.line.rate = r ∧ t.line.trial = none ∧ t.radio = s.radio ∧ t.wake = s.wake ∧
      t.roster = s.roster ∧ t.time = s.time := by
  have he : exec .lineRateTrialExpiry s = .next ((s.rateBack r).queue (.rate r)) := by
    refine congrArg Host.Outcome.next ?_
    rw [hr]
    exact if_neg (Nat.not_lt.mpr ht)
  obtain ⟨hline, hradio, hwake, hroster, htime⟩ := s.rateBack_facts r
  have hst := (s.rateBack r).queue_stood (.rate r)
  rw [hline] at hst
  refine ⟨_, he, (congrArg Line.rate hst :), (congrArg Line.trial hst :), ?_⟩
  simp [hradio, hwake, hroster, htime]

theorem exec_sessionIdleTimeout (hl : s.line.level ≠ .observer) (ht : s.line.lastLine + secs (s.pnat Obj.sessionIdle) ≤ s.now) :
    exec .sessionIdleTimeout s = .next (s.onLine Line.endSession) :=
  congrArg Host.Outcome.next (if_pos (by simp [hl, ht]))

theorem exec_challengeExpiry {c : Challenge} (hc : s.line.challenge = some c) (ht : c.at_ + secs 10 < s.now) :
    exec .challengeExpiry s = .next (s.onLine (fun l => { l with challenge := none })) := by
  refine congrArg Host.Outcome.next ?_
  rw [hc]
  exact if_pos ht

theorem exec_authLockoutEnd {t₀ : Ticks} (hl : s.line.lockout = some t₀) (ht : t₀ ≤ s.now) :
    exec .authLockoutEnd s = .next (s.onLine (fun l => { l with lockout := none })) := by
  refine congrArg Host.Outcome.next ?_
  rw [hl]
  exact if_pos ht

theorem exec_lineReceiverOpen (hc : s.ccOn = true) (hs : s.line.stuckAt = none)
    (hv : s.pint Obj.lineHostVaux ≠ 1 ∨ s.mon.vaux = .on) :
    exec .lineReceiverOpen s = .next (s.onLine (fun l => { l with isOpen := true, deafUntilIdle := false })) := by
  refine congrArg Host.Outcome.next (if_pos ?_)
  rw [hc, hs]
  rcases hv with hv | hv <;> simp [hv]

/-! ## Breaks, attention and a LINE that is stuck (R57, R86, R87) -/

theorem State.keeps_rouse (s : State) : s.keeps [.pm] s.rouse := by
  unfold State.rouse
  split
  · exact State.keeps_enterPower ..
  · exact State.keeps_onPm ..

/-- LINE as it is once it is held low (R86). -/
def Line.stuckLow (now : Ticks) (l : Line) : Line :=
  { l.endSession with
    stuckAt := some (now - secs 1), pullup := false, partialLine := [], rollAt := none, checkAt := now + secs 1, highAt := none }

theorem exec_stuckLine (hr : s.running = true) (hx : s.resetting = false) (hs : s.line.stuckAt = none) (hi : s.lineIgnored = false)
    (hp : s.pm.power = .active ∨ s.pm.power = .loft) :
    exec .stuckLine s = .next ((s.rouse.abandon.onLine (Line.stuckLow s.now)).lineFault .stuck) := by
  refine congrArg Host.Outcome.next ((if_neg ?_).trans (if_neg ?_))
  · rw [hr, hx, hs, hi]
    decide
  · rcases hp with hp | hp <;> rw [hp] <;> decide

theorem exec_shortBreak {low : Ticks} (hh : s.hears = true) (h2 : 2 * s.charTime < low) (h1 : low < ms 1) :
    exec (.shortBreak low) s = .next s.takeBreak :=
  congrArg Host.Outcome.next ((if_neg (by simp [hh])).trans (if_pos (by simp [State.isBreak, h2, h1])))

theorem exec_longBreak {low : Ticks} (hh : s.hears = true) (h2 : ms 500 < low) (h1 : low ≤ secs 1) :
    exec (.longBreak low) s = .next s.takeBreak :=
  congrArg Host.Outcome.next (by rw [hh, decide_eq_true h2, decide_eq_true h1]; rfl)

theorem State.takeBreak_facts (s : State) : s.takeBreak.line = { s.line with partialLine := [] } ∧
    s.keeps [.line, .pm, .tally] s.takeBreak := by
  refine ⟨?_, State.keeps_step (State.keeps_step (State.keeps_mono s.keeps_rouse (by decide)) (State.keeps_onLine ..)) (State.keeps_count ..)⟩
  simp [State.takeBreak, State.onLine]

theorem exec_attention {low : Ticks} (hh : s.hears = true) (h2 : 2 * s.charTime < low) (h1 : ms 1 ≤ low) (h5 : low ≤ ms 500) :
    exec (.attention low) s = .next (s.rouse.abandon.onLine (fun l => { l with partialLine := [], challenge := none, rollAt := none })) :=
  congrArg Host.Outcome.next ((if_neg (by simp [hh])).trans (if_pos (by simp [State.isBreak, h2, h1, h5])))

theorem State.rouse_abandon (s : State) : s.line.idleAs s.rouse.abandon.line ∧ s.rouse.abandon.radio = s.radio ∧
    s.rouse.abandon.roster = s.roster ∧ s.rouse.abandon.now = s.now := by
  have h := s.rouse.abandon_idle
  rw [show s.rouse.line = s.line by simp] at h
  exact ⟨h, by simp, by simp, by simp⟩

theorem exec_stuckLineCheck {high : Bool} {t₀ : Ticks} (hs : s.line.stuckAt = some t₀) (hr : s.running = true)
    (hc : s.line.checkAt ≤ s.now) : exec (.stuckLineCheck high) s = .next (s.onLine (fun l =>
      { l with
        checkAt := s.line.checkAt + secs 1, highAt := if high then some s.now else none, pullup := s.pint Obj.linePullup == 1,
        pulseEnd := if s.pint Obj.linePullup = 1 then some (s.now + us 200) else none })) := by
  refine congrArg Host.Outcome.next ((if_pos (by simp [hs, hr, hc])).trans ?_)
  simp only [beq_iff_eq, State.onLine]

/-! ## What LINE does by itself (R48, R87) -/

theorem State.lineTick_pulse {t₀ : Ticks} (hr : s.line.rateAt = none) (hs : s.line.stuckAt = some t₀) (hh : s.line.highAt = none)
    (hp : s.line.pulseEnd = some s.now) : s.lineTick.line = { s.line with pulseEnd := none, pullup := false } := by
  simp [State.lineTick, hr, hp, hs, hh, State.onLine]

theorem State.lineTick_restored {t₀ x : Ticks} (hr : s.line.rateAt = none) (hp : s.line.pulseEnd = none)
    (hs : s.line.stuckAt = some t₀) (hh : s.line.highAt = some x) (ht : x + 2 * s.charTime ≤ s.now) :
    s.lineTick = (s.onLine (fun l =>
      { l with
        stuckAt := none, highAt := none, pullup := s.pint Obj.linePullup == 1,
        faults := l.faults.filter (fun k => k ≠ .stuck) })).queue (.lineUp ((s.now - t₀) / secs 1)) := by
  unfold State.lineTick
  simp only [hr, hp, hs, hh, if_pos ht]
  rw [State.onLine, State.onLine, hp]

theorem State.lineTick_newRate {t₀ : Ticks} (hr : s.line.rateAt = some t₀) (ht : max t₀ s.line.sendEnd ≤ s.now)
    (hs : s.line.stuckAt = none) (hp : s.line.pulseEnd = none) : s.lineTick = s.newRate := by
  have h1 : s.newRate.line.pulseEnd = none := by simpa [State.newRate, State.onLine] using hp
  have h2 : s.newRate.line.stuckAt = none := by simpa [State.newRate, State.onLine] using hs
  simp only [State.lineTick, hr, if_pos ht, h1, h2]

theorem State.newRate_facts (s : State) : s.newRate.line = { s.line with
      rate := (s.fire .lineRate).pnat Obj.lineRate, rateAt := none,
      trial := some ((match s.line.trial with | some (r, _) => r | none => s.line.rate), s.now + secs 10) } ∧
    s.keeps [.line, .params] s.newRate :=
  ⟨rfl, State.keeps_step (State.keeps_mono (State.keeps_fire ..) (by decide)) (State.keeps_onLine ..)⟩

end

/-! ## A character is taken (R51, R55, R56) -/

section

variable {s : State} {c : Byte}

/-- The part when a character has come: awake, with the mode of a line that it begins (R50, R55). -/
def State.charReady (s : State) : State :=
  let a := if s.rouse.pm.entering.isSome then s.rouse.wakeEvent else s.rouse
  if s.line.partialLine.isEmpty then a.fire .nextLine else a

theorem State.charReady_facts (s : State) : s.charReady.line = s.line ∧ s.keeps [.pm, .params] s.charReady ∧
    s.charReady.pnat Obj.lineMode = (if s.line.partialLine = [] then s.fire .nextLine else s).pnat Obj.lineMode := by
  obtain ⟨a, ha, hk⟩ : ∃ a, a = (if s.rouse.pm.entering.isSome then s.rouse.wakeEvent else s.rouse) ∧ s.keeps [.pm] a := by
    refine ⟨_, rfl, ?_⟩
    split
    · exact State.keeps_trans s.keeps_rouse (State.keeps_wakeEvent ..)
    · exact s.keeps_rouse
  have hp : a.params = s.params := hk.2.2.2 .params (by decide)
  have hl : a.line = s.line := hk.2.2.2 .line (by decide)
  have he : s.charReady = if s.line.partialLine.isEmpty then a.fire .nextLine else a := by rw [ha]; rfl
  rw [he]
  by_cases hempty : s.line.partialLine = []
  · rw [if_pos (by simp [hempty]), if_pos hempty]
    exact ⟨hl, State.keeps_step (State.keeps_mono hk (by decide)) (State.keeps_fire ..), State.pnat_fire_congr _ hp hk.2.2.1 _⟩
  · rw [if_neg (by simpa using hempty), if_neg hempty]
    exact ⟨hl, State.keeps_mono hk (by decide), State.pnat_congr hp hk.2.2.1 _⟩

/-- The partial line once a character has come (R55, R56). -/
def charHeld (typed : Bool) (c : Byte) (old : List Byte) : List Byte :=
  if typed && (c == 0x08 || c == 0x7F) then old.dropLast
  else if c == 0x0D || c == 0x0A then old else if 200 < old.length then old else old ++ [c]

/-- What typed mode echoes for a character (R51, R56). -/
def charEcho (c : Byte) : List Byte :=
  if c == 0x08 || c == 0x7F then [0x08, 0x20, 0x08] else if c == 0x0D || c == 0x0A then [0x0D, 0x0A] else [c]

/-- A character joins the partial line, and is echoed if `echoes` (R51, R55, R56). -/
def State.takeChar (typed echoes : Bool) (c : Byte) (old : List Byte) (s : State) : State :=
  let u := s.onLine (fun l =>
    { l with partialLine := charHeld typed c old, partialAt := s.now, afterCr := c == 0x0D, tx := [], sending := none })
  if echoes then (u.bytes .line (charEcho c).length).sendBare (.echo (charEcho c)) .echo (charEcho c).length else u

theorem exec_characterEcho (hh : s.hears = true) (hecho : ¬ (s.line.sending = some .echo ∧ s.now < s.line.sendEnd + s.charTime))
    (hlf : c ≠ 0x0A ∨ s.line.afterCr = false) : exec (.characterEcho c) s = .next (
      let typed := s.charReady.pnat Obj.lineMode == 0
      let echoes := typed && s.line.solo && (if s.line.partialLine.isEmpty then c else s.line.partialLine.headD 0) != 0x40
      s.charReady.takeChar typed echoes c s.line.partialLine) := by
  have hlf' : (c == 0x0A && s.line.afterCr) = false := by
    rcases hlf with h | h
    · rw [beq_false_of_ne h, Bool.false_and]
    · rw [h, Bool.and_false]
  refine congrArg Host.Outcome.next ((if_neg (by simp [hh])).trans ((if_neg (by simpa using hecho)).trans ((if_neg (by rw [hlf']; decide)).trans ?_)))
  obtain ⟨hready, -, -⟩ := s.charReady_facts
  have ha : (if s.rouse.pm.entering.isSome then s.rouse.wakeEvent else s.rouse).line = s.line := by
    split <;> simp
  have hr : s.charReady = if s.line.partialLine.isEmpty then
      (if s.rouse.pm.entering.isSome then s.rouse.wakeEvent else s.rouse).fire .nextLine
      else (if s.rouse.pm.entering.isSome then s.rouse.wakeEvent else s.rouse) := rfl
  dsimp only
  rw [ha, ← hr]
  clear hr ha
  rw [hready]
  generalize s.charReady = u at *
  cases ht : u.pnat Obj.lineMode == 0
  · simp only [Bool.false_and]
    rfl
  · simp only [Bool.true_and]
    rfl

theorem State.takeChar_facts (typed echoes : Bool) (c : Byte) (old : List Byte) (s : State) :
    let t := s.takeChar typed echoes c old
    t.line.partialAt = s.now ∧ t.line.afterCr = decide (c = 0x0D) ∧ t.line.partialLine = charHeld typed c old ∧
      (echoes = true → t.line.tx = [.echo (charEcho c)]) ∧ (echoes = false → t.line.tx = []) ∧ s.keeps [.line, .tally] t := by
  cases echoes with
  | true =>
    exact ⟨rfl, rfl, rfl, fun _ => rfl, fun h => absurd h (by decide), State.keeps_step (State.keeps_step
      (State.keeps_mono (State.keeps_onLine ..) (by decide)) (State.keeps_bytes ..)) (State.keeps_onLine ..)⟩
  | false => exact ⟨rfl, rfl, rfl, fun h => absurd h (by decide), fun _ => rfl, State.keeps_mono (State.keeps_onLine ..) (by decide)⟩

end

/-! ## A faulty line (R48, R53, R59 to R62) -/

section

variable {s : State}

/-- A line has come whose characters are in no command's form (R55, R59). -/
def State.lineIn (chars : List Byte) (valid : Bool) (s : State) : State :=
  let (k, u) := (s.fire .nextLine).draw
  let u := u.rouse.bytes .line (chars.length + 1 + Config.freeChars k)
  let u := if u.pm.entering.isSome then u.wakeEvent else u
  u.onLine (fun l =>
    { l with
      solo := l.solo && (lineAddr chars).isNone, partialLine := [], tx := [], sending := none,
      trial := if valid then none else l.trial })

theorem State.lineIn_facts (chars : List Byte) (valid : Bool) (s : State) : (s.lineIn chars valid).line = { s.line with
      solo := s.line.solo && (lineAddr chars).isNone, partialLine := [], tx := [], sending := none,
      trial := if valid then none else s.line.trial } ∧ s.keeps [.line, .pm, .params, .tally] (s.lineIn chars valid) ∧
    (s.lineIn chars valid).pnat Obj.lineMode = (s.fire .nextLine).pnat Obj.lineMode := by
  obtain ⟨a, ha, hal, hak, hap⟩ : ∃ a : State, a = ((s.fire .nextLine).draw.2.rouse.bytes .line
      (chars.length + 1 + Config.freeChars (s.fire .nextLine).draw.1)) ∧ a.line = s.line ∧ s.keeps [.pm, .params, .tally] a ∧
      a.params = (s.fire .nextLine).params := by
    refine ⟨_, rfl, by simp, ?_, by simp⟩
    exact State.keeps_step (State.keeps_step (State.keeps_step (State.keeps_mono (State.keeps_fire ..) (by decide))
      (State.keeps_draw [] _)) (State.keeps_rouse _)) (State.keeps_bytes ..)
  obtain ⟨b, hb, hbl, hbk, hbp⟩ : ∃ b : State, b = (if a.pm.entering.isSome then a.wakeEvent else a) ∧ b.line = s.line ∧
      s.keeps [.pm, .params, .tally] b ∧ b.params = (s.fire .nextLine).params := by
    refine ⟨_, rfl, ?_⟩
    split
    · exact ⟨by simpa using hal, State.keeps_step hak (State.keeps_wakeEvent ..), by simpa using hap⟩
    · exact ⟨hal, hak, hap⟩
  have he : s.lineIn chars valid = b.onLine (fun l =>
      { l with
        solo := l.solo && (lineAddr chars).isNone, partialLine := [], tx := [], sending := none,
        trial := if valid then none else l.trial }) := by
    rw [hb, ha]
    rfl
  rw [he]
  refine ⟨?_, State.keeps_step (State.keeps_mono hbk (by decide)) (State.keeps_onLine ..),
    State.pnat_congr (s := s.fire .nextLine) hbp hbk.2.2.1 _⟩
  rw [State.onLine, hbl]

/-- A line that names no part, or this one (R53, R59). -/
theorem rawHdr_addr {l : List Byte} {h : Hdr} (hr : rawHdr l = some h) {solo : Bool} {address : Nat}
    (ha : lineAddr l = none ∧ solo = true ∨ lineAddr l = some (some address) ∧ address ≠ 0) :
    h.addr ≠ some 0 ∧ (h.addr = none ∧ solo = true ∧ (lineAddr l).isNone = true ∨ h.addr = some address) := by
  unfold rawHdr at hr
  dsimp only at hr
  rcases ha with ⟨ha, hs⟩ | ⟨ha, h0⟩ <;> rw [ha] at hr <;> obtain rfl := Option.some.inj hr
  · exact ⟨nofun, .inl ⟨rfl, hs, by rw [ha]; rfl⟩⟩
  · exact ⟨fun h => h0 (Option.some.inj h), .inr rfl⟩

theorem State.refuse_lastErr {h : Hdr} {v : Verb} {e : Err} {tok : Nat} {obj : Option Nat} (h0 : h.addr ≠ some 0) :
    (s.refuse h v e tok obj).line.lastErr.map LastErr.err = some e := by
  unfold State.refuse
  dsimp only
  rw [if_neg (by simpa using h0), (State.reply_fields ..).2]
  rfl

/-- What is done with a line for this part, once it is known what fails in it (R53, R60 to R62). -/
def State.lineFailed (l : List Byte) (h : Hdr) (raw : Option (Err × Nat)) (s : State) : State :=
  match raw with
  | none => s
  | some (e, tok) =>
    let w := bodyTokens l
    let v := verbOf (w.headD [])
    let (a, s) := s.argHash
    let aud := if e == .check || e == .syntaxErr || e == .long then s.rawAud a w else none
    State.finish (s.lineOrigin h) h v { s := s, err := some (e, tok), out := [], obj := lineObject v w, aud := aud }

theorem exec_lineError {l : List Byte} {m : Bool} {h : Hdr} {e : Err} {k : Nat} (hh : s.hears = true) (hr : rawHdr l = some h)
    (ht : tokens l ≠ [])
    (ha : lineAddr l = none ∧ s.line.solo = true ∨ lineAddr l = some (some s.line.address) ∧ s.line.address ≠ 0)
    (he : rawError ((s.fire .nextLine).pnat Obj.lineMode == 1) m l = some (e, k)) :
    ∃ (v : Verb) (o : Origin) (obj : Option Nat) (aud : Option Aud), exec (.lineError l m) s =
      .next (State.finish o h v (bad ((s.lineIn l (validSyntax m l)).beginLine false).argHash.2 e k obj aud)) := by
  obtain ⟨h0, hfor⟩ := rawHdr_addr hr ha
  have hblank : (tokens l).isEmpty = false := by simpa using ht
  obtain ⟨hline, -, hmode⟩ := s.lineIn_facts l (validSyntax m l)
  have hunit : (s.lineIn l (validSyntax m l)).forUnit h = true := by
    unfold State.forUnit
    rw [hline]
    rcases hfor with ⟨hn, hsolo, hadr⟩ | hn <;> rw [hn]
    · simp [hsolo, hadr]
    · simp
  have hcond : ¬ (!(s.lineIn l (validSyntax m l)).forUnit h || false ||
      (h.addr == some 0 && !broadcastVerb (verbOf ((bodyTokens l).headD [])))) = true := by
    rw [hunit, beq_false_of_ne h0]
    simp
  have hraw : rawError ((((s.lineIn l (validSyntax m l)).beginLine false).pnat Obj.lineMode) == 1) m l = some (e, k) := by
    rw [← he, ← hmode]
    rfl
  have hexec : exec (.lineError l m) s =
      .next (((s.lineIn l (validSyntax m l)).beginLine false).lineFailed l h (some (e, k))) := by
    refine congrArg Host.Outcome.next ((if_neg (by simp [hh])).trans ?_)
    dsimp only
    rw [hblank, hr, Bool.not_false, Bool.and_true]
    refine (if_neg hcond).trans ?_
    rw [← hraw]
    rfl
  exact ⟨_, _, _, _, hexec⟩

/-- What a faulty line leaves (R48, R61, R62). -/
theorem State.lineError_facts {l : List Byte} {m : Bool} {h : Hdr} {e : Err} {k : Nat} (hh : s.hears = true) (hr : rawHdr l = some h)
    (ht : tokens l ≠ [])
    (ha : lineAddr l = none ∧ s.line.solo = true ∨ lineAddr l = some (some s.line.address) ∧ s.line.address ≠ 0)
    (he : rawError ((s.fire .nextLine).pnat Obj.lineMode == 1) m l = some (e, k)) :
    ∃ t, exec (.lineError l m) s = .next t ∧ t.line.tx = [.err e] ∧ t.line.level = s.line.level ∧
      t.line.lastErr.map LastErr.err = some e ∧ t.line.partialLine = [] ∧
      t.line.trial = (if validSyntax m l then none else s.line.trial) ∧ s.keeps [.line, .pm, .tally, .params, .store] t := by
  obtain ⟨v, o, obj, aud, hexec⟩ := exec_lineError hh hr ht ha he
  obtain ⟨h0, -⟩ := rawHdr_addr hr ha
  obtain ⟨hline, hk, -⟩ := s.lineIn_facts l (validSyntax m l)
  obtain ⟨w, hw, hwl, hwk⟩ : ∃ w, w = ((s.lineIn l (validSyntax m l)).beginLine false).argHash.2 ∧
      w.line = { (s.lineIn l (validSyntax m l)).line with lastLine := (s.lineIn l (validSyntax m l)).now, challenge := none } ∧
      s.keeps [.line, .pm, .params, .tally] w :=
    ⟨_, rfl, rfl, State.keeps_step (State.keeps_step (State.keeps_step hk (State.keeps_onPm ..)) (State.keeps_onLine ..))
      (State.keeps_draw [] _)⟩
  rw [← hw] at hexec
  rw [hline] at hwl
  obtain ⟨htx, -, hlevel, hkeep⟩ := State.finish_bad_keeps (h := h) o v w e k obj aud (by rw [hwl])
  obtain ⟨-, hrec⟩ := State.recordLine_keeps o h v (bad w e k obj aud)
  have hcore : (State.finish o h v (bad w e k obj aud)).line.core = w.line.core :=
    (State.refuse_core h v e k obj (State.recordLine o h v (bad w e k obj aud))).trans (congrArg Line.core hrec)
  rw [hwl] at hcore hlevel
  exact ⟨_, hexec, htx h0, hlevel, State.refuse_lastErr h0, (congrArg Line.partialLine hcore :), (congrArg Line.trial hcore :),
    State.keeps_step (State.keeps_mono hwk (by decide)) hkeep⟩

/-! ## No partial line begins by an event (R47) -/

theorem State.hostDeaf_blank (hb : s.line.partialLine = []) : s.hostDeaf.line.partialLine = [] := by
  unfold State.hostDeaf
  split
  · rfl
  · exact hb

theorem State.pushEv_blank (e : Ev) (hb : s.line.partialLine = []) : (s.pushEv e).line.partialLine = [] := by
  have h (e : EvLine) (l : Line) : (l.push e).partialLine = l.partialLine := by
    unfold Line.push
    split <;> rfl
  exact (h ..).trans hb

theorem State.vauxTripped_blank (code : Nat) (hb : s.line.partialLine = []) : (s.vauxTripped code).line.partialLine = [] := by
  have hc (u : State) (b : Block) (name : String) : (u.count b name).line = u.line := by simp
  have hoff (f : Mons → Mons) : ((((s.count .pg "vaux.trip").pushEv (.vauxTrip code)).onMon f).hostDeaf).line.partialLine = [] :=
    State.hostDeaf_blank (State.pushEv_blank (s := s.count .pg "vaux.trip") _ (by rw [hc]; exact hb))
  have hsel (c : Prop) [Decidable c] (a b : State) (ha : a.line.partialLine = []) (hb : b.line.partialLine = []) :
      (if c then a else b).line.partialLine = [] := by
    split
    · exact ha
    · exact hb
  unfold State.vauxTripped
  refine hsel _ _ _ (State.pushEv_blank _ ?_) (hoff _)
  rw [hc]
  exact hoff _

theorem State.vauxAttempt_blank (hb : s.line.partialLine = []) : s.vauxAttempt.line.partialLine = [] := by
  have hp (f : Mons → Mons) (g : Fin 4) : (((s.fire .vauxOn).onMon f).pgAsk g).2.line.partialLine = [] := by
    rw [show (((s.fire .vauxOn).onMon f).pgAsk g).2.line = s.line by simp [State.onMon]]
    exact hb
  unfold State.vauxAttempt
  dsimp only
  split
  · exact hp ..
  · exact State.vauxTripped_blank _ (hp ..)

theorem State.queue_blank (e : Ev) (hb : s.line.partialLine = []) : (s.queue e).line.partialLine = [] := by
  have hp := State.pushEv_blank e hb
  unfold State.queue State.vauxPolicy
  split
  · exact State.vauxAttempt_blank (s := (s.pushEv e).onMon _) hp
  · exact hp

theorem State.lineFault_blank (k : LineFaultKind) (hb : s.line.partialLine = []) : (s.lineFault k).line.partialLine = [] := by
  refine State.queue_blank _ ?_
  simpa [State.onLine] using hb

/-- A LINE that is held low (R86). -/
theorem State.stuckLow_facts (s : State) :
    let t := (s.rouse.abandon.onLine (Line.stuckLow s.now)).lineFault .stuck
    t.line.stuckAt = some (s.now - secs 1) ∧ t.line.pullup = false ∧ t.line.checkAt = s.now + secs 1 ∧ t.line.level = .observer ∧
      .stuck ∈ t.line.faults ∧ t.line.partialLine = [] ∧ t.line.tx = [] ∧ t.radio = s.radio ∧ t.roster = s.roster := by
  obtain ⟨⟨-, -, htx⟩, hradio, hroster, -⟩ := s.rouse_abandon
  generalize s.rouse.abandon = a at *
  have hst := (a.onLine (Line.stuckLow s.now)).lineFault_stood .stuck
  have hmem := (a.onLine (Line.stuckLow s.now)).lineFault_mem .stuck
  have hblank := State.lineFault_blank (s := a.onLine (Line.stuckLow s.now)) .stuck rfl
  have hrest (u : State) : (u.lineFault .stuck).radio = u.radio ∧ (u.lineFault .stuck).roster = u.roster := by simp
  refine ⟨(congrArg Line.stuckAt hst :), (congrArg Line.pullup hst :), (congrArg Line.checkAt hst :), (congrArg Line.level hst :), hmem,
    hblank, (congrArg Line.tx hst :).trans htx, (hrest _).1.trans hradio, (hrest _).2.trans hroster⟩

theorem charHeld_deletes {c : Byte} (h : c = 0x08 ∨ c = 0x7F) (old : List Byte) : charHeld true c old = old.dropLast := by
  rcases h with rfl | rfl <;> rfl

theorem charHeld_ends {c : Byte} (h : c = 0x0D ∨ c = 0x0A) (typed : Bool) (old : List Byte) : charHeld typed c old = old := by
  rcases h with rfl | rfl <;> cases typed <;> rfl

theorem charHeld_plain {c : Byte} (h1 : c ≠ 0x08) (h2 : c ≠ 0x7F) (h3 : c ≠ 0x0D) (h4 : c ≠ 0x0A) {old : List Byte}
    (hlen : old.length ≤ 200) (typed : Bool) : charHeld typed c old = old ++ [c] ∧ charEcho c = [c] := by
  unfold charHeld charEcho
  rw [beq_false_of_ne h1, beq_false_of_ne h2, beq_false_of_ne h3, beq_false_of_ne h4]
  simp [Nat.not_lt.mpr hlen]

theorem head?_append_char (c : Byte) (old : List Byte) :
    (old ++ [c]).head? = some (if old.isEmpty then c else old.headD 0) := by
  cases old <;> rfl

/-- Settles O53: collisions (`State.collide_cut` and its kin), the times that end, breaks, a LINE that is stuck, characters
(`State.takeChar_facts`), faulty lines (`State.lineError_facts`), and what LINE does by itself. -/
theorem wireEvents : Obligations.WireEvents := by
  refine ⟨fun s => ⟨fun hx => ?_, fun x hx => ?_, exec_partialLineTimeout, fun r t₀ hr ht => exec_lineRateTrialExpiry hr ht,
    fun hl ht => ⟨_, exec_sessionIdleTimeout hl ht, rfl, State.keeps_onLine ..⟩, fun c hc ht => exec_challengeExpiry hc ht,
    fun t₀ hl ht => exec_authLockoutEnd hl ht, fun hc hs hv => exec_lineReceiverOpen hc hs hv,
    fun hr hx hs hi hp => ⟨_, exec_stuckLine hr hx hs hi hp, ?_⟩, fun hh c => congrArg Host.Outcome.next (if_pos (by simp [hh])),
    fun hh => ⟨fun low h2 => ⟨fun h1 => ⟨_, exec_shortBreak hh h2 h1, s.takeBreak_facts⟩, fun h1 h5 => ⟨_, exec_attention hh h2 h1 h5, ?_⟩⟩,
      fun low h2 h1 => ⟨_, exec_longBreak hh h2 h1, s.takeBreak_facts⟩, fun c => ?_,
      fun l m h e k hr ht _ ha he => State.lineError_facts hh hr ht ha he⟩⟩,
    fun s => ⟨fun high t₀ hs hr hc => exec_stuckLineCheck hs hr hc, fun high ht => ?_, fun t₀ hr hs hh hp => State.lineTick_pulse hr hs hh hp,
      fun t₀ x hr hp hs hh ht => State.lineTick_restored hr hp hs hh ht, fun t₀ hr ht hs hp => ?_⟩⟩
  · refine congrArg Host.Outcome.next ?_
    rw [hx]
  · obtain ⟨hsend, htx, hdeaf⟩ := s.collide_cut x
    obtain ⟨hradio, hroster⟩ := s.collide_rest x
    refine ⟨_, exec_lineCollision hx, hsend, htx, hdeaf, ?_, ?_, ?_, ?_, ?_, ?_, hradio, hroster⟩
    · rintro m n rfl
      exact s.collide_enum m n
    · rintro e rfl hl
      exact State.collide_push hx hl
    · rintro rfl ha
      exact State.collide_reply ha
    · rintro rfl ha
      have he : s.collide .reply = s.collided := if_pos (s.collided_address.trans ha)
      rw [he]
      exact State.keeps_collided hx (.inl rfl)
    · rintro rfl
      exact State.keeps_collided hx (.inr rfl)
    · rintro bits f rfl
      exact State.collide_seen hx
  · exact s.stuckLow_facts
  · obtain ⟨⟨hfree, -, htx⟩, hradio, hroster, -⟩ := s.rouse_abandon
    exact ⟨rfl, rfl, rfl, htx, (congrArg Line.level hfree :), (congrArg Line.rate hfree :), (congrArg Line.address hfree :), hradio, hroster⟩
  · intro old u typed echoing
    refine ⟨fun he => ?_, fun he hc hcr => ?_, fun he hc => ?_⟩
    · exact congrArg Host.Outcome.next ((if_neg (by simp [hh])).trans (if_pos (by simpa [echoing] using he)))
    · exact congrArg Host.Outcome.next ((if_neg (by simp [hh])).trans ((if_neg (by simpa [echoing] using he)).trans
        (if_pos (by simp [hc, hcr]))))
    · obtain ⟨hline, hk, hmode⟩ := s.charReady_facts
      have hex := exec_characterEcho hh he hc
      obtain ⟨hat, hcr, hheld, hyes, hno, hkeep⟩ := s.charReady.takeChar_facts (s.charReady.pnat Obj.lineMode == 0)
        ((s.charReady.pnat Obj.lineMode == 0) && s.line.solo && (if s.line.partialLine.isEmpty then c else s.line.partialLine.headD 0) != 0x40)
        c s.line.partialLine
      have htyped : (s.charReady.pnat Obj.lineMode == 0) = true ↔ typed := by
        rw [hmode]
        exact beq_iff_eq
      generalize s.charReady = v at *
      refine ⟨_, hex, hat.trans hk.2.1, hcr, fun ht h => ?_, fun h => ?_, fun h1 h2 h3 h4 hlen => ⟨?_, fun ht hs hhead => ?_, fun h => ?_⟩,
        State.keeps_step (State.keeps_mono hk (by decide)) hkeep⟩
      · rw [hheld, htyped.mpr ht]
        exact charHeld_deletes h old
      · rw [hheld]
        exact charHeld_ends h _ old
      · rw [hheld]
        exact (charHeld_plain h1 h2 h3 h4 hlen _).1
      · rw [hyes, (charHeld_plain h1 h2 h3 h4 hlen true).2]
        rw [head?_append_char] at hhead
        rw [htyped.mpr ht, hs]
        simpa using hhead
      · refine hno ?_
        rw [head?_append_char] at h
        rcases h with h | h | h
        · rw [Bool.eq_false_iff.mpr (fun ht => h (htyped.mp ht)), Bool.false_and, Bool.false_and]
        · rw [h, Bool.and_false, Bool.false_and]
        · rw [Option.some.inj h]
          simp
  · exact congrArg Host.Outcome.next (if_neg (by simp [Nat.not_le.mpr ht]))
  · rw [State.lineTick_newRate hr ht hs hp]
    exact s.newRate_facts

end

end Sys2Proof.Machine

/-!
Proofs about frames that are received: the buffer, the acknowledgement that a frame makes due, and the entry that hears it.
-/

namespace Sys2Proof.Machine

-- The proofs of this part are elaborated one after another: side by side they need more memory than the check leaves.
set_option Elab.async false

/-! ## Frames that are received (R300, R303, R304, R332, R354, R357, R450) -/

section

variable {s : State}

theorem State.airRx_facts (n : Fin 16) (psdu : Nat) (s : State) :
    (s.airRx n psdu).rx.lanes = s.rx.lanes ∧ (s.airRx n psdu).rx.buf = s.rx.buf ∧ (s.airRx n psdu).rx.high = s.rx.high ∧
      s.keeps [.rx, .tally] (s.airRx n psdu) := by
  have hchans (l : List ResId) (f : Judge → Judge) (u : State) :
      (u.judgeChans l f).rx.buf = u.rx.buf ∧ (u.judgeChans l f).rx.high = u.rx.high :=
    ⟨State.each_keeps (fun s => s.rx.buf) l _ u fun _ _ => rfl, State.each_keeps (fun s => s.rx.high) l _ u fun _ _ => rfl⟩
  have hlane (f : Judge → Judge) (u : State) : (u.judgeLane n f).rx.buf = u.rx.buf ∧ (u.judgeLane n f).rx.high = u.rx.high := by
    unfold State.judgeLane
    dsimp only
    split
    · exact hchans ..
    · exact ⟨rfl, rfl⟩
  obtain ⟨hl, hk⟩ := (s.bytes (.airRx n) psdu).judgeLane_rx n (fun j => { j with passed := j.passed + 1 })
  obtain ⟨hb, hh⟩ := hlane (fun j => { j with passed := j.passed + 1 }) (s.bytes (.airRx n) psdu)
  exact ⟨hl, hb, hh, State.keeps_trans (State.keeps_mono (State.keeps_onTally ..) (by decide)) (State.keeps_mono hk (by decide))⟩

/-- The frame as it stands in the receive buffer (R303). -/
def State.frameOf (n : Fin 16) (f : Frame) (psdu : Nat) (s : State) : RxFrame :=
  { f := f, r := s.rxInfo n psdu, at_ := s.frameStart n, time := s.stampBack (s.now - s.frameStart n), flooded := false,
    round := none, cell := (0, 0) }

/-- The lane after the end of a frame, with the acknowledgement that the frame makes due (R300). -/
def State.frameEnded (n : Fin 16) (f : Frame) (psdu : Nat) (s : State) : State :=
  let t := s.onLane n Lane.idle
  if s.rx.lanes[n].acks && (f.ackReq || f.kind == .join) then
    t.onLane n (fun l => { l with ack := some (AckDue.make f t.now (s.rxInfo n psdu).chain) })
  else t

theorem State.frameEnded_facts (n : Fin 16) (f : Frame) (psdu : Nat) (s : State) :
    (s.frameEnded n f psdu).rx.buf = s.rx.buf ∧ (s.frameEnded n f psdu).rx.high = s.rx.high ∧
      (f.ackReq = true → s.rx.lanes[n].acks = true →
        (s.frameEnded n f psdu).rx.lanes[n].ack = some (AckDue.make f s.now (s.rxInfo n psdu).chain)) ∧
      s.keeps [.rx] (s.frameEnded n f psdu) := by
  unfold State.frameEnded
  dsimp only
  split
  · exact ⟨rfl, rfl, fun _ _ => by rw [State.onLane_self]; rfl, State.keeps_step (State.keeps_onRx ..) (State.keeps_onRx ..)⟩
  next h => exact ⟨rfl, rfl, fun ha hl => absurd (by rw [ha, hl]; rfl) h, State.keeps_onRx ..⟩

theorem State.bufCheck_quiet (hh : s.rx.high = false) (hn : s.rx.buf.length < s.highMark) : s.bufCheck = s := by
  unfold State.bufCheck
  simp [hh, Nat.not_le.mpr hn]

/-- A frame that comes into the empty buffer and can be recorded is processed at once (R303, R354). -/
theorem State.arrive_alone {n : Fin 16} {f : Frame} {psdu : Nat} (hb : s.rx.buf = []) (hh : s.rx.high = false)
    (hm : 1 < s.highMark) (hl : s.roster.loaded = true) (hr : s.store.room (sightRecords f) = true) :
    let x := s.frameOf n f psdu
    let p := (s.frameEnded n f psdu).processFrame x
    s.arrive n f psdu false = (p.2.roundNote x (p.1 == .recorded) (p.1 == .again)).bufCheck := by
  intro x
  dsimp only
  obtain ⟨hwb, hwh, -, hwk⟩ := s.frameEnded_facts n f psdu
  obtain ⟨-, hwnow, hwpart, hsame⟩ := hwk
  have hwr : (s.frameEnded n f psdu).roster = s.roster := hsame .roster (by decide)
  have hws : (s.frameEnded n f psdu).store = s.store := hsame .store (by decide)
  have hwp : (s.frameEnded n f psdu).params = s.params := hsame .params (by decide)
  have hunfold : s.arrive n f psdu false =
      let u := ((s.frameEnded n f psdu).onRx (fun r => { r with buf := r.buf ++ [x] })).bufCheck
      u.drainBuf u.rx.buf.length := by
    refine (if_neg ?_).trans rfl
    change ¬ 1024 ≤ s.rx.buf.length
    simp [hb]
  rw [hunfold]
  generalize s.frameEnded n f psdu = w at *
  have hmark : (w.onRx (fun r => { r with buf := r.buf ++ [x] })).highMark = s.highMark := by
    unfold State.highMark
    rw [State.pnat_congr (t := w.onRx (fun r => { r with buf := r.buf ++ [x] })) (s := s) hwp hwpart]
  have hbuf : (w.onRx (fun r => { r with buf := r.buf ++ [x] })).rx.buf = [x] := by
    change w.rx.buf ++ [x] = [x]
    rw [hwb, hb]
    rfl
  have hback : (w.onRx (fun r => { r with buf := r.buf ++ [x] })).onRx (fun r => { r with buf := [] }) = w :=
    (congrArg (fun l => w.onRx (fun r => { r with buf := l })) (hwb.trans hb).symm).trans rfl
  have hroom : ((w.onRx (fun r => { r with buf := r.buf ++ [x] })).roster.loaded &&
      (w.onRx (fun r => { r with buf := r.buf ++ [x] })).store.room (sightRecords x.f)) = true := by
    change (w.roster.loaded && w.store.room (sightRecords f)) = true
    rw [hwr, hws, hl, hr]
    rfl
  dsimp only
  rw [State.bufCheck_quiet (s := w.onRx (fun r => { r with buf := r.buf ++ [x] })) (hwh.trans hh) (by rw [hbuf, hmark]; exact hm)]
  generalize w.onRx (fun r => { r with buf := r.buf ++ [x] }) = u at *
  rw [hbuf]
  change u.drainBuf 1 = _
  unfold State.drainBuf
  rw [hbuf]
  dsimp only
  rw [if_pos hroom, hback]
  rfl

/-! ### An accepted frame (R230, R283, R332, R350, R364) -/

/-- The receive buffer and the acknowledgements that are due stay. -/
def State.rxSafe (s t : State) : Prop := t.rx.buf = s.rx.buf ∧ ∀ n : Fin 16, t.rx.lanes[n].ack = s.rx.lanes[n].ack

theorem State.rxSafe_of_eq {t : State} (h : t.rx = s.rx) : s.rxSafe t := by
  unfold State.rxSafe
  rw [h]
  exact ⟨rfl, fun _ => rfl⟩

theorem State.rxSafe_trans {t u : State} (h : s.rxSafe t) (h' : t.rxSafe u) : s.rxSafe u :=
  ⟨h'.1.trans h.1, fun n => (h'.2 n).trans (h.2 n)⟩

theorem State.rxSafe_release (n : Fin 16) (s : State) : s.rxSafe (s.release n) := by
  refine ⟨rfl, fun m => ?_⟩
  by_cases hm : m = n
  · subst hm
    rw [State.release, State.onLane_self]
  · rw [State.release, State.onLane_other hm]

theorem State.rxSafe_releaseAll (p : Holder → Bool) (s : State) : s.rxSafe (s.releaseAll p) := by
  unfold State.releaseAll
  generalize List.finRange 16 = l
  induction l generalizing s with
  | nil => exact State.rxSafe_of_eq rfl
  | cons n ns ih =>
    refine State.rxSafe_trans (t := if s.rx.lanes[n].bound && p s.rx.lanes[n].holder then s.release n else s) ?_ (ih _)
    split
    · exact State.rxSafe_release ..
    · exact State.rxSafe_of_eq rfl

theorem State.rxSafe_found (i : Nat) (s : State) : s.rxSafe (s.found i) := by
  unfold State.found
  split
  · dsimp only
    generalize hu : s.onNet _ = u
    have h : s.rxSafe u := State.rxSafe_of_eq (by rw [← hu]; simp)
    exact State.rxSafe_trans (State.rxSafe_trans h (u.rxSafe_releaseAll (fun h => h == .reacquire i))) (State.rxSafe_of_eq (by simp))
  · exact State.rxSafe_of_eq rfl

/-- What identifies an entry and what an accepted frame leaves in it (R332, R348, R350). -/
def Entry.heard (e : Entry) : Eui × Bool × Nat × Nat × BitVec 32 × BitVec 32 × Nat × Bool :=
  (e.id, e.active, e.epoch, e.model, e.rxCtr, e.window, e.fails, e.unreach)

theorem State.onEntry_heard {i : Nat} {g : Entry → Entry} (hg : ∀ e, (g e).heard = e.heard) (s : State) :
    ((s.onEntry i g).entry i).map Entry.heard = (s.entry i).map Entry.heard := by
  rw [State.entry_onEntry, if_pos rfl, Option.map_map]
  exact Option.map_congr fun e _ => hg e

theorem State.persistRx_heard (i : Nat) (s : State) : ((s.persistRx i).entry i).map Entry.heard = (s.entry i).map Entry.heard := by
  have h : (s.persistRx i).entry i = (s.onEntry i (fun e => { e with rxSaved := e.rxCtr, accepts := 0 })).entry i := by
    unfold State.persistRx
    dsimp only
    (repeat' split) <;> rfl
  rw [h]
  refine State.onEntry_heard ?_ s
  exact fun _ => rfl

theorem State.found_entry (i j : Nat) (s : State) : (s.found i).entry j = s.entry j := by
  unfold State.entry
  congr 2
  unfold State.found
  split <;> simp

theorem State.heardFrom_heard (i : Nat) (s : State) : ((s.heardFrom i).entry i).map Entry.heard =
    (s.entry i).map (fun e => { e with fails := 0, unreach := false }.heard) := by
  have h : (s.heardFrom i).entry i =
      (s.onEntry i (fun e => { e with fails := 0, unreach := false, unreachAt := none, rejects := 0 })).entry i := by
    unfold State.entry
    congr 2
    unfold State.heardFrom
    dsimp only
    split <;> simp
  rw [h, State.entry_onEntry, if_pos rfl, Option.map_map]
  rfl

/-- An accepted frame moves its entry's counter and window and ends its failures (R332, R350). -/
theorem State.acceptEntry_facts {i : Nat} {e : Entry} (l w : BitVec 32) (x : RxFrame) (he : s.entry i = some e) :
    ((s.acceptEntry i l w x).entry i).map Entry.heard =
      some { e with rxCtr := l, window := w, fails := 0, unreach := false }.heard ∧
    s.rxSafe (s.acceptEntry i l w x) := by
  unfold State.acceptEntry
  dsimp only
  generalize ha : s.onEntry i _ = a
  have h1 : (a.entry i).map Entry.heard = some { e with rxCtr := l, window := w }.heard := by
    rw [← ha, State.entry_onEntry, if_pos rfl, he]
    rfl
  have hr1 : a.rx = s.rx := by
    rw [← ha]
    simp
  generalize hb : (if 16 ≤ ((a.entry i).map Entry.accepts).getD 0 then a.persistRx i else a) = b
  have h2 : (b.entry i).map Entry.heard = (a.entry i).map Entry.heard := by
    rw [← hb]
    split
    · exact State.persistRx_heard ..
    · rfl
  have hr2 : b.rx = a.rx := by
    rw [← hb]
    split <;> simp
  generalize hc : (if (x.flooded || x.r.invalid) = true then b
    else b.contactAt i x.at_ x.f.temp (b.lateness x.r.lane i x.at_)) = c
  have h3 : (c.entry i).map Entry.heard = (b.entry i).map Entry.heard := by
    rw [← hc]
    split
    · rfl
    · refine State.onEntry_heard ?_ b
      exact fun _ => rfl
  have hr3 : c.rx = b.rx := by
    rw [← hc]
    split <;> simp
  refine ⟨?_, State.rxSafe_trans (State.rxSafe_of_eq ?_) (State.rxSafe_found ..)⟩
  · rw [State.found_entry, State.heardFrom_heard]
    obtain ⟨y, hy, hyh⟩ := Option.map_eq_some_iff.mp (h3.trans (h2.trans h1))
    rw [hy]
    simp only [Entry.heard, Prod.mk.injEq] at hyh
    simp [Entry.heard, hyh]
  · simp [hr3, hr2, hr1]

end

end Sys2Proof.Machine

/-!
Proofs about the record of an accepted frame.
-/

namespace Sys2Proof.Machine

/-! ## The record of an accepted frame (R16, R300, R450) -/

section

variable {s : State}

theorem State.exchangeDone_idle (x : RxFrame) (i : Nat) (h : s.work.table = []) : s.exchangeDone x i = s := by
  unfold State.exchangeDone
  rw [h]
  exact ite_self _

theorem State.pushReport_idle (i : Nat) (plain : List Byte) (h : s.work.table = []) : s.pushReport i plain = s := by
  unfold State.pushReport
  split
  · rw [h]
    rfl
  · rfl

theorem State.ledgerAt_cached (time : Stamp) (b : LBody) (hf : s.store.flush = none) :
    ∃ q, CRec.ledger q s.now ∈ (s.ledgerAt time b).store.cache ∧ q.body = b := by
  have hst : (s.ledgerAt time b).store.cache =
      s.store.cache ++ (recordsFrom s.store.nextSeq time b.all).map (fun r => CRec.ledger r s.now) := by
    simp [State.ledgerAt, Store.foldl_place (fun r => CRec.ledger r s.now) _ hf]
  obtain ⟨q, hq, hb⟩ : ∃ q ∈ recordsFrom s.store.nextSeq time b.all, q.body = b := ⟨_, List.mem_cons_self, rfl⟩
  refine ⟨q, ?_, hb⟩
  rw [hst]
  exact List.mem_append_right _ (List.mem_map_of_mem hq)

/-- The SIGHTING record of a frame is in the write cache (R450). -/
theorem State.sight_cached (x : RxFrame) (h : Option Handle) (plain : List Byte) (hf : s.store.flush = none) :
    ∃ q b, CRec.ledger q s.now ∈ (s.sight x h plain).store.cache ∧ q.body = .sighting b ∧ b.id = x.f.id ∧ b.ctr = x.f.ctr ∧
      b.handle = h ∧ b.payload = plain := by
  obtain ⟨q, hq, hb⟩ := State.ledgerAt_cached x.time _ hf
  exact ⟨q, _, hq, hb, rfl, rfl, rfl, rfl⟩

theorem State.ackReady_lane {x : RxFrame} {a : AckDue} (adm : Bool) (h : s.rx.lanes[x.r.lane].ack = some a)
    (hfor : a.isFor x.f = true) :
    (s.ackReady x adm).rx.lanes[x.r.lane].ack = some { a with recorded := true, admission := adm } := by
  rw [State.ackReady, State.onLane_self, h]
  exact (congrArg Lane.ack (if_pos hfor) :)

/-- A frame outside a round of an entry without a flight: the entry hears it, and its record and acknowledgement follow. -/
theorem State.recordEntry_alone {x : RxFrame} (i : Nat) (l w : BitVec 32) (plain : List Byte) (adm : Bool)
    (hx : x.round = none) (hw : s.work.table = []) :
    let a := s.acceptEntry i l w x
    s.recordEntry i l w x plain adm = (.recorded, (a.sight x (some (a.handleAt i)) plain).ackReady x adm) := by
  intro a
  have hagain : s.repeatReply x i = false := by
    unfold State.repeatReply
    rw [hx]
  have hheard (v : State) : v.roundHeard x i = v := by
    unfold State.roundHeard
    rw [hx]
  have hlast {v : State} (hv : v.work.table = []) :
      (if x.f.kind == .data && !x.flooded && !false then (v.exchangeDone x i).pushReport i plain else v.exchangeDone x i) = v := by
    rw [State.exchangeDone_idle x i hv, State.pushReport_idle i plain hv]
    exact ite_self _
  have hwork : ((a.sight x (some (a.handleAt i)) plain).ackReady x adm).work.table = [] := by
    simp [a, State.ackReady, State.sight, hw]
  unfold State.recordEntry
  dsimp only
  rw [hagain, hx]
  simp only [Option.isNone_none, Bool.and_true]
  refine (congrArg (Prod.mk FrameEnd.recorded) (hlast (v := ((a.sight x (some (a.handleAt i)) plain).roundHeard x i).ackReady x adm)
    (by rw [hheard]; exact hwork)) :).trans ?_
  rw [hheard]

/-- What such a frame leaves in its entry, the cache and its lane (R300, R332, R450). -/
theorem State.recordEntry_facts {i : Nat} {e : Entry} {x : RxFrame} (l w : BitVec 32) (plain : List Byte) (adm : Bool)
    (he : s.entry i = some e) (hx : x.round = none) (hw : s.work.table = []) :
    let t := (s.recordEntry i l w x plain adm).2
    (t.entry i).map Entry.heard = some { e with rxCtr := l, window := w, fails := 0, unreach := false }.heard ∧
    t.rx.buf = s.rx.buf ∧
    (∀ a, s.rx.lanes[x.r.lane].ack = some a → a.isFor x.f = true →
      t.rx.lanes[x.r.lane].ack = some { a with recorded := true, admission := adm }) ∧
    (s.store.flush = none → ∃ q b, CRec.ledger q s.now ∈ t.store.cache ∧ q.body = .sighting b ∧ b.id = x.f.id ∧ b.ctr = x.f.ctr ∧
      b.handle = some { index := i, epoch := e.epoch } ∧ b.payload = plain) := by
  obtain ⟨hentry, hbuf, hack⟩ := State.acceptEntry_facts l w x he
  have hstore : (s.acceptEntry i l w x).store = s.store := by simp
  have hnow : (s.acceptEntry i l w x).now = s.now := by simp
  intro t
  have ht : t = _ := congrArg Prod.snd (State.recordEntry_alone i l w plain adm hx hw)
  clear_value t
  subst ht
  generalize s.acceptEntry i l w x = a at *
  have hhandle : a.handleAt i = { index := i, epoch := e.epoch } := by
    obtain ⟨y, hy, hyh⟩ := Option.map_eq_some_iff.mp hentry
    have hep : y.epoch = e.epoch := congrArg (fun z => z.2.2.1) hyh
    rw [State.handleAt, hy, ← hep]
    rfl
  have hq (hf : s.store.flush = none) := State.sight_cached (s := a) x (some (a.handleAt i)) plain (hstore ▸ hf)
  have hv : (a.sight x (some (a.handleAt i)) plain).entry i = a.entry i ∧ (a.sight x (some (a.handleAt i)) plain).rx = a.rx := by
    simp [State.entry, State.sight]
  dsimp only
  rw [hnow, hhandle] at hq
  rw [hhandle] at hv ⊢
  generalize a.sight x _ plain = v at *
  obtain ⟨hve, hvr⟩ := hv
  refine ⟨?_, ?_, fun y hy hfor => State.ackReady_lane adm ?_ hfor, hq⟩
  · exact (congrArg (Option.map Entry.heard) hve).trans hentry
  · exact (congrArg Rx.buf hvr).trans hbuf
  · rw [hvr, hack, hy]

end

end Sys2Proof.Machine

/-!
Proofs about the checks of a frame and new entries.
-/

namespace Sys2Proof.Machine

/-! ## The checks of a frame and what becomes of it (R332, R345, R353, R357) -/

section

variable {s : State}

/-- The checks read the parameters and the roster. -/
theorem State.checks_congr {t : State} (hp : t.params = s.params) (hq : t.part = s.part) (hr : t.roster = s.roster) (f : Frame) :
    t.headFault f = s.headFault f ∧ t.sender f.id = s.sender f.id ∧ t.micFault f = s.micFault f ∧ t.plainOf f = s.plainOf f := by
  have hn (obj : Nat) : t.pnat obj = s.pnat obj := State.pnat_congr hp hq obj
  refine ⟨?_, ?_, ?_, ?_⟩
  · unfold State.headFault
    rw [hn]
  · unfold State.sender State.indexOf State.entry State.spillOf
    rw [hr]
  · unfold State.micFault State.micCode
    rw [hn, hr]
  · unfold State.plainOf
    rw [hr]

theorem State.entry_of_sender {id : Eui} {i : Nat} {e : Entry} (h : s.sender id = .entry i e) : s.entry i = some e := by
  unfold State.sender at h
  split at h
  next j e' he =>
    obtain ⟨k, -, hk⟩ := Option.bind_eq_some_iff.mp he
    obtain ⟨e'', he'', hje⟩ := Option.map_eq_some_iff.mp hk
    cases h
    cases hje
    exact he''
  next => split at h <;> cases h

theorem State.spillCrc_params (id : Eui) (s : State) : (s.spillCrc id).params = s.params ∧ (s.spillCrc id).part = s.part ∧
    (s.spillCrc id).roster = s.roster ∧ (s.spillCrc id).rx = s.rx ∧ (s.spillCrc id).work = s.work ∧
    (s.spillCrc id).store = s.store ∧ (s.spillCrc id).now = s.now := by
  simp

/-- A DATA frame of an active entry that passes every check is recorded (R332, R346, R348). -/
theorem State.processFrame_data {x : RxFrame} {i : Nat} {e : Entry} {l w : BitVec 32} (hx : x.flooded = false)
    (hk : x.f.kind = .data) (hh : s.headFault x.f = none) (hs : s.sender x.f.id = .entry i e) (hm : s.micFault x.f = none)
    (hr : replay e.rxCtr e.window x.f.ctr = some (l, w)) :
    s.processFrame x = (s.spillCrc x.f.id).recordEntry i l w x (s.plainOf x.f) e.admitOwed := by
  obtain ⟨hp, hq, hro, -⟩ := s.spillCrc_params x.f.id
  obtain ⟨-, hs', hm', hpl⟩ := State.checks_congr hp hq hro x.f
  unfold State.processFrame State.replayStep
  rw [hx, hh]
  simp only [Bool.false_eq_true, if_false]
  rw [hs', hs, hm', hm, hpl, hk]
  simp only [hr]
  rfl

/-- A JOIN of an endpoint that the roster does not know is admitted where it may join (R353, R357). -/
theorem State.processFrame_join {x : RxFrame} (hx : x.flooded = false) (hk : x.f.kind = .join) (hh : s.headFault x.f = none)
    (hs : s.sender x.f.id = .unknown) (hj : (s.fire .join).pint Obj.rosterJoin ≠ 0) (hsp : s.roster.spill.length < 1048576)
    (hm : (s.fire .join).micFault x.f = none) (hlen : 5 ≤ (s.plainOf x.f).length) :
    s.processFrame x = ((s.spillCrc x.f.id).fire .join).admitNew x (s.plainOf x.f) := by
  obtain ⟨hp, hq, hro, -⟩ := s.spillCrc_params x.f.id
  have hfp : ((s.spillCrc x.f.id).fire .join).params = (s.fire .join).params := by
    unfold State.fire
    rw [hp]
  have hfq : ((s.spillCrc x.f.id).fire .join).part = (s.fire .join).part := hq
  have hfr : ((s.spillCrc x.f.id).fire .join).roster = (s.fire .join).roster := hro
  obtain ⟨-, hs', hm', hpl⟩ := State.checks_congr hfp hfq hfr x.f
  have hfire : (s.fire .join).sender x.f.id = s.sender x.f.id ∧ (s.fire .join).plainOf x.f = s.plainOf x.f := ⟨rfl, rfl⟩
  have hpj : ((s.spillCrc x.f.id).fire .join).pint Obj.rosterJoin = (s.fire .join).pint Obj.rosterJoin := by
    unfold State.pint
    rw [State.pval_congr hfp hfq]
  unfold State.processFrame State.joinFrame
  rw [hx, hh]
  simp only [Bool.false_eq_true, if_false, hk, beq_self_eq_true, if_true]
  rw [hs', hfire.1, hs, hpl, hfire.2, hm', hm, hpj, hfr]
  simp [hj, Nat.not_le.mpr hsp, Nat.not_lt.mpr hlen]
/-! ### A new entry (R348, R352, R357) -/

theorem State.giveIndex_heard (i : Nat) (e : Entry) (s : State) : ((s.giveIndex i e).entry i).map Entry.heard =
    some { e with epoch := (((s.entry i).map Entry.epoch).getD 0 + 1) % 8, active := true }.heard := by
  have hset {u : State} {e' : Entry} {l : List (Nat × Entry)} (h : u.roster.entries = assocSet i e' l) :
      u.entry i = some e' := by
    rw [State.entry, h]
    exact (assoc_assocSet ..).trans (if_pos rfl)
  unfold State.giveIndex
  dsimp only
  generalize s.takeCode.1 = c
  split
  · rw [hset (by simp; rfl)]
    rfl
  · rw [hset (by simp; rfl)]
    rfl

theorem State.persist_heard (i : Nat) (s : State) : ((s.persist i).entry i).map Entry.heard = (s.entry i).map Entry.heard := by
  have h : (s.persist i).entry i =
      (s.onEntry i (fun e => { e with rxSaved := e.rxCtr, txSaved := e.txCtr, accepts := 0, sends := 0 })).entry i := by
    unfold State.persist
    dsimp only
    (repeat' split) <;> rfl
  rw [h]
  refine s.onEntry_heard ?_
  exact fun _ => rfl

theorem State.activate_heard (i : Nat) (e : Entry) (s : State) : ((s.activate i e).entry i).map Entry.heard =
    some { e with epoch := (((s.entry i).map Entry.epoch).getD 0 + 1) % 8, active := true }.heard := by
  have h : (s.activate i e).entry i = ((s.giveIndex i { e with admitOwed := true, accepts := 0, sends := 0 }).persist i).entry i := by
    unfold State.entry
    congr 2
    simp [State.activate]
  rw [h, State.persist_heard, State.giveIndex_heard]
  rfl

/-- A JOIN that finds an index free becomes an active entry there, with the counter of its frame (R348, R357). -/
theorem State.admitNew_facts {x : RxFrame} {i : Nat} (plain : List Byte) (hx : x.round = none) (hw : s.work.table = [])
    (hi : s.freeIndex = some i) :
    let t := (s.admitNew x plain).2
    (∃ e, t.entry i = some e ∧ e.id = x.f.id ∧ e.active = true ∧ e.rxCtr = x.f.ctr ∧ e.model = joinModel plain ∧
      e.epoch = (((s.entry i).map Entry.epoch).getD 0 + 1) % 8) ∧ t.rx.buf = s.rx.buf := by
  let gs := PVal.groupList ((s.fire .admission).pval Obj.joinGroups)
  let e : Entry := { Entry.fresh x.f.id (joinModel plain) with groups := gs, rxCtr := x.f.ctr, window := 1 }
  let u := (s.fire .admission).holdGroups gs true
  have hu : u.takeIndex = (some i, u) := by
    unfold State.takeIndex
    rw [show u.freeIndex = some i from hi]
  let v := (u.activate i e).audit (.air x.f.id ((u.activate i e).handleAt i)) 4 546 0 (.num 0) (.num x.f.id.toNat)
  have heq : s.admitNew x plain = v.recordEntry i x.f.ctr 1 x plain true := by
    unfold State.admitNew
    dsimp only
    rw [hu]
  have hve : (v.entry i).map Entry.heard =
      some { e with epoch := (((s.entry i).map Entry.epoch).getD 0 + 1) % 8, active := true }.heard := by
    have h : v.entry i = (u.activate i e).entry i := by
      unfold State.entry
      congr 2
      simp [v]
    rw [h, State.activate_heard]
    rfl
  have hvw : v.work.table = [] := by simp [v, u, hw]
  have hvr : v.rx = s.rx := by simp [v, u]
  obtain ⟨e', he', hheard⟩ := Option.map_eq_some_iff.mp hve
  obtain ⟨hte, htb, -⟩ := State.recordEntry_facts x.f.ctr 1 plain true he' hx hvw
  rw [heq]
  refine ⟨?_, htb.trans (congrArg Rx.buf hvr)⟩
  obtain ⟨e'', he'', hheard'⟩ := Option.map_eq_some_iff.mp hte
  refine ⟨e'', he'', ?_⟩
  simp only [Entry.heard, Prod.mk.injEq] at hheard hheard'
  simp [hheard, hheard', e, Entry.fresh]

end

end Sys2Proof.Machine

/-!
Proofs that frames pass the checks and are recorded.
-/

namespace Sys2Proof.Machine

/-! ## Frames that are received, recorded and acknowledged -/

section

variable {s : State} {f : Frame} {r : RxInfo}

theorem exec_frameReceived (ht : s.takesFrame r.lane = true) : exec (.frameReceived f r true) s =
    .next ((s.airRx r.lane r.psduLen).arrive r.lane f r.psduLen false) :=
  congrArg Host.Outcome.next (if_pos ht)

theorem exec_joinReceived (ht : s.takesFrame r.lane = true) (hk : f.kind = .join) : exec (.joinReceived f r) s =
    .next ((s.airRx r.lane r.psduLen).arrive r.lane f r.psduLen false) :=
  congrArg Host.Outcome.next (if_pos (by simp [ht, hk]))

theorem State.arrive_full {n : Fin 16} {psdu : Nat} (h : 1024 ≤ s.rx.buf.length) :
    s.arrive n f psdu false = (s.onLane n Lane.idle).bufDrop :=
  if_pos h

theorem State.bufDrop_facts (s : State) : s.bufDrop.rx.buf = s.rx.buf ∧ s.keeps [.work, .tally] s.bufDrop :=
  ⟨by simp [State.bufDrop], State.keeps_trans (State.keeps_mono (State.keeps_onWork ..) (by decide)) (State.keeps_mono (State.keeps_count ..) (by decide))⟩

/-- A frame that has come, before it is processed: what the checks read is as it was (R303). -/
theorem State.frameEnded_air (n : Fin 16) (f : Frame) (psdu : Nat) (s : State) :
    let w := (s.airRx n psdu).frameEnded n f psdu
    w.rx.buf = s.rx.buf ∧ (f.ackReq = true → s.rx.lanes[n].acks = true →
      ∃ a, w.rx.lanes[n].ack = some a ∧ a.id = f.id ∧ a.ctr = f.ctr ∧ a.frameEnd = s.now) ∧
    w.params = s.params ∧ w.part = s.part ∧ w.roster = s.roster ∧ w.store = s.store ∧ w.work = s.work ∧ w.now = s.now := by
  obtain ⟨hl, hb, -, -, hznow, hzpart, hzsame⟩ := s.airRx_facts n psdu
  have hz := fun g hg => hzsame g hg
  intro w
  obtain ⟨hwb, -, hwa, -, hwnow, hwpart, hwsame⟩ := (s.airRx n psdu).frameEnded_facts n f psdu
  refine ⟨hwb.trans hb, fun ha hacks => ⟨_, hwa ha (by rw [hl]; exact hacks), rfl, rfl, hznow⟩, ?_, hwpart.trans hzpart, ?_, ?_, ?_,
    hwnow.trans hznow⟩
  · exact (hwsame .params (by decide)).trans (hzsame .params (by decide))
  · exact (hwsame .roster (by decide)).trans (hzsame .roster (by decide))
  · exact (hwsame .store (by decide)).trans (hzsame .store (by decide))
  · exact (hwsame .work (by decide)).trans (hzsame .work (by decide))

/-- The frame in an empty buffer is processed, and what the processing leaves of the entry, the cache and the lane stays. -/
theorem State.arrive_processed {n : Fin 16} {psdu : Nat} (hb : s.rx.buf = []) (hh : s.rx.high = false)
    (hm : 1 < s.highMark) (hl : s.roster.loaded = true) (hr : s.store.room (sightRecords f) = true) :
    let z := s.airRx n psdu
    let p := (z.frameEnded n f psdu).processFrame (z.frameOf n f psdu)
    let t := z.arrive n f psdu false
    (∀ i, t.entry i = p.2.entry i) ∧ t.store = p.2.store ∧ (∀ m : Fin 16, t.rx.lanes[m] = p.2.rx.lanes[m]) ∧
      t.rx.buf = p.2.rx.buf ∧ t.time = s.time ∧ t.sched = s.sched ∧ t.radio = s.radio ∧ t.image = s.image := by
  intro z p t
  obtain ⟨-, hzb, hzh, -, -, hzpart, hzsame⟩ := s.airRx_facts n psdu
  have hmark : z.highMark = s.highMark := by
    unfold State.highMark
    rw [State.pnat_congr (t := z) (s := s) (hzsame .params (by decide)) hzpart]
  have hroster : z.roster = s.roster := hzsame .roster (by decide)
  have hstore : z.store = s.store := hzsame .store (by decide)
  have ht : t = (p.2.roundNote (z.frameOf n f psdu) (p.1 == .recorded) (p.1 == .again)).bufCheck :=
    State.arrive_alone (hzb.trans hb) (hzh.trans hh) (hmark ▸ hm) (hroster ▸ hl) (hstore ▸ hr)
  have hcheck (u : State) : u.bufCheck.rx.lanes = u.rx.lanes ∧ u.bufCheck.rx.buf = u.rx.buf := by
    unfold State.bufCheck
    dsimp only
    (repeat' split) <;> simp
  have hframe : t.time = s.time ∧ t.sched = s.sched ∧ t.radio = s.radio ∧ t.image = s.image := by simp [t, z]
  clear_value t p
  subst ht
  obtain ⟨hcl, hcb⟩ := hcheck (p.2.roundNote (z.frameOf n f psdu) (p.1 == .recorded) (p.1 == .again))
  refine ⟨fun i => ?_, ?_, fun m => ?_, hcb, hframe⟩
  · unfold State.entry
    congr 2
    simp
  · simp
  · rw [hcl]
    rfl

theorem Store.flush_of_room {c : Store} {n : Nat} (h : c.room n = true) : c.flush = none := by
  unfold Store.room at h
  simpa using (Bool.and_eq_true_iff.mp h).1

end

/-- Settles O54: a frame by itself in the buffer is processed (`State.arrive_processed`), a DATA frame of an active entry
recorded (`State.processFrame_data`, `State.recordEntry_facts`) and a JOIN admitted (`State.processFrame_join`,
`State.admitNew_facts`). -/
theorem framesAreRecorded : Obligations.FramesAreRecorded := by
  intro f r s ht
  refine ⟨exec_frameReceived ht, fun hin => ?_, fun hk => exec_joinReceived ht hk, fun hk => ?_, fun hfull => ?_,
    fun hb hh hm hl hr hw hhead => ⟨fun i e l w hk hs hmic hrep => ?_, fun i hk hs hi => ?_⟩⟩
  · exact congrArg Host.Outcome.next (if_pos hin)
  · exact congrArg Host.Outcome.next (if_pos (by simp [ht, hk]))
  · obtain ⟨-, hzb, -, hzk⟩ := s.airRx_facts r.lane r.psduLen
    obtain ⟨hdb, hdk⟩ := ((s.airRx r.lane r.psduLen).onLane r.lane Lane.idle).bufDrop_facts
    refine ⟨_, exec_frameReceived ht, ?_, ?_⟩
    · rw [State.arrive_full (by rw [hzb]; exact hfull), hdb]
      exact hzb
    · rw [State.arrive_full (by rw [hzb]; exact hfull)]
      exact State.keeps_trans (State.keeps_step (State.keeps_mono hzk (by decide)) (State.keeps_onRx ..))
        (State.keeps_mono hdk (by decide))
  · obtain ⟨hte, hts, htl, htb, htime, hsched, hradio, himage⟩ := State.arrive_processed (n := r.lane) (psdu := r.psduLen) hb hh hm hl hr
    obtain ⟨hwb, hwa, hwp, hwq, hwr, hwst, hww, hwn⟩ := s.frameEnded_air r.lane f r.psduLen
    obtain ⟨hh', hs', hm', hpl⟩ := State.checks_congr hwp hwq hwr f
    generalize (s.airRx r.lane r.psduLen).frameEnded r.lane f r.psduLen = w' at *
    let x := (s.airRx r.lane r.psduLen).frameOf r.lane f r.psduLen
    have hp : w'.processFrame x = (w'.spillCrc f.id).recordEntry i l w x (w'.plainOf f) e.admitOwed :=
      State.processFrame_data (x := x) rfl hk (hh'.trans hhead) (hs'.trans hs) (hm'.trans hmic) hrep
    obtain ⟨-, -, hvr, hvx, hvw, hvs, hvn⟩ := w'.spillCrc_params f.id
    have he : s.entry i = some e := State.entry_of_sender hs
    have hve : (w'.spillCrc f.id).entry i = some e := by
      unfold State.entry at he ⊢
      rw [hvr, hwr, he]
    obtain ⟨hpe, hpb, hpa, hpc⟩ := State.recordEntry_facts (x := x) l w (w'.plainOf f) e.admitOwed hve rfl ((congrArg Work.table (hvw.trans hww)).trans hw)
    obtain ⟨q, b, hq, hqb, hid, hctr, hhandle, hpay⟩ := hpc (by rw [hvs, hwst]; exact Store.flush_of_room hr)
    rw [← hp] at hpe hpb hpa hq
    refine ⟨_, q, b, exec_frameReceived ht, ?_, ?_, ?_, hqb, hid, hctr, ?_, hpay.trans hpl, fun hreq hacks => ?_, htime, hsched, hradio,
      himage⟩
    · exact htb.trans (hpb.trans ((congrArg Rx.buf hvx).trans (hwb.trans hb)))
    · obtain ⟨y, hy, hyh⟩ := Option.map_eq_some_iff.mp hpe
      simp only [Entry.heard, Prod.mk.injEq] at hyh
      refine (congrArg (Option.map _) ((hte i).trans hy)).trans ?_
      simp [hyh]
    · rw [hts]
      rw [hvn, hwn] at hq
      exact hq
    · rw [hhandle, State.handleAt, he]
      rfl
    · obtain ⟨a, ha, haid, hactr, haend⟩ := hwa hreq hacks
      refine ⟨_, (congrArg Lane.ack (htl r.lane)).trans (hpa a ?_ ?_), haid, hactr, haend, rfl⟩
      · rw [hvx]
        exact ha
      · unfold AckDue.isFor
        rw [haid, hactr]
        exact (Bool.and_eq_true ..).mpr ⟨beq_self_eq_true _, beq_self_eq_true _⟩
  · intro u hj hsp hmic hlen
    obtain ⟨hte, -, -, -, htime, hsched, hradio, himage⟩ := State.arrive_processed (n := r.lane) (psdu := r.psduLen) hb hh hm hl hr
    obtain ⟨-, -, hwp, hwq, hwr, -, hww, -⟩ := s.frameEnded_air r.lane f r.psduLen
    obtain ⟨hh', hs', -, hpl⟩ := State.checks_congr hwp hwq hwr f
    generalize (s.airRx r.lane r.psduLen).frameEnded r.lane f r.psduLen = w' at *
    let x := (s.airRx r.lane r.psduLen).frameOf r.lane f r.psduLen
    have hfp : (w'.fire .join).params = u.params := by
      unfold u State.fire
      rw [hwp]
    have hfm := (State.checks_congr (s := u) (t := w'.fire .join) hfp hwq hwr f).2.2.1
    have hfj : (w'.fire .join).pint Obj.rosterJoin = u.pint Obj.rosterJoin := by
      unfold State.pint
      rw [State.pval_congr hfp hwq]
    have hp : w'.processFrame x = ((w'.spillCrc f.id).fire .join).admitNew x (w'.plainOf f) :=
      State.processFrame_join (x := x) rfl hk (hh'.trans hhead) (hs'.trans hs) (hfj ▸ hj) (hwr ▸ hsp) (hfm.trans hmic) (hpl ▸ hlen)
    obtain ⟨-, -, hvr, -, hvw, -, -⟩ := w'.spillCrc_params f.id
    have hroster : ((w'.spillCrc f.id).fire .join).roster = s.roster := hvr.trans hwr
    have hfree : ((w'.spillCrc f.id).fire .join).freeIndex = some i := by
      unfold State.freeIndex at hi ⊢
      rw [hroster]
      exact hi
    obtain ⟨⟨e, he, hid, hact, hctr, hmodel, hepoch⟩, -⟩ :=
      State.admitNew_facts (s := (w'.spillCrc f.id).fire .join) (x := x) (w'.plainOf f) rfl ((congrArg Work.table (hvw.trans hww)).trans hw) hfree
    rw [← hp] at he
    refine ⟨_, e, exec_joinReceived ht hk, (hte i).trans he, hid, hact, hctr, hmodel.trans (congrArg joinModel hpl), ?_, htime, hsched,
      hradio, himage⟩
    rw [hepoch]
    unfold State.entry
    rw [hroster]

end Sys2Proof.Machine

/-!
A flood whose MIC is shorter than the part asks for: the statement about floods fails there.
-/

namespace Sys2Proof.Machine

-- The proofs of this part are elaborated one after another: side by side they need more memory than the check leaves.
set_option Elab.async false

/-! ## A flood whose MIC is too short (R347, R368) -/

section

variable {s : State}

/-- A MIC shorter than `sec.mic` asks for is a fault, whatever its octets (R347). -/
theorem State.micFault_short {f : Frame} {nk : Key} (hk : s.roster.netKey = some nk) (hm : f.micLen < s.micCode) :
    s.micFault f = some "sec.mic.short" := by
  unfold State.micFault
  rw [hk]
  exact if_pos hm

/-- A flood not heard before whose MIC fails is counted, and is not entered in the seen cache (R347, R368). -/
theorem exec_floodReceived_fault {f : Flood} {r : RxInfo} {name : String} (ht : s.takesFrame r.lane = true)
    (hc : f.hopClass = (Flood.rebuilt f).reason) (hf : (s.fire .flood).floodClass (Flood.rebuilt f).reason.toNat = true)
    (hk : floodKind f.innerKind = true) (hs : s.roster.seen.any (Seen.isFor (Flood.rebuilt f)) = false)
    (hm : (s.fire .flood).micFault (Flood.rebuilt f) = some name) : exec (.floodReceived f r) s =
      .next ((((s.airRx r.lane r.psduLen).fire .flood).onLane r.lane Lane.idle).count .keeper name) := by
  obtain ⟨-, -, -, -, -, hpart, hsame⟩ := s.airRx_facts r.lane r.psduLen
  have hp : ((s.airRx r.lane r.psduLen).fire .flood).params = (s.fire .flood).params := by
    unfold State.fire
    rw [show (s.airRx r.lane r.psduLen).params = s.params from hsame .params (by decide)]
  have hr : ((s.airRx r.lane r.psduLen).fire .flood).roster = s.roster := hsame .roster (by decide)
  have hmic := (State.checks_congr (s := s.fire .flood) hp hpart hr (Flood.rebuilt f)).2.2.1
  have hclass : ((s.airRx r.lane r.psduLen).fire .flood).floodClass (Flood.rebuilt f).reason.toNat = true := by
    unfold State.floodClass at hf ⊢
    rw [State.pnat_congr hp hpart, hf]
  refine congrArg Host.Outcome.next ?_
  rw [ht]
  dsimp only
  rw [hr, hs, hmic, hm, hclass, hk]
  simp [hc]

end

/-- A parameter's row with the value in force. -/
def rowOf (obj : Nat) (v : PVal) : PRow := { obj := obj, now := v, stored := v, pending := none, src := 0, time := .c 0 }

/-- A part in service that receives a payload on lane 0, floods class 0 and asks for MICs of 8 octets. -/
def longMicPart : State :=
  { State.reset with
    params := [rowOf Obj.secMic (.int 1), rowOf Obj.relayClasses (.int 1)]
    roster := { Roster.reset with loaded := true, netKey := some 0 }
    radio := { Radio.reset with st := .rx }
    rx := { Rx.reset with
      lanes := Rx.reset.lanes.set 0 { Lane.reset with holder := .cell 0, pre := true, payload := true, payloadEnd := 9 } }
    pm := { Pm.reset with run := .running, crystal := true, ioLow := false } }

/-- A DATA frame of endpoint 7 from another sync, with a MIC of 4 octets. -/
def shortMicFrame : Frame :=
  { kind := .data, micLen := 1, ackReq := false, dir := false, sync := 1, anyAnchor := false, id := 7, ctr := 1, reason := 0,
    temp := 0x80, payload := [], mic := 0, ackCtr := 0, channel := 0xFF }

/-- A flood of that frame, with the MIC that its key gives it. -/
def shortMicFlood : Flood :=
  { hops := 2, hopClass := 0, innerKind := .data,
    inner := { shortMicFrame with
      mic := Config.ccmMic (endpointKey 0 shortMicFrame.id) (frameNonce shortMicFrame) (frameAad shortMicFrame)
        (framePlain 0 shortMicFrame) (micOctets shortMicFrame.micLen.val) } }

theorem shortMicFlood_micOk : micOk 0 (Flood.rebuilt shortMicFlood) = true :=
  beq_iff_eq.mpr rfl

/-- Reception on lane 0. -/
def receivedOnLane0 : RxInfo :=
  { lane := 0, chain := .a, held := false, qualityA := none, qualityB := none, rssi := -80, channel := 10, rate := 100,
    gainStep := 3, gainFlag := false, invalid := false, psduLen := 20 }

theorem longMicPart_facts : longMicPart.takesFrame 0 = true ∧ (longMicPart.fire .flood).floodClass 0 = true ∧
    1 < (longMicPart.fire .flood).micCode.val ∧ 1 ≠ (longMicPart.fire .flood).pnat Obj.sync := by decide +kernel

/-- Refutes O55: a flood whose MIC holds but is shorter than `sec.mic` asks for is counted as `sec.mic.short`, and does not
enter the seen cache. -/
theorem not_acknowledgementsAndFloods : ¬ Obligations.AcknowledgementsAndFloods := by
  intro h
  obtain ⟨-, hflood, -⟩ := h
  obtain ⟨ht, hclass, hcode, hsync⟩ := longMicPart_facts
  have hfault : (longMicPart.fire .flood).micFault (Flood.rebuilt shortMicFlood) = some "sec.mic.short" :=
    State.micFault_short rfl hcode
  obtain ⟨t, hexec, hin, -⟩ :=
    ((hflood shortMicFlood receivedOnLane0 longMicPart ht).2 rfl hclass rfl).2 0 rfl rfl shortMicFlood_micOk hsync
  rw [exec_floodReceived_fault (f := shortMicFlood) (r := receivedOnLane0) ht rfl hclass rfl rfl hfault] at hexec
  cases hexec
  have hstay : ((((longMicPart.airRx receivedOnLane0.lane receivedOnLane0.psduLen).fire .flood).onLane receivedOnLane0.lane
      Lane.idle).count .keeper "sec.mic.short").roster.seen = [] := by
    simp [State.fire, longMicPart, Roster.reset]
  rw [hstay] at hin
  cases hin

end Sys2Proof.Machine
